-- ==== Sys2Proof/Word.lean ====
section
/-! DEFINITION. The words of the CZ4: bytes, registers of 32 and 64 bits, and the plainest arithmetic on them. -/

namespace Sys2Proof

/-- The smallest addressable unit (06, address map). -/
abbrev Byte := BitVec 8

/-- A 16-bit field: codes, descriptor fields. -/
abbrev Half := BitVec 16

/-- A 32-bit register, lane or memory word. -/
abbrev Word := BitVec 32

/-- A 64-bit register, time stamp or epoch number. -/
abbrev DWord := BitVec 64

/-- The least multiple of `b` at or above `a`. -/
def roundUp (a b : Nat) : Nat := (a + b - 1) / b * b

/-- The quotient of `a` by `b` rounded up. -/
def ceilDiv (a b : Nat) : Nat := (a + b - 1) / b

end Sys2Proof
end

