-- ==== Sys2Proof/Syntax.lean ====
section
/-! DEFINITION. The commands of the CZ4: one constructor for each row of spec/opcode_table.json, in its order, with the operands the rules name. The table gives no operand bits, so the operand types are the model's (notes/assumptions/1). -/

namespace Sys2Proof

/-- Where an access or a message came from (20 R848, R852). -/
inductive Src where
  | portA | portB | mctp | awl
deriving DecidableEq, Repr

/-- The two PCIe ports (13 R567). -/
inductive Port where
  | a | b
deriving DecidableEq, Repr

/-- What a sequencer word selects: its logical row (ROW_MASK bit), TMASK and QMASK (03, word layout, R918). -/
structure Sel where
  row : Fin 32
  tmask : BitVec 4
  qmask : BitVec 4
deriving DecidableEq, Repr

/-- A command run of a MEM entry: stack-relative bank address, first column and COUNT (06, MEM section). -/
structure MemRun where
  sid : Fin 3
  bg : Fin 4
  bank : Fin 4
  row : Fin 24576
  col : Fin 32
  count : Fin 32
deriving DecidableEq, Repr

/-- How a bridge's training ended (08 R314): passed, or the step that failed, with its direction, slice and wire. -/
inductive TrainEnd where
  | passed
  | noClock (dir : Bool) (slice : Nat)
  | noDeskew (dir : Bool) (slice wire : Nat)
  | wireError (dir : Bool) (slice wire : Nat)
  | latency
  | initFailed
deriving DecidableEq, Repr

/-- What stage 0 finds in the hardware (15 R666-R672, 01 R19, 18 R815, R826): the eight strap samples of the die at each place, the dies whose ROM self-test fails, the dies with a fuse group whose CRC fails, the PKG copies of P0 and P2 that fail, whether the boot record cannot be written and the key record opens, whether the flash's SFDP tables advertise erase suspend and can be read (18 R815, R825), and the stages of a warm start with a retention record whose CRC fails (R660). -/
structure Stage0In where
  straps : List (List (BitVec 2))
  romFail : List (Fin 4)
  fuseFail : List (Fin 4)
  pkgFail0 : Bool
  pkgFail2 : Bool
  bootRecordFails : Bool
  keyRecordOpens : Bool
  suspendable : Bool
  sfdpReadable : Bool
  badRecords : List (Fin 5)
deriving DecidableEq, Repr

/-- What stage 1 finds (15 R674-R677): the reference clock, the islands that do not lock, the dies whose component digests fail, and whether the standby has joined. -/
structure Stage1In where
  refclkBad : Bool
  unlocked : List (Fin 224)
  digestBad : List (Fin 4)
  standbyJoined : Bool
deriving DecidableEq, Repr

/-- What stage 2 finds (15 R679, R680; 06 R254-R257): the self-tests, a channel whose PHY training fails, the rows that fail step 2 or 4, by the package address of their first byte divided by 2,048, the rows that fail retention with the first pause at which they do (0 to 6: 64 to 4,096 ms), and the DQ lanes repaired per stack. -/
structure Stage2In where
  selfTestBad : Bool
  sramBad : Bool
  phyFail : Option (Fin 128)
  badRows : List Nat
  retention : List (Nat × Fin 7)
  lanesRepaired : List (Fin 8 × Nat)
deriving DecidableEq, Repr

/-- What stage 4 finds: the physical tiles (die, row, column) that fail, and the logical rows whose microcode digest fails (15 R685-R690). -/
structure Stage4In where
  failing : List (Fin 4 × Fin 9 × Fin 4)
  microcodeBad : List (Fin 32)
deriving DecidableEq, Repr

/-- One stitch of a LNK timetable: its send cycle, its landing line in the region and its reduce group, 0 for none (02 R54, 12). -/
structure StitchSlot where
  cycle : Nat
  line : Nat
  group : Nat
deriving DecidableEq, Repr

/-- One stream of a LNK section (02 R54, R75, R97; 11 R469): link, direction, budget, flight, partner, landing regions (die-buffer offsets) and the stitches of each epoch of its period. -/
structure StreamSpec where
  link : Fin 128
  send : Bool
  rL : Fin 16
  fL : Nat
  partner : Nat
  regionEven : Nat
  regionOdd : Nat
  lists : List (List StitchSlot)
deriving DecidableEq, Repr

/-- One reduce-on-receive group of a LNK section (12 R561). -/
structure GroupSpec where
  group : Fin 3
  block : Fin 16
  fmt : Fin 4
  nlink : Fin 4
  order : List (Fin 8)
  sets : Nat
deriving DecidableEq, Repr

/-- The CLAIM section (02 R54). -/
structure Claims where
  sync : List (Fin 4096)
  barriers : List (Fin 256)
  modelSlots : List (Fin 1024)
  links : List (Fin 128)
  hbm : List (Nat × Nat)
deriving DecidableEq, Repr

/-- One write of the SET section: epoch offset, BAR0 offset of the word, mask and value (02 R54, R87). -/
structure SetWrite where
  off : Nat
  reg : Nat
  mask : Word
  value : Word
deriving DecidableEq, Repr

/-- The sections whose byte layout the spec does not give, decoded (notes/assumptions/7). -/
structure Sections where
  streams : List StreamSpec
  groups : List GroupSpec
  claims : Claims
  sets : List SetWrite
deriving DecidableEq, Repr

/-- Why a laser failed (09 R363). -/
inductive LaserFault where
  | power | wavelength | bias
deriving DecidableEq, Repr

/-- Which criterion of 10 R443 was met. -/
inductive LockLoss where
  | light | sync | marker | loop
deriving DecidableEq, Repr

/-- How a calibration of one lane ended (09 R390): its two corrections, or no resonance or errors. -/
inductive CalEnd where
  | passed (corrMod corrDrop : Int) (gain : Fin 3)
  | noResonance
  | errors
deriving DecidableEq, Repr

/-- The address spaces of an awl operation, and the die of one on shank core space (18 R803). -/
inductive AwlSpace where
  | bar0 | memory | core (die : Fin 4)
deriving DecidableEq, Repr

/-- The agents that take MGT locks (18 R811): the shank of a die, the host, the awl. -/
inductive LockAgent where
  | shank (n : Fin 4) | host (p : Port) | awl
deriving DecidableEq, Repr

/-- A name for one laser: chiplet, group and channel. -/
structure LaserId where
  chip : Fin 4
  group : Fin 4
  chan : Fin 17
deriving DecidableEq, Repr

/-- The chiplet's answer to INIT: its fuse revision, and what it advertises: header and data credits of each class (08 R332, R345). -/
structure InitReply where
  rev : Word
  adv : List (Fin 256 × Fin 4096)
deriving DecidableEq, Repr

/-- What a mesh line's 32 slices show: how many had a single-bit error, and whether one had a double-bit error (08 R320). -/
structure LineErrors where
  singles : Fin 33
  double : Bool
deriving DecidableEq, Repr

/-- The commands, in the order of spec/opcode_table.json. -/
inductive Instr where
  /-- COLD_RESET (R741). -/
  | coldReset
  /-- RESET_N_RELEASE (R739). -/
  | resetNRelease (i : Stage0In)
  /-- STAGE_1 (R675). -/
  | stage1 (i : Stage1In)
  /-- STAGE_2 (R256). -/
  | stage2 (i : Stage2In)
  /-- STAGE_3 (R684). -/
  | stage3
  /-- STAGE_4 (R687). -/
  | stage4 (i : Stage4In)
  /-- START_PASSED (R658). -/
  | startPassed
  /-- STAGE_WATCHDOG_EXPIRY (R656). -/
  | stageWatchdogExpiry
  /-- FAILED_START_RETRY (R699). -/
  | failedStartRetry (i : Stage0In)
  /-- STANDBY_JOIN_TIMEOUT (R677). -/
  | standbyJoinTimeout
  /-- RETRY (R703). -/
  | retry (i : Stage0In)
  /-- CROSSING_DEADLINE_MISS (R42). -/
  | crossingDeadlineMiss (island : Fin 224)
  /-- ISLAND_LOCK_LOSS (R43). -/
  | islandLockLoss (island : Fin 224)
  /-- LAST_LOAD (R618). -/
  | lastLoad (ring : Fin 4096) (d : BitVec 512) (param : Option (BitVec 1024))
  /-- LAST_VALIDATION_DONE (R55). -/
  | lastValidationDone (sections : Sections)
  /-- QUEUE_SNAPSHOT (R107). -/
  | queueSnapshot
  /-- CONTEXT_DEADLINE_EXPIRY (R283). -/
  | contextDeadlineExpiry (idx : Fin 4194304)
  /-- PENDING_LATCH (R92). -/
  | pendingLatch
  /-- PAGE_PRELOAD (R914). -/
  | pagePreload (row : Fin 32)
  /-- CHECK_POINT (R99). -/
  | checkPoint
  /-- BOUNDARY_STEP (R93). -/
  | boundaryStep (flights : List (Fin 128 × Nat))
  /-- SEQ_PROGRAM_START (R911). -/
  | seqProgramStart (row : Fin 32)
  /-- CTL_NOP (R141). -/
  | ctlNop (row : Fin 32)
  /-- SETN (R141). -/
  | setn (row : Fin 32) (arg : BitVec 12)
  /-- SETA0 (R141). -/
  | seta0 (row : Fin 32) (arg : BitVec 12)
  /-- SETA1 (R141). -/
  | seta1 (row : Fin 32) (arg : BitVec 12)
  /-- SETA2 (R141). -/
  | seta2 (row : Fin 32) (arg : BitVec 12)
  /-- SETACC (R129). -/
  | setacc (row : Fin 32) (arg : BitVec 12)
  /-- LOOP (R920). -/
  | loop (row : Fin 32) (arg : BitVec 12)
  /-- ENDLOOP (R920). -/
  | endloop (row : Fin 32)
  /-- PAGE (R139). -/
  | page (row : Fin 32) (arg : BitVec 12)
  /-- PAGE_FETCH_DONE (R139). -/
  | pageFetchDone (row : Fin 32) (slot : Fin 32)
  /-- BIND (R143). -/
  | bind (row : Fin 32) (arg : BitVec 12)
  /-- NEXTCTX (R143). -/
  | nextctx (row : Fin 32)
  /-- SWAP (R150). -/
  | swap (row : Fin 32) (tmask : BitVec 4) (arg : BitVec 12)
  /-- SWAP_DONE (R150). -/
  | swapDone (tile : Fin 128) (q : Fin 4)
  /-- SEMSIG (R291). -/
  | semsig (row : Fin 32) (arg : BitVec 12)
  /-- SEMSIG_ARRIVAL (R294). -/
  | semsigArrival (obj : Fin 4096)
  /-- SEMWAIT (R291). -/
  | semwait (row : Fin 32) (arg : BitVec 12)
  /-- SEMWAIT_ARRIVAL (R293). -/
  | semwaitArrival (row : Fin 32) (obj : Fin 4096)
  /-- SEMWAIT_RESULT (R295). -/
  | semwaitResult (row : Fin 32)
  /-- HALT (R142). -/
  | halt (row : Fin 32)
  /-- LOADW (R118). -/
  | loadw (sel : Sel) (fmt : BitVec 4) (addr : BitVec 14)
  /-- STREAM (R120). -/
  | stream (sel : Sel) (fmt : BitVec 4) (addr : BitVec 14) (acc : BitVec 2)
  /-- STREAMW (R912). -/
  | streamw (sel : Sel) (fmt : BitVec 4) (addr : BitVec 14) (acc : BitVec 2)
  /-- QUEUED_STREAM_START (R120). -/
  | queuedStreamStart (tile : Fin 128) (q : Fin 4)
  /-- ARRAY_PASS_RESULT (R117). -/
  | arrayPassResult (tile : Fin 128) (q : Fin 4)
  /-- VLD (R913). -/
  | vld (sel : Sel) (vreg : Fin 64) (maddr : BitVec 14) (len : BitVec 8)
  /-- VST (R913). -/
  | vst (sel : Sel) (vreg : Fin 64) (maddr : BitVec 14) (len : BitVec 8)
  /-- FILL (R916). -/
  | fill (sel : Sel) (maddr : BitVec 14) (len : BitVec 8)
  /-- SPILL (R916). -/
  | spill (sel : Sel) (maddr : BitVec 14) (len : BitVec 8)
  /-- CTXIN (R285). -/
  | ctxin (sel : Sel) (maddr : BitVec 14)
  /-- CTXOUT (R286). -/
  | ctxout (sel : Sel) (maddr : BitVec 14)
  /-- NOP (R134). -/
  | nop (sel : Sel)
  /-- FADD (R173). -/
  | fadd (sel : Sel) (vd vs1 vs2 : Fin 64)
  /-- FMUL (R173). -/
  | fmul (sel : Sel) (vd vs1 vs2 : Fin 64)
  /-- FMA (R173). -/
  | fma (sel : Sel) (vd vs1 vs2 : Fin 64)
  /-- FMAX (R172). -/
  | fmax (sel : Sel) (vd vs1 vs2 : Fin 64)
  /-- FMIN (R172). -/
  | fmin (sel : Sel) (vd vs1 vs2 : Fin 64)
  /-- IADD (R133). -/
  | iadd (sel : Sel) (vd vs1 vs2 : Fin 64)
  /-- IMUL (R133). -/
  | imul (sel : Sel) (vd vs1 vs2 : Fin 64)
  /-- SHIFT (R922). -/
  | shift (sel : Sel) (vd vs1 vs2 : Fin 64)
  /-- AND (R133). -/
  | and (sel : Sel) (vd vs1 vs2 : Fin 64)
  /-- OR (R133). -/
  | or (sel : Sel) (vd vs1 vs2 : Fin 64)
  /-- XOR (R133). -/
  | xor (sel : Sel) (vd vs1 vs2 : Fin 64)
  /-- SEL (R133). -/
  | sel (sel : Sel) (vd vs1 vs2 : Fin 64)
  /-- LDACC (R135). -/
  | ldacc (sel : Sel) (vd vs1 vs2 : Fin 64)
  /-- VECTOR_OP_RESULT (R133). -/
  | vectorOpResult (tile : Fin 128)
  /-- CVT_BINARY32_TO_BINARY16 (R176). -/
  | cvtBinary32ToBinary16 (sel : Sel) (vd vs1 : Fin 64) (sat : Bool) (fn : BitVec 5)
  /-- CVT_BINARY32_TO_BFLOAT16 (R176). -/
  | cvtBinary32ToBfloat16 (sel : Sel) (vd vs1 : Fin 64) (sat : Bool) (fn : BitVec 5)
  /-- CVT_BINARY32_TO_FP8_E4M3 (R176). -/
  | cvtBinary32ToFp8E4m3 (sel : Sel) (vd vs1 : Fin 64) (sat : Bool) (fn : BitVec 5)
  /-- CVT_BINARY32_TO_FP8_E5M2 (R176). -/
  | cvtBinary32ToFp8E5m2 (sel : Sel) (vd vs1 : Fin 64) (sat : Bool) (fn : BitVec 5)
  /-- CVT_BINARY32_TO_INT32 (R176). -/
  | cvtBinary32ToInt32 (sel : Sel) (vd vs1 : Fin 64) (sat : Bool) (fn : BitVec 5)
  /-- CVT_BINARY32_TO_INT16 (R176). -/
  | cvtBinary32ToInt16 (sel : Sel) (vd vs1 : Fin 64) (sat : Bool) (fn : BitVec 5)
  /-- CVT_BINARY32_TO_INT8 (R176). -/
  | cvtBinary32ToInt8 (sel : Sel) (vd vs1 : Fin 64) (sat : Bool) (fn : BitVec 5)
  /-- CVT_BINARY32_TO_UINT8 (R176). -/
  | cvtBinary32ToUint8 (sel : Sel) (vd vs1 : Fin 64) (sat : Bool) (fn : BitVec 5)
  /-- CVT_BINARY32_TO_INT4 (R176). -/
  | cvtBinary32ToInt4 (sel : Sel) (vd vs1 : Fin 64) (sat : Bool) (fn : BitVec 5)
  /-- CVT_BINARY32_TO_RANGE24 (R176). -/
  | cvtBinary32ToRange24 (sel : Sel) (vd vs1 : Fin 64) (sat : Bool) (fn : BitVec 5)
  /-- CVT_BINARY32_TO_LOGI8 (R179). -/
  | cvtBinary32ToLogi8 (sel : Sel) (vd vs1 : Fin 64) (sat : Bool) (fn : BitVec 5)
  /-- CVT_INT32_TO_BINARY32 (R176). -/
  | cvtInt32ToBinary32 (sel : Sel) (vd vs1 : Fin 64) (sat : Bool) (fn : BitVec 5)
  /-- CVT_BINARY16_TO_BINARY32 (R176). -/
  | cvtBinary16ToBinary32 (sel : Sel) (vd vs1 : Fin 64) (sat : Bool) (fn : BitVec 5)
  /-- CVT_BFLOAT16_TO_BINARY32 (R176). -/
  | cvtBfloat16ToBinary32 (sel : Sel) (vd vs1 : Fin 64) (sat : Bool) (fn : BitVec 5)
  /-- CVT_FP8_E4M3_TO_BINARY32 (R176). -/
  | cvtFp8E4m3ToBinary32 (sel : Sel) (vd vs1 : Fin 64) (sat : Bool) (fn : BitVec 5)
  /-- CVT_FP8_E5M2_TO_BINARY32 (R176). -/
  | cvtFp8E5m2ToBinary32 (sel : Sel) (vd vs1 : Fin 64) (sat : Bool) (fn : BitVec 5)
  /-- CVT_INT16_TO_BINARY32 (R176). -/
  | cvtInt16ToBinary32 (sel : Sel) (vd vs1 : Fin 64) (sat : Bool) (fn : BitVec 5)
  /-- CVT_INT8_TO_BINARY32 (R176). -/
  | cvtInt8ToBinary32 (sel : Sel) (vd vs1 : Fin 64) (sat : Bool) (fn : BitVec 5)
  /-- CVT_UINT8_TO_BINARY32 (R176). -/
  | cvtUint8ToBinary32 (sel : Sel) (vd vs1 : Fin 64) (sat : Bool) (fn : BitVec 5)
  /-- CVT_INT4_TO_BINARY32 (R176). -/
  | cvtInt4ToBinary32 (sel : Sel) (vd vs1 : Fin 64) (sat : Bool) (fn : BitVec 5)
  /-- CVT_RANGE24_TO_BINARY32 (R176). -/
  | cvtRange24ToBinary32 (sel : Sel) (vd vs1 : Fin 64) (sat : Bool) (fn : BitVec 5)
  /-- CVT_LOGI8_TO_BINARY32 (R176). -/
  | cvtLogi8ToBinary32 (sel : Sel) (vd vs1 : Fin 64) (sat : Bool) (fn : BitVec 5)
  /-- CVT_INT32_TO_INT8 (R176). -/
  | cvtInt32ToInt8 (sel : Sel) (vd vs1 : Fin 64) (sat : Bool) (fn : BitVec 5)
  /-- CVT_INT32_TO_UINT8 (R176). -/
  | cvtInt32ToUint8 (sel : Sel) (vd vs1 : Fin 64) (sat : Bool) (fn : BitVec 5)
  /-- CVT_INT32_TO_INT4 (R176). -/
  | cvtInt32ToInt4 (sel : Sel) (vd vs1 : Fin 64) (sat : Bool) (fn : BitVec 5)
  /-- CVT_INT32_TO_INT16 (R176). -/
  | cvtInt32ToInt16 (sel : Sel) (vd vs1 : Fin 64) (sat : Bool) (fn : BitVec 5)
  /-- CVT_BINARY32_TO_MXFP8_E4M3 (R181). -/
  | cvtBinary32ToMxfp8E4m3 (sel : Sel) (vd vs1 : Fin 64) (sat : Bool) (fn : BitVec 5)
  /-- CVT_BINARY32_TO_MXFP8_E5M2 (R181). -/
  | cvtBinary32ToMxfp8E5m2 (sel : Sel) (vd vs1 : Fin 64) (sat : Bool) (fn : BitVec 5)
  /-- CVT_BINARY32_TO_MXFP6_E3M2 (R181). -/
  | cvtBinary32ToMxfp6E3m2 (sel : Sel) (vd vs1 : Fin 64) (sat : Bool) (fn : BitVec 5)
  /-- CVT_BINARY32_TO_MXFP6_E2M3 (R181). -/
  | cvtBinary32ToMxfp6E2m3 (sel : Sel) (vd vs1 : Fin 64) (sat : Bool) (fn : BitVec 5)
  /-- CVT_BINARY32_TO_MXFP4_E2M1 (R181). -/
  | cvtBinary32ToMxfp4E2m1 (sel : Sel) (vd vs1 : Fin 64) (sat : Bool) (fn : BitVec 5)
  /-- CVT_BINARY32_TO_MXINT8 (R183). -/
  | cvtBinary32ToMxint8 (sel : Sel) (vd vs1 : Fin 64) (sat : Bool) (fn : BitVec 5)
  /-- CVT_MX_SCALE_STRING (R185). -/
  | cvtMxScaleString (sel : Sel) (code : Fin 6) (vd vs1 : Fin 64) (fn : BitVec 5)
  /-- SFU_GRANT (R191). -/
  | sfuGrant (tile : Fin 128) (sfu : Fin 32)
  /-- SFU_RESULT_WRITE (R192). -/
  | sfuResultWrite (tile : Fin 128)
  /-- EXP (R196). -/
  | exp (sel : Sel) (vd vs1 : Fin 64)
  /-- EXP2 (R196). -/
  | exp2 (sel : Sel) (vd vs1 : Fin 64)
  /-- LOG (R196). -/
  | log (sel : Sel) (vd vs1 : Fin 64)
  /-- LOG2 (R196). -/
  | log2 (sel : Sel) (vd vs1 : Fin 64)
  /-- RECIP (R196). -/
  | recip (sel : Sel) (vd vs1 : Fin 64)
  /-- RSQRT (R196). -/
  | rsqrt (sel : Sel) (vd vs1 : Fin 64)
  /-- SQRT (R196). -/
  | sqrt (sel : Sel) (vd vs1 : Fin 64)
  /-- SIGMOID (R196). -/
  | sigmoid (sel : Sel) (vd vs1 : Fin 64)
  /-- TANH (R196). -/
  | tanh (sel : Sel) (vd vs1 : Fin 64)
  /-- GELU (R196). -/
  | gelu (sel : Sel) (vd vs1 : Fin 64)
  /-- SOFTPLUS (R196). -/
  | softplus (sel : Sel) (vd vs1 : Fin 64)
  /-- SIN (R196). -/
  | sin (sel : Sel) (vd vs1 : Fin 64)
  /-- COS (R196). -/
  | cos (sel : Sel) (vd vs1 : Fin 64)
  /-- ST_CLR (R198). -/
  | stClr (sel : Sel)
  /-- ST_SMX (R213). -/
  | stSmx (sel : Sel) (vs1 : Fin 64)
  /-- ST_WEL (R214). -/
  | stWel (sel : Sel) (vs1 : Fin 64)
  /-- ST_RED (R215). -/
  | stRed (sel : Sel)
  /-- ST_RED_DONE (R217). -/
  | stRedDone (tile : Fin 128) (q : Fin 4)
  /-- ST_GETM (R219). -/
  | stGetm (sel : Sel) (vd : Fin 64)
  /-- ST_GETS (R219). -/
  | stGets (sel : Sel) (vd : Fin 64)
  /-- ST_GETMEAN (R219). -/
  | stGetmean (sel : Sel) (vd : Fin 64)
  /-- ST_GETVAR (R219). -/
  | stGetvar (sel : Sel) (vd : Fin 64)
  /-- ST_EXPM (R219). -/
  | stExpm (sel : Sel) (vd vs1 : Fin 64)
  /-- ST_RSTD (R219). -/
  | stRstd (sel : Sel) (vd : Fin 64)
  /-- RD_RUN (R234). -/
  | rdRun (chan : Fin 128) (run : MemRun)
  /-- WR_RUN (R239). -/
  | wrRun (chan : Fin 128) (run : MemRun)
  /-- REFPB (R233). -/
  | refpb (chan : Fin 128) (sid : Fin 3) (bg bank : Fin 4)
  /-- REFRESH_TIMER (R237). -/
  | refreshTimer (chan : Fin 128)
  /-- OPEN_SLOT_ACCESS (R230). -/
  | openSlotAccess (chan : Fin 128)
  /-- CHANNEL_RETRAIN_DUE (R258). -/
  | channelRetrainDue (chan : Fin 128)
  /-- CHANNEL_RETRAIN_DONE (R261). -/
  | channelRetrainDone (chan : Fin 128) (ok : Bool)
  /-- CTX_SUBMIT (R593). -/
  | ctxSubmit (ring : Fin 4096) (d : BitVec 512)
  /-- CONTEXT_FETCH (R280). -/
  | contextFetch (die : Fin 4) (ring : Fin 4096)
  /-- STAGING_COPY_DONE (R281). -/
  | stagingCopyDone (idx : Fin 4194304) (data : Option (List Byte))
  /-- MS_LOAD (R589). -/
  | msLoad (ring : Fin 4096) (d : BitVec 512)
  /-- SYN_SIGNAL (R294). -/
  | synSignal (ring : Fin 4096) (d : BitVec 512)
  /-- SYN_SET (R298). -/
  | synSet (ring : Fin 4096) (d : BitVec 512)
  /-- SYN_WAIT (R299). -/
  | synWait (ring : Fin 4096) (d : BitVec 512)
  /-- SYN_WAIT_TIMEOUT (R299). -/
  | synWaitTimeout (ring : Fin 4096) (cid : BitVec 16)
  /-- COPY (R591). -/
  | copy (ring : Fin 4096) (d : BitVec 512) (data : Option (List Byte))
  /-- COPY_COMPLETE (R591). -/
  | copyComplete (ring : Fin 4096) (cid : BitVec 16) (fault : Bool)
  /-- EPOCH_MARK (R595). -/
  | epochMark (ring : Fin 4096) (d : BitVec 512)
  /-- BRIDGE_TRAINING (R314). -/
  | bridgeTraining (b : Fin 8) (chan : Option (Fin 32)) (e : TrainEnd)
  /-- INIT_ACK (R345). -/
  | initAck (y : Fin 4) (reply : InitReply)
  /-- INIT_TIMEOUT (R345). -/
  | initTimeout (y : Fin 4)
  /-- MESH_LINE_RECEIVE (R320). -/
  | meshLineReceive (b : Fin 4) (dir : Bool) (errors : LineErrors)
  /-- MESH_RETRAIN_DUE (R324). -/
  | meshRetrainDue (b : Fin 4)
  /-- STITCH_RELEASE (R339). -/
  | stitchRelease (link : Fin 128) (payload : BitVec 2048)
  /-- FLIT_SLOT (R331). -/
  | flitSlot (y : Fin 4) (c : Fin 32) (toYz : Bool)
  /-- FLIT_RECEIVE (R335). -/
  | flitReceive (y : Fin 4) (c : Fin 32) (toYz : Bool) (header : BitVec 256) (payload : BitVec 2048)
  /-- FLIT_REPLAY_TIMEOUT (R335). -/
  | flitReplayTimeout (y : Fin 4) (c : Fin 32) (toYz : Bool)
  /-- FLIT_RETRY_EXHAUSTED (R342). -/
  | flitRetryExhausted (y : Fin 4) (c : Fin 32) (toYz : Bool)
  /-- FEED_FAILURE (R715). -/
  | feedFailure (slice : Fin 2)
  /-- SBR_TEST_RUN_START (R869). -/
  | sbrTestRunStart (b : Fin 8)
  /-- SBR_TEST_RUN_STOP (R869). -/
  | sbrTestRunStop (b : Fin 8) (received : List (Bool × Fin 385 × Fin 38 × List Bool))
  /-- LASER_FAILURE (R364). -/
  | laserFailure (l : LaserId) (spare : Bool) (cause : LaserFault)
  /-- SPARE_LASER_QUALIFIED (R364). -/
  | spareLaserQualified (l : LaserId)
  /-- LANE_PRBS_CHECK_DONE (R365). -/
  | lanePrbsCheckDone (link : Fin 128) (wave : Fin 17) (ok : Bool)
  /-- PRIMARY_RETRY (R366). -/
  | primaryRetry (l : LaserId)
  /-- PRIMARY_RETRY_RESULT (R366). -/
  | primaryRetryResult (l : LaserId) (ok : Bool)
  /-- BIAS_RANGE_CHANGE (R370). -/
  | biasRangeChange (l : LaserId) (spare : Bool)
  /-- HEATER_UPDATE (R375). -/
  | heaterUpdate (link : Fin 128) (temp : Int)
  /-- DETUNE_ESTIMATE_REFRESH (R385). -/
  | detuneEstimateRefresh (link : Fin 128) (est : List (Fin 34 × Int))
  /-- GUARD_BAND_EXCEEDED (R393). -/
  | guardBandExceeded (link : Fin 128) (lane : Fin 17)
  /-- GAIN_RANGE_TIMEOUT (R383). -/
  | gainRangeTimeout (link : Fin 128) (lane : Fin 17)
  /-- CAL_TURN (R390). -/
  | calTurn (chip group : Fin 4)
  /-- CALIBRATE_LANE (R390). -/
  | calibrateLane (link : Fin 128) (lane : Fin 17) (e : CalEnd)
  /-- FUSE_BURN (R618). -/
  | fuseBurn (ring : Fin 4096) (d : BitVec 512) (param : Option (BitVec 1024))
  /-- FUSE_BURN_DONE (R380). -/
  | fuseBurnDone (ok stored : Bool)
  /-- RX_OVERLOAD (R384). -/
  | rxOverload (link : Fin 128) (lane : Fin 17)
  /-- OVERLOAD_RETIRE (R399). -/
  | overloadRetire (link : Fin 128) (lane : Fin 17)
  /-- OVERLOAD_RECOVERY (R400). -/
  | overloadRecovery (link : Fin 128) (lane : Fin 17)
  /-- LASER_PERMIT_RISE (R403). -/
  | laserPermitRise
  /-- LASER_PERMIT_TIMEOUT (R403). -/
  | laserPermitTimeout
  /-- LASER_PERMIT_FALL (R406). -/
  | laserPermitFall
  /-- LASER_OVERRIDE (R407). -/
  | laserOverride (ring : Fin 4096) (d : BitVec 512) (param : Option (BitVec 1024))
  /-- OPEN_FIBRE (R405). -/
  | openFibre (link : Fin 128)
  /-- PROBE_WINDOW (R405). -/
  | probeWindow (link : Fin 128) (opens : Bool)
  /-- REDUCE_RESULT_READY (R411). -/
  | reduceResultReady (y : Fin 4) (block : Fin 16) (engine : Fin 2)
  /-- TONE_FRAME_RECEIVE (R426). -/
  | toneFrameReceive (link : Fin 128) (found : Bool)
  /-- PARTNER_WORD_LOSS (R428). -/
  | partnerWordLoss (link : Fin 128)
  /-- ALIGN_ENTRY (R427). -/
  | alignEntry (link : Fin 128)
  /-- DETECT_TIMEOUT (R421). -/
  | detectTimeout (link : Fin 128)
  /-- DETECT_HOLD_EXPIRY (R423). -/
  | detectHoldExpiry (link : Fin 128)
  /-- ALIGN_SECOND_PHASE (R429). -/
  | alignSecondPhase (link : Fin 128) (sweeps : List (Fin 17 × Option (Int × Fin 3)))
  /-- ALIGN_DONE (R429). -/
  | alignDone (link : Fin 128) (sweeps : List (Fin 17 × Option Int))
  /-- BITLOCK_CHECK_WINDOW (R432). -/
  | bitlockCheckWindow (link : Fin 128) (locked : BitVec 17)
  /-- BITLOCK_DONE (R421). -/
  | bitlockDone (link : Fin 128) (errored : BitVec 17)
  /-- ALIGNMENT_MARKER_RECEIVE (R437). -/
  | alignmentMarkerReceive (link : Fin 128) (lane : Fin 17) (marker : BitVec 132)
  /-- FRAME_ATTEMPT_TIMEOUT (R421). -/
  | frameAttemptTimeout (link : Fin 128)
  /-- CAPABILITY_BLOCK_RECEIVE (R441). -/
  | capabilityBlockReceive (link : Fin 128) (block : BitVec 2048)
  /-- CAPX_TIMEOUT (R421). -/
  | capxTimeout (link : Fin 128)
  /-- LINK_ACTIVE (R441). -/
  | linkActive (link : Fin 128) (flight : Nat)
  /-- LOSS_OF_LOCK (R443). -/
  | lossOfLock (link : Fin 128) (lane : Fin 17) (cause : LockLoss)
  /-- REROUTE_INDEX_ARRIVAL (R509). -/
  | rerouteIndexArrival (link : Fin 128)
  /-- ROW_OPPORTUNITY (R482). -/
  | rowOpportunity (link : Fin 128)
  /-- ROW_RECEIVE (R493). -/
  | rowReceive (link : Fin 128) (payload : BitVec 2048) (side : Word)
  /-- STITCH_LANDING (R250). -/
  | stitchLanding (link : Fin 128)
  /-- CONTROL_ROW_TIMER (R478). -/
  | controlRowTimer (link : Fin 128)
  /-- KEEPALIVE_SEND (R479). -/
  | keepaliveSend (link : Fin 128)
  /-- KEEPALIVE_TIMEOUT (R504). -/
  | keepaliveTimeout (link : Fin 128)
  /-- REPLAY_TIMER_EXPIRY (R500). -/
  | replayTimerExpiry (link : Fin 128) (stream : Fin 3)
  /-- REJOIN (R513). -/
  | rejoin (link : Fin 128) (epoch : DWord)
  /-- REJOIN_ACK (R513). -/
  | rejoinAck (link : Fin 128) (epoch : DWord)
  /-- POLL (R531). -/
  | poll (slot word : Fin 16) (data : BitVec 16)
  /-- POLL_HI (R530). -/
  | pollHi (slot word : Fin 16) (data : BitVec 16)
  /-- LACE_RELEASE (R538). -/
  | laceRelease (words : List (Fin 16 × BitVec 16))
  /-- RELEASE_HI (R538). -/
  | releaseHi (words : List (Fin 16 × BitVec 16))
  /-- LACE_IDLE (R530). -/
  | laceIdle
  /-- SYNC_MARKER_SEND (R540). -/
  | syncMarkerSend
  /-- SYNC_MARKER (R543). -/
  | syncMarker (link : Fin 128) (m : BitVec 512)
  /-- READY_MARKER (R541). -/
  | readyMarker (link : Fin 128) (m : BitVec 512)
  /-- RELEASE_MARKER (R542). -/
  | releaseMarker (link : Fin 128) (m : BitVec 512)
  /-- FENCE_MARKER (R554). -/
  | fenceMarker (link : Fin 128) (m : BitVec 512)
  /-- MARKER_REPEAT (R543). -/
  | markerRepeat (link : Fin 128)
  /-- FABRIC_WATCHDOG_EXPIRY (R558). -/
  | fabricWatchdogExpiry
  /-- EPOCH_ABORT (R755). -/
  | epochAbort
  /-- ABORT_RESTORE (R755). -/
  | abortRestore
  /-- ABORT_RECOVERY_DONE (R556). -/
  | abortRecoveryDone
  /-- RECOVERY_OVERTIME (R758). -/
  | recoveryOvertime
  /-- SQ_TAIL (R604). -/
  | sqTail (port : Port) (fn : Fin 64) (ring : Fin 4096) (value : Word) (fault : Bool)
  /-- CQ_HEAD (R613). -/
  | cqHead (port : Port) (fn : Fin 64) (ring : Fin 4096) (value : Word)
  /-- COMPLETION_POST (R597). -/
  | completionPost (ring : Fin 4096) (fault : Bool)
  /-- CQ_WAIT_TIMEOUT (R598). -/
  | cqWaitTimeout (ring : Fin 4096)
  /-- INTERRUPT_MODERATION_TIMEOUT (R612). -/
  | interruptModerationTimeout (ring : Fin 4096)
  /-- MSIX_UNMASK (R614). -/
  | msixUnmask (fn : Fin 64) (vector : Fin 4096)
  /-- VF_ENABLE (R569). -/
  | vfEnable (port : Port) (n : Fin 64)
  /-- FLR (R746). -/
  | flr (fn : Fin 64)
  /-- PERST_ASSERT (R751). -/
  | perstAssert (port : Port)
  /-- D3HOT_ENTRY (R764). -/
  | d3hotEntry (fn : Fin 64)
  /-- D3HOT_EXIT (R763). -/
  | d3hotExit (fn : Fin 64)
  /-- L1_ENTRY (R770). -/
  | l1Entry (port : Port)
  /-- L1_EXIT (R771). -/
  | l1Exit (port : Port)
  /-- PTM_DIALOGUE (R862). -/
  | ptmDialogue (port : Port) (offset : DWord)
  /-- FW_ACTIVATE (R673). -/
  | fwActivate (ring : Fin 4096) (d : BitVec 512) (param : Option (BitVec 1024))
  /-- FW_ACTIVATE_DONE (R670). -/
  | fwActivateDone
  /-- KEY_CHANGE (R635). -/
  | keyChange (ring : Fin 4096) (d : BitVec 512) (param : Option (BitVec 1024))
  /-- KEY_RECORD_STORED (R637). -/
  | keyRecordStored
  /-- COUNTER_MARK_STORED (R631). -/
  | counterMarkStored (ok : Bool)
  /-- ROLE_TRANSFER (R727). -/
  | roleTransfer (ring : Fin 4096) (d : BitVec 512) (param : Option (BitVec 1024))
  /-- CRITICAL_WORK_START (R642). -/
  | criticalWorkStart
  /-- KEY_SLOT_UNLOCK (R630). -/
  | keySlotUnlock (slot : Fin 8)
  /-- JNL_ACK (R651). -/
  | jnlAck (src : Src) (fn : Fin 64) (value : DWord)
  /-- PAIR_MISCOMPARE (R707). -/
  | pairMiscompare (die : Fin 4)
  /-- SHANK_WATCHDOG_EXPIRY (R708). -/
  | shankWatchdogExpiry (die : Fin 4)
  /-- TAKEOVER (R717). -/
  | takeover
  /-- NEW_ACTIVE_FIRST_OUTPUT (R720). -/
  | newActiveFirstOutput
  /-- RESYNCHRONISATION (R723). -/
  | resynchronisation (ok : Bool)
  /-- RESYNC_RETRY (R725). -/
  | resyncRetry (ok : Bool)
  /-- CAL_RECORD_REFRESH (R730). -/
  | calRecordRefresh
  /-- REPLACE_TRIGGER_CHANGE (R732). -/
  | replaceTriggerChange (lanes : List (Fin 128))
  /-- PKG_RESET_CTL (R743). -/
  | pkgResetCtl (src : Src) (fn : Fin 64) (value : Word)
  /-- WARM_RESET_SEQUENCE (R744). -/
  | warmResetSequence
  /-- WARM_RESET_SELF_REFRESH (R744). -/
  | warmResetSelfRefresh
  /-- WARM_STAGE_0_START (R744). -/
  | warmStage0Start (i : Stage0In)
  /-- DARK_IDLE_SELF_REFRESH (R767). -/
  | darkIdleSelfRefresh
  /-- DARK_EXIT_TILE_START (R769). -/
  | darkExitTileStart (microcodeBad : List (Fin 32))
  /-- DARK_EXIT_SQ_RESUME (R769). -/
  | darkExitSqResume
  /-- TEMPERATURE_READ (R891). -/
  | temperatureRead (dies chips hbms : List Int)
  /-- THERMAL_SHUTDOWN (R892). -/
  | thermalShutdown
  /-- RAIL_UNDERVOLTAGE (R885). -/
  | railUndervoltage
  /-- RAIL_RECOVERY (R885). -/
  | railRecovery (i : Stage0In)
  /-- SCL_TIMEOUT (R779). -/
  | sclTimeout
  /-- MCTP_MESSAGE_TIMEOUT (R782). -/
  | mctpMessageTimeout
  /-- MCTP_ANSWER_RETRY (R788). -/
  | mctpAnswerRetry (lost : Bool)
  /-- SET_ENDPOINT_ID (R780). -/
  | setEndpointId (body : List Byte)
  /-- GET_ENDPOINT_ID (R781). -/
  | getEndpointId (body : List Byte)
  /-- GET_ENDPOINT_UUID (R781). -/
  | getEndpointUuid (body : List Byte)
  /-- GET_MCTP_VERSION_SUPPORT (R781). -/
  | getMctpVersionSupport (body : List Byte)
  /-- GET_MESSAGE_TYPE_SUPPORT (R781). -/
  | getMessageTypeSupport (body : List Byte)
  /-- GET_VENDOR_DEFINED_MESSAGE_SUPPORT (R781). -/
  | getVendorDefinedMessageSupport (body : List Byte)
  /-- GET_STATUS (R782). -/
  | getStatus (body : List Byte)
  /-- REG_READ (R783). -/
  | regRead (body : List Byte)
  /-- REG_WRITE (R784). -/
  | regWrite (body : List Byte)
  /-- EVT_READ (R782). -/
  | evtRead (body : List Byte)
  /-- CRITICAL (R785). -/
  | critical (body : List Byte)
  /-- WARM_RESET (R743). -/
  | warmReset (body : List Byte)
  /-- FLASH_BEGIN (R823). -/
  | flashBegin (body : List Byte)
  /-- FLASH_WRITE (R824). -/
  | flashWrite (body : List Byte)
  /-- FLASH_END (R824). -/
  | flashEnd (body : List Byte)
  /-- FLASH_STATUS (R782). -/
  | flashStatus (body : List Byte)
  /-- SOLE_RETRY (R703). -/
  | soleRetry (body : List Byte) (i : Stage0In)
  /-- MGT_FLASH_CMD_BEGIN (R823). -/
  | mgtFlashCmdBegin (src : Src) (fn : Fin 64) (value : Word)
  /-- MGT_FLASH_CMD_WRITE (R824). -/
  | mgtFlashCmdWrite (src : Src) (fn : Fin 64) (value : Word)
  /-- MGT_FLASH_CMD_END (R824). -/
  | mgtFlashCmdEnd (src : Src) (fn : Fin 64) (value : Word)
  /-- FLASH_SECTOR_ERASE_DONE (R823). -/
  | flashSectorEraseDone
  /-- GETTID (R789). -/
  | gettid (body : List Byte)
  /-- GETPLDMVERSION (R789). -/
  | getpldmversion (body : List Byte)
  /-- GETPLDMTYPES (R789). -/
  | getpldmtypes (body : List Byte)
  /-- GETPLDMCOMMANDS (R789). -/
  | getpldmcommands (body : List Byte)
  /-- GETPDRREPOSITORYINFO (R789). -/
  | getpdrrepositoryinfo (body : List Byte)
  /-- GETPDR (R789). -/
  | getpdr (body : List Byte)
  /-- GETSENSORREADING (R790). -/
  | getsensorreading (body : List Byte)
  /-- GETSTATESENSORREADINGS (R790). -/
  | getstatesensorreadings (body : List Byte)
  /-- SENSOR_REFRESH (R790). -/
  | sensorRefresh (watts : Nat)
  /-- EVENT_RECORD_WRITE (R797). -/
  | eventRecordWrite
  /-- EVT_ACK (R800). -/
  | evtAck (src : Src) (fn : Fin 64) (value : DWord)
  /-- BYPASS (R802). -/
  | bypass
  /-- IDCODE (R802). -/
  | idcode
  /-- SAMPLE_PRELOAD (R802). -/
  | samplePreload
  /-- EXTEST (R802). -/
  | extest
  /-- AWL_PEEK (R804). -/
  | awlPeek (space : AwlSpace) (addr : Nat) (len : Nat)
  /-- AWL_READ (R805). -/
  | awlRead (space : AwlSpace) (addr : Nat) (len : Nat)
  /-- AWL_WRITE (R805). -/
  | awlWrite (space : AwlSpace) (addr : Nat) (bytes : List Byte)
  /-- AWL_HALT (R807). -/
  | awlHalt (die : Fin 4)
  /-- AWL_RESUME (R808). -/
  | awlResume (die : Fin 4)
  /-- AWL_STEP (R807). -/
  | awlStep (die : Fin 4)
  /-- LOCK_FORCE (R812). -/
  | lockForce (lock : Fin 16)
  /-- AWL_TEST (R352). -/
  | awlTest (b : Fin 8) (mode : Word)
  /-- MGT_LOCK_READ (R811). -/
  | mgtLockRead (agent : LockAgent) (lock : Fin 16)
  /-- MGT_LOCK_WRITE (R811). -/
  | mgtLockWrite (agent : LockAgent) (lock : Fin 16) (value : Word)
  /-- LK_SLACK_MIN_READ (R104). -/
  | lkSlackMinRead (src : Src) (link : Fin 128)
  /-- REGISTER_WRITE (R845). -/
  | registerWrite (src : Src) (fn : Fin 64) (off : Nat) (size : Nat) (value : DWord)
  /-- LASER_ENABLE_DONE (R403). -/
  | laserEnableDone
  /-- OVERLOAD_CLEAR (R384). -/
  | overloadClear (link : Fin 128) (lane : Fin 17)
  /-- PERST_RELEASE (R751). -/
  | perstRelease (port : Port)
  /-- PORT_A_SHANK_FAILED_REPLACE (R673). -/
  | portAShankFailedReplace
deriving DecidableEq, Repr

end Sys2Proof
end

