-- ==== Sys2Proof/Config.lean ====
section
/-! DEFINITION. What an implementation fixes and the spec leaves open: opaque constants, so that no proof can see a value of one. -/

namespace Sys2Proof.Config

/-- What the SFU computes in bounds mode for function code `fn` and input `x`, before it is held inside the error bound of 05 R208 (R206, R207; notes/assumptions/9). -/
opaque sfuBounds (fn : Nat) (x : Word) : Word

/-- Bits 7:1 of HIF_PORT_p while its link is up: the width, speed and FLIT mode that port `p` negotiated with its partner (13 R570, 20 HIF_PORT_p; notes/assumptions/17). -/
opaque portLink (p : Nat) : BitVec 7

/-- SMB_ADDR[1:0], strapped by the board (18 R776; notes/assumptions/17). -/
opaque smbStrap : BitVec 2

/-- Which of the free places of a context pool the `k`-th allocation takes (07 R280 names none; notes/assumptions/19). -/
opaque poolPick (k : Nat) : Nat

/-- Whether an interpolated heater code that is not an integer goes up, by 50 times its value (09 R374 names no rounding; notes/assumptions/22). -/
opaque heaterRound (num : Nat) : Bool

/-- A byte of the weight registers of an array whose load is not complete (03 R119 calls it a schedule fault and names no value): the `k`-th such case, the column and the byte (notes/assumptions/24). -/
opaque partByte (k col i : Nat) : Byte

/-- The state from which the test generator of wire `w` of slice `sl` of bridge `b` starts a PRBS pattern (08 R354 names no start; notes/assumptions/65). -/
opaque testSeed (b sl w : Nat) : Nat

/-- How a firmware slot's public key, manifest signature and component digests check against ROOT_PK_HASH (15 R670): 0 they verify, 1 the key or the signature fails, 2 a digest fails. The spec gives no layout of the manifest's component list, so the verdict is a free function of the slot's bytes (notes/assumptions/8). -/
opaque slotVerdict (bytes : List (Nat × Byte)) (rootPk : Nat) : Fin 3

/-- The sequencer resident microcode among a firmware slot's components, which stage 2 copies into the resident regions (15 R681, 03 R137; notes/assumptions/8). -/
opaque resident (bytes : List (Nat × Byte)) : List Byte

/-- The error code with which the update engine answers a WRITE or an END that has no erased slot or session to act on, or that lies outside the slot (18 R824 names no code; notes/assumptions/17). -/
opaque flashRefusal : BitVec 16

/-- Whether an image breaks what a rejection code covers beyond the layouts and timings that the spec writes out: 0x0201 the layouts of LNK, CLAIM and SET, 0x0207 and 0x0208 which reserved slot each single unit takes (08 R321, R323, R326) and operands in memory read before they land (02 R91) (notes/assumptions/48). -/
opaque restBroken (code : BitVec 16) (image : List Byte) : Bool

/-- The endpoint's UUID, the enterprise number of the DVSEC identity block and the version of its vendor messages, the MCTP versions of a message type, the PLDM terminus identity and the PLDM versions of a type (18 R781, R789; notes/assumptions/47). -/
opaque uuid : List Byte
opaque enterprise : BitVec 32
opaque vendorVersion : BitVec 16
opaque mctpVersions (type : Nat) : List Byte
opaque tid : Byte
opaque pldmVersions (type : Nat) : List Byte

/-- What GetPDRRepositoryInfo and GetPDR answer: a completion code and its data (18 R789; notes/assumptions/47). -/
opaque pdrInfo : List Byte
opaque pdr (request : List Byte) : Byte × List Byte

/-- The status of a vendor message whose request data do not have the form of 18 R782 (notes/assumptions/17). -/
opaque badRequest : BitVec 16

/-- The IDCODE of the awl (18 R802; notes/assumptions/17). -/
opaque awlId : Word

/-- Whether an address of a die's shank core space belongs to key storage, and what the `k`-th read of that space returns (18 R803, R806; notes/assumptions/17). -/
opaque keySpace (die addr : Nat) : Bool
opaque coreValue (k : Nat) : DWord

/-- A soft error of the hardware, for which the opcode table has no row (notes/assumptions/2): of a stored 32 B word by its number (03 R128, 06 R251, R253), of a tile's accumulator bank (03, 0x0305), SFU kernel tables or combining tree (05, 0x0503), of a context cache entry (07, 0x0709), of a reduce engine (09, 0x090C), of a replay entry (11 R503), or of an MCTP packet on its way (18 R782). -/
inductive Upset where
  | word (w : Nat) (double : Bool)
  | accumulator (tile : Fin 128)
  | sfu (tile : Fin 128)
  | cache (idx : Fin 4194304)
  | reduce (y : Fin 4)
  | replay (link : Fin 128)
  | packet
deriving DecidableEq, Repr

/-- Which soft error, if any, the `k`-th idle core cycle brings: the spec says what an error does and leaves open when one comes (notes/assumptions/2). -/
opaque upset (k : Nat) : Option Upset

/-- PLAN_LANE, PLAN_DIR and PLAN_EPOCH of a marker in which neither PLAN_REQ nor PLAN_ACK is set, by frame count (10 R417 names none; notes/assumptions/51). -/
opaque planIdle (fcnt : Nat) : BitVec 14

/-- The TC3 packet of a calibration request (09 R390, 11 R475 give no layout), by what it asks for (0 the sweep of a drop filter, 1 a calibration at the head of the group's queue, 2 that a lane leave service) and wavelength; and what a received TC3 packet asks for (notes/assumptions/66). -/
opaque calAsk (what wave : Nat) : BitVec 2048
opaque askedFor (body : BitVec 2048) : Option (Fin 3 × Fin 17)

/-- The code that the power loop of a laser sets in the DAC of its range in force, by laser (2·channel, 1 more for its spare) and time (09 R362 says where the loop may move the bias, not where it stands; notes/assumptions/67). -/
opaque biasCode (laser time : Nat) : BitVec 12

end Sys2Proof.Config
end

