-- ==== Sys2Proof/Machine/Num.lean ====
section
/-! DEFINITION. Number formats: exact values, one rounding, binary32 arithmetic, and the narrow and block formats (04, R156-R186). -/

namespace Sys2Proof.Machine

/-- A decoded number: NaN, an infinity, or the finite value ±m·2^e with its sign kept for zero. -/
inductive FVal where
  | nan
  | inf (neg : Bool)
  | fin (neg : Bool) (m : Nat) (e : Int)
deriving DecidableEq, Repr

/-- The rounding modes of FN[1:0] (R174). -/
inductive Rnd where
  | nearest | zero | up | down
deriving DecidableEq, Repr

/-- FN[1:0] as a rounding mode (R174). -/
def rndOf (v : Nat) : Rnd :=
  match v % 4 with
  | 0 => .nearest
  | 1 => .zero
  | 2 => .up
  | _ => .down

/-- Whether infinities and NaNs exist in a format, and where (R156). -/
inductive Special where
  | ieee | e4m3 | none
deriving DecidableEq, Repr

/-- A floating-point layout: exponent bits, mantissa bits, bias, special codes (R156). -/
structure FFmt where
  eb : Nat
  mb : Nat
  bias : Nat
  sp : Special
deriving DecidableEq, Repr

def fBinary32 : FFmt := ⟨8, 23, 127, .ieee⟩
def fBinary16 : FFmt := ⟨5, 10, 15, .ieee⟩
def fBfloat16 : FFmt := ⟨8, 7, 127, .ieee⟩
def fE4M3 : FFmt := ⟨4, 3, 7, .e4m3⟩
def fE5M2 : FFmt := ⟨5, 2, 15, .ieee⟩
def fE3M2 : FFmt := ⟨3, 2, 3, .none⟩
def fE2M3 : FFmt := ⟨2, 3, 1, .none⟩
def fE2M1 : FFmt := ⟨2, 1, 1, .none⟩

/-- The width of a layout in bits. -/
def FFmt.width (f : FFmt) : Nat := 1 + f.eb + f.mb

/-- Decode a code of layout `f`; subnormals keep their exact value (R168). -/
def fdecode (f : FFmt) (code : Nat) : FVal :=
  let m := code % 2 ^ f.mb
  let ex := code / 2 ^ f.mb % 2 ^ f.eb
  let neg := code / 2 ^ (f.mb + f.eb) % 2 == 1
  let top := 2 ^ f.eb - 1
  if f.sp = .ieee ∧ ex = top then (if m = 0 then .inf neg else .nan)
  else if f.sp = .e4m3 ∧ ex = top ∧ m = 2 ^ f.mb - 1 then .nan
  else if ex = 0 then .fin neg m (1 - f.bias - f.mb : Int)
  else .fin neg (2 ^ f.mb + m) (ex - f.bias - f.mb : Int)

/-- The largest finite code of a layout, without sign. -/
def FFmt.maxCode (f : FFmt) : Nat :=
  match f.sp with
  | .ieee => (2 ^ f.eb - 1) * 2 ^ f.mb - 1
  | .e4m3 => 2 ^ (f.eb + f.mb) - 2
  | .none => 2 ^ (f.eb + f.mb) - 1

/-- The canonical NaN of a layout (R169); a layout without NaN has none and gives 0. -/
def FFmt.nanCode (f : FFmt) : Nat :=
  match f.sp with
  | .ieee => (2 ^ f.eb - 1) * 2 ^ f.mb + 2 ^ (f.mb - 1)
  | .e4m3 => 2 ^ (f.eb + f.mb) - 1
  | .none => 0

/-- ⌊log2 (n/d)⌋ for positive n and d. -/
def ratLog2 (n d : Nat) : Int :=
  let g : Int := (n.log2 : Int) - (d.log2 : Int)
  -- n/d lies between 2^(g-1) and 2^(g+1)
  if (if 0 ≤ g then d * 2 ^ g.toNat ≤ n else d ≤ n * 2 ^ (-g).toNat) then g else g - 1

/-- Round the quotient n/d, sign apart, to an integer by a rounding mode. -/
def roundRat (r : Rnd) (neg : Bool) (n d : Nat) : Nat :=
  let q := n / d
  let t := n % d
  if t = 0 then q else
  match r with
  | .nearest => if 2 * t > d ∨ (2 * t = d ∧ q % 2 = 1) then q + 1 else q
  | .zero => q
  | .up => if neg then q else q + 1
  | .down => if neg then q + 1 else q

/-- Scale n/d by 2^k as a numerator and a denominator. -/
def scaleRat (n d : Nat) (k : Int) : Nat × Nat :=
  if 0 ≤ k then (n * 2 ^ k.toNat, d) else (n, d * 2 ^ (-k).toNat)

/-- Round ±(n/d)·2^e to `p` significant bits, no quantum below 2^qmin, exponent unbounded above: the integer k and quantum exponent q of k·2^q (R177: one rounding of the exact value). -/
def roundSig (p : Nat) (qmin : Int) (r : Rnd) (neg : Bool) (n d : Nat) (e : Int) : Nat × Int :=
  if n = 0 then (0, qmin) else
  let q := max (ratLog2 n d + e - (p - 1 : Int)) qmin
  let nd := scaleRat n d (e - q)
  (roundRat r neg nd.1 nd.2, q)

/-- The code, without sign, of k·2^q in layout `f`, which k and q fit but for overflow; above the largest finite code on overflow. -/
def packMag (f : FFmt) (k : Nat) (q : Int) : Nat :=
  let qmin : Int := 1 - f.bias - f.mb
  if k = 0 then 0
  else (q - qmin).toNat * 2 ^ f.mb + k

/-- A finite value as rounded into layout `f` with an unbounded upper range: the code without sign (R177, R926). -/
def roundMag (f : FFmt) (r : Rnd) (neg : Bool) (n d : Nat) (e : Int) : Nat :=
  let kq := roundSig (f.mb + 1) (1 - f.bias - f.mb : Int) r neg n d e
  packMag f kq.1 kq.2

/-- Add the sign bit to a magnitude code. -/
def withSign (f : FFmt) (neg : Bool) (mag : Nat) : Nat :=
  if neg then mag + 2 ^ (f.eb + f.mb) else mag

/-- Narrow a value into a floating-point layout: the code, and whether the range forced it (R176 codes 0x00-0x03, R926). -/
def fencode (f : FFmt) (r : Rnd) (sat : Bool) (v : FVal) : Nat × Bool :=
  let infCode := (2 ^ f.eb - 1) * 2 ^ f.mb
  match v with
  | .nan => (f.nanCode, false)
  | .inf neg =>
    if sat then (withSign f neg f.maxCode, true)
    else match f.sp with
      | .ieee => (withSign f neg infCode, false)
      | .e4m3 => (f.nanCode, true)
      | .none => (withSign f neg f.maxCode, true)
  | .fin neg m e =>
    let mag := roundMag f r neg m 1 e
    if mag ≤ f.maxCode then (withSign f neg mag, false)
    else if sat then (withSign f neg f.maxCode, true)
    else match f.sp with
      | .e4m3 => (f.nanCode, true)
      | .none => (withSign f neg f.maxCode, true)
      | .ieee =>
        let away := match r with
          | .nearest => true
          | .zero => false
          | .up => !neg
          | .down => neg
        (withSign f neg (if away then infCode else f.maxCode), true)

/-! ### Binary32 -/

/-- The binary32 value of a word. -/
def f32 (w : Word) : FVal := fdecode fBinary32 w.toNat

/-- Round a value to binary32, to nearest even (R173); overflow gives an infinity (R171). -/
def rn32 (v : FVal) : Word := BitVec.ofNat 32 (fencode fBinary32 .nearest false v).1

/-- The canonical binary32 NaN (R169). -/
def nan32 : Word := 0x7FC00000#32
/-- +∞ and −∞ in binary32. -/
def posInf32 : Word := 0x7F800000#32
def negInf32 : Word := 0xFF800000#32
/-- 1.0 in binary32. -/
def one32 : Word := 0x3F800000#32

/-- Round the rational ±(n/d)·2^e to binary32 nearest even. -/
def rnRat32 (neg : Bool) (n d : Nat) (e : Int) : Word :=
  if n = 0 then (if neg then 0x80000000#32 else 0#32) else
  let mag := roundMag fBinary32 .nearest neg n d e
  BitVec.ofNat 32 (withSign fBinary32 neg (min mag 0x7F800000))

/-- The signed integer m of ±m. -/
def sInt (neg : Bool) (m : Nat) : Int := if neg then -(m : Int) else m

/-- The exact value z·2^e; an exact zero takes the sign given. -/
def ofInt (zneg : Bool) (z : Int) (e : Int) : FVal :=
  if z = 0 then .fin zneg 0 e else .fin (decide (z < 0)) z.natAbs e

/-- The exact sum of two values; two zeros of one sign keep it, any other zero sum is +0 (IEEE 754 nearest). -/
def addV (a b : FVal) : FVal :=
  match a, b with
  | .nan, _ => .nan
  | _, .nan => .nan
  | .inf x, .inf y => if x = y then .inf x else .nan
  | .inf x, _ => .inf x
  | _, .inf y => .inf y
  | .fin s m e, .fin t n f =>
    let g := min e f
    ofInt (s && t) (sInt s m * 2 ^ (e - g).toNat + sInt t n * 2 ^ (f - g).toNat) g

/-- The exact product of two values. -/
def mulV (a b : FVal) : FVal :=
  match a, b with
  | .nan, _ => .nan
  | _, .nan => .nan
  | .inf x, .inf y => .inf (x != y)
  | .inf x, .fin t n _ => if n = 0 then .nan else .inf (x != t)
  | .fin s m _, .inf y => if m = 0 then .nan else .inf (s != y)
  | .fin s m e, .fin t n f => .fin (s != t) (m * n) (e + f)

/-- FADD, FMUL and FMA of R173: IEEE 754 binary32, nearest even, one rounding. -/
def fadd32 (a b : Word) : Word := rn32 (addV (f32 a) (f32 b))
def fmul32 (a b : Word) : Word := rn32 (mulV (f32 a) (f32 b))
def fma32 (a b c : Word) : Word := rn32 (addV (mulV (f32 a) (f32 b)) (f32 c))

/-- Negation by the sign bit, and subtraction. -/
def neg32 (a : Word) : Word := a ^^^ 0x80000000#32
def fsub32 (a b : Word) : Word := if f32 b = .nan then nan32 else fadd32 a (neg32 b)

/-- Whether a word is a NaN. -/
def isNan32 (a : Word) : Bool := f32 a == .nan

/-- A key that orders all binary32 values that are not NaN, with −0 below +0 (R172). -/
def key32 (a : Word) : Int := if a.msb then -((a.toNat - 2 ^ 31 : Nat) : Int) - 1 else a.toNat

/-- FMAX and FMIN (R172). -/
def fmax32 (a b : Word) : Word :=
  if isNan32 a then (if isNan32 b then nan32 else b)
  else if isNan32 b then a
  else if key32 a < key32 b then b else a
def fmin32 (a b : Word) : Word :=
  if isNan32 a then (if isNan32 b then nan32 else b)
  else if isNan32 b then a
  else if key32 b < key32 a then b else a

/-- Whether two words are equal as numbers (so that −0 = +0), neither being NaN. -/
def eq32 (a b : Word) : Bool :=
  !isNan32 a && !isNan32 b && (a == b || (a.toNat % 2 ^ 31 == 0 && b.toNat % 2 ^ 31 == 0))

/-- a < b as numbers, neither being NaN. -/
def lt32 (a b : Word) : Bool :=
  !isNan32 a && !isNan32 b && !eq32 a b && decide (key32 a < key32 b)

/-- RN(n / d) of two counts (R214, R216). -/
def rnCount (n d : Nat) : Word := if d = 0 then nan32 else rnRat32 false n d 0

/-! ### Integers -/

/-- A signed field of `w` bits. -/
def toSigned (w v : Nat) : Int :=
  let x := v % 2 ^ w
  if x < 2 ^ (w - 1) then x else (x : Int) - 2 ^ w

/-- A signed integer as a field of `w` bits. -/
def ofSigned (w : Nat) (z : Int) : Nat := (z % (2 ^ w : Int)).toNat

/-- Clamp to a closed range, and whether that changed the value. -/
def clampI (lo hi z : Int) : Int × Bool :=
  if z < lo then (lo, true) else if hi < z then (hi, true) else (z, false)

/-- INT32 saturating addition (R130, R131): the sum and whether it saturated. -/
def satAdd32 (a : Word) (z : Int) : Word × Bool :=
  let c := clampI (-(2 ^ 31)) (2 ^ 31 - 1) (a.toInt + z)
  (BitVec.ofInt 32 c.1, c.2)

/-- Round a finite value to an integer by a rounding mode. -/
def roundInt (r : Rnd) (neg : Bool) (m : Nat) (e : Int) : Int :=
  let nd := scaleRat m 1 e
  sInt neg (roundRat r neg nd.1 nd.2)

/-- What a conversion yields: the narrow code, NV and OF (R187, R926). -/
structure CvtRes where
  code : Nat
  nv : Bool := false
  ovf : Bool := false
deriving DecidableEq, Repr

/-- Binary32 into an integer field of `w` bits with range lo-hi, after scaling by 2^sh (R176 codes 0x04-0x09). -/
def cvtInt (w : Nat) (lo hi : Int) (sh : Int) (r : Rnd) (x : Word) : CvtRes :=
  match f32 x with
  | .nan => ⟨0, true, false⟩
  | .inf neg => ⟨ofSigned w (if neg then lo else hi), false, true⟩
  | .fin neg m e =>
    let c := clampI lo hi (roundInt r neg m (e + sh))
    ⟨ofSigned w c.1, false, c.2⟩

/-- The integer square root of x as ⌊√x⌋. -/
def isqrt (x : Nat) : Nat := x.sqrt

/-- 2^(k/2^n)·2^p as a fixed-point number, by n nested square roots; below 2^(-p+n+2) of the exact value. -/
def pow2Frac (p k n : Nat) : Nat :=
  let root : Nat → Nat := fun y => isqrt (y * 2 ^ p)
  -- 2^(k/2^n) = product over the bits i of k of 2^(2^i/2^n)
  let rec go (j : Nat) (base : Nat) (acc : Nat) : Nat :=
    match j with
    | 0 => acc
    | j + 1 =>
      let b := root base
      go j b (if k / 2 ^ j % 2 = 1 then acc * b / 2 ^ p else acc)
  go n (2 * 2 ^ p) (2 ^ p * 2 ^ (k / 2 ^ n))

/-- RN of 2^(z/32) in binary32, for a signed z (R160, R179): exact at multiples of 32, elsewhere irrational. -/
def rnPow2_32nds (z : Int) : Word :=
  let k := (z % 32).toNat
  rnRat32 false (pow2Frac 256 k 5) 1 (z / 32 - 256)

/-- The value of a LOGI8 code in binary32 (R160, R176 code 0x15). -/
def logi8Val (c : Nat) : Word :=
  if c % 256 = 0 then 0#32 else rnPow2_32nds (2 * ((c % 256 : Nat) - 128 : Int))

/-- T_c of R179. -/
def logi8Thr (c : Nat) : Word := rnPow2_32nds (2 * (c : Int) - 257)

/-- The number of thresholds T_1 … T_n at or below x. -/
def logi8Count (x : Word) : Nat → Nat
  | 0 => 0
  | n + 1 => if lt32 x (logi8Thr (n + 1)) then logi8Count x n else n + 1

/-- Binary32 into LOGI8 by the threshold rule (R179, R926). -/
def cvtLogi8 (x : Word) : CvtRes :=
  match f32 x with
  | .nan => ⟨0, true, false⟩
  | .inf neg => ⟨if neg then 0 else 255, false, true⟩
  | .fin neg m _ =>
    if m = 0 then ⟨0, false, false⟩
    else if neg then ⟨0, false, true⟩
    else ⟨logi8Count x 255, false, !lt32 x (logi8Thr 256)⟩

/-- Clamp a signed INT32 source into a narrow integer (R176 codes 0x16-0x19). -/
def cvtClamp (w : Nat) (lo hi : Int) (x : Word) : CvtRes :=
  let c := clampI lo hi x.toInt
  ⟨ofSigned w c.1, false, c.2⟩

/-- Binary32 into a floating-point layout (R176 codes 0x00-0x03). -/
def cvtFloat (f : FFmt) (r : Rnd) (sat : Bool) (x : Word) : CvtRes :=
  let c := fencode f r sat (f32 x)
  ⟨c.1, false, c.2⟩

/-- A signed integer into binary32 by a rounding mode, never overflowing (R176 codes 0x0B, 0x10-0x13). -/
def intTo32 (r : Rnd) (z : Int) : Word :=
  if z = 0 then 0#32
  else BitVec.ofNat 32 (fencode fBinary32 r false (ofInt false z 0)).1

/-- A narrow float into binary32, exact (R176 codes 0x0C-0x0F). -/
def floatTo32 (f : FFmt) (code : Nat) : Word := rn32 (fdecode f code)

/-! ### MX blocks (R157, R181-R183) -/

/-- An element layout of the MX formats: a float layout or MXINT8. -/
inductive MxElem where
  | flt (f : FFmt) (emax : Int)
  | int8
deriving DecidableEq, Repr

def MxElem.emax : MxElem → Int
  | .flt _ e => e
  | .int8 => 0

def MxElem.width : MxElem → Nat
  | .flt f _ => f.width
  | .int8 => 8

/-- The six block formats in code order 0x1A-0x1F (R176, R181). -/
def mxElem (i : Nat) : MxElem :=
  match i with
  | 0 => .flt fE4M3 8
  | 1 => .flt fE5M2 15
  | 2 => .flt fE3M2 4
  | 3 => .flt fE2M3 2
  | 4 => .flt fE2M1 2
  | _ => .int8

/-- Whether a value is NaN or an infinity (R182). -/
def FVal.special : FVal → Bool
  | .fin _ _ _ => false
  | _ => true

/-- ⌊log2 |v|⌋ of a nonzero finite value. -/
def FVal.log2 : FVal → Option Int
  | .fin _ m e => if m = 0 then none else some ((m.log2 : Int) + e)
  | _ => none

/-- The larger of two optional exponents. -/
def maxExp : Option Int → Option Int → Option Int
  | none, b => b
  | a, none => a
  | some a, some b => some (max a b)

/-- The block scale X of R181 and R182; 0xFF where any source is NaN or infinite. -/
def mxScale (el : MxElem) (src : List Word) : Nat :=
  let vs := src.map f32
  if vs.any FVal.special then 255 else
  match vs.foldl (fun a v => maxExp a v.log2) none with
  | none => 0
  | some e => (clampI 0 254 (e - el.emax + 127)).1.toNat

/-- One element code of R183 under scale X, and whether it was clamped. -/
def mxElemCode (el : MxElem) (r : Rnd) (x : Nat) (w : Word) : Nat × Bool :=
  if x = 255 then (0, false) else
  match f32 w with
  | .fin neg m e =>
    match el with
    | .flt f _ =>
      let mag := roundMag f r neg m 1 (e - (x : Int) + 127)
      (withSign f neg (min mag f.maxCode), decide (f.maxCode < mag))
    | .int8 =>
      let c := clampI (-127) 127 (roundInt r neg m (e - (x : Int) + 127 + 6))
      (ofSigned 8 c.1, c.2)
  | _ => (0, false)

/-- Append a field of `w` bits to a little-endian bit stream (R906). -/
def packBits (w : Nat) : List Nat → Nat
  | [] => 0
  | c :: cs => c % 2 ^ w + 2 ^ w * packBits w cs

/-- The element i of width w in a little-endian bit stream held as a number (R906). -/
def unpackBits (w i v : Nat) : Nat := v / 2 ^ (w * i) % 2 ^ w

/-- The bytes of a number, least significant first. -/
def toBytes : Nat → Nat → List Byte
  | 0, _ => []
  | n + 1, v => BitVec.ofNat 8 v :: toBytes n (v / 256)

/-- The number held by bytes, least significant first. -/
def ofBytes : List Byte → Nat
  | [] => 0
  | b :: bs => b.toNat + 256 * ofBytes bs

end Sys2Proof.Machine
end

