-- ==== Sys2Proof/Machine/Special.lean ====
section
/-! DEFINITION. The SFU functions: special values (05 R199), the CZ3 kernels and compositions (R204, R205, R907), bounds mode held inside its error bounds (R206-R208), and the statistics steps (R213-R219). -/

namespace Sys2Proof.Machine

/-- The functions of R196 from EXP to COS. -/
inductive SfuFn where
  | exp | exp2 | log | log2 | recip | rsqrt | sqrt | sigmoid | tanh | gelu | softplus | sin | cos
deriving DecidableEq, Repr

/-- The FN code of a function (R196). -/
def SfuFn.code : SfuFn → Nat
  | .exp => 0 | .exp2 => 1 | .log => 2 | .log2 => 3 | .recip => 4 | .rsqrt => 5 | .sqrt => 6
  | .sigmoid => 7 | .tanh => 8 | .gelu => 9 | .softplus => 10 | .sin => 11 | .cos => 12

/-! ### Fixed-point references, scaled by 2^P -/

/-- The fixed-point scale: far below the last place of any binary32 value. -/
def fxP : Nat := 512
def fxOne : Nat := 2 ^ fxP

/-- arctan(1/k) by its series. -/
def atanInv (k : Nat) : Nat :=
  let rec go (fuel i pw : Nat) (acc : Int) : Int :=
    match fuel with
    | 0 => acc
    | fuel + 1 =>
      let t : Int := (pw / (2 * i + 1) : Nat)
      go fuel (i + 1) (pw / (k * k)) (if i % 2 = 0 then acc + t else acc - t)
  (go 240 0 (fxOne / k) 0).toNat

/-- π by Machin's formula. -/
def fxPi : Nat := 16 * atanInv 5 - 4 * atanInv 239

/-- Σ y^(2i+1)/(2i+1), the series of artanh. -/
def atanhFx (y : Nat) : Nat :=
  let y2 := y * y / fxOne
  let rec go (fuel i pw acc : Nat) : Nat :=
    match fuel with
    | 0 => acc
    | fuel + 1 => go fuel (i + 1) (pw * y2 / fxOne) (acc + pw / (2 * i + 1))
  go 170 0 y 0

/-- ln 2. -/
def fxLn2 : Nat := 2 * atanhFx (fxOne / 3)

/-- ln u for a fixed-point u above 0, signed. -/
def lnFx (u : Nat) : Int :=
  let e : Int := (u.log2 : Int) - fxP
  let m := if 0 ≤ e then u / 2 ^ e.toNat else u * 2 ^ (-e).toNat
  (2 * atanhFx ((m - fxOne) * fxOne / (m + fxOne)) : Nat) + e * fxLn2

/-- e^r for r in [0, 1). -/
def expTaylor (r : Nat) : Nat :=
  let rec go (fuel i term acc : Nat) : Nat :=
    match fuel with
    | 0 => acc
    | fuel + 1 => let t := term * r / fxOne / i
                  go fuel (i + 1) t (acc + t)
  go 110 1 fxOne fxOne

/-- u·2^n, at least 1 so that an underflowed positive value stays positive. -/
def shiftFx (u : Nat) (n : Int) : Nat :=
  max 1 (if 0 ≤ n then u * 2 ^ (min n.toNat 2000) else u / 2 ^ (min (-n).toNat 2000))

/-- e^x for a signed fixed-point x. -/
def expFx (x : Int) : Nat :=
  let n := x / fxLn2
  shiftFx (expTaylor (x - n * fxLn2).toNat) n

/-- Σ (−1)^i x^(2i+o)/(2i+o)!, o = 1 for sine, 0 for cosine. -/
def trigSeries (x o : Nat) : Int :=
  let x2 := x * x / fxOne
  let rec go (fuel i term : Nat) (acc : Int) : Int :=
    match fuel with
    | 0 => acc
    | fuel + 1 =>
      let acc := if i % 2 = 0 then acc + term else acc - term
      go fuel (i + 1) (term * x2 / fxOne / ((2 * i + o + 1) * (2 * i + o + 2))) acc
  go 70 0 (if o = 1 then x else fxOne) 0

/-- sin 2πu for a fixed-point u in [0, 1), by quarter turns, so that it is exact at each of them. -/
def sinTurn (u : Nat) : Int :=
  let u := u % fxOne
  let q := 4 * u / fxOne
  let v := u - q * (fxOne / 4)
  let ang : Nat → Nat := fun w => 2 * fxPi * w / fxOne
  let s : Nat → Int := fun w => if w ≤ fxOne / 8 then trigSeries (ang w) 1 else trigSeries (ang (fxOne / 4 - w)) 0
  match q with
  | 0 => s v
  | 1 => s (fxOne / 4 - v)
  | 2 => -(s v)
  | _ => -(s (fxOne / 4 - v))

/-- cos 2πu. -/
def cosTurn (u : Nat) : Int := sinTurn (u + fxOne / 4)

/-- A finite value as a signed fixed-point number, exact for every binary32. -/
def FVal.toFx : FVal → Int
  | .fin neg m e => sInt neg (let k := e + fxP; if 0 ≤ k then m * 2 ^ k.toNat else m / 2 ^ (-k).toNat)
  | _ => 0

/-- RN of a signed fixed-point number. -/
def rnFx (z : Int) : Word := rnRat32 (decide (z < 0)) z.natAbs 1 (-(fxP : Int))

/-! ### CZ3-compatible mode -/

/-- The six kernels of R204. -/
inductive Kernel where
  | exp2 | log2 | recip | rsqrt | sin2pi | cos2pi
deriving DecidableEq, Repr

/-- The kernel constants RN(g(a)), RN(g′(a)), RN(g″(a)/2) for segment k (R204; notes/assumptions/10). -/
def kernelConst (kn : Kernel) (k : Nat) : Word × Word × Word :=
  let a := fxOne + k * (fxOne / 128)
  let mul : Int → Int → Int := fun x y => x * y / fxOne
  match kn with
  | .exp2 =>
    let g : Int := expTaylor (k * fxLn2 / 128)
    let g1 := mul g fxLn2
    (if k = 0 then one32 else rnFx g, rnFx g1, rnFx (mul g1 fxLn2 / 2))
  | .log2 =>
    let g : Int := lnFx a * fxOne / fxLn2
    let g1 : Int := fxOne * fxOne / a * fxOne / fxLn2
    (rnFx g, rnFx g1, rnFx (-(g1 * fxOne / a / 2)))
  | .recip =>
    (rnRat32 false 128 (128 + k) 0, rnRat32 true (128 * 128) ((128 + k) * (128 + k)) 0,
     rnRat32 false (128 * 128 * 128) ((128 + k) * (128 + k) * (128 + k)) 0)
  | .rsqrt =>
    let g : Int := isqrt (fxOne * fxOne * fxOne / a)
    let g1 := g * fxOne / a / 2
    (if k = 0 then one32 else rnFx g,
     if k = 0 then 0xBF000000#32 else rnFx (-g1),
     if k = 0 then 0x3EC00000#32 else rnFx (3 * g1 * fxOne / a / 4))
  | .sin2pi =>
    let u := k * (fxOne / 256)
    let tp : Int := 2 * fxPi
    (rnFx (sinTurn u), rnFx (mul tp (cosTurn u)), rnFx (-(mul (mul tp tp) (sinTurn u) / 2)))
  | .cos2pi =>
    let u := k * (fxOne / 256)
    let tp : Int := 2 * fxPi
    (rnFx (cosTurn u), rnFx (-(mul tp (sinTurn u))), rnFx (-(mul (mul tp tp) (cosTurn u) / 2)))

/-- p = fma(fma(c2, r, c1), r, c0) on segment k with the exact residual r (R204). -/
def kernelPoly (kn : Kernel) (k : Nat) (r : FVal) : Word :=
  let c := kernelConst kn k
  let q := rn32 (addV (mulV (f32 c.2.2) r) (f32 c.2.1))
  rn32 (addV (mulV (f32 q) r) (f32 c.1))

/-- A finite value times 2^n. -/
def FVal.scale (v : FVal) (n : Int) : FVal :=
  match v with
  | .fin s m e => .fin s m (e + n)
  | v => v

/-- ⌊m·2^e⌋ of a signed finite value. -/
def floorV (neg : Bool) (m : Nat) (e : Int) : Int :=
  if 0 ≤ e then sInt neg m * 2 ^ e.toNat else sInt neg m / (2 ^ (-e).toNat : Int)

/-- The fraction x − ⌊x⌋ of ±m·2^e as segment k of `seg` and exact residual (R204). -/
def fracSeg (seg : Nat) (neg : Bool) (m : Nat) (e : Int) : Nat × FVal :=
  if 0 ≤ e then (0, .fin false 0 0) else
  let d : Nat := 2 ^ (-e).toNat
  let f : Nat := (sInt neg m % (d : Int)).toNat
  let k : Nat := seg * f / d
  -- r = f/d − k/seg, over the denominator seg·d
  (k, .fin false (seg * f - k * d) (e - (seg.log2 : Int)))

/-- A normalised mantissa m/2^b in [1, 2^span): its segment of 128 a unit and exact residual (R204). -/
def mantSeg (m b : Nat) : Nat × FVal :=
  let k := (m - 2 ^ b) * 128 / 2 ^ b
  (k, .fin false (128 * (m - 2 ^ b) - k * 2 ^ b) (-(b : Int) - 7))

/-- A kernel on a binary32 argument, with the values of R907 outside its reduction. -/
def kernel (kn : Kernel) (x : Word) : Word :=
  match f32 x with
  | .nan => nan32
  | .inf neg =>
    match kn with
    | .exp2 => if neg then 0#32 else posInf32
    | .log2 => if neg then nan32 else posInf32
    | .recip => if neg then 0x80000000#32 else 0#32
    | .rsqrt => if neg then nan32 else 0#32
    | _ => nan32
  | .fin neg m e =>
    match kn with
    | .exp2 =>
      if m = 0 then one32 else
      let n := floorV neg m e
      if 128 ≤ n then posInf32 else if n < -150 then 0#32 else
      let s := fracSeg 128 neg m e
      rn32 ((f32 (kernelPoly .exp2 s.1 s.2)).scale n)
    | .sin2pi =>
      let s := fracSeg 256 neg m e
      kernelPoly .sin2pi s.1 s.2
    | .cos2pi =>
      if m = 0 then one32 else
      let s := fracSeg 256 neg m e
      kernelPoly .cos2pi s.1 s.2
    | .log2 =>
      if m = 0 then negInf32 else if neg then nan32 else
      let b := m.log2
      let s := mantSeg m b
      rn32 (addV (ofInt false (e + b) 0) (f32 (kernelPoly .log2 s.1 s.2)))
    | .recip =>
      if m = 0 then (if neg then negInf32 else posInf32) else
      let b := m.log2
      let s := mantSeg m b
      let p := rn32 ((f32 (kernelPoly .recip s.1 s.2)).scale (-(e + b)))
      if neg then neg32 p else p
    | .rsqrt =>
      if m = 0 then (if neg then negInf32 else posInf32) else if neg then nan32 else
      let b := m.log2
      let ex := e + b
      -- x = m'·2^(2j) with m' in [1, 4)
      let j := ex / 2
      let s := if ex % 2 = 0 then mantSeg m b else
        -- m' = 2·m/2^b lies in [2, 4)
        let mm := 2 * m
        let k := (mm - 2 ^ b) * 128 / 2 ^ b
        (k, .fin false (128 * (mm - 2 ^ b) - k * 2 ^ b) (-(b : Int) - 7))
      rn32 ((f32 (kernelPoly .rsqrt s.1 s.2)).scale (-j))

/-- RN(1/2π) (R205). -/
def inv2Pi32 : Word := rnRat32 false (fxOne * fxOne / (2 * fxPi)) 1 (-(fxP : Int))

/-- EXP, SIGMOID of R205 by kernels, special values apart. -/
def cz3Exp (x : Word) : Word := kernel .exp2 (fmul32 x 0x3FB8AA3B#32)
def cz3Sigmoid (x : Word) : Word := kernel .recip (fadd32 one32 (cz3Exp (neg32 x)))

/-- The CZ3 compositions (R205) on an argument that R199 does not cover. -/
def cz3Fn (fn : SfuFn) (x : Word) : Word :=
  match fn with
  | .exp => cz3Exp x
  | .exp2 => kernel .exp2 x
  | .log => fmul32 (kernel .log2 x) 0x3F317218#32
  | .log2 => kernel .log2 x
  | .recip => kernel .recip x
  | .rsqrt => kernel .rsqrt x
  | .sqrt => fmul32 x (kernel .rsqrt x)
  | .sigmoid => cz3Sigmoid x
  | .tanh => rn32 (addV ((f32 (cz3Sigmoid (rn32 ((f32 x).scale 1)))).scale 1) (.fin true 1 0))
  | .gelu => fmul32 x (cz3Sigmoid (fmul32 0x3FD9DB23#32 x))
  | .softplus =>
    if lt32 0x41A00000#32 x then x
    else if lt32 x 0xC1700000#32 then cz3Exp x
    else fmul32 (kernel .log2 (fadd32 one32 (cz3Exp x))) 0x3F317218#32
  | .sin => kernel .sin2pi (fmul32 x inv2Pi32)
  | .cos => kernel .cos2pi (fmul32 x inv2Pi32)

/-! ### Special values -/

/-- RN(ln 2). -/
def ln2_32 : Word := 0x3F317218#32

/-- The value R199 states for an input, where it states one; `bounds` says which mode. -/
def specialValue (fn : SfuFn) (bounds : Bool) (x : Word) : Option Word :=
  match f32 x with
  | .nan => some nan32
  | .inf neg =>
    match fn with
    | .exp | .exp2 | .softplus => some (if neg then 0#32 else posInf32)
    | .log | .log2 | .sqrt => some (if neg then nan32 else posInf32)
    | .recip => some (if neg then 0x80000000#32 else 0#32)
    | .rsqrt => some (if neg then nan32 else 0#32)
    | .sigmoid => some (if neg then 0#32 else one32)
    | .tanh => some (if neg then 0xBF800000#32 else one32)
    | .gelu => some (if neg then 0x80000000#32 else posInf32)
    | .sin | .cos => some nan32
  | .fin neg m e =>
    if m = 0 then
      match fn with
      | .exp | .exp2 | .cos => some one32
      | .log | .log2 => some negInf32
      | .recip | .rsqrt => some (if neg then negInf32 else posInf32)
      | .sqrt | .tanh | .gelu | .sin => some x
      | .sigmoid => some 0x3F000000#32
      | .softplus => some ln2_32
    else
      match fn with
      | .log | .log2 | .rsqrt | .sqrt => if neg then some nan32 else none
      | .sin | .cos =>
        if bounds ∧ (2 ^ 20 : Int) * 2 ^ 149 < (m : Int) * 2 ^ (e + 149).toNat then some nan32 else none
      | _ => none

/-! ### Bounds mode -/

/-- The exact result of R196 as a signed fixed-point number, for a finite nonzero input in the function's domain. -/
def refFx (fn : SfuFn) (x : Word) : Int :=
  let z := (f32 x).toFx
  let one : Int := fxOne
  let big : Int := 400 * fxOne
  let ex : Int → Int := fun v => expFx (max (-big) (min big v))
  let sigm : Int → Int := fun v => if 0 ≤ v then one * one / (one + ex (-v)) else (let t := ex v; t * one / (one + t))
  match fn with
  | .exp => ex z
  | .exp2 =>
    let n := z / one
    shiftFx (expTaylor ((z - n * one) * fxLn2 / one).toNat) (max (-1000) (min 1000 n))
  | .log => lnFx z.toNat
  | .log2 => lnFx z.toNat * one / fxLn2
  | .recip => sInt (decide (z < 0)) (fxOne * fxOne / z.natAbs)
  | .rsqrt => isqrt (fxOne * fxOne * fxOne / z.toNat)
  | .sqrt => isqrt (z.toNat * fxOne)
  | .sigmoid => sigm z
  | .tanh =>
    let t := ex (-2 * (z.natAbs : Int))
    let y := (one - t) * one / (one + t)
    if z < 0 then -y else y
  | .gelu =>
    let y := sigm (z * 851 / 500)
    z * y / one
  | .softplus => if 0 < z then z + lnFx (fxOne + (ex (-z)).toNat) else lnFx (fxOne + (ex z).toNat)
  | .sin => sinTurn ((z * one / (2 * fxPi)) % one).toNat
  | .cos => cosTurn ((z * one / (2 * fxPi)) % one).toNat

/-- The bound of R208 in bounds mode as half-ulps and an absolute part, −1 for none. -/
def boundOf (fn : SfuFn) : Nat × Int :=
  match fn with
  | .exp => (2, -1) | .exp2 => (1, -1)
  | .log => (1, -25) | .log2 => (1, -25)
  | .recip => (1, -1) | .rsqrt => (1, -1) | .sqrt => (0, -1)
  | .sigmoid => (2, -1) | .tanh => (2, -1) | .gelu => (3, -24) | .softplus => (2, -1)
  | .sin => (0, -22) | .cos => (0, -22)

/-- The bound of R208 around y, in fixed point: the larger of n ulp of y and the absolute part. -/
def boundFx (fn : SfuFn) (y : Int) : Nat :=
  let b := boundOf fn
  let e : Int := max ((y.natAbs.log2 : Int) - fxP) (-126)
  max (b.1 * 2 ^ (e - 23 + fxP).toNat) (if b.2 = -1 then 0 else 2 ^ (fxP - b.2.natAbs))

/-- The binary32 of a signed fixed-point number by a directed rounding. -/
def dirFx (r : Rnd) (z : Int) : Word :=
  BitVec.ofNat 32 (fencode fBinary32 r false (ofInt false z (-(fxP : Int)))).1

/-- Whether R199 keeps the function's results at or above +0. -/
def SfuFn.nonneg : SfuFn → Bool
  | .exp | .exp2 | .sigmoid | .softplus => true
  | _ => false

/-- Hold a word inside the range lo to hi of the binary32 order. -/
def hold32 (lo hi v : Word) : Word :=
  if isNan32 v ∨ key32 v < key32 lo then lo else if key32 hi < key32 v then hi else v

/-- The square root rounded to nearest even (R208): exact by an integer root with a sticky bit. -/
def sqrtRn (m : Nat) (e : Int) : Word :=
  let sh : Nat := if e % 2 = 0 then 100 else 101
  let v := m * 2 ^ sh
  let r := isqrt v
  let sticky := if r * r = v then 0 else 1
  rnRat32 false (2 * r + sticky) 1 ((e - sh) / 2 - 1)

/-- The value of the implementation held inside R208, or the correctly rounded one, for an input that R199 does not cover. -/
def heldFn (fn : SfuFn) (free : Bool) (x : Word) : Word :=
  let y := refFx fn x
  let rn := rnFx y
  if rn = posInf32 ∨ rn = negInf32 ∨ !free then rn else
  let b : Int := boundFx fn y
  let lo0 := dirFx .up (y - b)
  let lo := if fn.nonneg ∧ key32 lo0 < 0 then 0#32 else lo0
  hold32 lo (dirFx .down (y + b)) (Config.sfuBounds fn.code x)

/-! ### Monotonicity (R209) -/

/-- GELU rises at an input: 1 + c x (1 − sigmoid(c x)) is not negative, c = 1.702. -/
def geluRises (x : Word) : Bool :=
  match f32 x with
  | .inf neg => !neg
  | _ =>
    let z := (f32 x).toFx * 851 / 500
    let one : Int := fxOne
    let e : Int := expFx (max (-400 * one) (min (400 * one) (-z)))
    decide (0 ≤ one + z * e / (one + e))

/-- The interval between neighbouring extrema that holds an input of SIN or COS: ⌊x/π + 1/2⌋ or ⌊x/π⌋. -/
def turnOf (cos : Bool) (x : Word) : Int :=
  let z := (f32 x).toFx
  if cos then z * fxOne / fxPi / fxOne else (z * fxOne / fxPi + fxOne / 2) / fxOne

/-- Two inputs x ≤ y lie in one closed interval on which the function is monotone. -/
def sameRun (fn : SfuFn) (x y : Word) : Bool :=
  let zero := 0#32
  match fn with
  | .exp | .exp2 | .sigmoid | .tanh | .softplus => true
  | .log | .log2 | .sqrt | .rsqrt => !lt32 x zero
  | .recip => (lt32 zero x && y != posInf32) || (lt32 y zero && x != negInf32)
  | .gelu => geluRises x == geluRises y
  | .sin => turnOf false x == turnOf false y
  | .cos => turnOf true x == turnOf true y || (eq32 y zero && turnOf true x == -1)

/-- Whether the function rises on the interval that starts at or holds x. -/
def risesAt (fn : SfuFn) (x : Word) : Bool :=
  match fn with
  | .recip | .rsqrt => false
  | .gelu => geluRises x
  | .sin => turnOf false x % 2 == 0
  | .cos => turnOf true x % 2 == 1
  | _ => true

/-- The results of two inputs are ordered as the function orders its values (R209). -/
def orderedAt (fn : SfuFn) (v : Word → Word) (x y : Word) : Bool :=
  isNan32 (v x) || isNan32 (v y) || isNan32 x || isNan32 y || lt32 y x || !sameRun fn x y ||
    (if risesAt fn x then !lt32 (v y) (v x) else !lt32 (v x) (v y))

/-- A condition on every number below a bound. -/
def allBelow (p : Nat → Bool) : Nat → Bool
  | 0 => true
  | n + 1 => p n && allBelow p n

/-- A function's results in bounds mode, those of R199 among them. -/
def boundsResult (fn : SfuFn) (free : Bool) (x : Word) : Word := (specialValue fn true x).getD (heldFn fn free x)

/-- The implementation's values keep R209 over all inputs. -/
def boundsOrdered (fn : SfuFn) : Bool :=
  allBelow (fun a => allBelow (fun b => orderedAt fn (boundsResult fn true) (BitVec.ofNat 32 a) (BitVec.ofNat 32 b)) (2 ^ 32)) (2 ^ 32)

/-- A bounds-mode result: the correctly rounded root for SQRT; else the free value of the implementation held inside R208, where these values keep R209, and the correctly rounded one where they do not (notes/assumptions/9). -/
def boundsFn (fn : SfuFn) (x : Word) : Word :=
  match fn, f32 x with
  | .sqrt, .fin _ m e => sqrtRn m e
  | _, _ => heldFn fn (boundsOrdered fn) x

/-- An SFU function in a tile's mode, R199 taking precedence (R205). -/
def sfuFn (bounds : Bool) (fn : SfuFn) (x : Word) : Word :=
  match specialValue fn bounds x with
  | some v => v
  | none => if bounds then boundsFn fn x else cz3Fn fn x

/-! ### Row statistics -/

/-- The statistics state of a lane (05, Row statistics). -/
structure Stat where
  m : Word := negInf32
  s : Word := 0#32
  n : Nat := 0
  mu : Word := 0#32
  q : Word := 0#32
deriving DecidableEq, Repr

/-- The cleared state. -/
def Stat.cleared : Stat := {}

/-- E(a − b): EXP of the rounded difference, exactly 1.0 where the operands are equal (05). -/
def expDiff (bounds : Bool) (a b : Word) : Word :=
  if isNan32 a ∨ isNan32 b then nan32
  else if eq32 a b then one32
  else sfuFn bounds .exp (fsub32 a b)

/-- A count saturating at 2^32 − 1. -/
def satCount (n : Nat) : Nat := min n (2 ^ 32 - 1)

/-- ST_SMX (R213). -/
def statSmx (bounds : Bool) (st : Stat) (x : Word) : Stat :=
  if isNan32 x ∨ isNan32 st.m then { st with m := nan32, s := nan32 } else
  let m' := fmax32 st.m x
  let s' := if m' = negInf32 then 0#32
    else fma32 st.s (expDiff bounds st.m m') (expDiff bounds x m')
  { st with m := m', s := s' }

/-- ST_WEL (R214). -/
def statWel (st : Stat) (x : Word) : Stat :=
  let n := satCount (st.n + 1)
  let d := fsub32 x st.mu
  let mu' := fma32 d (rnCount 1 n) st.mu
  { st with n := n, q := fma32 d (fsub32 x mu') st.q, mu := mu' }

/-- Combining two partial states (R216). -/
def statJoin (bounds : Bool) (a b : Stat) : Stat :=
  let bad := isNan32 a.m || isNan32 b.m || isNan32 a.s || isNan32 b.s
  let m := fmax32 a.m b.m
  let s := fma32 a.s (expDiff bounds a.m m) (fmul32 b.s (expDiff bounds b.m m))
  let n := satCount (a.n + b.n)
  let d := fsub32 b.mu a.mu
  let w := rnCount b.n n
  { m := if bad then nan32 else m
    s := if bad then nan32 else s
    n := n
    mu := if n = 0 then 0#32 else fma32 d w a.mu
    q := if n = 0 then 0#32
         else fma32 (fmul32 d d) (fmul32 (rnCount a.n 1) w) (fadd32 a.q b.q) }

/-- One level of the combining tree: neighbours join pairwise (R215). -/
def statLevel (bounds : Bool) : List Stat → List Stat
  | a :: b :: rest => statJoin bounds a b :: statLevel bounds rest
  | l => l

/-- The fixed tree over 2^levels lanes (R215). -/
def statTree (bounds : Bool) : Nat → List Stat → Stat
  | 0, l => l.headD .cleared
  | k + 1, l => statTree bounds k (statLevel bounds l)

/-- ST_EXPM (R219): in the empty state a finite input gives +0. -/
def statExpm (bounds : Bool) (st : Stat) (x : Word) : Word :=
  if st.m = negInf32 ∧ !(f32 x).special then 0#32 else expDiff bounds x st.m

/-- ST_GETVAR (R219). -/
def statVar (st : Stat) : Word := if st.n = 0 then nan32 else fmul32 st.q (rnCount 1 st.n)

/-- ST_RSTD (R219, R203). -/
def statRstd (bounds : Bool) (eps : Word) (st : Stat) : Word :=
  if st.n = 0 then nan32 else sfuFn bounds .rsqrt (fadd32 (statVar st) eps)

end Sys2Proof.Machine
end

