-- ==== Sys2Proof/Machine/Tables.lean ====
section
/-! DEFINITION. Sparse tables and memory: lists of (key, value) pairs in one canonical form, keys strictly rising and no entry equal to what an unlisted key reads as. -/

namespace Sys2Proof.Machine

/-- A sparse table from numbers to values, sorted by key. -/
abbrev Tbl (α : Type) := List (Nat × α)

/-- Whether every key of a table lies above `k` and the keys rise. -/
def Tbl.above {α : Type} (k : Nat) : Tbl α → Bool
  | [] => true
  | (a, _) :: t => decide (k < a) && Tbl.above a t

/-- The keys rise strictly. -/
def Tbl.sorted {α : Type} : Tbl α → Bool
  | [] => true
  | (a, _) :: t => Tbl.above a t

/-- The value stored at a key, if one is listed. -/
def Tbl.find {α : Type} : Tbl α → Nat → Option α
  | [], _ => none
  | (a, v) :: t, k => if k = a then some v else Tbl.find t k

/-- The value at a key, `d` where none is listed. -/
def Tbl.get {α : Type} (t : Tbl α) (d : α) (k : Nat) : α := (t.find k).getD d

/-- List a value at a key. -/
def Tbl.put {α : Type} : Tbl α → Nat → α → Tbl α
  | [], k, v => [(k, v)]
  | (a, w) :: t, k, v =>
    if k < a then (k, v) :: (a, w) :: t
    else if k = a then (k, v) :: t
    else (a, w) :: Tbl.put t k v

/-- Drop a key, wherever it is listed. -/
def Tbl.del {α : Type} : Tbl α → Nat → Tbl α
  | [], _ => []
  | (a, w) :: t, k => if k = a then Tbl.del t k else (a, w) :: Tbl.del t k

/-- Set a key to a value, listing nothing where the value is the default `d`. -/
def Tbl.set {α : Type} [DecidableEq α] (t : Tbl α) (d : α) (k : Nat) (v : α) : Tbl α :=
  if v = d then t.del k else t.put k v

/-- Change the value at a key. -/
def Tbl.upd {α : Type} [DecidableEq α] (t : Tbl α) (d : α) (k : Nat) (f : α → α) : Tbl α :=
  t.set d k (f (t.get d k))

/-- The canonical form: keys rising, no value equal to the default. -/
def Tbl.wf {α : Type} [DecidableEq α] (t : Tbl α) (d : α) : Bool :=
  t.sorted && t.all (fun p => decide (p.2 ≠ d))

/-- Memory: the listed bytes of the package address space (06, R222). -/
abbrev Mem := List Host.Cell

/-- What an unlisted byte reads as (notes/assumptions/5; 17 R742: cold stage 2 writes 0). -/
def Mem.empty : Byte := 0#8

/-- The byte at an address. -/
def Mem.byte (m : Mem) (a : Nat) : Byte := Tbl.get m Mem.empty a

/-- Store one byte. -/
def Mem.setByte (m : Mem) (a : Nat) (b : Byte) : Mem := Tbl.set m Mem.empty a b

/-- The `n` bytes from an address upward. -/
def Mem.bytes (m : Mem) (a : Nat) : Nat → List Byte
  | 0 => []
  | n + 1 => m.byte a :: Mem.bytes m (a + 1) n

/-- Store bytes from an address upward. -/
def Mem.setBytes (m : Mem) (a : Nat) : List Byte → Mem
  | [] => m
  | b :: bs => Mem.setBytes (m.setByte a b) (a + 1) bs

/-- Drop every listed byte of a range, so that the range reads 0. -/
def Mem.clear (m : Mem) (a n : Nat) : Mem := m.filter (fun p => decide (p.1 < a ∨ a + n ≤ p.1))

/-- The little-endian number of `n` bytes (04, Storage layout). -/
def Mem.nat (m : Mem) (a : Nat) : Nat → Nat
  | 0 => 0
  | n + 1 => (m.byte a).toNat + 256 * Mem.nat m (a + 1) n

/-- Memory in its canonical form. -/
def Mem.wf (m : Mem) : Bool := Tbl.wf m Mem.empty

end Sys2Proof.Machine
end

