-- ==== Sys2Proof/Machine/State.lean ====
section
/-! DEFINITION. The state of the CZ4 package as plain data, the reasons a step can stop, and the state after reset (RESET_N held low: 17, Power-up and cold reset). Field names follow the spec; INVENTORY.md gives the rule and the reset value of each. -/

namespace Sys2Proof.Machine

/-- Why a step stops with a fault. The spec gives every error of the CZ4 an effect on its state (19 R842), so no meaning raises one. -/
inductive Fault where
  /-- Raised by no meaning; safe. -/
  | none
deriving DecidableEq, Repr

/-- Why a command has no meaning. -/
inductive Refusal where
  /-- A command of the table that has no meaning in the model, by its mnemonic: raised by an arm of exec only; safe. -/
  | notModelled (mnemonic : String)
deriving DecidableEq, Repr

/-! ### Events and outputs -/

/-- The location of a code: LKIND, UNIT, A, B and C (15 R662, 18 R909). -/
structure Loc where
  kind : Nat := 0
  unit : Nat := 0
  a : Nat := 0
  b : Nat := 0
  c : Nat := 0
deriving DecidableEq, Repr

/-- An event waiting for the event writer (18 R796, R798); `sub` the fraction of a nanosecond that tells core cycles apart, `detail` is DETAIL as a little-endian number. -/
structure Event where
  time : Nat
  sub : Nat
  epoch : Nat
  code : Nat
  loc : Loc
  detail : Nat
deriving DecidableEq, Repr

/-- A committed event record (18 R796). -/
structure EvRec where
  eseq : Nat
  ev : Event
  lost : Nat
deriving DecidableEq, Repr

/-- A completion (13, Completions), without the fields that its write supplies (SQ_HEAD, PHASE). -/
structure Completion where
  cid : Nat
  sq : Nat
  status : Nat
  tag : Nat
  epoch : Nat
  info : Nat
  opc : Nat
deriving DecidableEq, Repr

/-- A write of result data that precedes a completion (13 R609): address, bytes, whether the address is local (R270 LOCAL_OUT), the context index it frees. -/
structure ResultWrite where
  addr : Nat
  bytes : List Byte
  isLocal : Bool
  idx : Nat
  sent : Bool := false
deriving DecidableEq, Repr

/-- A completion that is due and not yet written to its CQ (13 R597, R608). -/
structure Due where
  comp : Completion
  result : Option ResultWrite
  frees : Option Nat
deriving DecidableEq, Repr

/-- What leaves the package: the model's record of its outputs, oldest first (notes/assumptions/6). -/
inductive Out where
  | completion (ring slot sqHead : Nat) (phase : Bool) (c : Completion)
  | hostWrite (port addr : Nat) (bytes : List Byte) (noSnoop : Bool)
  | msix (fn vector : Nat)
  | mctp (status : Nat) (bytes : List Byte)
  | read (src : Src) (value : Nat)
  | awl (status code value : Nat)
  | lockRead (holder lock value : Nat)
  | marker (link kind epoch : Nat) (flags data : Nat)
  | row (link : Nat) (payload : BitVec 2048) (side : Word)
  | words (link : Nat) (w : List (Nat × BitVec 132))
  | lace (op word data : Nat)
  | flit (y c : Nat) (toYz : Bool) (header : BitVec 256) (payload : BitVec 2048)
  /-- The INIT of a die to its chiplet: index, variant, credits advertised by class (08 R345). -/
  | init (y variant : Nat) (credits : List (Nat × Nat))
deriving DecidableEq, Repr

/-! ### Time and the epoch -/

/-- A release for an epoch (02 R93-R95, 12): its flags and the barriers it completes. -/
structure Release where
  epoch : Nat
  late : Bool := false
  abort : Bool := false
  stop : Bool := false
  complete : List Nat := []
deriving DecidableEq, Repr

/-- Time, the epoch and the boundary in progress (02). -/
structure Clock where
  /-- Nanoseconds since the last cold reset (00 R10) and the fraction in 1/273 ns that a core cycle adds (notes/assumptions/2). -/
  now : Nat := 0
  sub : Nat := 0
  /-- The epoch number (R64) and the cycle in the epoch, 0 to N (R63). -/
  epoch : Nat := 0
  cycle : Nat := 0
  /-- EPOCH_K and A_FAB in force (R65). -/
  ek : Nat := 20
  afab : Nat := 0
  /-- The steps of the coming boundary already passed: queue snapshot, pending latch (R92), check point C (R99). -/
  snapped : Bool := false
  latched : Bool := false
  checked : Bool := false
  /-- This package is ready for the next epoch, and its late flag (R99). -/
  ready : Bool := false
  late : Bool := false
  /-- The release received and not yet taken, and the core cycles until 64 have passed since it arrived (R93). -/
  release : Option Release := none
  settle : Nat := 0
  /-- The SYNC markers of this epoch have been sent (12 R540). -/
  synced : Bool := false
  /-- When the pause before the boundary step began, if it has (R94). -/
  pauseFrom : Option Nat := none
  /-- Rows whose page preload the boundary step waits for (03 R914). -/
  preload : List Nat := []
deriving DecidableEq, Repr

/-- An epoch abort in progress (17 R755). -/
structure Abort where
  epoch : Nat
  code : Nat
  start : Nat
  /-- The sequencers have been stopped and ABORT set in the ready word (EPOCH_ABORT). -/
  taken : Bool := false
  restored : Bool := false
  /-- Ready has been reported for the epoch before (R755, R556). -/
  recovered : Bool := false
  overtime : Bool := false
  thermal : Bool := false
  /-- An ABORT release has been taken for it: a repeat of one is dropped (12 R543). -/
  fabric : Bool := false
  /-- When ready was reported for the epoch before: the watchdog of the rerun times from it (19 R840). -/
  readyAt : Nat := 0
deriving DecidableEq, Repr

/-! ### Registers -/

/-- An armed pending copy of an RW-E field (02 R82): the BAR0 offset of its 32-bit word, the bits it covers, their value in place, PEND_EPOCH, and the residency index of the last that wrote it, if one did (R88). -/
structure Pend where
  off : Nat
  mask : Word
  value : Word
  epoch : Nat
  owner : Option Nat := none
deriving DecidableEq, Repr

/-- The banked registers of one writer (20 R852, R854): PKG_PEND_EPOCH, PKG_PEND_SEL, and the latest low-half write it holds. -/
structure Bank where
  pendEpoch : Nat := 0
  sel : Nat := 0
  low : Option (Nat × Word) := none
deriving DecidableEq, Repr

/-! ### Tiles and sequencers -/

/-- A weight block in the registers of an array: its format and, per column, the payload bytes and the scale bytes (04 R163, R164). -/
structure WBlock where
  fmt : Nat
  cols : List (List Byte × List Byte)
deriving DecidableEq, Repr

/-- A STREAM that is running or whose sums are still on their way (03 R117-R120): the cycle of its first vector; for one that is queued, the cycle at which its word arrived. -/
structure AStream where
  start : Nat
  n : Nat
  fmt : Nat
  base : Nat
  west : Bool
  /-- A west stream whose neighbour has not started: its first vector enters 4 cc after that start (R912). -/
  waits : Bool := false
  acc : Nat
  accbase : Nat
  weights : Option WBlock
  /-- A block was still being loaded when the stream started (R119). -/
  partly : Bool := false
  /-- The vectors that have entered, payload and scales, oldest first, and how many of them have been delivered. -/
  vecs : List (List Byte × List Byte)
  delivered : Nat
deriving DecidableEq, Repr

/-- An array or quarter array (03 R118, R120, R150). -/
structure AUnit where
  active : Option WBlock := none
  /-- The shadow block, and the cycle from which its load is complete (R114, R118). -/
  shadow : Option WBlock := none
  ready : Nat := 0
  running : Option AStream := none
  queued : Option AStream := none
  draining : List AStream := []
  /-- Staging half B is active (R148). -/
  halfB : Bool := false
  /-- The cycle at which the SWAP in progress arrived (R150), and the model slot it names. -/
  swapAt : Option Nat := none
  slot : Nat := 0
  /-- The constant registers (R150). -/
  consts : List Byte := []
deriving DecidableEq, Repr

/-- A vector result on its way to VD (03 R133): the cycle it is due, the register, and the lanes it writes. -/
structure VRes where
  due : Nat
  vd : Nat
  lanes : List (Nat × Word)
deriving DecidableEq, Repr

/-- The operations that go through the SFU grant (05 R196). -/
inductive SfuOp where
  | fn (f : SfuFn)
  | clr | smx | wel | getm | gets | getmean | getvar | expm | rstd
  /-- An FN code that R196 does not list: it takes its grant and writes nothing (R197). -/
  | unlisted
deriving DecidableEq, Repr

/-- A lane's request waiting for its grant (05 R190-R193). -/
structure SfuReq where
  op : SfuOp
  vd : Nat
  x : Word
deriving DecidableEq, Repr

/-- An SFU result on its way to VD (05 R192). -/
structure SfuRes where
  due : Nat
  lane : Nat
  vd : Nat
  value : Word
deriving DecidableEq, Repr

/-- A FILL in flight (03 R151): its quarter or array, the scratch range, and the bytes still to come. -/
structure FillJob where
  unit : Nat
  lo : Nat
  hi : Nat
  left : Nat
deriving DecidableEq, Repr

/-- A logical tile (03, The tile). Arrays: units 0-3 the quarters, 4 the full array. Registers and accumulators are listed where not 0. -/
structure Tile where
  units : Tbl AUnit := []
  acc : Tbl Word := []
  /-- Accumulator entries with a parity error (0x0305). -/
  accErr : List Nat := []
  vregs : Tbl Word := []
  vres : List VRes := []
  sfuWait : Tbl SfuReq := []
  sfuRes : List SfuRes := []
  stats : Tbl Stat := []
  /-- ST_REDs in progress, by group, with the cycle at which each completes (05 R217). -/
  red : Tbl Nat := []
  fills : List FillJob := []
deriving DecidableEq, Repr

/-- A page slot of a sequencer store (03 R136, R139). -/
structure Page where
  page : Nat
  usable : Bool
  bytes : List Byte
deriving DecidableEq, Repr

/-- A word on its way from its sequencer to the tiles (03 R145): the cycle at which its slots arrive, its bits with the slots that have acted set to none, whether its ARR, VEC and MOV slots act (R143, 07 R295), and the registers and the context it issued with. -/
structure Flight where
  due : Nat
  w : Nat
  acts : Bool
  n : Nat
  a : Nat
  accbase : Nat
  ctx : Option Nat
deriving DecidableEq, Repr

/-- A row sequencer (03, Row sequencers; R911). -/
structure RowSeq where
  running : Bool := false
  pos : Nat := 0
  /-- The cycle from which DELTA of the word at the position counts: 16, or the cycle after the word before it (R141). -/
  since : Nat := 0
  /-- The epoch program of this epoch has started (R141, R142). -/
  ran : Bool := false
  flight : List Flight := []
  n : Nat := 1
  a : Nat := 0
  accbase : Nat := 0
  /-- Open loops, innermost first: the position after LOOP and the repetitions left. -/
  loops : List (Nat × Nat) := []
  bound : Option (Nat × Nat) := none
  ctxPos : Nat := 0
  /-- The SEMWAIT gate of R295 is closed. -/
  gated : Bool := false
  /-- The first 64 KiB of the store: the resident microcode, empty until it is fetched (R136, R137). -/
  microcode : List Byte := []
  pages : Tbl Page := []
deriving DecidableEq, Repr

/-! ### HBM3E -/

/-- What a scheduled request moves (06 R915). -/
inductive ReqKind where
  | fill (tile unit : Nat)
  | spill (tile : Nat)
  | page (row slot : Nat)
deriving DecidableEq, Repr

/-- One 64 B unit of a scheduled request: the cycle at which it reaches the controller, its package address and the other end, a scratch address or an offset in a page slot. -/
structure HbmReq where
  kind : ReqKind
  arrives : Nat
  addr : Nat
  other : Nat
  /-- The bytes of a SPILL's unit once they have left scratch (R239). -/
  data : Option (List Byte) := none
deriving DecidableEq, Repr

/-- Open-slot traffic waiting at a controller (06 R230): one 64 B unit of a COPY, by the COPY's number and the unit's offset, or bytes of the package's own that lie in one unit: context records, results, journal entries. -/
inductive OpenReq where
  | copy (job off : Nat)
  | own (addr : Nat) (bytes : List Byte)
deriving DecidableEq, Repr

/-- An HBM3E channel (06). -/
structure Chan where
  reqs : List HbmReq := []
  queue : List OpenReq := []
  due : Bool := false
  training : Bool := false
  attempts : Nat := 0
  /-- The time at which the latest refresh ends (R237). -/
  refreshUntil : Nat := 0
  /-- When an open slot last carried an access, in nanoseconds and their fraction (R229). -/
  used : Option (Nat × Nat) := none
deriving DecidableEq, Repr

/-- A part of a transfer that has its own cycle (03 R150, R913; 06 R248, R916; 07 R285, R286). -/
inductive Work where
  /-- Register `v` of a unit through the V port: from scratch, or to scratch one cycle later (03 R913). -/
  | vld (t u v src : Nat)
  | vst (t u v dst : Nat)
  /-- A die-buffer line of a FILL or CTXIN moves, and lands 6 cc later; a line of a SPILL or CTXOUT leaves scratch, and moves 6 cc later (06 R916). -/
  | lineIn (t u src dst n : Nat) (fills : Bool)
  | lineOut (src dst n : Nat)
  /-- The data slot of a unit of a RD or WR run, and the ACT cycle of its run (06 R234, R235). -/
  | unit (c : Nat) (rd : Bool) (addr act : Nat)
  /-- Bytes written in scratch through the F port, of a FILL or not, and through the V port (03 R127). -/
  | fWrite (t u a : Nat) (bytes : List Byte) (fills : Bool)
  | vWrite (a : Nat) (bytes : List Byte)
  /-- Bytes written in a page slot of a row, or in a die buffer. -/
  | pageWrite (r slot off : Nat) (bytes : List Byte)
  | bufWrite (a : Nat) (bytes : List Byte)
  /-- A CTXOUT is complete (07 R286). -/
  | ctxDone (idx : Nat)
  /-- A SWAP reaches its tile (03 R150). -/
  | swap (t q slot : Nat)
deriving DecidableEq, Repr

/-- A part of a transfer and its cycle. -/
structure Job where
  due : Nat
  work : Work
deriving DecidableEq, Repr

/-- A transfer error stored with a word (03 R128, 06 R251). -/
inductive WordErr where
  | single | double
deriving DecidableEq, Repr

/-- HBM3E state beside the channels and the bytes (06 R251-R261). -/
structure Hbm where
  chans : Tbl Chan := []
  /-- Channel groups out of service, 4·stack + group. -/
  groupOut : List Nat := []
  /-- Corrected errors of a row, keyed by the address of its first byte divided by 2,048 (R252). -/
  rowCe : Tbl Nat := []
  repairs : List Nat := []
  /-- Spare rows used, by bank: (channel · 3 + SID) · 16 + bank group · 4 + bank; spare DQ lanes used, by stack (R254). -/
  rowUsed : Tbl Nat := []
  laneUsed : Tbl Nat := []
  /-- Stage 2 has reported (MEM_STACK_HEALTH_h is valid). -/
  known : Bool := false
deriving DecidableEq, Repr

/-! ### Contexts and synchronisation -/

/-- A model slot record (07 R273). -/
structure MSlot where
  home : Nat := 0
  imageAddr : Nat := 0
  imageLen : Nat := 0
  inMax : Nat := 0
  outLen : Nat := 0
  timeout : Nat := 0
  loaded : Bool := false
deriving DecidableEq, Repr

/-- An MS_LOAD accepted and waiting for its boundary (13 R589). -/
structure MsPend where
  ms : Nat
  unload : Bool
  record : MSlot
  epoch : Nat
  sq : Nat
  cid : Nat
  cq : Nat
  /-- Its completion is not to be posted (17 R748). -/
  mute : Bool := false
deriving DecidableEq, Repr

/-- Where a context stands between its fetch and its completion (07 R279-R281). -/
inductive CtxPhase where
  | posted | staging | copied | queued | bound | done | final
deriving DecidableEq, Repr

/-- What the device holds of a context out of FREE: its place, its submission, and its cache entry's buffers (07 R280). -/
structure CtxInfo where
  idx : Nat
  sq : Nat
  cid : Nat
  phase : CtxPhase
  cached : Bool := false
  /-- Offsets and sizes of its two pool buffers. -/
  inOff : Nat := 0
  inLen : Nat := 0
  outOff : Nat := 0
  outLen : Nat := 0
  /-- Freed without a completion at its boundary: its ring was reset (17 R747). -/
  silent : Bool := false
deriving DecidableEq, Repr

/-- A binding of a slot entry (02 R108-R112): the last's residency index, the entry, the die, and the contexts in list order with their priorities. -/
structure Binding where
  last : Nat
  entry : Nat
  die : Nat
  ctxs : List (Nat × Nat)
deriving DecidableEq, Repr

/-- Contexts and model slots (07). -/
structure Ctx where
  /-- Contexts out of FREE, in the order they were posted. -/
  live : List CtxInfo := []
  /-- Queues by 4·model slot + priority (R281), and their snapshot (02 R107). -/
  queues : Tbl (List Nat) := []
  snap : Tbl (List Nat) := []
  /-- The snapshot that the running epoch was bound from. -/
  snapNow : Tbl (List Nat) := []
  slots : Tbl MSlot := []
  msPend : List MsPend := []
  /-- Bindings of the coming and of the running epoch. -/
  bindNext : List Binding := []
  bindNow : List Binding := []
  depth : Tbl Nat := []
deriving DecidableEq, Repr

/-- A synchronisation object (07 R291-R300). -/
structure SyObj where
  c : Nat := 0
  allow : Nat := 0
  /-- The allowance of the coming epoch, taken at the snapshot (R292). -/
  allowNext : Nat := 0
  /-- The allowance with which the epoch began (R300). -/
  allowAt : Nat := 0
  /-- C at the boundary into the epoch, host SIGNALs since, and units that barriers took since (R300, R304). -/
  atBoundary : Nat := 0
  hostSince : Nat := 0
  taken : Nat := 0
deriving DecidableEq, Repr

/-- A host WAIT (07 R299): its value, the epochs it has left, and, once satisfied, C at that snapshot. -/
structure HostWait where
  obj : Nat
  value : Nat
  left : Nat
  sq : Nat
  cid : Nat
  cq : Nat
  sat : Option Nat := none
deriving DecidableEq, Repr

/-- A fabric barrier (07 R301-R305). -/
structure Barrier where
  gen : Nat := 0
  arrived : Bool := false
deriving DecidableEq, Repr

/-- A SEMSIG or SEMWAIT on its way, or a miss on its way back (07 R291): the cycle at which it arrives, the row that issued it, the object. -/
structure SemReq where
  due : Nat
  row : Nat
  obj : Nat
deriving DecidableEq, Repr

/-- Synchronisation (07). -/
structure Sync where
  objs : Tbl SyObj := []
  waits : List HostWait := []
  barriers : Tbl Barrier := []
  /-- SEMSIGs and SEMWAITs on their way, in order (R291). -/
  sigs : List SemReq := []
  semWaits : List SemReq := []
  /-- Misses on their way back to their rows (R295). -/
  misses : List SemReq := []
deriving DecidableEq, Repr

/-- An EPOCH_MARK waiting for its boundary (13). -/
structure Mark where
  epoch : Nat
  sq : Nat
  cid : Nat
  cq : Nat
deriving DecidableEq, Repr

/-- A COPY in progress (13 R591): what is left, from which addresses, and the bytes read from the host. -/
structure CopyJob where
  job : Nat
  sq : Nat
  cid : Nat
  cq : Nat
  quiet : Bool
  toHost : Bool
  src : Nat
  dst : Nat
  len : Nat
  moved : Nat
  data : List Byte
deriving DecidableEq, Repr

/-! ### Lasts -/

/-- A slot entry of a last (02, Serving slots). -/
structure SlotEnt where
  ms : Nat
  die : Nat
  tile : Nat
  qtr : Nat
  cap : Nat
  period : Nat
  offset : Nat
  bindAddr : Nat
deriving DecidableEq, Repr

/-- A header of the SEQ section (03 R914 section): row, P_ROW, package address and length of its program. -/
structure SeqEnt where
  row : Nat
  period : Nat
  addr : Nat
  len : Nat
deriving DecidableEq, Repr

/-- A header of the MEM or BRG section: channel or bridge direction, period, package address and length of its table. -/
structure TabEnt where
  key : Nat
  period : Nat
  addr : Nat
  len : Nat
deriving DecidableEq, Repr

/-- STATE of CMD_LAST_r (14). -/
inductive LastState where
  | validating | staged | running
deriving DecidableEq, Repr

/-- A last that occupies a CMD_LAST_r entry (02 R53, R108; 14). -/
structure Last where
  id : Nat
  start : Nat
  run : Nat
  rowMask : Nat
  pkgCount : Nat
  rank : Nat
  ek : Nat
  afab : Nat
  energy : Nat
  st : LastState
  jseq : Nat
  imgAddr : Nat
  imgLen : Nat
  /-- The boundary at which a command makes it leave (R61), and the LAST_ID it replaces or whether it replaces all. -/
  leave : Option Nat
  replaces : Option Nat
  replaceAll : Bool
  sections : Sections
  slots : List SlotEnt
  seqs : List SeqEnt
  mems : List TabEnt
  brgs : List TabEnt
  /-- Claimed rows whose pages another last's claim kept from being preloaded at validation (03 R914). -/
  later : List Nat := []
  /-- The mesh bridges that its traffic crosses under R35 (08 R346). -/
  routes : List Nat := []
deriving DecidableEq, Repr

/-! ### Critical commands -/

/-- Where a critical command came from: a PF ring through a port, or MCTP (14 R619). -/
inductive CritSrc where
  | ring (sq : Nat) (portB : Bool)
  | mctp
deriving DecidableEq, Repr

/-- A critical command in the queue or accepted (14 R620-R622): the descriptor, its parameter block as read, and the JSEQ of its CHECK entry. -/
structure Crit where
  src : CritSrc
  d : BitVec 512
  param : Option (BitVec 1024)
  jseq : Nat := 0
  /-- The epoch in which its keyed check accepted it (02 R57). -/
  accepted : Nat := 0
  /-- Its completion is not to be posted (17 R748). -/
  mute : Bool := false
  /-- The core cycle of its arrival at the shank (14 R640). -/
  time : Nat × Nat := (0, 0)
deriving DecidableEq, Repr

/-- An MCTP message that the package partition serves, by its row of the table (18 R781, R782, R789); CRITICAL is an input of its own. -/
inductive MsgKind where
  | setEid | getEid | getUuid | getVersions | getTypes | getVendor
  | getStatus | regRead | regWrite | evtRead | warmReset | flashBegin | flashWrite | flashEnd | flashStatus
  | soleRetry (i : Stage0In)
  | getTid | pldmVersion | pldmTypes | pldmCommands | pdrInfo | pdr | sensorReading | stateReading
deriving DecidableEq, Repr

/-- An input held in the input gate (16 R718, 18 R808): a critical command, an MS_LOAD, a SYN_SET, an MCTP message or a word of MGT_FLASH_CMD. -/
inductive GateIn where
  | crit (c : Crit)
  | msLoad (m : MsPend)
  | synSet (sq cid cq obj value : Nat) (quiet : Bool)
  | message (k : MsgKind) (body : List Byte)
  | flash (w : Word)
deriving DecidableEq, Repr

/-- The state of a key slot (14 R634). -/
inductive KeyState where
  | empty | active | locked
deriving DecidableEq, Repr

/-- A key slot (14 R634). -/
structure KeySlot where
  key : List Byte := []
  st : KeyState := .empty
  rights : Nat := 0
  counter : Nat := 0
  mark : Nat := 0
  fails : Nat := 0
  run : Nat := 0
deriving DecidableEq, Repr

/-- What an entry records, without JSEQ, TIME and COMMIT (14 R648). SQ 0xFFFE is the device itself, 0xFFFF is MCTP. -/
structure JEnt where
  kind : Nat
  opc : Nat := 0
  status : Nat := 0
  sq : Nat := 0xFFFE
  cid : Nat := 0
  src : Nat := 0
  kslot : Nat := 0xFF
  counter : Nat := 0
  arg0 : Nat := 0
  arg1 : Nat := 0
deriving DecidableEq, Repr

/-- The command controller (14). -/
structure Cmd where
  queue : List Crit := []
  /-- The command whose counter mark is being stored (R631). -/
  marking : Option Crit := none
  work : List Crit := []
  current : Option Crit := none
  keys : Tbl KeySlot := []
  keyrec : Bool := false
  spent : Bool := false
  override : Bool := false
  overridePend : Option (Bool × Nat) := none
  rolePend : Option Nat := none
  lasts : Tbl Last := []
  jnlNext : Nat := 0
  jnlAck : Nat := 0
  /-- Entries that wait while the awl holds the active pair halted (18 R810). -/
  jnlHeld : List JEnt := []
  sole : List (List Byte) := []
  soleNext : Nat := 0
deriving DecidableEq, Repr

/-! ### Host interface -/

/-- A ring pair (13, Rings). Its set-up words are registers. -/
structure RingQ where
  sqTail : Nat := 0
  sqHead : Nat := 0
  cqTail : Nat := 0
  cqHead : Nat := 0
  cqReg : Word := 0#32
  sqReg : Word := 0#32
  phase : Bool := true
  stopped : Bool := false
  stopCode : Nat := 0
  armed : Bool := false
  p : Nat := 0
  /-- The oldest completion counted in P has waited MOD_TIME (R612), and 0x0D06 was recorded for the wait (R598). -/
  expired : Bool := false
  waited : Bool := false
  /-- The core cycle in which port B last wrote SQ_TAIL, and CQ_HEAD (R601). -/
  sqB : Option (Nat × Nat) := none
  cqB : Option (Nat × Nat) := none
  /-- Commands read and not yet completed (R585). -/
  outstanding : Nat := 0
  due : List Due := []
deriving DecidableEq, Repr

/-- A PCIe port (13 R567-R571, 17 R770). -/
inductive PortState where
  | down | l0 | l1
deriving DecidableEq, Repr

/-- A PCIe port. -/
structure PortRec where
  st : PortState := .down
  /-- PERST# is asserted. -/
  reset : Bool := true
deriving DecidableEq, Repr

/-- MSI-X state of one vector (13 R614). -/
structure Msix where
  masked : Bool := true
  pend : Bool := false
deriving DecidableEq, Repr

/-- The host interface (13). -/
structure HostIf where
  portA : PortRec := {}
  portB : PortRec := {}
  /-- NumVFs while VF Enable is 1, else 0 (R569). -/
  vfs : Nat := 0
  d3 : List Nat := []
  rings : Tbl RingQ := []
  msix : Tbl Msix := []
  copies : List CopyJob := []
  copyNext : Nat := 0
  marks : List Mark := []
deriving DecidableEq, Repr

/-! ### Bridges -/

/-- SBR_STATE (08 R356). -/
inductive BridgeState where
  | untrained | training | active | down
deriving DecidableEq, Repr

/-- A flit kept for replay (08 R336): its header without the fields that a replay refreshes, and its payload. -/
structure Flit where
  seq : Nat
  kind : Nat
  tc : Nat
  sop : Bool
  eop : Bool
  par : Bool
  lastlen : Nat
  addr : Nat
  ldata : Nat
  payload : BitVec 2048
deriving DecidableEq, Repr

/-- Credits of a class (08 R333): advertised, used and returned, headers and data. -/
structure Credit where
  advH : Nat := 0
  advD : Nat := 0
  sentH : Nat := 0
  sentD : Nat := 0
  retH : Nat := 0
  retD : Nat := 0
  /-- Freed by this receiver, cumulative: what the next return carries; and received by it. -/
  freeH : Nat := 0
  freeD : Nat := 0
  rcvdH : Nat := 0
  rcvdD : Nat := 0
deriving DecidableEq, Repr

/-- One direction of a Wn channel, as its sender and its receiver see it (08 R330-R342). -/
structure WDir where
  seq : Nat := 0
  /-- Flits sent and not acknowledged, oldest first; those to send again. -/
  replay : List Flit := []
  resend : List Flit := []
  tries : Nat := 0
  expect : Nat := 1
  nak : Bool := false
  stitches : List Flit := []
  packets : List Flit := []
  locals : List Flit := []
  credits : Tbl Credit := []
  rotate : Nat := 0
  /-- The channel trains alone, and is down (R342). -/
  down : Bool := false
deriving DecidableEq, Repr

/-- The eight bridges (08). -/
structure Bridges where
  st : Tbl BridgeState := []
  due : List Nat := []
  /-- Corrected errors in this epoch, by 2·n + direction (R324). -/
  ceEpoch : Tbl Nat := []
  /-- Wn channel directions, by 64·y + 2·c + toDie. -/
  dirs : Tbl WDir := []
  initTries : Tbl Nat := []
  /-- The channel that carried the latest LOCAL flit, by 2·y + toDie (R331). -/
  localTurn : Tbl Nat := []
  feedOk : List Bool := [true, true]
  /-- Mesh directions whose passing of 1,024 corrected errors in this epoch has been recorded, as in `ceEpoch` (R324). -/
  ceTold : List Nat := []
  /-- Bridges whose training results stand in retention SRAM (R316). -/
  trained : List Nat := []
  /-- Bridges whose test run a register write has ended, and whose checkers' counts are still to come (R355). -/
  testEnd : List Nat := []
deriving DecidableEq, Repr

/-! ### Optics -/

/-- A laser of bank P or S (09 R362-R366). -/
inductive LaserState where
  /-- Bias 0. -/
  | dark
  /-- Ramping, locking and qualifying in the dump path. -/
  | bringup
  /-- Qualified in the dump path. -/
  | ready
  /-- On the group bus. -/
  | bus
  /-- Failed, waiting for its retry. -/
  | failed
  /-- Marked dead (R366), or a spare that failed (R372). -/
  | dead
deriving DecidableEq, Repr

/-- Why a channel passes between its primary and its spare (09 R369, R370). -/
inductive Exchange where
  | handback | toSpare
deriving DecidableEq, Repr

/-- How far an exchange has come: it waits for free spare lanes, its lanes are moving to the spare lanes, its new light is checked and the lanes return (09 R368, R369). -/
inductive ExStage where
  | waiting | moving | checking
deriving DecidableEq, Repr

/-- The two 12-bit bias DACs of a laser, of BIAS_LO and of BIAS_HI (09 R362). -/
structure Bias where
  lo : BitVec 12 := 0#12
  hi : BitVec 12 := 0#12
deriving DecidableEq, Repr

/-- One channel of a laser group (09): both lasers, their bias ranges, the retries, the bank switch, and an exchange that is due or runs. -/
structure Channel where
  primary : LaserState := .dark
  spare : LaserState := .dark
  primaryHi : Bool := false
  spareHi : Bool := false
  /-- The bias DACs of both lasers, and a range change that is due and has not begun (R362, R370). -/
  primaryBias : Bias := {}
  spareBias : Bias := {}
  hiDue : Bool := false
  retries : Nat := 0
  cross : Bool := false
  /-- No working laser is left (R372). -/
  lost : Bool := false
  exchange : Option Exchange := none
  exchangeHeld : Bool := false
  stage : ExStage := .waiting
deriving DecidableEq, Repr

/-- A link shutter (09 R402, R404). -/
inductive Shutter where
  | closed | probe | opened
deriving DecidableEq, Repr

/-- A ring: its heater code, its correction, and its detuning estimate in units of 0.1 GHz (09 R373-R385). -/
structure RingH where
  code : Nat := 0
  corr : Int := 0
  est : Nat := 0
  /-- The code stands at 0 or 4,095, and 0x0905 is recorded (R376). -/
  edge : Bool := false
deriving DecidableEq, Repr

/-- A TIA gain range (09, Receivers). -/
inductive Gain where
  | hi | mid | lo
deriving DecidableEq, Repr

/-- A lane as calibration and the receiver see it (09 R383-R400). -/
structure LaneCal where
  gain : Gain := .mid
  retired : Bool := false
  urgent : Bool := false
  deferred : Bool := false
  overload : Bool := false
  overloadRetired : Bool := false
  /-- PRBS-31 runs on the new light of the lane (R365, R369). -/
  prbs : Bool := false
  /-- 0x0908 holds for the lane (R393). -/
  guardOut : Bool := false
deriving DecidableEq, Repr

/-- A lane being calibrated: link, lane, and whether it was moved for it (09 R390). -/
structure CalRun where
  link : Nat
  lane : Nat
  moved : Bool
deriving DecidableEq, Repr

/-- A laser group's calibration rotation (09 R389-R391). -/
structure CalGroup where
  run : Option CalRun := none
  /-- Lanes at the head of the queue (R383, R400). -/
  head : List (Nat × Nat) := []
  next : Tbl Nat := []
  last : Tbl Nat := []
deriving DecidableEq, Repr

/-- The laser-enable sequence (09 R403). -/
inductive EnableSeq where
  | idle | waiting | running
deriving DecidableEq, Repr

/-- A chiplet's baseline tables (09 R377-R382): the highest version burned, the versions whose CRC fails, the one in use. -/
structure Baseline where
  high : Nat := 0
  bad : List Nat := []
  use : Nat := 0
  due : Bool := false
  lastSeq : Nat := 0
  lastNs : Nat := 0
deriving DecidableEq, Repr

/-- One operand set of a reduce group (09 R409): the set index in the epoch, and its operands by member link. -/
structure OperandSet where
  set : Nat
  ops : Tbl (BitVec 2048)
deriving DecidableEq, Repr

/-- The optics of the package (09). Channels by 68·y + 17·g + k; rings by 34·link + 17·drop + k; lanes by 17·link + k; groups by 4·y + g. -/
structure Optics where
  channels : Tbl Channel := []
  shutters : Tbl Shutter := []
  rings : Tbl RingH := []
  lanes : Tbl LaneCal := []
  temps : Tbl Int := []
  groups : Tbl CalGroup := []
  base : Tbl Baseline := []
  /-- Table entries of a version that are not 0, by ((8·y + version)·1,088 + ring)·18 + entry. -/
  tables : Tbl Nat := []
  permit : Bool := false
  enable : EnableSeq := .idle
  /-- When the running enable sequence started (R403). -/
  enableAt : Nat := 0
  lit : Bool := false
  /-- When the power loops last ran (R362). -/
  loopAt : Nat := 0
  /-- Operand sets of a reduce engine that are not summed yet, by 2·block + engine. -/
  reduce : Tbl (List OperandSet) := []
deriving DecidableEq, Repr

/-! ### Lanes -/

/-- LN_STATE (10 R421). -/
inductive LnState where
  | off | detect | align | bitlock | frame | capx | active
deriving DecidableEq, Repr

/-- A planned move in one direction (10 R454-R458): the logical lane, its direction, its epoch, and whether it is acknowledged and was asked by this end. -/
structure Move where
  lane : Nat
  back : Bool
  epoch : Nat
  acked : Bool
  own : Bool
deriving DecidableEq, Repr

/-- Frame-lock search of one wavelength: good markers in a row, the latest FCNT and when it came (10 R435, R438). -/
structure Hunt where
  run : Nat := 0
  fcnt : Nat := 0
  time : Nat := 0
  /-- Bad markers in a row at the expected position of a wavelength in service (R443). -/
  bad : Nat := 0
deriving DecidableEq, Repr

/-- One end of a link, as its lanes see it (10). A lane map is the logical lane on the spare, 31 for none. -/
structure LinkLn where
  st : LnState := .off
  duty : Bool := false
  held : Bool := false
  attempts : Nat := 0
  /-- FOUND is being sent (R427); the partner's FOUND was found. -/
  found : Bool := false
  partnerFound : Bool := false
  phase2 : Bool := false
  frameTries : Nat := 0
  locked : BitVec 17 := 0#17
  /-- Wavelengths retired at this receiver, with frame lock, and urgent (LN_MAP). -/
  retired : BitVec 17 := 0#17
  rxLock : BitVec 17 := 0#17
  urgent : BitVec 17 := 0#17
  partnerRetired : BitVec 17 := 0#17
  partnerLock : BitVec 17 := 0#17
  hunt : Tbl Hunt := []
  spareCh : Nat := 16
  txSpare : Nat := 31
  rxSpare : Nat := 31
  rxReq : Nat := 31
  down : Bool := false
  /-- Sending frames (R414, R415, R448): the count of the frame, its next word, and the lane on the spare in it (none: every wavelength carries the idle frame). -/
  fcnt : Nat := 0
  word : Nat := 0
  frameMap : Option Nat := none
  txMove : Option Move := none
  rxMove : Option Move := none
  /-- Moves asked for and waiting until a request may be sent, transmit direction: lane and direction. -/
  want : List (Nat × Bool) := []
  /-- CAPX: the block last received, a good one taken, one with SEEN taken, blocks sent with SEEN = 1, consecutive returns. -/
  capLast : Option (BitVec 2048) := none
  capSeen : Bool := false
  capPartner : Bool := false
  capSent : Nat := 0
  capFails : Nat := 0
  cap : Option (BitVec 2048) := none
deriving DecidableEq, Repr

/-! ### The link layer -/

/-- How the link layer sees its link (11, LK_STATE). -/
inductive LkState where
  | out | inSched | down | rerouted
deriving DecidableEq, Repr

/-- A packet waiting or kept for replay (11 R472): its class, SEQ, and its row body without REPLAY. -/
structure Pkt where
  cls : Nat
  seq : Nat
  body : BitVec 2048
  /-- The Wn direction whose receive buffer it still holds, and whether with a header credit (08 R332). -/
  wn : Option (Nat × Bool) := none
deriving DecidableEq, Repr

/-- A stitch with its own index (11 R467). -/
structure Stitch where
  index : Nat
  body : BitVec 2048
deriving DecidableEq, Repr

/-- Credits of a class on a link direction pair (11 R484-R490): what the partner advertised, used and returned; received, freed and occupied here. -/
structure LkCredit where
  advH : Nat := 0
  advD : Nat := 0
  sentH : Nat := 0
  sentD : Nat := 0
  retH : Nat := 0
  retD : Nat := 0
  rcvdH : Nat := 0
  rcvdD : Nat := 0
  freeH : Nat := 0
  freeD : Nat := 0
  occH : Nat := 0
  occD : Nat := 0
deriving DecidableEq, Repr

/-- An epoch marker to send or received (12 R539), without the sender's fields. -/
structure Marker where
  kind : Nat
  flags : Nat
  epoch : Nat
  count : Nat
  arr : Nat
deriving DecidableEq, Repr

/-- Markers of one kind being repeated on a link (12 R543): the marker and the repeats sent. -/
structure Repeat where
  m : Marker
  sent : Nat
deriving DecidableEq, Repr

/-- One end of a link, as its link layer sees it (11). -/
structure LinkLk where
  st : LkState := .out
  carrying : Bool := false
  /-- Own stitches first sent and expected since the link entered the schedule (R467, R831), and each at cycle 0 of the epoch (R553). -/
  tx : Nat := 0
  rx : Nat := 0
  tx0 : Nat := 0
  rx0 : Nat := 0
  /-- Stitches of this epoch released into Wn, and stitch slots of this epoch that have passed (08 R339, R482). -/
  released : Nat := 0
  slotNo : Nat := 0
  /-- Stitches that arrived over Wn and wait for their slot, the stitch queue, and the replay buffer (R482, R501). -/
  ready : List (BitVec 2048) := []
  queue : List Stitch := []
  kept : List Stitch := []
  keptPkt : List Pkt := []
  pktReplay : List Pkt := []
  newPkt : List Pkt := []
  keptRr : List Stitch := []
  rrQueue : List Stitch := []
  /-- Stitches that went out poisoned and are still missing (R340). -/
  poison : List Nat := []
  txSeq : Nat := 0
  rxSeq : Nat := 0
  credits : Tbl LkCredit := []
  ctlNo : Nat := 0
  ctlSeen : Option Nat := none
  /-- A control row is due; it carries NAK; a NAK is outstanding with the points it named. -/
  ctlDue : Bool := false
  nakDue : Bool := false
  nakAt : Option (Nat × Nat × Nat) := none
  nakTime : Nat := 0
  accepted : Nat := 0
  retrainReq : Bool := false
  retrainDue : Bool := false
  /-- Of each stream whose replay timer expired, the point it was for and the expiries in a row (R500). -/
  expiries : Tbl (Nat × Nat) := []
  fullLogged : Bool := false
  /-- Rerouted stream of the twin as received here: expected index, and rows held until it arrives (R509). -/
  rrExpect : Option Nat := none
  rrHeld : List Stitch := []
  /-- M_L (R72), the stitches of this epoch that landed, and the latest landing cycle. -/
  ml : Nat := 0
  landed : Nat := 0
  lastLand : Nat := 0
  lateThis : Bool := false
  /-- Stitches accepted and not yet landed, oldest first: die-buffer address and body. -/
  landing : List (Nat × BitVec 2048) := []
  /-- Marker waiting for the next control row, and those being repeated. -/
  markers : List Marker := []
  repeats : List Repeat := []
  /-- FENCE is being sent and its partner's was taken (R553, R554). -/
  fencing : Bool := false
  fenced : Bool := false
  ackSt : Nat := 0
  rejoinAt : Option Nat := none
  /-- The epoch this end has proposed and the partner has not confirmed (R513). -/
  proposed : Option Nat := none
  /-- Kept out of the schedule by R546 or R547. -/
  barred : Bool := false
  tc3Only : Bool := false
deriving DecidableEq, Repr

/-! ### The fabric -/

/-- A Lace slot as the leader sees it (12 R535-R537): rounds in a row with REG = 1, the enrolment, the latest ready word. -/
structure LaceSlot where
  regRuns : Nat := 0
  enrolled : Bool := false
  word : Nat := 0
  /-- Arrival chunks read, by chunk. -/
  arr : Tbl Nat := []
deriving DecidableEq, Repr

/-- The fabric state of the package (12). -/
structure Fab where
  lace : Tbl LaceSlot := []
  /-- READYs of the children, by link. -/
  children : Tbl Marker := []
  sentReady : Option Nat := none
  sentRelease : Option Nat := none
  /-- STOP is set in the ready word (R558). -/
  stopped : Bool := false
  /-- The package takes the epoch number of the next release (R528, R560). -/
  adopt : Bool := false
  /-- (TAG, PART) of accepted packets by pair of twin links, newest first (R565). -/
  window : Tbl (List (Nat × Nat)) := []
  /-- A release whose words below RELEASE_HI have arrived on the Lace line (R538). -/
  part : Option Release := none
deriving DecidableEq, Repr

/-! ### Bring-up -/

/-- How a start stands (15 R655, BOOT_STATUS.STAGE; R673), and a package that only a cold reset recovers. -/
inductive Phase where
  | heldReset
  | stage (n : Fin 5)
  | started
  | sole
  | waitRetry
  | shankFailed
  /-- No standby at an active fault, after the boundary step that stopped the islands (16, Takeover). -/
  | headless
deriving DecidableEq, Repr

/-- A stage report (15 R662); `detail` is DETAIL as a little-endian number. -/
structure Report where
  stage : Nat
  result : Nat
  code : Nat
  notes : Nat
  warm : Bool
  attempt : Nat
  start : Nat
  finish : Nat
  bootSeq : Nat
  loc : Loc
  detail : Nat
deriving DecidableEq, Repr

/-- UPD_STATE (18 R823, R824). -/
inductive UpdState where
  | idle | erasing | erased
deriving DecidableEq, Repr

/-- The boot record, as the shank holds it; its copies in flash are State.nor's (15 R671, 18 R818). -/
structure BootRec where
  sel : Bool := false
  prev : Bool := false
  trial : Bool := false
  fails : Nat := 0
  seq : Nat := 0
  lastCode : Nat := 0
  failed : List Report := []
  updSlot : Bool := false
  updState : UpdState := .idle
deriving DecidableEq, Repr

/-- A copy of a record in flash, ended by RSEQ and a CRC-32 (18 R817). -/
structure RecCopy (α : Type) where
  body : α
  rseq : Nat
  crc : Nat
deriving DecidableEq, Repr

/-- The two copies of a record; none where one is erased (18 R816, R817). -/
structure RecPair (α : Type) where
  copy0 : Option (RecCopy α) := none
  copy1 : Option (RecCopy α) := none
deriving DecidableEq, Repr

/-- A mark entry of the key record: slot, MARK_k and its CRC-32 (18 R819). -/
structure MarkEnt where
  slot : Nat
  mark : Nat
  crc : Nat
deriving DecidableEq, Repr

/-- A record to be written: the boot record, or the health record (18 R825). -/
inductive RecWrite where
  | boot (r : BootRec)
  | health (t : Tbl (Nat × Nat))
deriving DecidableEq, Repr

/-- The records in the external flash (18 R815-R819, R825). The sealed block of the key record holds State.cmd.keys. -/
structure Nor where
  boot : RecPair BootRec := {}
  health : RecPair (Tbl (Nat × Nat)) := {}
  /-- The key record sector in use, and the mark entries programmed into it. -/
  keySec : Bool := false
  marks : List MarkEnt := []
  /-- The device advertises erase suspend (SFDP); an erase stands suspended for a store; a store, and record writes, that wait for an erase to end; 0x1209 was recorded in this start. -/
  suspends : Bool := true
  suspended : Bool := false
  storeWaits : Bool := false
  waits : List RecWrite := []
  told : Bool := false
deriving DecidableEq, Repr

/-- PKG_DIE_IDENT_n (01 R25). -/
structure Ident where
  rot : Nat := 0
  mirror : Bool := false
  next : Nat := 0
  prev : Nat := 0
  yz : Nat := 0
  host : Bool := false
  role : Nat := 0
  st : Nat := 0
  fault : Nat := 0
deriving DecidableEq, Repr

/-- BOOT_ROWMAP_n bits 5:0 (15 R688). -/
structure RowMap where
  row : Nat := 0
  src : Nat := 0
deriving DecidableEq, Repr

/-- A stage in progress (15 R662). -/
structure StageRun where
  start : Nat := 0
  notes : Nat := 0
deriving DecidableEq, Repr

/-- Bring-up (15, 01). -/
structure Boot where
  phase : Phase := .heldReset
  warm : Bool := false
  fallback : Bool := false
  slotB : Bool := false
  /-- TRIAL firmware failed: 0x0F04 is due at the next attempt (R673). -/
  trialFailed : Bool := false
  record : BootRec := {}
  /-- BOOT_FAILS and BOOT_SEQ in shank retention SRAM, while the boot record cannot be written (R672). -/
  carried : Option (Nat × Nat) := none
  cur : StageRun := {}
  reports : Tbl Report := []
  ident : Tbl Ident := []
  rowmap : Tbl RowMap := []
  /-- Islands that run: 44·die + k for k < 44, 176 + 12·chiplet + k (01, Clock islands). -/
  islands : List Nat := []
  /-- A retention record set exists, kept from the previous passed start (R660). -/
  retention : Bool := false
  portB : Bool := false
  /-- The strap value of the die at each place; none where its samples differ (01 R19). -/
  straps : List (Option Nat) := []
  /-- Stages that a warm start runs in their cold form (R660). -/
  coldForm : List Nat := []
deriving DecidableEq, Repr

/-- The fuses (15 R692). -/
structure Fuses where
  variant : Nat
  watts : Nat
  mhz : Nat
  serial : Nat
  rootPk : Nat
  sealKey : List Byte
  transport : List Byte
  spent : Bool
  factory : Bool
  usedP2 : Bool
  ident : Tbl Nat
  yzRev : Tbl Nat
  rowSpare : Tbl Nat
  /-- The copies of VARIANT on the dies, and the fuse revision that the stage 0 report gives (R663). -/
  varcopy : List Nat
  rev : Nat
deriving DecidableEq, Repr

/-! ### Shanks, management and debug -/

/-- A shank pair (16). -/
inductive Pair where
  | running | halted | reset | dead
deriving DecidableEq, Repr

/-- SHK_STATE.STANDBY (16). -/
inductive Standby where
  | none | resync | inStep | failed
deriving DecidableEq, Repr

/-- The shanks (16). -/
structure Shanks where
  pairs : Tbl Pair := []
  /-- Pairs halted by the awl, and since when (18 R807). -/
  awlHalt : Tbl Nat := []
  activeP2 : Bool := false
  standby : Standby := .none
  standbyP0 : Bool := false
  feedToP0 : Bool := false
  lastCode : Nat := 0
  fails : Nat := 0
  /-- The cause of a takeover whose FAULT mark is in the feed, and one promoted whose first output is still to come. -/
  fault : Option Nat := none
  promoted : Option Nat := none
  headless : Bool := false
  /-- Inputs held in the input gate, in order of arrival (R718). -/
  gate : List GateIn := []
  /-- Since when no standby has been in step (R732 bit 2). -/
  lostSince : Nat := 0
deriving DecidableEq, Repr

/-- A calibration record (16 R729): its refresh count and the bytes of one refresh. -/
structure CalRec where
  seq : Nat := 0
  bytes : List Byte := []
deriving DecidableEq, Repr

/-- MGT_FLASH_STATUS bits 2:0 (18). -/
inductive FlashSt where
  | idle | erasing | erased | writing | verifying | failed
deriving DecidableEq, Repr

/-- A firmware slot in flash (18 R820): its STATE word, its version, and its bytes where not 0xFF. -/
structure FSlot where
  state : Word := 0xFFFFFFFF#32
  bytes : Tbl Byte := []
deriving DecidableEq, Repr

/-- The update engine and the flash (18 R815-R827). -/
structure Flash where
  slotA : FSlot := {}
  slotB : FSlot := {}
  st : FlashSt := .idle
  slot : Bool := false
  sector : Nat := 0
  code : Nat := 0
  /-- The interface of the session in progress, true for MCTP (R822). -/
  session : Option Bool := none
  /-- A sector's erase has ended while the active pair is halted: the next instruction waits (R813). -/
  stalled : Bool := false
  buf : Tbl Byte := []
  readOnly : Bool := false
deriving DecidableEq, Repr

/-- A lock (18 R811): its holder, whether 0x1204 was recorded for the hold, how long the holder has been halted in ended halts of the hold, a former holder to refuse (R812), and the port through which the host took it (R814). -/
structure Lock where
  holder : Option Nat := none
  told : Bool := false
  halted : Nat := 0
  refuse : Option Nat := none
  port : Nat := 0
deriving DecidableEq, Repr

/-- The instructions of the awl TAP (18 R802). -/
inductive Tap where
  | bypass | idcode | sample | extest | awlCmd
deriving DecidableEq, Repr

/-- An MCTP answer waiting to be sent and the arbitrations it lost (18 R788). -/
structure Answer where
  status : Nat
  bytes : List Byte
  losses : Nat := 0
  start : Nat := 0
deriving DecidableEq, Repr

/-- Dark-idle (17 R766-R769). -/
inductive Dark where
  | awake | entered | idle | leaving | tiles
deriving DecidableEq, Repr

/-- Management, debug and the environment (16-18, 21). -/
structure Mgt where
  staging : List Event := []
  pendingLost : Nat := 0
  evtNext : Nat := 0
  evtAck : Nat := 0
  evtLog : Tbl EvRec := []
  eid : Nat := 0
  smbAddr : Nat := 0
  /-- A message is under assembly (R782). -/
  assembling : Bool := false
  answers : List Answer := []
  sensors : Tbl Int := []
  locks : Tbl Lock := []
  tap : Tap := .idcode
  replace : BitVec 7 := 0#7
  replaceLow : Bool := false
  /-- P1 or P2 drives REPLACE_N on its own (16 R722 section, 15 R673 section). -/
  replaceForced : Bool := false
  laneLinks : Nat := 0
  /-- Since when 4 or fewer links have met LANES while its trigger still holds (16 R732). -/
  lanesLow : Option Nat := none
  calRecs : Tbl CalRec := []
  /-- Re-burn history of the health record: BOOT_SEQ and time by 8·y + version (16 R731). -/
  health : Tbl (Nat × Nat) := []
  dieTemps : Tbl Int := []
  yzTemps : Tbl Int := []
  stackTemps : Tbl Int := []
  dark : Dark := .awake
  /-- A warm reset has been asked for; its sequence runs (17 R743, R744). -/
  warmDue : Bool := false
  /-- RESET_N is low; a rail is below its tolerance (21 R885). -/
  resetLow : Bool := true
  railLow : Bool := false
deriving DecidableEq, Repr

/-- The state of the package. -/
structure State where
  clk : Clock := {}
  abort : Option Abort := none
  /-- The epoch number aborted last and how often in a row (17 R761); a trigger held during a pause, by its first code, and whether one was 0x1101 (R752, R757). -/
  abortRun : Nat × Nat := (0, 0)
  abortHeld : Option (Nat × Bool) := none
  regs : Tbl Word := []
  pend : List Pend := []
  banks : Tbl Bank := []
  mem : Mem := []
  memErr : Tbl WordErr := []
  tiles : Tbl Tile := []
  seqs : Tbl RowSeq := []
  /-- The parts of transfers still to come in this epoch, and the bits of write-1-to-clear words set in this cycle (20 R845). -/
  work : List Job := []
  setNow : Tbl Word := []
  /-- The register words written in this cycle, with the rank of the last source in the order port A, port B, MCTP, awl (20 R848). -/
  wrote : Tbl Nat := []
  hbm : Hbm := {}
  ctx : Ctx := {}
  sync : Sync := {}
  cmd : Cmd := {}
  host : HostIf := {}
  br : Bridges := {}
  opt : Optics := {}
  ln : Tbl LinkLn := []
  lk : Tbl LinkLk := []
  fab : Fab := {}
  fuse : Fuses
  boot : Boot := {}
  shk : Shanks := {}
  flash : Flash := {}
  nor : Nor := {}
  mgt : Mgt := {}
  /-- The model's own: the free-value counter, what the package has sent, and the commands that wait. -/
  freeNext : Nat := 0
  out : List Out := []
  pending : List Instr := []
deriving DecidableEq, Repr

/-- The fuses of the part (15 R692): the CZ4-750 figures of 00; the contents that the spec leaves to the factory are the model's (notes/assumptions/14). -/
def Fuses.factoryPart : Fuses :=
  { variant := 0, watts := 750, mhz := 1500, serial := 0, rootPk := 0, sealKey := [], transport := [],
    spent := false, factory := true, usedP2 := false, ident := [], yzRev := [], rowSpare := [],
    varcopy := [0, 0, 0, 0], rev := 0 }

/-- The package with RESET_N held low (17, Power-up and cold reset): every register at its cold value, every output in its power-up state, the queue empty. -/
def State.reset : State := { fuse := Fuses.factoryPart }

end Sys2Proof.Machine
end

