-- ==== Sys2Proof/Machine/Ops.lean ====
section
/-! DEFINITION. The named operations that the meanings share: register words, counters, events, abort triggers, outputs, tiles, sequencers and time (00, 17 R752-R753, 18 R795-R799, 19 R828-R830, 20). -/

namespace Sys2Proof.Machine

/-- The outcome of a command. -/
abbrev Res := Host.Outcome State Fault Refusal

/-! ### Block bases (00, register blocks) -/

def hifBase : Nat := 0x100000
def cmdBase : Nat := 0x200000
def ctxBase : Nat := 0x300000
def bootBase : Nat := 0x400000
def memBase : Nat := 0x500000
def sbrBase : Nat := 0x600000
def yzBase (y : Nat) : Nat := 0x800000 + 0x100000 * y
def fabBase : Nat := 0xC00000
def tilBase (n : Nat) : Nat := 0xD00000 + 0x40000 * n
def mgtBase : Nat := 0xE00000

/-- The tile registers of logical tile `t` (20 R860). -/
def tileReg (t : Nat) : Nat := tilBase (t / 32) + 0x10000 + 0x400 * (t % 32)
/-- The lane and link-layer registers of a link: 32 ports a chiplet. -/
def lnReg (l : Nat) : Nat := yzBase (l / 32) + 0x20000 + 0x1000 * (l % 32)
def lkReg (l : Nat) : Nat := yzBase (l / 32) + 0x40000 + 0x1000 * (l % 32)
/-- The set-up of ring `q` and the window of VF `v` (13). -/
def ringReg (q : Nat) : Nat := hifBase + 0x10000 + 0x40 * q
def vfReg (v : Nat) : Nat := hifBase + 0x1000 + 0x20 * v

/-! ### Register words -/

/-- CTX_BASE_n after a cold reset (20, CTX_BASE_n). -/
def coldCtxBase (n : Nat) : Nat := 0x1200000000 * n + 0x8F8000000

/-- The cold value of a stored register word, by its BAR0 offset; 0 where no map names another (13, 20 and the register tables of 02-18). -/
def coldWord (off : Nat) : Word :=
  if off = hifBase then 0x0A00#32
  else if off = hifBase + 0x44 ∨ off = hifBase + 0x4C then 0x80000000#32
  else if hifBase + 0x10000 ≤ off ∧ off < hifBase + 0x50000 ∧ off % 0x40 = 0x10 then 0x0606#32
  else if ctxBase + 0x100 ≤ off ∧ off < ctxBase + 0x120 then
    let n := (off - ctxBase - 0x100) / 8
    BitVec.ofNat 32 (if off % 8 = 0 then coldCtxBase n else coldCtxBase n / 2 ^ 32)
  else if ctxBase + 0x120 ≤ off ∧ off < ctxBase + 0x130 then 8#32
  else if 0x800000 ≤ off ∧ off < 0xC00000 then
    let o := off % 0x100000
    if o = 0x10 then 0x0A01#32
    else if 0x20000 ≤ o ∧ o < 0x40000 ∧ o % 0x1000 = 0x10 then 0x1001#32
    else if 0x40000 ≤ o ∧ o < 0x60000 ∧ o % 0x1000 = 0x10 then 3#32
    else if 0x40000 ≤ o ∧ o < 0x60000 ∧ o % 0x1000 = 0x44 then 0xFFFFFFFF#32
    else 0#32
  else if off = fabBase + 0x1C ∨ off = fabBase + 0x30 then 1#32
  else if off = fabBase + 0x34 then 0x32#32
  else if off = fabBase + 0x38 then 0x14#32
  else if 0xD00000 ≤ off ∧ off < 0xE00000 then
    let o := off % 0x40000
    if 0x10000 ≤ o ∧ o < 0x18000 ∧ o % 0x400 = 0x10 then 1#32
    else if 0x10000 ≤ o ∧ o < 0x18000 ∧ o % 0x400 = 0x14 then 0x3727C5AC#32
    else 0#32
  else 0#32

namespace State

/-- A stored register word. -/
def word (s : State) (off : Nat) : Word := (s.regs.find off).getD (coldWord off)

/-- Set a stored register word; a word at its cold value is not listed. -/
def setWord (s : State) (off : Nat) (w : Word) : State :=
  { s with regs := s.regs.set (coldWord off) off w }

/-- A stored 64-bit register. -/
def dword (s : State) (off : Nat) : Nat := (s.word off).toNat + 2 ^ 32 * (s.word (off + 4)).toNat

/-- Set a stored 64-bit register. -/
def setDword (s : State) (off v : Nat) : State :=
  (s.setWord off (BitVec.ofNat 32 v)).setWord (off + 4) (BitVec.ofNat 32 (v / 2 ^ 32))

/-- Bits lo to lo + w − 1 of a stored word. -/
def bits (s : State) (off lo w : Nat) : Nat := (s.word off).toNat / 2 ^ lo % 2 ^ w

/-- Add to a 64-bit counter. -/
def addDword (s : State) (off k : Nat) : State := s.setDword off (s.dword off + k)

/-- The `n` bytes from `a` read 0, and no error is stored in their words. -/
def zeroRange (s : State) (a n : Nat) : State :=
  { s with mem := s.mem.clear a n, memErr := s.memErr.filter (fun e => !decide (a ≤ 32 * e.1 ∧ 32 * e.1 < a + n)) }

/-! ### Events (18 R795-R799) -/

/-- A failed stage's own code is in its record; every other code of a stage is a note (15 R662). -/
def addNote (s : State) : State :=
  match s.boot.phase with
  | .stage _ => { s with boot := { s.boot with cur := { s.boot.cur with notes := min (s.boot.cur.notes + 1) 0xFFFF } } }
  | _ => s

/-- The source of an event in the order of R798: dies P0-P3, then chiplets Y0-Y3. -/
def locRank (l : Loc) : Nat :=
  match l.kind with
  | 1 => l.unit
  | 2 => 4 + l.unit
  | 3 => l.unit / 2
  | 4 => l.unit % 8
  | 5 => 4 + l.unit / 32
  | 6 => l.unit
  | _ => 0

/-- Insert an event behind the earlier ones, and among those of its cycle by source and code (R798). -/
def insertEvent (e : Event) : List Event → List Event
  | [] => [e]
  | x :: t =>
    if x.time = e.time ∧ x.sub = e.sub ∧ (locRank e.loc < locRank x.loc ∨ locRank e.loc = locRank x.loc ∧ e.code < x.code) then e :: x :: t
    else x :: insertEvent e t

/-- Put an event in the staging queue (R798); one that finds it full is dropped and counted (R799). -/
def stageEvent (s : State) (e : Event) : State :=
  if s.mgt.staging.length < 64 then { s with mgt := { s.mgt with staging := insertEvent e s.mgt.staging } }
  else
    let off := mgtBase + 0x3014
    let w := s.word off
    let s := { s with mgt := { s.mgt with pendingLost := min (s.mgt.pendingLost + 1) 0xFFFF } }
    if w = 0xFFFFFFFF#32 then s else s.setWord off (w + 1#32)

/-- Record a code with its location and DETAIL (R795, R796); a 0x10xx code is also SHK_STATE.LAST_CODE (16, Registers). -/
def recordFatal (s : State) (code : Nat) (loc : Loc := {}) (detail : Nat := 0) : State :=
  let s := if code / 256 = 0x10 then { s with shk := { s.shk with lastCode := code } } else s
  s.stageEvent ⟨s.clk.now, s.clk.sub, s.clk.epoch, code, loc, detail⟩

/-- Record a code, counted among the notes of a running stage. -/
def record (s : State) (code : Nat) (loc : Loc := {}) (detail : Nat := 0) : State :=
  (s.recordFatal code loc detail).addNote

/-! ### Counters (19 R829, R830) -/

/-- Add to a saturating 32-bit counter; reaching 2^32 − 1 records 0x1301 with its BAR0 offset. -/
def bumpBy (s : State) (off k : Nat) : State :=
  let v := (s.word off).toNat
  let v' := min (v + k) 0xFFFFFFFF
  let s := s.setWord off (BitVec.ofNat 32 v')
  if v < 0xFFFFFFFF ∧ v' = 0xFFFFFFFF then s.record 0x1301 {} off else s

/-- Add one to a saturating 32-bit counter. -/
def bump (s : State) (off : Nat) : State := s.bumpBy off 1

/-- A register write that is refused or dropped (20 R908). -/
def hifDrop (s : State) : State := s.bump (hifBase + 0x20)

/-! ### Outputs -/

/-- Note an output of the package (notes/assumptions/6). -/
def emit (s : State) (o : Out) : State := { s with out := s.out ++ [o] }

/-! ### Time and epochs -/

/-- N, the core cycles of an epoch (02 R63). -/
def epochN (s : State) : Nat := 2 ^ s.clk.ek

/-- The check point C (02, The epoch boundary). -/
def checkC (s : State) : Nat := s.epochN - s.clk.afab - 64

/-- The package has started and its epochs run. -/
def started (s : State) : Bool := s.boot.phase == .started

/-- Stages 0 to 3, and sole mode, answer only three blocks (15 R667, R701). -/
def onlyCore (s : State) : Bool :=
  match s.boot.phase with
  | .started => false
  | _ => true

/-! ### Abort triggers (17 R752, R753) -/

/-- Raise an abort trigger with its code, already recorded: it aborts the current epoch; during recovery it starts no second abort; during a pause, the wait for the rerun included, it is held until cycle 0 of the epoch that follows. -/
def trigger (s : State) (code : Nat) : State :=
  let hot := code == 0x1101
  let held := match s.abortHeld with
    | some h => { s with abortHeld := some (h.1, h.2 || hot) }
    | none => { s with abortHeld := some (code, hot) }
  if !s.started then s
  else match s.abort with
    | some a => if a.recovered then held else { s with abort := some { a with thermal := a.thermal || hot } }
    | none =>
      if s.clk.pauseFrom.isSome then held
      else { s with abort := some { epoch := s.clk.epoch, code := code, start := s.clk.now, thermal := hot } }

/-- Record a code and raise its abort trigger. -/
def abortWith (s : State) (code : Nat) (loc : Loc := {}) (detail : Nat := 0) : State :=
  (s.record code loc detail).trigger code

/-! ### Tiles and sequencers -/

/-- A logical tile as held. -/
def tile (s : State) (t : Nat) : Tile := s.tiles.get {} t
/-- Replace a logical tile. -/
def setTile (s : State) (t : Nat) (x : Tile) : State := { s with tiles := s.tiles.set {} t x }
/-- A row sequencer. -/
def seq (s : State) (r : Nat) : RowSeq := s.seqs.get {} r
/-- Replace a row sequencer. -/
def setSeq (s : State) (r : Nat) (x : RowSeq) : State := { s with seqs := s.seqs.set {} r x }

/-- The physical row of a logical row of its die (01 R31, R32): the rows above the bypassed one move up. -/
def physRow (s : State) (r : Nat) : Nat :=
  let byp := match s.boot.rowmap.find (r / 8) with
    | some m => m.row
    | none => 8
  if r % 8 < byp then r % 8 else r % 8 + 1

/-- The tile of a row and a column (01 R32). -/
def tileOf (row col : Nat) : Nat := 4 * row + col
/-- Its row, 0 to 31, and its die. -/
def rowOf (t : Nat) : Nat := t / 4
def dieOf (t : Nat) : Nat := t / 32

/-- Whether a row is in serving mode (20, TIL_ROW_MODE). -/
def serving (s : State) (r : Nat) : Bool := s.bits (tilBase (r / 8) + 0x10) (r % 8) 1 == 1

/-- The location of a run-time event of a tile (18 R909); `q` is a quarter in serving mode. -/
def tileLoc (s : State) (t : Nat) (q : Option Nat) : Loc :=
  { kind := 6, unit := dieOf t, a := s.physRow (rowOf t), b := t % 4, c := match q with | some q => q + 1 | none => 0 }

/-- DETAIL of a tile event (18 R909). -/
def tileDetail (t : Nat) : Nat := t + 256 * (rowOf t % 8)

/-- The cycle in which sequencers issue: a started package, from cycle 16 to the end of the epoch (02 R91, R94). -/
def inEpoch (s : State) : Bool :=
  s.started && decide (16 ≤ s.clk.cycle) && decide (s.clk.cycle < s.epochN)

/-- No abort has stopped the sequencers (17 R755). -/
def notStopped (s : State) : Bool :=
  match s.abort with
  | some a => !a.taken
  | none => true

/-- Whether a word of a row issues now: its sequencer runs, in the epoch, outside an abort. -/
def issues (s : State) (r : Nat) : Bool := s.inEpoch && s.notStopped && (s.seq r).running

/-! ### A halted active pair (18 R807, R808, R810) -/

/-- The die of the active shank. -/
def activePos (s : State) : Nat := if s.shk.activeP2 then 2 else 0

/-- The awl holds the pair of a die halted. -/
def awlHalted (s : State) (n : Nat) : Bool := (s.shk.awlHalt.find n).isSome

/-- The awl holds the active pair halted: what the shank runs waits. -/
def activeHalted (s : State) : Bool := s.awlHalted s.activePos

/-! ### One core cycle (notes/assumptions/2) -/

/-- The length of a core cycle in 1/273 ns: 1,500, 1,300 and 1,050 MHz (00 R4). -/
def cycle273 (s : State) : Nat :=
  match s.fuse.variant with
  | 0 => 182
  | 1 => 210
  | _ => 260

/-- One core cycle passes: time advances, and the cycle in the epoch up to N, where the boundary waits (02 R63, R94). A package held in reset keeps no time (00 R10). -/
def tick (s : State) : State :=
  if s.boot.phase = .heldReset then s
  else
    let t := s.clk.sub + s.cycle273
    let c := { s.clk with now := s.clk.now + t / 273, sub := t % 273, settle := s.clk.settle - 1 }
    if s.started && decide (s.clk.cycle < s.epochN) then
      let c := { c with cycle := c.cycle + 1 }
      if c.cycle = s.epochN then { s with clk := { c with pauseFrom := some c.now } } else { s with clk := c }
    else { s with clk := c }

end State

end Sys2Proof.Machine
end

