-- ==== Sys2Proof/Machine/Memory.lean ====
section
/-! DEFINITION. The package address map, its decode, and reads and writes of memory with their error words (06 R222-R226, R251-R253, 03 R128). -/

namespace Sys2Proof.Machine

/-- What a package physical address reaches (06, The package address map). -/
inductive Place where
  | hbm (stack : Nat)
  | dbuf (die : Nat)
  | scratch (tile : Nat)
  | unmapped
deriving DecidableEq, Repr

/-- The bases of the map. -/
def dbufAddr (n : Nat) : Nat := 0x10000000000 + 0x4000000 * n
def scratchAddr (t : Nat) : Nat := 0x20000000000 + 0x400000 * t
def stackAddr (h : Nat) : Nat := 0x900000000 * h

/-- The place of an address. -/
def placeOf (a : Nat) : Place :=
  if a < 8 * 0x900000000 then .hbm (a / 0x900000000)
  else if 0x10000000000 ≤ a ∧ a < 0x10000000000 + 4 * 0x4000000 then .dbuf ((a - 0x10000000000) / 0x4000000)
  else if 0x20000000000 ≤ a ∧ a < 0x20000000000 + 128 * 0x400000 then .scratch ((a - 0x20000000000) / 0x400000)
  else .unmapped

/-- The channel group of an HBM3E address, 4·stack + group (06 R222). -/
def groupOf (a : Nat) : Nat := a / 0x240000000

/-- The decoded parts of an HBM3E address (06, Address decode). -/
structure HAddr where
  chan : Nat
  sid : Nat
  bg : Nat
  bank : Nat
  row : Nat
  col : Nat
deriving DecidableEq, Repr

/-- The decode of R226. -/
def hbmDecode (a : Nat) : HAddr :=
  let o := a % 0x240000000
  let run := o / 2048
  let l := 2048 * (run / 4) + o % 2048
  { chan := 4 * groupOf a + run % 4, sid := l / 805306368, bg := l / 2048 % 4, bank := l / 8192 % 4,
    row := l % 805306368 / 32768, col := l / 64 % 32 }

/-- The address of a decoded unit: the inverse of `hbmDecode`. -/
def hbmEncode (h : HAddr) : Nat :=
  let l := 805306368 * h.sid + 32768 * h.row + 8192 * h.bank + 2048 * h.bg
  0x240000000 * (h.chan / 4) + 2048 * (4 * (l / 2048) + h.chan % 4) + 64 * h.col

/-- The location of an HBM3E row (15 R662 LKIND 3). -/
def hbmLoc (a : Nat) : Loc :=
  let d := hbmDecode a
  { kind := 3, unit := a / 0x900000000, a := d.chan % 16, b := d.sid, c := d.row }

/-- The address of the MEM_ECC_CE counter of a channel, 16·stack + channel (06). -/
def eccReg (chan : Nat) : Nat := memBase + 0x1000 + 4 * chan

namespace State

/-- Put the row of an address on the pending-repair list (06 R252-R254). -/
def addRepair (s : State) (a : Nat) : State :=
  if s.hbm.repairs.contains (a / 2048) then s
  else { s with hbm := { s.hbm with repairs := s.hbm.repairs ++ [a / 2048] } }

/-- A corrected error in an HBM3E row (06 R251, R252). -/
def correctHbm (s : State) (a : Nat) : State :=
  let s := s.bump (eccReg (hbmDecode a).chan)
  let n := s.hbm.rowCe.get 0 (a / 2048) + 1
  let s := { s with hbm := { s.hbm with rowCe := s.hbm.rowCe.set 0 (a / 2048) n } }
  if n = 3 then (s.record 0x060A (hbmLoc a)).addRepair a else s

/-- What reading a word with a stored error does, by where it lies (03 R128, 06 R250-R253). -/
def wordError (s : State) (e : Nat × WordErr) : State :=
  let a := 32 * e.1
  match placeOf a, e.2 with
  | .hbm _, .single => s.correctHbm a
  | .hbm _, .double => (s.addRepair a).abortWith 0x0603 (hbmLoc a)
  | .dbuf _, .single => s
  | .dbuf n, .double => s.abortWith 0x0604 { kind := 1, unit := n }
  | .scratch t, .single => s.bump (tileReg t + 8)
  | .scratch t, .double =>
    let q := if s.serving (rowOf t) then some (a % 0x400000 / 0x100000) else none
    s.abortWith 0x0306 (s.tileLoc t q) (tileDetail t)
  | .unmapped, _ => s

/-- The effects of reading `n` bytes from an address: its stored errors are met. -/
def touch (s : State) (a n : Nat) : State :=
  (s.memErr.filter (fun e => decide (a / 32 ≤ e.1 ∧ 32 * e.1 < a + n))).foldl wordError s

/-- The bytes at an address. -/
def peek (s : State) (a n : Nat) : List Byte := s.mem.bytes a n

/-- Store bytes; every word written is encoded anew (03 R128). DESIGN CHOICE: a write of only part of a 32 B word encodes the whole word anew too, so that an error stored in it is gone (notes/assumptions/68). -/
def poke (s : State) (a : Nat) (bs : List Byte) : State :=
  { s with
    mem := s.mem.setBytes a bs
    memErr := s.memErr.filter (fun e => !decide (a / 32 ≤ e.1 ∧ 32 * e.1 < a + bs.length)) }

/-- Move bytes: read with its errors, then write. -/
def move (s : State) (src dst n : Nat) : State :=
  let bs := s.peek src n
  (s.touch src n).poke dst bs

end State

end Sys2Proof.Machine
end

