-- ==== Sys2Proof/Machine/Flags.lean ====
section
/-! DEFINITION. The sticky flags of a tile: TIL_ACC_FLAGS and TIL_NUM_FLAGS (03 R131, 04 R187, R926, 20 TIL). -/

namespace Sys2Proof.Machine

/-- Set bits of a write-1-to-clear word; what is set in a cycle stays set through a write of that cycle (04 R188, 20 R845). -/
def State.orWord (s : State) (off : Nat) (m : Word) : State :=
  { s.setWord off (s.word off ||| m) with setNow := s.setNow.set 0#32 off (s.setNow.get 0#32 off ||| m) }

/-- Clear the bits of a W1C word that a write names, but those set in this cycle (04 R188, 20 R845). -/
def State.clearBits (s : State) (off : Nat) (m : Word) : State := s.setWord off (s.word off &&& ~~~(m &&& ~~~(s.setNow.get 0#32 off)))

/-- The quarter whose flags an event of an array unit sets: unit 4, the full array, sets those of quarter 0 (04 R187, 20 TIL_ACC_FLAGS). -/
def flagQuarter (u : Nat) : Nat := if u = 4 then 0 else u

/-- A saturating INT32 addition of a unit (03 R131). -/
def State.flagSat (s : State) (t u : Nat) : State := s.orWord (tileReg t) (BitVec.ofNat 32 (2 ^ flagQuarter u))

/-- The four flags of TIL_NUM_FLAGS (04 R187). -/
structure NumFlags where
  nv : Bool := false
  ovf : Bool := false
  nan : Bool := false
  mxn : Bool := false
deriving DecidableEq, Repr

/-- The flags as the bits of one quarter. -/
def NumFlags.bits (f : NumFlags) : Nat :=
  (if f.nv then 1 else 0) + (if f.ovf then 2 else 0) + (if f.nan then 4 else 0) + (if f.mxn then 8 else 0)

/-- Either of two sets of flags. -/
def NumFlags.or (a b : NumFlags) : NumFlags :=
  { nv := a.nv || b.nv, ovf := a.ovf || b.ovf, nan := a.nan || b.nan, mxn := a.mxn || b.mxn }

/-- Set TIL_NUM_FLAGS bits of a unit's quarter. -/
def State.flagNum (s : State) (t u : Nat) (f : NumFlags) : State :=
  s.orWord (tileReg t + 4) (BitVec.ofNat 32 (f.bits * 2 ^ (4 * flagQuarter u)))

/-- The flags of a conversion of one lane (04 R187, R926). -/
def CvtRes.flags (r : CvtRes) : NumFlags := { nv := r.nv, ovf := r.ovf }

end Sys2Proof.Machine
end

