-- ==== Sys2Proof/Machine/Operands.lean ====
section
/-! DEFINITION. The operand forms of sequencer words: which tiles, quarters and lanes a word acts on, vector registers, array operand lines and weight blocks (03 R114, R118-R122, R912, R918; 04 R161-R164, R906). -/

namespace Sys2Proof.Machine

/-! ### Fields of words -/

/-- Bits `lo` to `lo + n - 1` of a word. -/
def eb (w lo n : Nat) : Nat := w / 2 ^ lo % 2 ^ n

/-- A word has the given values in the given fields: lowest bit, width, value. -/
def wordHas (l : List (Nat × Nat × Nat)) (w : Nat) : Bool := l.all (fun f => eb w f.1 f.2.1 == f.2.2)

/-- The slots of a sequencer word, by their operation field (03, word layout). -/
inductive Slot where
  | arr | vec | mov
deriving DecidableEq, Repr

/-- Where the operation of a slot stands, and its width. -/
def Slot.lo : Slot → Nat
  | .arr => 32
  | .vec => 64
  | .mov => 96
def Slot.width : Slot → Nat
  | .vec => 6
  | _ => 4

/-- A word with the operation of a slot set to none. -/
def Slot.clear (k : Slot) (w : Nat) : Nat := w - eb w k.lo k.width * 2 ^ k.lo

/-- A word's CTL operation (03, word layout). -/
def isCtl (op : Nat) (w : Nat) : Bool := wordHas [(16, 4, op)] w
def isCtlArg (op arg : Nat) (w : Nat) : Bool := wordHas [(16, 4, op), (20, 12, arg)] w
/-- A word's ARR slot: operation, FMT and ADDR, and for a STREAM its ACC. -/
def isLoadw (fmt addr : Nat) (w : Nat) : Bool := wordHas [(32, 4, 1), (40, 4, fmt), (44, 14, addr)] w
def isStream (op fmt addr acc : Nat) (w : Nat) : Bool := wordHas [(32, 4, op), (40, 4, fmt), (44, 14, addr), (58, 2, acc)] w
/-- A word's VEC slot: a lane operation, a conversion (04 R174), a special function (05). -/
def isVop (op vd vs1 vs2 : Nat) (w : Nat) : Bool := wordHas [(64, 6, op), (70, 6, vd), (76, 6, vs1), (82, 6, vs2)] w
def isCvt (code vd vs1 fn : Nat) (w : Nat) : Bool := wordHas [(64, 6, 0x0D), (70, 6, vd), (76, 6, vs1), (82, 6, code), (88, 5, fn)] w
def isSfu (fn : Nat) (l : List (Nat × Nat × Nat)) (w : Nat) : Bool := wordHas ([(64, 6, 0x18), (88, 5, fn)] ++ l) w
/-- A word's MOV slot: VLD and VST, FILL and SPILL, CTXIN and CTXOUT. -/
def isVmove (op vreg maddr len : Nat) (w : Nat) : Bool := wordHas [(96, 4, op), (100, 6, vreg), (106, 14, maddr), (120, 8, len)] w
def isFill (op maddr len : Nat) (w : Nat) : Bool := wordHas [(96, 4, op), (106, 14, maddr), (120, 8, len)] w
def isCtxMove (op maddr : Nat) (w : Nat) : Bool := wordHas [(96, 4, op), (106, 14, maddr)] w

/-- The vector operations of 03 R133, SFU aside. -/
def vopListed (op : Nat) : Bool := decide (1 ≤ op ∧ op ≤ 0x0D) || op == 0x10

/-! ### Array formats (03 R114, 04 R156) -/

/-- An array input format: K and columns of the full array, bits of an element, whether it is an MX format. -/
structure AFmt where
  k : Nat
  cols : Nat
  width : Nat
  mx : Bool := false
deriving DecidableEq, Repr

/-- The array formats by FMT; 0xE and 0xF are none. -/
def arrayFmt (f : Nat) : Option AFmt :=
  match f with
  | 0x0 => some ⟨64, 64, 32, false⟩
  | 0x1 => some ⟨128, 128, 16, false⟩
  | 0x2 => some ⟨128, 128, 16, false⟩
  | 0x3 => some ⟨256, 256, 8, false⟩
  | 0x4 => some ⟨256, 256, 8, false⟩
  | 0x5 => some ⟨256, 256, 8, true⟩
  | 0x6 => some ⟨256, 256, 8, true⟩
  | 0x7 => some ⟨256, 256, 6, true⟩
  | 0x8 => some ⟨256, 256, 6, true⟩
  | 0x9 => some ⟨512, 256, 4, true⟩
  | 0xA => some ⟨256, 256, 8, true⟩
  | 0xB => some ⟨256, 256, 8, false⟩
  | 0xC => some ⟨256, 256, 8, false⟩
  | 0xD => some ⟨512, 256, 4, false⟩
  | _ => none

/-- Integer formats accumulate in INT32 (03 R130). -/
def intFmt (f : Nat) : Bool := f == 0xB || f == 0xC || f == 0xD

/-- R115: the two operands of an array operation. -/
def fmtPairs (a w : Nat) : Bool :=
  (arrayFmt a).isSome && (a == w || (a == 3 && w == 4) || (a == 4 && w == 3) || (a == 0xB && w == 0xC) || (a == 0xC && w == 0xB))

/-- The geometry on a unit: a quarter has half of each (03 R121). -/
def AFmt.on (g : AFmt) (u : Nat) : AFmt := if u = 4 then g else { g with k := g.k / 2, cols := g.cols / 2 }

/-- Cycles of a shadow load (03 R114): the W port takes 512 B/cc, a quarter its share. -/
def loadCycles (f : Nat) : Nat :=
  match arrayFmt f with
  | some g => g.k * g.cols * g.width / 4096
  | none => 0

/-- Cycles from the west edge to the accumulator bank (03 R117). -/
def passLatency (u : Nat) : Nat := if u = 4 then 520 else 264

/-- L of R162. -/
def lineBytes (u : Nat) : Nat := if u = 4 then 256 else 128

/-- Payload and scale bytes of one line (04 R162, R164). -/
def AFmt.payload (g : AFmt) : Nat := g.k * g.width / 8
def AFmt.scales (g : AFmt) : Nat := if g.mx then g.k / 32 else 0

/-- Where the scale rows of an operand of `n` lines begin, from its address (04 R164). -/
def scaleBase (addr u n : Nat) : Nat := roundUp (addr + lineBytes u * n) 256

/-- One element of a format as a value (04 R156, R158). -/
def elemVal (f code : Nat) : FVal :=
  match f with
  | 0x0 => fdecode fBinary32 code
  | 0x1 => fdecode fBinary16 code
  | 0x2 => fdecode fBfloat16 code
  | 0x3 => fdecode fE4M3 code
  | 0x4 => fdecode fE5M2 code
  | 0x5 => fdecode fE4M3 code
  | 0x6 => fdecode fE5M2 code
  | 0x7 => fdecode fE3M2 code
  | 0x8 => fdecode fE2M3 code
  | 0x9 => fdecode fE2M1 code
  | 0xA => ofInt false (toSigned 8 code) (-6)
  | 0xB => ofInt false (toSigned 8 code) 0
  | 0xC => ofInt false code 0
  | _ => ofInt false (toSigned 4 code) 0

/-- Scale a value by a block's E8M0 byte (04 R157). -/
def scaleVal (x : Nat) (v : FVal) : FVal :=
  if x = 255 then .nan else
  match v with
  | .fin s m e => .fin s m (e + x - 127)
  | v => v

/-- The values of one operand line. -/
def lineVals (f : Nat) (g : AFmt) (payload scales : List Byte) : List FVal :=
  let v := ofBytes payload
  (List.range g.k).map (fun i =>
    let x := elemVal f (unpackBits g.width i v)
    if g.mx then scaleVal (scales.getD (i / 32) 0#8).toNat x else x)

/-- Whether a line holds a block with scale 0xFF (04 R187 MXN). -/
def lineNan (g : AFmt) (scales : List Byte) : Bool := g.mx && scales.any (fun b => b == 0xFF#8)

/-- Exact sum of exact products, in K order (03 R130, 04 R170). -/
def dotExact : List FVal → List FVal → Option FVal
  | a :: as, b :: bs =>
    let p := mulV a b
    match dotExact as bs with
    | none => some p
    | some r => some (addV p r)
  | _, _ => none

/-- Sequential binary32 sum of binary32 products (03 R130). -/
def dot32 (acc : Option Word) : List FVal → List FVal → Option Word
  | a :: as, b :: bs =>
    let p := rn32 (mulV a b)
    dot32 (some (match acc with | none => p | some s => fadd32 s p)) as bs
  | _, _ => acc

/-- The NaN or infinity that a column's binary32 products settle, whatever their partial sums do (04 R170); `none` where every product is finite. -/
def specialSum (ps : List Word) : Option Word :=
  let pos := ps.contains posInf32
  let neg := ps.contains negInf32
  if ps.any isNan32 || (pos && neg) then some nan32
  else if pos then some posInf32
  else if neg then some negInf32
  else none

/-- A binary32 column sum: by its products where one is not finite (04 R170), else their sequential sum (03 R130). -/
def sum32 (a w : List FVal) : Word :=
  match specialSum (List.zipWith (fun x y => rn32 (mulV x y)) a w) with
  | some v => v
  | none => (dot32 none a w).getD 0#32

/-- The integer a finite value holds. -/
def valInt : FVal → Int
  | .fin s m e => sInt s m * 2 ^ e.toNat
  | _ => 0

/-- Exact integer dot product (03 R130). -/
def dotInt : List FVal → List FVal → Int
  | a :: as, b :: bs => valInt a * valInt b + dotInt as bs
  | _, _ => 0

/-- One column sum of a pass as the 32-bit word it delivers (03 R130). -/
def colSum (f : Nat) (a w : List FVal) : Word :=
  if intFmt f then BitVec.ofInt 32 (dotInt a w)
  else if f = 0 then sum32 a w
  else match dotExact a w with
    | some v => rn32 v
    | none => 0#32

/-! ### Lanes and vector registers -/

/-- The lanes of an array unit: all 256, or the 64 of a quarter (03 R122). -/
def lanesOf (u : Nat) : List Nat := if u = 4 then List.range 256 else (List.range 64).map (· + 64 * u)

/-- A lane of a vector register. -/
def Tile.reg (t : Tile) (v lane : Nat) : Word := t.vregs.get 0#32 (v * 256 + lane)
/-- Set a lane of a vector register. -/
def Tile.setReg (t : Tile) (v lane : Nat) (w : Word) : Tile := { t with vregs := t.vregs.set 0#32 (v * 256 + lane) w }
/-- Set several lanes of a vector register. -/
def Tile.setRegs (t : Tile) (v : Nat) (l : List (Nat × Word)) : Tile := l.foldl (fun t p => t.setReg v p.1 p.2) t
/-- The vector results of a tile that are due by a cycle are written, oldest first. -/
def Tile.settleVec (t : Tile) (c : Nat) : Tile :=
  ((t.vres.filter (fun r => decide (r.due ≤ c))).mergeSort (fun a b => decide (a.due ≤ b.due))).foldl (fun t r => t.setRegs r.vd r.lanes)
    { t with vres := t.vres.filter (fun r => !decide (r.due ≤ c)) }
/-- The registers of a tile at a cycle: every result that is due by then is written, the SFU's last in its cycle (03 R133; 05 R192, R194). -/
def Tile.settle (t : Tile) (c : Nat) : Tile :=
  (((t.sfuRes.filter (fun r => decide (r.due ≤ c))).mergeSort (fun a b => decide (a.due ≤ b.due))).foldl
    (fun (t : Tile) (r : SfuRes) => (t.settleVec r.due).setReg r.vd r.lane r.value)
    { t with sfuRes := t.sfuRes.filter (fun r => !decide (r.due ≤ c)) }).settleVec c
/-- An array unit of a tile. -/
def Tile.unit (t : Tile) (u : Nat) : AUnit := t.units.get {} u
/-- Replace an array unit. -/
def Tile.setUnit (t : Tile) (u : Nat) (x : AUnit) : Tile := { t with units := t.units.set {} u x }

/-- The accumulator entry of a unit's row and column, rows wrapping at the bank's end (03 R129, R910). -/
def accIndex (u row col : Nat) : Nat :=
  if u = 4 then row % 512 * 256 + col % 256
  else (256 * (u / 2) + row % 256) * 256 + 128 * (u % 2) + col % 128

namespace State

/-- The array units a word names in a tile of a row: the quarters of QMASK in serving mode, the full array in training mode (03 R918, R123). -/
def unitsOf (s : State) (row : Nat) (qmask : BitVec 4) : List Nat :=
  if s.serving row then (List.range 4).filter (fun q => qmask.getLsbD q) else [4]

/-- The tiles a word names (03, word layout). -/
def tilesOf (row : Nat) (tmask : BitVec 4) : List Nat :=
  ((List.range 4).filter (fun c => tmask.getLsbD c)).map (tileOf row)

/-- The array unit that quarter `q` of a tile names in its row's mode. -/
def unitOf (s : State) (t q : Nat) : Nat := if s.serving (rowOf t) then q else 4

/-- Bytes of a row program from its page slots, if their page is fetched (03 R139). -/
def pageBytes (q : RowSeq) (off n : Nat) : Option Nat :=
  match q.pages.find (off / 4096 % 32) with
  | some g => if g.page = off / 4096 ∧ g.usable then some (ofBytes ((g.bytes.drop (off % 4096)).take n)) else none
  | none => none

/-- The word at a sequencer's position, if its page is fetched (03 R140). -/
def seqWord (q : RowSeq) : Option Nat := pageBytes q (16 * q.pos) 16

/-- A word lets its ARR, VEC and MOV slots act: no SEMWAIT gate is closed (07 R295), and a binding in force has a context at the position (03 R143). -/
def slotsAct (q : RowSeq) : Bool :=
  !q.gated && (match q.bound with
    | some b => decide (q.ctxPos < b.2)
    | none => true)

/-- The word of a row whose slots reach the tiles in this cycle (03 R145). -/
def arrived (s : State) (r : Nat) : Option Flight := (s.seq r).flight.find? (fun f => f.due == s.clk.cycle)

/-- The arriving word, if its slots act and it has the masks of `sel` and the slot that `m` describes. -/
def slotWord (s : State) (sel : Sel) (m : Nat → Bool) : Option Flight :=
  if s.inEpoch && s.notStopped then
    match s.arrived sel.row with
    | some f => if f.acts && wordHas [(12, 4, sel.tmask.toNat), (36, 4, sel.qmask.toNat)] f.w && m f.w then some f else none
    | none => none
  else none

/-- Every tile and unit that the masks of a word name. -/
def unitsNamed (s : State) (sel : Sel) : List (Nat × Nat) :=
  (tilesOf sel.row sel.tmask).flatMap (fun t => (s.unitsOf sel.row sel.qmask).map (fun u => (t, u)))

/-- A SWAP reaches the quarter in this cycle. -/
def swapArrives (s : State) (t u : Nat) : Bool :=
  s.work.any (fun j => decide (j.due ≤ s.clk.cycle) && (match j.work with
    | .swap k q _ => k == t && q == u
    | _ => false))

/-- The unit is inside a SWAP (R151). -/
def inSwap (s : State) (t u : Nat) : Bool := ((s.tile t).unit u).swapAt.isSome || s.swapArrives t u

/-- Where a word's slot acts: every named tile and unit. -/
def slotTargets (s : State) (sel : Sel) (m : Nat → Bool) : List (Nat × Nat) :=
  match s.slotWord sel m with
  | some _ => s.unitsNamed sel
  | none => []

/-- A slot of the arriving word has acted. -/
def spendSlot (s : State) (r : Nat) (k : Slot) : State :=
  let q := s.seq r
  s.setSeq r { q with flight := q.flight.map (fun f => if f.due = s.clk.cycle then { f with w := k.clear f.w } else f) }

/-- Run a slot on every unit that it names, with the word that carries it; a slot acts once. -/
def onSlot (s : State) (sel : Sel) (k : Slot) (m : Nat → Bool) (f : Flight → State → Nat × Nat → State) : State :=
  match s.slotWord sel m with
  | some x => (s.unitsNamed sel).foldl (f x) (s.spendSlot sel.row k)
  | none => s

/-- The scratch address of a slot address, in 256 B units: within the quarter's region in serving mode (03 R918). -/
def slotAddr (t u a : Nat) : Nat := scratchAddr t + (if u = 4 then 0 else 0x100000 * u) + 256 * a

/-! ### Vectors entering an array -/

/-- The vector that entered a unit's west edge at a cycle, among its streams, if one is held (03 R912). -/
def vectorAt (x : AUnit) (c : Nat) : Option (List Byte × List Byte) :=
  let l := x.draining ++ x.running.toList
  match l.find? (fun st => decide (st.start ≤ c ∧ c < st.start + st.vecs.length) && !st.waits) with
  | some st => st.vecs[c - st.start]?
  | none => none

/-- Vector `v` of a stream, read now: from scratch, or for a west stream from the neighbour, or all zero (03 R162, R912). -/
def readVector (s : State) (t u : Nat) (st : AStream) (v : Nat) : List Byte × List Byte :=
  match arrayFmt st.fmt with
  | none => ([], [])
  | some g0 =>
    let g := g0.on u
    if st.west ∧ t % 4 ≠ 0 then
      let zero := (List.replicate g.payload 0#8, List.replicate g.scales 0#8)
      if st.waits then zero
      else (vectorAt ((s.tile (t - 1)).unit u) (st.start + v - 4)).getD zero
    else
      (s.peek (st.base + lineBytes u * v) g.payload, s.peek (scaleBase st.base u st.n + g.scales * v) g.scales)

/-- Take the next `k` vectors of a unit's running stream, with the scratch errors that reading them meets. -/
def captureN (s : State) (t u : Nat) : Nat → State
  | 0 => s
  | k + 1 =>
    let x := (s.tile t).unit u
    match x.running with
    | none => s
    | some st =>
      let v := st.vecs.length
      let d := s.readVector t u st v
      let s1 := s.setTile t ((s.tile t).setUnit u { x with running := some { st with vecs := st.vecs ++ [d] } })
      let s2 := if st.west ∧ t % 4 ≠ 0 then s1
        else (s1.touch (st.base + lineBytes u * v) d.1.length).touch (scaleBase st.base u st.n + d.2.length * v) d.2.length
      captureN s2 t u k

/-- Vectors of the running stream of a unit that have entered by now and are not yet taken. -/
def dueVectors (s : State) (t u : Nat) : Nat :=
  match ((s.tile t).unit u).running with
  | none => 0
  | some st =>
    if st.waits then 0 else min st.n (s.clk.cycle + 1 - st.start) - st.vecs.length

/-- Take every vector that has entered a unit by now. -/
def capture (s : State) (t u : Nat) : State := s.captureN t u (s.dueVectors t u)

/-! ### Weight blocks -/

/-- The weight block of a format at a scratch address (04 R163, R164, R906). -/
def readBlock (s : State) (u f a : Nat) : WBlock :=
  match arrayFmt f with
  | none => { fmt := f, cols := [] }
  | some g0 =>
    let g := g0.on u
    let sb := scaleBase a u g.cols
    { fmt := f
      cols := (List.range g.cols).map (fun j =>
        (s.peek (a + lineBytes u * j) g.payload, s.peek (sb + g.scales * j) g.scales)) }

/-- The payload and scale bytes of a weight block are read, with the errors that reading them meets (04 R906). -/
def touchBlock (s : State) (u f a : Nat) : State :=
  match arrayFmt f with
  | none => s
  | some g0 =>
    let g := g0.on u
    ((List.range g.cols).foldl (fun (s : State) j => s.touch (a + lineBytes u * j) g.payload) s).touch (scaleBase a u g.cols) (g.scales * g.cols)

end State

end Sys2Proof.Machine
end

