-- ==== Sys2Proof/Machine/Syn.lean ====
section
/-! DEFINITION. Synchronisation objects: increments, waits and the restoration after an abort (07 R291-R300). -/

namespace Sys2Proof.Machine

namespace State

/-- A synchronisation object. -/
def obj (s : State) (k : Nat) : SyObj := s.sync.objs.get {} k
/-- Replace a synchronisation object. -/
def setObj (s : State) (k : Nat) (o : SyObj) : State := { s with sync := { s.sync with objs := s.sync.objs.set {} k o } }

/-- The SYN_OVF word of an object (07). -/
def ovfReg (k : Nat) : Nat := ctxBase + 0x44000 + 4 * (k / 32)

/-- Raise C, saturating with 0x0704 (R294, R296). -/
def synAdd (s : State) (k n : Nat) : State :=
  let o := s.obj k
  let s1 := s.setObj k { o with c := min (o.c + n) 0xFFFFFFFF }
  if o.c + n ≤ 0xFFFFFFFF then s1
  else
    (s1.orWord (ovfReg k) (BitVec.ofNat 32 (2 ^ (k % 32)))).record 0x0704 {} k

/-- A SEMWAIT at its object (R292, R293, R297): a hit takes one from A and C, and from the coming allowance once the snapshot has been taken. -/
def semHit (s : State) (k : Nat) : State :=
  let o := s.obj k
  s.setObj k { o with
    allow := o.allow - 1
    c := o.c - 1
    allowNext := if s.clk.snapped then o.allowNext - 1 else o.allowNext }

end State

end Sys2Proof.Machine
end

