-- ==== Sys2Proof/Machine/Sequencer.lean ====
section
/-! DEFINITION. Row sequencers: program start, the CTL operations, page fetches, model swaps and the synchronisation words (03, Row sequencers; 07 R291-R297). -/

namespace Sys2Proof.Machine

namespace State

/-- The running last that claims a row, with its residency index. -/
def lastOfRow (s : State) (r : Nat) : Option (Nat × Last) :=
  s.cmd.lasts.find? (fun p => p.2.st == .running && p.2.rowMask.testBit r)

/-- The SEQ header of a row in the last that runs it. -/
def seqEnt (s : State) (r : Nat) : Option SeqEnt :=
  match s.lastOfRow r with
  | some p => p.2.seqs.find? (fun e => e.row == r)
  | none => none

/-- The location of a sequencer event (18 R909). -/
def seqLoc (s : State) (r : Nat) : Loc := { kind := 6, unit := r / 8, a := s.physRow r, b := 0xFFFF }

/-- A sequencer program fault (03 R140, R920). -/
def seqFault (s : State) (r : Nat) : State := s.abortWith 0x0302 (s.seqLoc r) (4 * r + 256 * (r % 8))

/-- The contexts bound to a slot entry of the last that runs a row, in list order (02 R108-R112). -/
def boundList (s : State) (r entry : Nat) : List (Nat × Nat) :=
  match s.lastOfRow r with
  | some p =>
    match s.ctx.bindNow.find? (fun b => b.last == p.1 && b.entry == entry) with
    | some b => b.ctxs
    | none => []
  | none => []

/-- The context at a serving row's current position, if a binding is in force (R143, R918). -/
def ctxAt (s : State) (r : Nat) : Option Nat :=
  let q := s.seq r
  match q.bound with
  | some b => if s.serving r then ((s.boundList r b.1)[q.ctxPos]?).map (fun c => c.1) else none
  | none => none

/-- The word as it leaves the sequencer, 3 cc before its slots reach the tiles (R145). -/
def launch (s : State) (r w : Nat) : Flight :=
  let q := s.seq r
  { due := s.clk.cycle + 3, w := w, acts := slotsAct q, n := q.n, a := q.a, accbase := q.accbase, ctx := s.ctxAt r }

/-- The word of a row that issues in this cycle, DELTA cycles after the cycle that it counts from (R141). -/
def issuing (s : State) (r : Nat) : Option Nat :=
  if s.issues r then
    match seqWord (s.seq r) with
    | some w => if (s.seq r).since + eb w 0 12 = s.clk.cycle then some w else none
    | none => none
  else none

/-- The word that issues now carries the CTL operation that `m` describes, and no SEMWAIT gate suppresses it (07 R295). -/
def ctlOpen (s : State) (r : Nat) (m : Nat → Bool) : Bool :=
  match s.issuing r with
  | some w => m w && !(s.seq r).gated
  | none => false

/-- Issue the word at the position, where it carries the CTL operation that `m` describes: its slots are on their way, and the sequencer's registers become `f` of what they are with the position behind the word. A word in a page that is not fetched is a program fault (R140), as is one for which `bad` holds (R920). -/
def ctl (s : State) (r : Nat) (m : Nat → Bool) (f : RowSeq → RowSeq) (bad : RowSeq → Bool := fun _ => false) : State :=
  if s.issues r && (seqWord (s.seq r)).isNone then s.seqFault r
  else match s.issuing r with
    | some w =>
      let q := s.seq r
      if !m w then s
      else if bad q then s.seqFault r
      else s.setSeq r (f { q with
        pos := q.pos + 1, since := s.clk.cycle + 1
        flight := q.flight.filter (fun x => decide (s.clk.cycle ≤ x.due)) ++ [s.launch r w] })
    | none => s

/-- The registers of a sequencer at the start of an epoch program (R911). -/
def seqFresh (q : RowSeq) (pos : Nat) : RowSeq :=
  { q with
    running := true, pos := pos, since := 16, ran := true, flight := [], n := 1, a := 0, accbase := 0, loops := [], bound := none, ctxPos := 0
    gated := false }

/-- SEQ_PROGRAM_START, in cycle 16: epoch program k = (e − START_EPOCH) mod P_ROW begins at its start-table entry (R141, R911), once an epoch (R142); an entry that is not in its page slot is a program fault (R914, R140). A row that no last claims runs the idle loop (R138). -/
def doSeqProgramStart (s : State) (r : Nat) : State :=
  if s.inEpoch && s.notStopped && decide (s.clk.cycle = 16) && !(s.seq r).ran then
    match s.lastOfRow r, s.seqEnt r with
    | some l, some e =>
      let k := (s.clk.epoch - l.2.start) % e.period
      match pageBytes (s.seq r) (4 * k) 4 with
      | some pos => s.setSeq r (seqFresh (s.seq r) pos)
      | none => s.seqFault r
    | _, _ => s
  else s

/-- ENDLOOP: back to the word after LOOP while repetitions are left (R920). -/
def endLoop (q : RowSeq) : RowSeq :=
  match q.loops with
  | [] => q
  | (p, left) :: rest => if left = 0 then { q with loops := rest } else { q with pos := p, loops := (p, left - 1) :: rest }
def doEndloop (s : State) (r : Nat) : State := s.ctl r (isCtl 7) endLoop (fun q => q.loops.isEmpty)

/-- LOOP (R920). -/
def doLoop (s : State) (r arg : Nat) : State :=
  s.ctl r (isCtlArg 6 arg) (fun q => { q with loops := (q.pos, arg) :: q.loops }) (fun q => decide (4 ≤ q.loops.length))

/-! ### HBM3E requests (06 R915) -/

/-- A channel as held. -/
def chan (s : State) (c : Nat) : Chan := s.hbm.chans.get {} c
/-- Replace a channel. -/
def setChan (s : State) (c : Nat) (x : Chan) : State := { s with hbm := { s.hbm with chans := s.hbm.chans.set {} c x } }

/-- Where a request comes from: its logical tile and quarter; a PAGE comes from its row's column 0 (R915). -/
def reqTile : ReqKind → Nat
  | .fill t _ => t
  | .spill t => t
  | .page r _ => tileOf r 0
def reqWho : ReqKind → Nat
  | .fill t u => 8 * t + u
  | k => 8 * reqTile k

/-- The path adder between two dies (02 R69). -/
def pathAdd (d e : Nat) : Nat :=
  match (d + 4 - e) % 4 with
  | 0 => 0
  | 2 => 62
  | _ => 28

/-- Requests in order of arrival, those of one cycle by die, tile and quarter (R915). -/
def insertReq (q : HbmReq) : List HbmReq → List HbmReq
  | [] => [q]
  | p :: l =>
    if q.arrives < p.arrives ∨ (q.arrives = p.arrives ∧ reqWho q.kind < reqWho p.kind) then q :: p :: l else p :: insertReq q l

/-- Queue one unit at the channel that holds it: 16 cc and the path adder from the word's tile cycle (06, Non-uniform access). -/
def sendUnit (s : State) (k : ReqKind) (a o : Nat) : State :=
  let c := (hbmDecode a).chan
  let q : HbmReq :=
    { kind := k, addr := a, other := o, arrives := s.clk.cycle + 16 + pathAdd (dieOf (reqTile k)) (c / 32) }
  s.setChan c { s.chan c with reqs := insertReq q (s.chan c).reqs }

/-- Queue the `n` units of a range from address `a`; `o` is the address at the other end. -/
def sendUnits (s : State) (k : ReqKind) (a o n : Nat) : State :=
  (List.range n).foldl (fun (s : State) i => s.sendUnit k (a + 64 * i) (o + 64 * i)) s

/-- PAGE: page p of the row program is requested into slot p mod 32 (R139, R915); the slot is not usable until the fetch is done. -/
def doPage (s : State) (r arg : Nat) : State :=
  let s1 := s.ctl r (isCtlArg 8 arg) (fun q =>
    { q with pages := q.pages.put (arg % 32) { page := arg, usable := false, bytes := List.replicate 4096 0#8 } })
  match s.issuing r, s.seqEnt r with
  | some w, some e => if isCtlArg 8 arg w then s1.sendUnits (.page r (arg % 32)) (e.addr + 4096 * arg) 0 64 else s1
  | _, _ => s1

/-- No unit of a page fetch is still to come. -/
def pageFetched (s : State) (r slot : Nat) : Bool :=
  s.hbm.chans.all (fun c => c.2.reqs.all (fun q => q.kind != .page r slot)) &&
    s.work.all (fun j => match j.work with
      | .pageWrite r1 k _ _ => !(r1 == r && k == slot)
      | _ => true)

/-- PAGE_FETCH_DONE: the page becomes usable (R139). -/
def doPageFetchDone (s : State) (r slot : Nat) : State :=
  let q := s.seq r
  match q.pages.find slot with
  | some g =>
    if s.pageFetched r slot then s.setSeq r { q with pages := q.pages.put slot { g with usable := true } } else s
  | none => s

/-- BIND: the entry's bound count, and context position 0 (R143); nothing in a training-mode row (R918) or behind a closed gate (07 R295). -/
def doBind (s : State) (r arg : Nat) : State :=
  s.ctl r (isCtlArg 9 arg) (fun q =>
    if s.serving r && !q.gated then { q with bound := some (arg, (s.boundList r arg).length), ctxPos := 0 } else q)

/-- NEXTCTX (R143). -/
def doNextctx (s : State) (r : Nat) : State :=
  s.ctl r (isCtl 0xA) (fun q => if s.serving r && !q.gated then { q with ctxPos := q.ctxPos + 1 } else q)

/-! ### Model swap (R148-R151, R923) -/

/-- The scratch address of a staging half of a quarter (R148). -/
def stagingAddr (t q : Nat) (halfB : Bool) : Nat := scratchAddr t + 0x100000 * q + (if halfB then 0x40000 else 0)

/-- Step `k` of the clearing of a quarter's bank: 32 entries, 128 B (R150). -/
def clearStep (t : Tile) (q k : Nat) : Tile :=
  let here := fun i => decide (i / 65536 = q / 2 ∧ i % 256 / 128 = q % 2 ∧ (i / 256 % 256 * 128 + i % 128) / 32 = k)
  { t with acc := t.acc.filter (fun p => !here p.1), accErr := t.accErr.filter (fun i => !here i) }

/-- A FILL in flight touches a range of a tile's scratch. -/
def fillIn (t : Tile) (lo hi : Nat) : Bool := t.fills.any (fun f => decide (f.lo < hi ∧ lo < f.hi))

/-- A staging or swap violation (R151). -/
def swapFault (s : State) (t u : Nat) : State :=
  s.abortWith 0x0304 (s.tileLoc t (if u = 4 then none else some u)) (tileDetail t)

/-- The sums of a stream have landed by a cycle (R117). -/
def landed (u c : Nat) (st : AStream) : Bool := !st.waits && decide (st.start + st.n - 1 + passLatency u ≤ c)

/-- Whether a SWAP may take a quarter: serving mode, every stream retired, no SWAP of it running, no FILL into the half it makes active (R150, R151). -/
def swapOk (s : State) (t q : Nat) : Bool :=
  let x := (s.tile t).unit q
  let lo := 0x100000 * q + (if x.halfB then 0 else 0x40000)
  s.serving (rowOf t) && (x.draining ++ x.running.toList).all (landed q s.clk.cycle) && x.queued.isNone && x.swapAt.isNone &&
    !(fillIn (s.tile t) (scratchAddr t + lo) (scratchAddr t + lo + 0x40000))

/-- A SWAP reaches its tile: the staging pointer flips (R150), or the violation is reported (R151). -/
def swapTile (s : State) (t q slot : Nat) : State :=
  if s.swapOk t q then
    let x := (s.tile t).unit q
    s.setTile t ((s.tile t).setUnit q { x with halfB := !x.halfB, swapAt := some s.clk.cycle, slot := slot })
  else s.swapFault t q

/-- What a SWAP does in the cycle `k` after its arrival (R150, R923): 16 bytes of constants, the first block into the shadow registers, the change to it, 32 entries of the bank. -/
def swapStep (s : State) (t q k : Nat) : State :=
  let x := (s.tile t).unit q
  let a := stagingAddr t q x.halfB
  if 16 ≤ k ∧ k < 272 then
    let o := 16 * (k - 16)
    let s1 := s.touch (a + o) 16
    s1.setTile t ((s1.tile t).setUnit q { x with consts := x.consts.take o ++ s.peek (a + o) 16 ++ x.consts.drop (o + 16) })
  else if k = 272 then
    let f := (x.consts.headD 0#8).toNat % 16
    let s1 := s.touchBlock q f (a + 4096)
    s1.setTile t ((s1.tile t).setUnit q { x with shadow := some (s.readBlock q f (a + 4096)), ready := s.clk.cycle + loadCycles f })
  else
    let s1 := if k = 400 then s.setTile t ((s.tile t).setUnit q { x with active := x.shadow, shadow := none }) else s
    if 400 ≤ k ∧ k < 1424 then s1.setTile t (clearStep (s1.tile t) q (k - 400)) else s1

/-- SWAP: model slot ARG[9:0] on quarter ARG[11:10] of each named tile, which it reaches 3 cc later (R145, R150). -/
def doSwap (s : State) (r : Nat) (tmask : BitVec 4) (arg : Nat) : State :=
  let m := wordHas [(12, 4, tmask.toNat), (16, 4, 0xB), (20, 12, arg)]
  let s1 := s.ctl r m id
  if s.ctlOpen r m then
    { s1 with work := s1.work ++ (tilesOf r tmask).map (fun t => { due := s.clk.cycle + 3, work := .swap t (arg / 1024 % 4) (arg % 1024) }) }
  else s1

/-- SWAP_DONE: the quarter takes array operations again (R150). -/
def doSwapDone (s : State) (t q : Nat) : State :=
  let x := (s.tile t).unit q
  match x.swapAt with
  | some c =>
    if c + 2048 ≤ s.clk.cycle then s.setTile t ((s.tile t).setUnit q { x with swapAt := none }) else s
  | none => s

/-! ### SEMSIG and SEMWAIT -/

/-- Cycles from the issue of a SEMSIG or SEMWAIT to its object on die `k`, and from there back to the sequencer (07 R291). -/
def semReach (d k : Nat) : Nat :=
  match (d + 4 - k) % 4 with
  | 0 => 12
  | 2 => 74
  | _ => 40

/-- SEMSIG: an increment on its way (07 R291). -/
def doSemsig (s : State) (r arg : Nat) : State :=
  let s1 := s.ctl r (isCtlArg 0xC arg) id
  if s.ctlOpen r (isCtlArg 0xC arg) then
    { s1 with sync := { s1.sync with sigs := s1.sync.sigs ++ [{ due := s.clk.cycle + semReach (r / 8) (arg / 1024), row := r, obj := arg }] } }
  else s1

/-- SEMWAIT: a wait request on its way (07 R291). -/
def doSemwait (s : State) (r arg : Nat) : State :=
  let s1 := s.ctl r (isCtlArg 0xD arg) id
  if s.ctlOpen r (isCtlArg 0xD arg) then
    { s1 with sync := { s1.sync with semWaits := s1.sync.semWaits ++ [{ due := s.clk.cycle + semReach (r / 8) (arg / 1024), row := r, obj := arg }] } }
  else s1

/-- One of a list that has arrived. -/
def takeSem (l : List SemReq) (c : Nat) (p : SemReq → Bool) : Option (SemReq × List SemReq) :=
  match l.find? (fun x => p x && decide (x.due ≤ c)) with
  | some x => some (x, l.erase x)
  | none => none

/-- A SEMWAIT on the same object that takes effect before `x`: an earlier arrival, or a lower ROW_MASK bit in the same cycle (07 R293). -/
def semBefore (l : List SemReq) (x : SemReq) : Bool :=
  l.any (fun y => y.obj == x.obj && (decide (y.due < x.due) || (y.due == x.due && decide (y.row < x.row))))

/-- SEMSIG_ARRIVAL: one increment on its way to the object arrives (07 R294). -/
def doSemsigArrival (s : State) (k : Nat) : State :=
  match takeSem s.sync.sigs s.clk.cycle (fun x => x.obj == k) with
  | some (_, l) => { s with sync := { s.sync with sigs := l } }.synAdd k 1
  | none => s

/-- SEMWAIT_ARRIVAL: hit or miss at the object, in order of arrival and then of row; a miss returns to its row (07 R291, R293). -/
def doSemwaitArrival (s : State) (r k : Nat) : State :=
  match takeSem s.sync.semWaits s.clk.cycle (fun x => x.row == r && x.obj == k) with
  | some (x, l) =>
    if semBefore s.sync.semWaits x then s
    else
      let s1 := { s with sync := { s.sync with semWaits := l } }
      if 1 ≤ (s.obj k).allow then s1.semHit k
      else { s1 with sync := { s1.sync with misses := s1.sync.misses ++ [{ x with due := x.due + semReach (r / 8) (k / 1024) }] } }
  | none => s

/-- SEMWAIT_RESULT: a miss returns and closes the row's gate (07 R295). -/
def doSemwaitResult (s : State) (r : Nat) : State :=
  match takeSem s.sync.misses s.clk.cycle (fun x => x.row == r) with
  | some (_, l) =>
    let s1 := { s with sync := { s.sync with misses := l } }
    if (s.seq r).running then s1.setSeq r { s1.seq r with gated := true } else s1
  | none => s

end State

/-! ### Meanings -/

/-- SEQ_PROGRAM_START (R141, R911, R914). -/
def execSeqProgramStart (row : Fin 32) (s : State) : Res := .next (s.doSeqProgramStart row)
/-- CTL 0x0, and 0xE, which is none (R141). -/
def execCtlNop (row : Fin 32) (s : State) : Res := .next (s.ctl row (fun w => isCtl 0 w || isCtl 0xE w) id)
/-- CTL 0x1: the vector count of following STREAMs. -/
def execSetn (row : Fin 32) (arg : BitVec 12) (s : State) : Res :=
  .next (s.ctl row (isCtlArg 1 arg.toNat) (fun q => { q with n := arg.toNat + 1 }))
/-- CTL 0x2: bits 11:0 of address A. -/
def execSeta0 (row : Fin 32) (arg : BitVec 12) (s : State) : Res :=
  .next (s.ctl row (isCtlArg 2 arg.toNat) (fun q => { q with a := 2 ^ 12 * (q.a / 2 ^ 12) + arg.toNat }))
/-- CTL 0x3: bits 23:12 of address A. -/
def execSeta1 (row : Fin 32) (arg : BitVec 12) (s : State) : Res :=
  .next (s.ctl row (isCtlArg 3 arg.toNat) (fun q => { q with a := 2 ^ 24 * (q.a / 2 ^ 24) + 2 ^ 12 * arg.toNat + q.a % 2 ^ 12 }))
/-- CTL 0x4: bits 35:24 of address A. -/
def execSeta2 (row : Fin 32) (arg : BitVec 12) (s : State) : Res :=
  .next (s.ctl row (isCtlArg 4 arg.toNat) (fun q => { q with a := 2 ^ 24 * arg.toNat + q.a % 2 ^ 24 }))
/-- CTL 0x5: ACCBASE (R129). -/
def execSetacc (row : Fin 32) (arg : BitVec 12) (s : State) : Res :=
  .next (s.ctl row (isCtlArg 5 arg.toNat) (fun q => { q with accbase := arg.toNat }))
/-- CTL 0x6 (R920). -/
def execLoop (row : Fin 32) (arg : BitVec 12) (s : State) : Res := .next (s.doLoop row arg.toNat)
/-- CTL 0x7 (R920). -/
def execEndloop (row : Fin 32) (s : State) : Res := .next (s.doEndloop row)
/-- CTL 0x8 (R139). -/
def execPage (row : Fin 32) (arg : BitVec 12) (s : State) : Res := .next (s.doPage row arg.toNat)
/-- A page fetch completes (R139). -/
def execPageFetchDone (row : Fin 32) (slot : Fin 32) (s : State) : Res := .next (s.doPageFetchDone row slot)
/-- CTL 0x9 (R143). -/
def execBind (row : Fin 32) (arg : BitVec 12) (s : State) : Res := .next (s.doBind row arg.toNat)
/-- CTL 0xA (R143). -/
def execNextctx (row : Fin 32) (s : State) : Res := .next (s.doNextctx row)
/-- CTL 0xB (R150). -/
def execSwap (row : Fin 32) (tmask : BitVec 4) (arg : BitVec 12) (s : State) : Res :=
  .next (s.doSwap row tmask arg.toNat)
/-- Cycle 2,048 of a SWAP (R150). -/
def execSwapDone (tile : Fin 128) (q : Fin 4) (s : State) : Res := .next (s.doSwapDone tile q)
/-- CTL 0xC (R144). -/
def execSemsig (row : Fin 32) (arg : BitVec 12) (s : State) : Res := .next (s.doSemsig row arg.toNat)
/-- A SEMSIG arrives (07 R294). -/
def execSemsigArrival (obj : Fin 4096) (s : State) : Res := .next (s.doSemsigArrival obj)
/-- CTL 0xD (R144). -/
def execSemwait (row : Fin 32) (arg : BitVec 12) (s : State) : Res := .next (s.doSemwait row arg.toNat)
/-- A SEMWAIT arrives (07 R293). -/
def execSemwaitArrival (row : Fin 32) (obj : Fin 4096) (s : State) : Res := .next (s.doSemwaitArrival row obj)
/-- A miss returns (07 R295). -/
def execSemwaitResult (row : Fin 32) (s : State) : Res := .next (s.doSemwaitResult row)
/-- CTL 0xF (R142): the program ends, and the SEMWAIT gate with it (07 R295). -/
def execHalt (row : Fin 32) (s : State) : Res :=
  .next (s.ctl row (isCtl 0xF) (fun q => { q with running := false, gated := false }))

end Sys2Proof.Machine
end

