-- ==== Sys2Proof/Machine/Array.lean ====
section
/-! DEFINITION. The matrix array: weight loads, activation streams and pass results (03 R113-R132, R910, R912; 04 R166-R171). -/

namespace Sys2Proof.Machine

/-- A unit's running stream still takes vectors. -/
def unitBusy (x : AUnit) (c : Nat) : Bool :=
  match x.running with
  | some st => st.waits || decide (c < st.start + st.n)
  | none => false

/-- The column sums of one vector against a block (R130), and the flags they raise (04 R187). DESIGN CHOICE: the array counts as having read a weight block with X = 0xFF at each pass that uses it, not at its load (notes/assumptions/69). -/
def passSums (u : Nat) (st : AStream) (b : WBlock) (d : List Byte × List Byte) : List Word × NumFlags :=
  match arrayFmt st.fmt, arrayFmt b.fmt with
  | some ga, some gw =>
    let a := lineVals st.fmt (ga.on u) d.1 d.2
    let sums := b.cols.map (fun c => colSum st.fmt a (lineVals b.fmt (gw.on u) c.1 c.2))
    (sums, { nan := !intFmt st.fmt && sums.any isNan32
             mxn := lineNan ga d.2 || b.cols.any (fun c => lineNan gw c.2) })
  | _, _ => ([], {})

/-- One entry of the accumulator bank takes a column sum (R129, R130): ACC 1 SET, 2 ADD, otherwise none. -/
def accEntry (acc : Nat) (isInt : Bool) (old sum : Word) : Word × Bool :=
  match acc with
  | 1 => (sum, false)
  | 2 => if isInt then satAdd32 old sum.toInt else (fadd32 old sum, false)
  | _ => (old, false)

/-- The sums of a vector enter row `row` of a unit: the tile, whether an addition saturated, whether an entry that was added to had a parity error. -/
def accRow (t : Tile) (u row acc : Nat) (isInt : Bool) (sums : List Word) : Tile × Bool × Bool :=
  (sums.zipIdx).foldl (fun (r : Tile × Bool × Bool) (p : Word × Nat) =>
    let k := accIndex u row p.2
    let e := accEntry acc isInt (r.1.acc.get 0#32 k) p.1
    let bad := r.1.accErr.contains k
    let tile := { r.1 with
      acc := r.1.acc.set 0#32 k e.1
      accErr := if acc = 1 then r.1.accErr.filter (· != k) else r.1.accErr }
    (tile, r.2.1 || e.2, r.2.2 || (bad && acc == 2))) (t, false, false)

namespace State

/-- The location of an event of an array unit (18 R909). -/
def unitLoc (s : State) (t u : Nat) : Loc := s.tileLoc t (if u = 4 then none else some u)

/-- Record a code of an array unit and raise its abort trigger. -/
def unitAbort (s : State) (t u code : Nat) : State := s.abortWith code (s.unitLoc t u) (tileDetail t)

/-- A block with free bytes: what is in the registers where a stream starts before its load is complete, which only a fault brings (R119; notes/assumptions/24). -/
def freeBlock (k : Nat) (b : WBlock) : WBlock :=
  { b with cols := b.cols.mapIdx (fun j c => (c.1.mapIdx (fun i _ => Config.partByte k j i), c.2.mapIdx (fun i _ => Config.partByte k j (c.1.length + i)))) }

/-- The running stream of a unit with sums still on their way, as the next one takes its place. -/
def drained (x : AUnit) : List AStream :=
  x.draining ++ x.running.toList.filter (fun r => !r.waits && decide (r.delivered < r.n))

/-- The first vector of a stream is at hand: the shadow block becomes active (R118); formats that do not pair are 0x0401 (04 R167). -/
def activate (s : State) (t u : Nat) (st : AStream) : State :=
  let x := (s.tile t).unit u
  match x.shadow.or x.active with
  | none => (s.setTile t ((s.tile t).setUnit u { x with running := none, draining := drained x })).unitAbort t u 0x0401
  | some b =>
    if !fmtPairs st.fmt b.fmt then (s.setTile t ((s.tile t).setUnit u { x with running := none, draining := drained x })).unitAbort t u 0x0401
    else
      let early := x.shadow.isSome && decide (st.start < x.ready)
      let w := some (if early then freeBlock s.freeNext b else b)
      let s0 := if early then { s with freeNext := s.freeNext + 1 } else s
      s0.setTile t ((s0.tile t).setUnit u
        { x with active := w, shadow := none, running := some { st with weights := w, waits := false, partly := early }, draining := drained x })

/-- The neighbour's stream started at cycle `c`: streams that wait for it, one tile after another eastward, start 4 cc later each (R912). -/
def wakeEast (s : State) (t u c : Nat) : Nat → State
  | 0 => s
  | k + 1 =>
    if t % 4 = 3 then s
    else
      match ((s.tile (t + 1)).unit u).running with
      | some st => if st.waits then (s.activate (t + 1) u { st with start := c + 4 }).wakeEast (t + 1) u (c + 4) k else s
      | none => s

/-- The first start among a unit's streams that a stream 4 cc behind it, itself not before `e`, can follow (R912). -/
def westStart (x : AUnit) (e : Nat) : Option Nat :=
  (((x.draining ++ x.running.toList).filter (fun w => !w.waits && decide (e ≤ w.start + 4))).map (fun w => w.start)).min?

/-- A stream that may begin at cycle `e`: it does, or 4 cc after its neighbour's stream for a west stream, which waits where the neighbour has not started (R120, R912). -/
def streamStart (s : State) (t u : Nat) (st : AStream) (e : Nat) : AStream :=
  if st.west ∧ t % 4 ≠ 0 then
    match westStart ((s.tile (t - 1)).unit u) e with
    | some c => { st with start := c + 4 }
    | none => { st with waits := true }
  else { st with start := e }

/-- A stream takes its unit, at cycle `e` if nothing holds it. -/
def startStream (s : State) (t u : Nat) (st : AStream) (e : Nat) : State :=
  let st1 := s.streamStart t u st e
  if st1.waits then
    let x := (s.tile t).unit u
    s.setTile t ((s.tile t).setUnit u { x with running := some st1, draining := drained x })
  else (s.activate t u st1).wakeEast t u st1.start 3

/-- The queued stream of a unit starts on the cycle after the running one's last vector enters, if that has come (R120). -/
def startDue (s : State) (t u : Nat) : State :=
  let x := (s.tile t).unit u
  match x.queued with
  | some st =>
    if unitBusy x s.clk.cycle then s
    else
      let e := match x.running with
        | some r => r.start + r.n
        | none => s.clk.cycle
      (s.setTile t ((s.tile t).setUnit u { x with queued := none })).startStream t u st e
  | none => s

/-- LOADW at one unit: the block enters the shadow registers, complete at the rate of the W port (R118). The order in which the port reads the bytes of a block is not in the spec: the model reads them at the word's arrival (notes/assumptions/12). -/
def loadUnit (s0 : State) (f addr : Nat) (p : Nat × Nat) : State :=
  let t := p.1
  let u := p.2
  if s0.inSwap t u then s0.swapFault t u
  else
    let s := s0.startDue t u
    let a := slotAddr t u addr
    let b := s.readBlock u f a
    let s1 := s.touchBlock u f a
    s1.setTile t ((s1.tile t).setUnit u { (s1.tile t).unit u with shadow := some b, ready := s.clk.cycle + loadCycles f })

/-- STREAM or STREAMW at one unit (R120, R167, R151): it starts, or waits behind the running one; a third is 0x0303. -/
def streamUnit (s : State) (st : AStream) (p : Nat × Nat) : State :=
  let t := p.1
  let u := p.2
  if s.inSwap t u then s.swapFault t u
  else if (arrayFmt st.fmt).isNone then s.unitAbort t u 0x0401
  else
    let s1 := s.startDue t u
    let x := (s1.tile t).unit u
    if unitBusy x s1.clk.cycle then
      match x.queued with
      | none => s1.setTile t ((s1.tile t).setUnit u { x with queued := some st })
      | some _ => s1.unitAbort t u 0x0303
    else s1.startStream t u st s1.clk.cycle

/-- The stream of a word: its vector count and ACCBASE as the sequencer had them. -/
def wordStream (x : Flight) (f : Nat) (west : Bool) (acc : Nat) : AStream :=
  { start := 0, n := x.n, fmt := f, base := 0, west := west, acc := acc, accbase := x.accbase, weights := none, vecs := [], delivered := 0 }

/-- STREAM or STREAMW on every unit a word names. -/
def doStream (s : State) (sel : Sel) (f addr acc : Nat) (west : Bool) : State :=
  s.onSlot sel .arr (isStream (if west then 3 else 2) f addr acc) (fun x s p =>
    s.streamUnit { wordStream x f west acc with base := slotAddr p.1 p.2 addr } p)

/-- QUEUED_STREAM_START (R120). -/
def doQueuedStart (s : State) (t q : Nat) : State := s.startDue t (s.unitOf t q)

/-- The vector a unit delivers next: that of the oldest stream with sums on their way, and whether that stream drains. -/
def nextPass (x : AUnit) : Option (AStream × Bool) :=
  match x.draining with
  | st :: _ => some (st, true)
  | [] => match x.running with
    | some st => if st.delivered < st.n then some (st, false) else none
    | none => none

/-- Replace the stream that delivered: a draining stream leaves after its last vector. -/
def passDone (x : AUnit) (st : AStream) (drains : Bool) : AUnit :=
  let st1 := { st with delivered := st.delivered + 1 }
  if drains then
    { x with draining := if st1.delivered < st1.n then st1 :: x.draining.tail else x.draining.tail }
  else { x with running := some st1 }

/-- ARRAY_PASS_RESULT: the column sums of the next vector of a unit reach the accumulator bank, once its latency has passed (R117, R129-R131); a west stream without a west neighbour's vectors takes zeros (R912). -/
def doPassResult (s : State) (t q : Nat) : State :=
  let u := s.unitOf t q
  let x := (s.tile t).unit u
  match nextPass x with
  | none => s
  | some (st, dr) =>
    let d := if st.waits then some (s.readVector t u st st.delivered) else st.vecs[st.delivered]?
    match d, if st.waits then x.shadow.or x.active else st.weights with
    | some d, some b =>
      if st.waits ∨ st.start + st.delivered + passLatency u ≤ s.clk.cycle then
        let r := passSums u st b d
        let y := accRow (s.tile t) u (st.accbase + st.delivered) st.acc (intFmt st.fmt) r.1
        let s2 := s.setTile t (y.1.setUnit u (passDone x st dr))
        let s3 := s2.flagNum t u r.2
        let s4 := if y.2.1 then s3.flagSat t u else s3
        if y.2.2 then s4.unitAbort t u 0x0305 else s4
      else s
    | _, _ => s

end State

/-! ### Meanings -/

/-- ARR 0x1 (R118). -/
def execLoadw (sel : Sel) (fmt : BitVec 4) (addr : BitVec 14) (s : State) : Res :=
  .next (s.onSlot sel .arr (isLoadw fmt.toNat addr.toNat) (fun _ s p => s.loadUnit fmt.toNat addr.toNat p))
/-- ARR 0x2 (R120). -/
def execStream (sel : Sel) (fmt : BitVec 4) (addr : BitVec 14) (acc : BitVec 2) (s : State) : Res :=
  .next (s.doStream sel fmt.toNat addr.toNat acc.toNat false)
/-- ARR 0x3 (R912). -/
def execStreamw (sel : Sel) (fmt : BitVec 4) (addr : BitVec 14) (acc : BitVec 2) (s : State) : Res :=
  .next (s.doStream sel fmt.toNat addr.toNat acc.toNat true)
/-- The queued STREAM starts (R120). -/
def execQueuedStreamStart (tile : Fin 128) (q : Fin 4) (s : State) : Res := .next (s.doQueuedStart tile q)
/-- A pass delivers its column sums (R117). -/
def execArrayPassResult (tile : Fin 128) (q : Fin 4) (s : State) : Res := .next (s.doPassResult tile q)

end Sys2Proof.Machine
end

