-- ==== Sys2Proof/Machine/Slots.lean ====
section
/-! DEFINITION. Timetables as the machine and the validator read them: areas of memory, entry lists, slot grids, the runs of a MEM list, and the cycles at which die-buffer lines move (02 R71; 06 R221, R233, R234, R247-R249; 07 R285; 08 R318, R325). -/

namespace Sys2Proof.Machine

/-- A table or program being laid out: memory, where it starts, how many bytes it has. -/
structure Area where
  mem : Mem
  base : Nat
  len : Nat

/-- A little-endian field of an area. -/
def Area.nat (x : Area) (o n : Nat) : Nat := x.mem.nat (x.base + o) n

/-- The bytes from `o` on are all 0. -/
def Area.zero (x : Area) (o n : Nat) : Bool := x.nat o n == 0

/-- A part of an area lies inside it. -/
def Area.holds (x : Area) (o n : Nat) : Bool := decide (o + n ≤ x.len)

/-- A part of an area as an area. -/
def Area.sub (x : Area) (o n : Nat) : Area := { mem := x.mem, base := x.base + o, len := n }

/-! ### Tables and their entry lists (06 R233, 08 R325) -/

/-- Where a table's 8 B entries begin: the first 8 B boundary behind its start table. -/
def tabEntries (t : TabEnt) : Nat := (4 * t.period + 7) / 8 * 8

/-- The entries of a list from entry `i` up to its END, whose kind is 0. -/
def tabList (kind : Nat → Nat) (x : Area) : Nat → Nat → Option (List Nat)
  | 0, _ => none
  | fuel + 1, o =>
    if x.holds o 8 then
      (if kind (x.nat o 8) = 0 then some [] else (tabList kind x fuel (o + 8)).map (fun l => x.nat o 8 :: l))
    else none

/-- Entry list `k` of a table; none where it has no END entry in its table. -/
def tabLists (kind : Nat → Nat) (m : Mem) (t : TabEnt) (k : Nat) : Option (List Nat) :=
  let x : Area := { mem := m, base := t.addr, len := t.len }
  tabList kind x (t.len / 8 + 1) (tabEntries t + 8 * x.nat (4 * k) 4)

/-- CMD of a MEM entry, KIND of a BRG entry. -/
def memCmd (w : Nat) : Nat := eb w 26 3
def brgKind (w : Nat) : Nat := eb w 27 2

/-! ### Slot grids: S slots per P cycles -/

/-- The cycle of slot `i` of a grid, and the first slot at or after a cycle. -/
def slotCycle (g : Nat × Nat) (i : Nat) : Nat := g.2 * i / g.1
def slotIdx (g : Nat × Nat) (c : Nat) : Nat := (g.1 * c + g.2 - 1) / g.2

/-- The grids of a variant: HBM3E data slots (06 R221), stitch slots (02 R71), mesh lanes and Wn channels (08 R318). -/
def dataGrid (v : Nat) : Nat × Nat := [(4, 5), (12, 13), (8, 7)].getD v (8, 7)
def stitchGrid (v : Nat) : Nat × Nat := [(5, 16), (13, 36), (4, 9)].getD v (4, 9)
def meshGrid (v : Nat) : Nat × Nat := [(4, 3), (20, 13), (40, 21)].getD v (40, 21)

/-- The DRAM timing of a variant in cc (06, R221 table): ACT lead, tRC, tFAW, WR to RD, tRFCpb, refresh interval. -/
structure DramT where
  lead : Nat
  rc : Nat
  faw : Nat
  wtr : Nat
  rfc : Nat
  refi : Nat

def dramT (v : Nat) : DramT :=
  match v with
  | 0 => ⟨66, 72, 18, 36, 240, 2925⟩
  | 1 => ⟨58, 63, 16, 32, 208, 2535⟩
  | _ => ⟨47, 51, 13, 26, 168, 2047⟩

/-! ### MEM lists -/

/-- A run of a MEM list. -/
structure MRun where
  rd : Bool
  cyc : Nat
  n : Nat
  addr : HAddr

/-- The runs and the refreshes of a list of a channel. -/
def memRuns (chan : Nat) (l : List Nat) : List MRun :=
  (l.filter (fun w => memCmd w == 1 || memCmd w == 2)).map (fun w =>
    { rd := memCmd w == 1, cyc := eb w 0 26, n := eb w 55 5 + 1
      addr := { chan := chan, sid := eb w 29 2, bg := eb w 31 2, bank := eb w 33 2, row := eb w 35 15, col := eb w 50 5 } })
def memRefs (l : List Nat) : List (Nat × Nat) :=
  (l.filter (fun w => memCmd w == 3)).map (fun w => (16 * eb w 29 2 + 4 * eb w 31 2 + eb w 33 2, eb w 0 26))

/-- The bank of a run. -/
def MRun.bankNo (r : MRun) : Nat := 16 * r.addr.sid + 4 * r.addr.bg + r.addr.bank

/-- The cycle of unit `u` of a run. -/
def MRun.slot (v : Nat) (r : MRun) (u : Nat) : Nat := slotCycle (dataGrid v) (slotIdx (dataGrid v) r.cyc + u)

/-! ### Lines of a die buffer (R246-R249) -/

/-- The port slot of a row and column, reading or writing the buffer (R246). -/
def portSlot (row col : Nat) (rd : Bool) : Nat := 2 * (4 * (row % 8) + col) + (if rd then 0 else 1)

/-- The first cycle from `t` on that is `r` modulo `m`. -/
def nextAt (m r t : Nat) : Nat := t + (r + m - t % m) % m

/-- When line `k` of a move that reaches the network island at `t` moves, over port slot `slot`, from die-buffer line `x`. -/
def lineMove (unit slot t x k : Nat) : Nat :=
  let r := ((x + k) % 128 + 128 - slot) % 128
  if unit = 4 then nextAt 128 r t + 128 * (k / 128) else nextAt 512 (128 * unit + r) t + 512 * (k / 128)

/-- When line `k` of a CTXIN or CTXOUT that reaches the network island at `t` moves: one chunk of 128 lines in each of the quarter's windows (07 R285). -/
def ctxWindow (unit t k : Nat) : Nat := nextAt 512 (128 * unit) t + 512 * (k / 128)
def ctxLine (unit slot t x k : Nat) : Nat := nextAt 128 (((x + k) % 128 + 128 - slot) % 128) (ctxWindow unit t k)

end Sys2Proof.Machine
end

