-- ==== Sys2Proof/Machine/Hbm.lean ====
section
/-! DEFINITION. HBM3E channels: runs, refresh and retraining (06, The MEM section; R230, R251-R261, R915-R919). -/

namespace Sys2Proof.Machine

/-- Two ranges of addresses meet. -/
def meets (a n b m : Nat) : Bool := decide (a < b + m ∧ b < a + n ∧ 0 < n ∧ 0 < m)

/-- The range of a channel group. -/
def groupBase (g : Nat) : Nat := 0x240000000 * g

/-- The location of an event of a channel. -/
def chanLoc (c : Nat) : Loc := { kind := 3, unit := c / 16, a := c % 16 }

/-- The clock island of a stack's controller (01, Clock islands). -/
def hbmIsland (h : Nat) : Nat := 44 * (h / 2) + 37 + h % 2

/-- The port islands of a mesh bridge: native E of its die, native S of the next (01, Clock islands). -/
def meshIslands (b : Nat) : List Nat := [44 * b + 39, 44 * ((b + 1) % 4) + 40]

namespace State

/-- A running last claims a range of a channel group (R227). -/
def groupClaimed (s : State) (g : Nat) : Bool :=
  s.cmd.lasts.any (fun p => p.2.st == .running &&
    p.2.sections.claims.hbm.any (fun r => meets r.1 r.2 (groupBase g) 0x240000000))

/-- A channel group is out of service (R261, R919). -/
def outOfService (s : State) (g : Nat) : Bool := s.hbm.groupOut.contains g

/-- Some byte of a range lies in a group out of service. -/
def rangeOut (s : State) (a n : Nat) : Bool :=
  s.hbm.groupOut.any (fun g => meets a n (groupBase g) 0x240000000)

/-- Whether a request is served by a RD run. -/
def isRead (q : HbmReq) : Bool :=
  match q.kind with
  | .spill _ => false
  | _ => true

/-- The ACT lead before a run's first data slot (R221 table, R235). -/
def actLead (s : State) : Nat :=
  match s.fuse.variant with
  | 0 => 66
  | 1 => 58
  | _ => 47

/-- The entries that a channel runs in this epoch: list (e − START_EPOCH) mod P_MEM of the running last that claims it (R233). -/
def memList (s : State) (c : Nat) : List Nat :=
  match s.cmd.lasts.find? (fun p => p.2.st == .running && p.2.mems.any (fun t => t.key == c)) with
  | some p =>
    match p.2.mems.find? (fun t => t.key == c) with
    | some t => (tabLists memCmd s.mem t ((s.clk.epoch - p.2.start) % t.period)).getD []
    | none => []
  | none => []

/-- An entry of the channel's list with the given fields has its CYCLE now (R233). -/
def entryNow (s : State) (c : Nat) (l : List (Nat × Nat × Nat)) : Bool :=
  s.inEpoch && s.notStopped && (s.memList c).any (fun w => eb w 0 26 == s.clk.cycle && wordHas l w)

/-- The units that the channel's list moves in this epoch, with their data slots: address, slot, whether a read. -/
def listUnits (s : State) (c : Nat) : List (Nat × Nat × Bool) :=
  (memRuns c (s.memList c)).flatMap (fun r =>
    (List.range r.n).map (fun u => (hbmEncode { r.addr with col := r.addr.col + u }, r.slot s.fuse.variant u, r.rd)))

/-- RD_RUN and WR_RUN: an entry of the channel's list at its CYCLE; its units move on consecutive data slots (R233, R234). A group out of service makes no access and aborts (R261, R919). -/
def doRun (s : State) (c : Nat) (rd : Bool) (r : MemRun) : State :=
  if s.entryNow c [(26, 3, if rd then 1 else 2), (29, 2, r.sid), (31, 2, r.bg), (33, 2, r.bank), (35, 15, r.row), (50, 5, r.col), (55, 5, r.count)] then
    if s.outOfService (c / 4) then s.abortWith 0x0609 (chanLoc c)
    else
      let h : HAddr := { chan := c, sid := r.sid, bg := r.bg, bank := r.bank, row := r.row, col := r.col }
      let g := dataGrid s.fuse.variant
      { s with work := s.work ++ (List.range (r.count + 1)).map (fun i =>
          { due := slotCycle g (slotIdx g s.clk.cycle + i), work := .unit c rd (hbmEncode { h with col := h.col + i }) (s.clk.cycle - s.actLead) }) }
  else s

/-- The data slot of a unit of a run: it serves the request at the head of the channel (R915); one that had not arrived by the run's ACT cycle, or names another unit, is 0x0602. A RD unit lands in the tile or the page slot 20 cc and the path adder later (R238, R916). -/
def runUnit (s : State) (c : Nat) (rd : Bool) (a act : Nat) : State :=
  match (s.chan c).reqs with
  | [] => s.abortWith 0x0602 (chanLoc c)
  | q :: rest =>
    if isRead q == rd && q.addr == a && decide (q.arrives ≤ act) then
      let s1 := s.setChan c { s.chan c with reqs := rest }
      if rd then
        let s2 := s1.touch a 64
        let bs := s1.peek a 64
        let at_ := s.clk.cycle + 20 + pathAdd (dieOf (reqTile q.kind)) (c / 32)
        match q.kind with
        | .fill t u => { s2 with work := s2.work ++ [{ due := at_, work := .fWrite t u q.other bs true }] }
        | .page r k => { s2 with work := s2.work ++ [{ due := at_, work := .pageWrite r k q.other bs }] }
        | .spill _ => s2
      else s1.poke a (q.data.getD (s1.peek q.other 64))
    else s.abortWith 0x0602 (chanLoc c)

/-- The bytes of a SPILL's unit leave scratch in this cycle: 20 cc and the path adder before the data slot of the WR run that serves it (R239). -/
def leavesNow (s : State) (c : Nat) (q : HbmReq) : Bool :=
  match q.kind with
  | .spill t => q.data.isNone && (s.listUnits c).any (fun p => p.1 == q.addr && p.2 == (s.clk.cycle + 20 + pathAdd (dieOf t) (c / 32), false))
  | _ => false
def leaveScratch (s : State) (c : Nat) : State :=
  let x := s.chan c
  match x.reqs.find? (s.leavesNow c) with
  | some q =>
    let s1 := s.touch q.other 64
    s1.setChan c { x with reqs := x.reqs.set (x.reqs.findIdx (s.leavesNow c)) { q with data := some (s.peek q.other 64) } }
  | none => s

/-! ### The package's own traffic (R230) -/

/-- Bytes cut at the 64 B units that hold them. -/
def splitUnits (a : Nat) (bs : List Byte) : List (Nat × List Byte) :=
  (List.range (ceilDiv (a % 64 + bs.length) 64)).map (fun i =>
    let lo := 64 * i - a % 64
    (a + lo, (bs.drop lo).take (64 - (a + lo) % 64)))

/-- Bytes of the package's own for HBM3E wait at their controllers for open slots, in order of arrival (R230). -/
def queueOwn (s : State) (a : Nat) (bs : List Byte) : State :=
  (splitUnits a bs).foldl (fun (s : State) p =>
    let c := (hbmDecode p.1).chan
    s.setChan c { s.chan c with queue := (s.chan c).queue ++ [.own p.1 p.2] }) s

/-- One byte as later traffic of the package will read it: what waits for an open slot comes before it (R230). -/
def ownByte (s : State) (a : Nat) : Byte :=
  (s.chan (hbmDecode a).chan).queue.foldl (fun b q => match q with
    | .own p bs => if p ≤ a then bs.getD (a - p) b else b
    | .copy _ _ => b) (s.mem.byte a)

/-- Bytes and numbers as the package's own traffic reads them. -/
def ownBytes (s : State) (a n : Nat) : List Byte := (List.range n).map (fun i => s.ownByte (a + i))
def ownNat (s : State) (a n : Nat) : Nat := ofBytes (s.ownBytes a n)

/-- A channel of a group trains: open-slot traffic to the group waits (R258). -/
def groupTrains (s : State) (g : Nat) : Bool := (List.range 4).any (fun k => (s.chan (4 * g + k)).training)

/-- Some byte of a range lies in a group of which a channel trains. -/
def rangeTrains (s : State) (a n : Nat) : Bool :=
  (List.range 32).any (fun g => meets a n (groupBase g) 0x240000000 && s.groupTrains g)

/-- The package's own traffic to a range still waits for open slots. -/
def ownWaits (s : State) (a n : Nat) : Bool :=
  s.hbm.chans.any (fun p => p.2.queue.any (fun q => match q with
    | .own b bs => meets a n b bs.length
    | .copy _ _ => false))

/-- The channel has an open slot now: one access each; in an epoch, a data slot that the list leaves unused (R229). -/
def slotOpen (s : State) (c : Nat) : Bool :=
  (s.chan c).used != some (s.clk.now, s.clk.sub) &&
  (decide (s.epochN ≤ s.clk.cycle) ||
    (slotCycle (dataGrid s.fuse.variant) (slotIdx (dataGrid s.fuse.variant) s.clk.cycle) == s.clk.cycle &&
      !(s.notStopped && (s.listUnits c).any (fun u => u.2.1 == s.clk.cycle))))

/-- An open-slot access to a unit keeps the WR-to-RD gap against the scheduled ones of the epoch (R231). -/
def gapKept (s : State) (c a : Nat) (write : Bool) : Bool :=
  decide (s.epochN ≤ s.clk.cycle) || (s.listUnits c).all (fun u =>
    u.1 != a || u.2.2 != write ||
    (if write then decide (u.2.1 < s.clk.cycle ∨ s.clk.cycle + (dramT s.fuse.variant).wtr ≤ u.2.1)
     else decide (s.clk.cycle < u.2.1 ∨ u.2.1 + (dramT s.fuse.variant).wtr ≤ s.clk.cycle)))

/-- The package's own writes that wait, oldest first on each channel. -/
def ownUnits (s : State) : List (Nat × List Byte) :=
  s.hbm.chans.flatMap (fun p => p.2.queue.filterMap (fun q => match q with
    | .own a bs => some (a, bs)
    | .copy _ _ => none))

/-- The controllers finish the writes that they hold (notes/assumptions/73). -/
def flushOwn (s : State) : State := s.ownUnits.foldl (fun s p => s.poke p.1 p.2) s

/-- A refresh begins: 160 ns (R221 table, R237). -/
def refresh (s : State) (c : Nat) : State := s.setChan c { s.chan c with refreshUntil := s.clk.now + 160 }

/-- REFPB of a MEM section: an entry of the channel's list at its CYCLE (R233). -/
def doRefpb (s : State) (c sid bg bank : Nat) : State :=
  if s.entryNow c [(26, 3, 3), (29, 2, sid), (31, 2, bg), (33, 2, bank)] && !s.outOfService (c / 4) then s.refresh c else s

/-- REFRESH_TIMER during a pause, and while an abort has stopped the schedule (R237). -/
def doRefreshTimer (s : State) (c : Nat) : State :=
  if (s.clk.pauseFrom.isSome || !s.notStopped) && !s.outOfService (c / 4) then s.refresh c else s

/-- CHANNEL_RETRAIN_DUE: at once in an unclaimed group, else due (R258, R259); the retrains of a die whose pair is halted wait (18 R810). -/
def doRetrainDue (s : State) (c : Nat) : State :=
  let x := s.chan c
  if !s.started || x.training || s.outOfService (c / 4) then s
  else if s.groupClaimed (c / 4) || s.awlHalted (c / 32) then s.setChan c { x with due := true }
  else s.setChan c { x with due := false, training := true, attempts := 0 }

/-- The due channels that `f` selects begin to train (R259). -/
def startTraining (s : State) (f : Nat → Bool) : State :=
  s.hbm.chans.foldl (fun s p =>
    if p.2.due && f p.1 && !s.awlHalted (p.1 / 32) then s.setChan p.1 { p.2 with due := false, training := true, attempts := 0 } else s) s

/-- Fail every COPY with a unit waiting in a channel group (R919): its units leave every channel. -/
def copiesIn (s : State) (g : Nat) : List Nat :=
  (List.range 4).flatMap (fun k => (s.chan (4 * g + k)).queue.filterMap (fun q => match q with
    | .copy j _ => some j
    | .own _ _ => none))

/-- Drop the waiting units of a COPY. -/
def dropUnits (s : State) (job : Nat) : State :=
  let keep := fun (q : OpenReq) => match q with
    | .copy j _ => j != job
    | .own _ _ => true
  s.hbm.chans.foldl (fun s p => s.setChan p.1 { p.2 with queue := p.2.queue.filter keep }) s

/-- A channel group goes out of service with 0x0609 (R261); the package's own traffic to it is dropped (R919). -/
def loseGroup (s : State) (c : Nat) : State :=
  let g := c / 4
  let s0 := (List.range 4).foldl (fun (s : State) k =>
    let x := s.chan (4 * g + k)
    s.setChan (4 * g + k) { x with queue := x.queue.filter (fun q => match q with
      | .copy _ _ => true
      | .own _ _ => false) }) s
  let s1 := s0.record 0x0609 (chanLoc c)
  let s2 := { s1 with
    hbm := { s1.hbm with groupOut := s1.hbm.groupOut ++ [g] }
    boot := { s1.boot with islands := s1.boot.islands.filter (fun i => i != hbmIsland (c / 16)) } }
  if s2.groupClaimed g then s2.trigger 0x0609 else s2

end State

/-! ### Meanings -/

/-- A RD run (R234, R915, R916). -/
def execRdRun (chan : Fin 128) (run : MemRun) (s : State) : Res := .next (s.doRun chan true run)
/-- A WR run (R239, R915, R916). -/
def execWrRun (chan : Fin 128) (run : MemRun) (s : State) : Res := .next (s.doRun chan false run)
/-- REFpb (R233). -/
def execRefpb (chan : Fin 128) (sid : Fin 3) (bg bank : Fin 4) (s : State) : Res := .next (s.doRefpb chan sid bg bank)
/-- REFpb on the controller's timer (R237). -/
def execRefreshTimer (chan : Fin 128) (s : State) : Res := .next (s.doRefreshTimer chan)
/-- A channel becomes due (R258, R259). -/
def execChannelRetrainDue (chan : Fin 128) (s : State) : Res := .next (s.doRetrainDue chan)

end Sys2Proof.Machine
end

