-- ==== Sys2Proof/Machine/Crypto.lean ====
section
/-! DEFINITION. Checks and keyed digests: CRC-32 and the row tag (11 R463-R465), CRC-8 (10 R905), SHA-256 and HMAC-SHA-256 (14 R625, R636). -/

namespace Sys2Proof.Machine

/-- One shift of the CRC-32 register, least significant bit first (IEEE 802.3; notes/assumptions/18). -/
def crcShift (r : Nat) : Nat := if r % 2 = 1 then (r / 2) ^^^ 0xEDB88320 else r / 2

/-- `n` shifts. -/
def crcShifts : Nat → Nat → Nat
  | 0, r => r
  | n + 1, r => crcShifts n (crcShift r)

/-- The register after the bytes of a list. -/
def crcRun (r : Nat) : List Byte → Nat
  | [] => r
  | b :: bs => crcRun (crcShifts 8 (r ^^^ b.toNat)) bs

/-- CRC-32 with initial value and final XOR 0xFFFF_FFFF. -/
def crc32 (bs : List Byte) : Nat := (crcRun 0xFFFFFFFF bs) ^^^ 0xFFFFFFFF

/-- The inverse of `crcShift`. -/
def crcUnshift (r : Nat) : Nat :=
  if r / 2 ^ 31 % 2 = 1 then ((r ^^^ 0xEDB88320) * 2 + 1) % 2 ^ 32 else r * 2 % 2 ^ 32

/-- `n` inverse shifts. -/
def crcUnshifts : Nat → Nat → Nat
  | 0, r => r
  | n + 1, r => crcUnshifts n (crcUnshift r)

/-- The 256 bytes of a row body or a flit payload, byte 0 first (04 R161). -/
def bodyBytes (b : BitVec 2048) : List Byte := toBytes 256 b.toNat

/-- The row check of a tag and a body (11 R463). -/
def rowCheck (tag : Nat) (body : BitVec 2048) : Nat := crc32 (toBytes 4 tag ++ bodyBytes body)

/-- The tag that received side bits carry for a body (11 R465): the difference from the check of tag 0, taken back through the 260 bytes. -/
def rowTag (side : Nat) (body : BitVec 2048) : Nat := crcUnshifts 2080 (side ^^^ rowCheck 0 body)

/-- CRC-8 over `n` bits, least significant first (10 R905). -/
def crc8 (v : Nat) : Nat → Nat → Nat
  | 0, r => r
  | n + 1, r =>
    let f := (r / 128 + v % 2) % 2
    let r2 := r * 2 % 256
    crc8 (v / 2) n (if f = 1 then r2 ^^^ 0x07 else r2)

/-- CHK of an alignment marker (10 R417): over bits 4 to 123. -/
def markerChk (m : Nat) : Nat := crc8 (m / 16) 120 0

/-! ### SHA-256 (FIPS 180-4) -/

/-- Addition of 32-bit words. -/
def add32 (a b : Nat) : Nat := (a + b) % 2 ^ 32

/-- Rotation right of a 32-bit word. -/
def ror32 (n x : Nat) : Nat := x / 2 ^ n + x % 2 ^ n * 2 ^ (32 - n)

def shaS0 (x : Nat) : Nat := ror32 2 x ^^^ ror32 13 x ^^^ ror32 22 x
def shaS1 (x : Nat) : Nat := ror32 6 x ^^^ ror32 11 x ^^^ ror32 25 x
def shaT0 (x : Nat) : Nat := ror32 7 x ^^^ ror32 18 x ^^^ x / 8
def shaT1 (x : Nat) : Nat := ror32 17 x ^^^ ror32 19 x ^^^ x / 1024

/-- The eight working words. -/
structure ShaW where
  a : Nat
  b : Nat
  c : Nat
  d : Nat
  e : Nat
  f : Nat
  g : Nat
  h : Nat
deriving DecidableEq, Repr

/-- The initial digest. -/
def shaInit : ShaW :=
  ⟨0x6A09E667, 0xBB67AE85, 0x3C6EF372, 0xA54FF53A, 0x510E527F, 0x9B05688C, 0x1F83D9AB, 0x5BE0CD19⟩

/-- The round constants. -/
def shaK : List Nat :=
  [0x428A2F98, 0x71374491, 0xB5C0FBCF, 0xE9B5DBA5, 0x3956C25B, 0x59F111F1, 0x923F82A4, 0xAB1C5ED5, 0xD807AA98, 0x12835B01, 0x243185BE, 0x550C7DC3, 0x72BE5D74, 0x80DEB1FE, 0x9BDC06A7, 0xC19BF174] ++
  [0xE49B69C1, 0xEFBE4786, 0x0FC19DC6, 0x240CA1CC, 0x2DE92C6F, 0x4A7484AA, 0x5CB0A9DC, 0x76F988DA, 0x983E5152, 0xA831C66D, 0xB00327C8, 0xBF597FC7, 0xC6E00BF3, 0xD5A79147, 0x06CA6351, 0x14292967] ++
  [0x27B70A85, 0x2E1B2138, 0x4D2C6DFC, 0x53380D13, 0x650A7354, 0x766A0ABB, 0x81C2C92E, 0x92722C85, 0xA2BFE8A1, 0xA81A664B, 0xC24B8B70, 0xC76C51A3, 0xD192E819, 0xD6990624, 0xF40E3585, 0x106AA070] ++
  [0x19A4C116, 0x1E376C08, 0x2748774C, 0x34B0BCB5, 0x391C0CB3, 0x4ED8AA4A, 0x5B9CCA4F, 0x682E6FF3, 0x748F82EE, 0x78A5636F, 0x84C87814, 0x8CC70208, 0x90BEFFFA, 0xA4506CEB, 0xBEF9A3F7, 0xC67178F2]

/-- One round with schedule word `w` and constant `k`. -/
def shaRound (s : ShaW) (k w : Nat) : ShaW :=
  let ch := (s.e &&& s.f) ^^^ ((2 ^ 32 - 1 - s.e) &&& s.g)
  let t1 := (s.h + shaS1 s.e + ch + k + w) % 2 ^ 32
  let mj := (s.a &&& s.b) ^^^ (s.a &&& s.c) ^^^ (s.b &&& s.c)
  let t2 := (shaS0 s.a + mj) % 2 ^ 32
  ⟨add32 t1 t2, s.a, s.b, s.c, add32 s.d t1, s.e, s.f, s.g⟩

/-- The rounds of a block over a window of sixteen schedule words. -/
def shaRounds : List Nat → List Nat → ShaW → ShaW
  | [], _, s => s
  | _, [], s => s
  | k :: ks, w :: ws, s =>
    let n := (w + shaT0 (ws.getD 0 0) + ws.getD 8 0 + shaT1 (ws.getD 13 0)) % 2 ^ 32
    shaRounds ks (ws ++ [n]) (shaRound s k w)

/-- Big-endian 32-bit words of a byte list. -/
def beWords : List Byte → List Nat
  | a :: b :: c :: d :: r => (((a.toNat * 256 + b.toNat) * 256 + c.toNat) * 256 + d.toNat) :: beWords r
  | _ => []

/-- The compression of one block of sixteen words. -/
def shaBlock (s : ShaW) (ws : List Nat) : ShaW :=
  let t := shaRounds shaK ws s
  ⟨add32 s.a t.a, add32 s.b t.b, add32 s.c t.c, add32 s.d t.d, add32 s.e t.e, add32 s.f t.f, add32 s.g t.g, add32 s.h t.h⟩

/-- Compress `n` blocks from a list of words. -/
def shaBlocks : Nat → List Nat → ShaW → ShaW
  | 0, _, s => s
  | n + 1, ws, s => shaBlocks n (ws.drop 16) (shaBlock s (ws.take 16))

/-- Big-endian bytes of a number, `n` of them. -/
def beBytes (n v : Nat) : List Byte := (toBytes n v).reverse

/-- SHA-256 of a byte list. -/
def sha256 (m : List Byte) : List Byte :=
  let pad := (119 - m.length % 64) % 64
  let padded := m ++ 0x80#8 :: List.replicate pad 0#8 ++ beBytes 8 (8 * m.length)
  let s := shaBlocks (padded.length / 64) (beWords padded) shaInit
  beBytes 4 s.a ++ beBytes 4 s.b ++ beBytes 4 s.c ++ beBytes 4 s.d ++
    beBytes 4 s.e ++ beBytes 4 s.f ++ beBytes 4 s.g ++ beBytes 4 s.h

/-- A key padded to a block (keys here hold at most 64 bytes). -/
def hmacPad (x : Byte) (key : List Byte) : List Byte :=
  (key ++ List.replicate (64 - key.length) 0#8).map (· ^^^ x)

/-- HMAC-SHA-256. -/
def hmac (key m : List Byte) : List Byte :=
  sha256 (hmacPad 0x5C#8 key ++ sha256 (hmacPad 0x36#8 key ++ m))

end Sys2Proof.Machine
end

