-- ==== Sys2Proof/Machine/Regs.lean ====
section
/-! DEFINITION. The registers of BAR0 as they read, and the pending copies of run-time settings (02 R82-R89, 20, and the register tables of 01-18). -/

namespace Sys2Proof.Machine

/-! ### Records as bytes -/

/-- Close a record with its CRC-32 commit word. -/
def withCommit (bs : List Byte) : List Byte := bs ++ toBytes 4 (crc32 bs)

/-- The five location fields (15 R662): LKIND, UNIT, A, B, C. -/
def Loc.bytes (l : Loc) : List Byte :=
  toBytes 1 l.kind ++ toBytes 1 l.unit ++ toBytes 2 l.a ++ toBytes 2 l.b ++ toBytes 2 l.c

/-- An event record (18 R796). -/
def EvRec.bytes (r : EvRec) : List Byte :=
  withCommit (toBytes 8 r.eseq ++ toBytes 8 r.ev.time ++ toBytes 8 r.ev.epoch ++ toBytes 2 r.ev.code ++
    r.ev.loc.bytes ++ toBytes 2 r.lost ++ toBytes 24 r.ev.detail)

/-- A stage report record (15 R662). -/
def Report.bytes (r : Report) : List Byte :=
  withCommit (toBytes 1 r.stage ++ toBytes 1 r.result ++ toBytes 2 r.code ++ toBytes 2 r.notes ++
    toBytes 1 (if r.warm then 1 else 0) ++ toBytes 1 r.attempt ++ toBytes 8 r.start ++ toBytes 8 r.finish ++
    toBytes 8 r.bootSeq ++ r.loc.bytes ++ List.replicate 24 0#8 ++ toBytes 188 r.detail)

/-- The 32-bit word at a byte offset of a record; 0 beyond its end. -/
def recWord (bs : List Byte) (o : Nat) : Word := BitVec.ofNat 32 (ofBytes ((bs.drop o).take 4))

/-- The low or the high word of a 64-bit value, by its offset. -/
def half (o v : Nat) : Word := BitVec.ofNat 32 (if o = 0 then v else v / 2 ^ 32)

/-- A Boolean as a bit. -/
def b2n (b : Bool) : Nat := if b then 1 else 0

/-- Numbers below `n` that satisfy a predicate, as a bit mask. -/
def maskOf (f : Nat → Bool) : Nat → Nat
  | 0 => 0
  | n + 1 => maskOf f n + (if f n then 2 ^ n else 0)

/-! ### Codes of structured state -/

def BridgeState.code : BridgeState → Nat
  | .untrained => 0
  | .training => 1
  | .active => 2
  | .down => 3

def LnState.code : LnState → Nat
  | .off => 0
  | .detect => 1
  | .align => 2
  | .bitlock => 3
  | .frame => 4
  | .capx => 5
  | .active => 6

def LkState.code : LkState → Nat
  | .out => 0
  | .inSched => 1
  | .down => 2
  | .rerouted => 3

def KeyState.code : KeyState → Nat
  | .empty => 0
  | .active => 1
  | .locked => 2

def LastState.code : LastState → Nat
  | .validating => 1
  | .staged => 2
  | .running => 3

def FlashSt.code : FlashSt → Nat
  | .idle => 0
  | .erasing => 1
  | .erased => 2
  | .writing => 3
  | .verifying => 4
  | .failed => 5

def Standby.code : Standby → Nat
  | .none => 0
  | .resync => 1
  | .inStep => 2
  | .failed => 3

/-- BOOT_STATUS.STAGE (15). A package held in reset reads the cold value. -/
def Phase.code : Phase → Nat
  | .heldReset => 0
  | .stage n => n
  | .started => 5
  | .sole => 6
  | .waitRetry => 7
  | .shankFailed => 0
  | .headless => 5

/-- The bank of a writer (20 R852). -/
def bankOf : Src → Nat
  | .portA => 0
  | .portB => 1
  | .mctp => 2
  | .awl => 3

namespace State

/-- The control port is port B (13 R568). -/
def controlB (s : State) : Bool := s.shk.activeP2

/-- PKG_DIE_IDENT_n (01). -/
def identWord (s : State) (n : Nat) : Word :=
  let d := s.boot.ident.get {} n
  BitVec.ofNat 32 (d.rot + 4 * b2n d.mirror + 2 ^ 4 * d.next + 2 ^ 6 * d.prev + 2 ^ 8 * d.yz +
    2 ^ 10 * b2n d.host + 2 ^ 12 * d.role + 2 ^ 14 * d.st + 2 ^ 16 * d.fault)

/-- HIF_PORT_p (20). -/
def portWord (s : State) (p : Nat) : Word :=
  let r := if p = 0 then s.host.portA else s.host.portB
  let ctl := 2 ^ 8 * b2n (s.controlB == (p == 1))
  match r.st with
  | .down => BitVec.ofNat 32 ctl
  | .l0 => BitVec.ofNat 32 (1 + 2 * (Config.portLink p).toNat + ctl)
  | .l1 => BitVec.ofNat 32 (1 + 2 * (Config.portLink p).toNat + ctl + 2 ^ 9)

/-- The number of ring `q` as the PF and its owner see it, and whether it is enabled (13, ACTIVE). -/
def ringActive (s : State) (q : Nat) : Bool := s.bits (ringReg q + 0x10) 16 1 == 1

/-- Ring words 0x1C and 0x20 (13). -/
def ringStatus (s : State) (q : Nat) : Word :=
  let r := s.host.rings.get {} q
  BitVec.ofNat 32 (r.sqHead % 2 ^ 16 + 2 ^ 16 * b2n r.stopped + 2 ^ 17 * b2n (s.ringActive q))

/-- CMD_STATUS, CMD_KEY_k, CMD_LAST_r and the journal pointers (14). -/
def cmdWord (s : State) (o : Nat) : Word :=
  if o = 0x10 then
    BitVec.ofNat 32 (b2n s.cmd.override + 2 * b2n s.cmd.keyrec + 4 * b2n (s.cmd.spent || s.fuse.spent) +
      2 ^ 8 * s.cmd.queue.length)
  else if 0x100 ≤ o ∧ o < 0x200 then
    let k := s.cmd.keys.get {} ((o - 0x100) / 0x20)
    match o % 0x20 with
    | 0 => BitVec.ofNat 32 (k.st.code + 2 ^ 8 * k.rights)
    | 8 => half 0 k.counter
    | 12 => half 4 k.counter
    | 16 => half 0 k.mark
    | 20 => half 4 k.mark
    | 24 => BitVec.ofNat 32 k.fails
    | _ => 0#32
  else if 0x1000 ≤ o ∧ o < 0x1400 then
    let r := (o - 0x1000) / 0x40
    match s.cmd.lasts.find r with
    | none => 0#32
    | some l =>
      match o % 0x40 with
      | 0 => half 0 l.id
      | 4 => half 4 l.id
      | 8 => half 0 l.start
      | 12 => half 4 l.start
      | 16 => half 0 l.run
      | 20 => half 4 l.run
      | 24 => BitVec.ofNat 32 l.rowMask
      | 28 => BitVec.ofNat 32 (l.st.code + 16 * r)
      | 32 => half 0 l.jseq
      | 36 => half 4 l.jseq
      | _ => 0#32
  else if o = 0x80000 ∨ o = 0x80004 then
    half (o - 0x80000) (if s.shk.activeP2 then 0x2CF7C00000 else 0x08F7C00000)
  else if o = 0x80008 ∨ o = 0x8000C then half (o - 0x80008) s.cmd.jnlNext
  else if o = 0x80010 ∨ o = 0x80014 then half (o - 0x80010) s.cmd.jnlAck
  else s.word (cmdBase + o)

/-- The barriers that resident lasts claim. -/
def barrierClaimed (s : State) (k : Nat) : Bool :=
  s.cmd.lasts.any (fun p => p.2.st == .running && p.2.sections.claims.barriers.any (fun b => b.val == k))

/-- CTX_MS_DEPTH_m, SYN_COUNT_s and FB_STATE_k (07). -/
def ctxWord (s : State) (o : Nat) : Word :=
  if 0x10000 ≤ o ∧ o < 0x11000 then
    let m := (o - 0x10000) / 4
    let r := s.ctx.slots.get {} m
    BitVec.ofNat 32 (s.ctx.depth.get 0 m % 2 ^ 21 + 2 ^ 21 * r.home + 2 ^ 23 * b2n r.loaded)
  else if 0x40000 ≤ o ∧ o < 0x44000 then BitVec.ofNat 32 (s.sync.objs.get {} ((o - 0x40000) / 4)).c
  else if 0x50000 ≤ o ∧ o < 0x51000 then
    let k := (o - 0x50000) / 16
    let b := s.sync.barriers.get {} k
    match o % 16 with
    | 0 => half 0 b.gen
    | 4 => half 4 b.gen
    | 8 => BitVec.ofNat 32 (b2n b.arrived + 2 * b2n (s.barrierClaimed k))
    | _ => 0#32
  else s.word (ctxBase + o)

/-- BOOT_STATUS (15). -/
def bootStatus (s : State) : Word :=
  BitVec.ofNat 32 (s.boot.phase.code + 8 * b2n s.boot.warm + 16 * b2n s.boot.fallback +
    32 * b2n s.boot.record.trial + 64 * b2n s.boot.slotB + 2 ^ 8 * s.boot.record.fails +
    2 ^ 16 * s.boot.record.lastCode)

/-- SHK_STATE (16). -/
def shkWord (s : State) : Word :=
  BitVec.ofNat 32 ((if s.shk.activeP2 then 2 else 0) + 4 * s.shk.standby.code +
    16 * (if s.shk.standbyP0 then 0 else 2) + 64 * b2n s.shk.feedToP0 + 2 ^ 16 * s.shk.lastCode)

/-- The BOOT/SHK block (15, 16, 20 fuse readout). -/
def bootWord (s : State) (o : Nat) : Word :=
  if o = 0x10 then s.bootStatus
  else if o = 0x18 ∨ o = 0x1C then half (o - 0x18) s.boot.record.seq
  else if 0x100 ≤ o ∧ o < 0x110 then
    let n := (o - 0x100) / 4
    let m := s.boot.rowmap.get {} n
    let f := s.fuse.rowSpare.find n
    BitVec.ofNat 32 (m.row + 16 * m.src + 2 ^ 8 * b2n f.isSome + 2 ^ 12 * f.getD 0)
  else if o = 0x200 ∨ o = 0x204 then half (o - 0x200) s.fuse.serial
  else if o = 0x208 then
    BitVec.ofNat 32 (s.fuse.variant + 4 * s.fuse.watts + 2 ^ 12 * s.fuse.mhz + 2 ^ 23 * b2n s.fuse.spent +
      2 ^ 24 * b2n s.fuse.factory + 2 ^ 25 * b2n s.fuse.usedP2)
  else if 0x220 ≤ o ∧ o < 0x250 then recWord (beBytes 48 s.fuse.rootPk) (o - 0x220)
  else if 0x260 ≤ o ∧ o < 0x2A0 then
    recWord (toBytes 16 (s.fuse.ident.get 0 ((o - 0x260) / 16))) (o % 16)
  else if 0x2A0 ≤ o ∧ o < 0x2B0 then BitVec.ofNat 32 (s.fuse.yzRev.get 0 ((o - 0x2A0) / 4))
  else if 0x1000 ≤ o ∧ o < 0x1500 then
    match s.boot.reports.find ((o - 0x1000) / 0x100) with
    | some r => recWord r.bytes (o % 0x100)
    | none => 0#32
  else if 0x1800 ≤ o ∧ o < 0x1B00 then
    match s.boot.record.failed[(o - 0x1800) / 0x100]? with
    | some r => recWord r.bytes (o % 0x100)
    | none => 0#32
  else if 0x4000 ≤ o ∧ o < 0x5000 then
    -- entry i of the sole-mode ring: the newest entry whose JSEQ mod 64 is i (15 R702)
    let i := (o - 0x4000) / 64
    recWord (s.cmd.sole.getD i []) (o % 64)
  else if o = 0x8000 then s.shkWord
  else s.word (bootBase + o)

/-- Spare rows and spare DQ lanes left in a stack (06 R254). -/
def rowLeft (s : State) (h : Nat) : Nat :=
  3072 - ((s.hbm.rowUsed.filter (fun p => p.1 / 768 == h)).map (fun p => p.2)).foldl (fun (a b : Nat) => a + b) 0
def laneLeft (s : State) (h : Nat) : Nat := 64 - s.hbm.laneUsed.get 0 h

/-- LEFT_PCT of a stack (06, MEM_STACK_HEALTH_h). -/
def leftPct (s : State) (h : Nat) : Nat :=
  if s.hbm.groupOut.any (fun g => g / 4 == h) then 0
  else min (100 * s.rowLeft h / 3072) (100 * s.laneLeft h / 64)

/-- The MEM block (06). -/
def memWord (s : State) (o : Nat) : Word :=
  if 0x100 ≤ o ∧ o < 0x180 ∧ o % 0x10 = 0 then
    let h := (o - 0x100) / 0x10
    if !s.hbm.known then 0#32 else
    let pct := s.leftPct h
    let out := s.hbm.groupOut.any (fun g => g / 4 == h)
    BitVec.ofNat 32 (s.rowLeft h + 2 ^ 12 * s.laneLeft h + 2 ^ 19 * pct +
      2 ^ 26 * b2n (decide (pct < 10)) + 2 ^ 27 * b2n out)
  else s.word (memBase + o)

/-- Channels of Wy that are down, either direction (08 R356). -/
def chanDown (s : State) (y c : Nat) : Bool :=
  (s.br.dirs.get {} (64 * y + 2 * c)).down || (s.br.dirs.get {} (64 * y + 2 * c + 1)).down

/-- The SBR block (08). -/
def sbrWord (s : State) (o : Nat) : Word :=
  if 0x100 ≤ o ∧ o < 0x180 then
    let b := (o - 0x100) / 0x10
    match o % 0x10 with
    | 0 => BitVec.ofNat 32 ((s.br.st.get .untrained b).code + 4 * b2n (s.br.due.contains b))
    | 4 => if 4 ≤ b then BitVec.ofNat 32 (maskOf (s.chanDown (b - 4)) 32) else 0#32
    | _ => 0#32
  else if 0x100000 ≤ o ∧ o < 0x120000 ∧ (s.word (sbrBase + 0x400 + 0x10 * ((o - 0x100000) / 0x8000))).getLsbD 9 then
    s.word (0x8000000 + sbrBase + o)
  else s.word (sbrBase + o)

/-- A laser group as YZ_LASER_g shows it (09). -/
def laserWord (s : State) (y g : Nat) : Nat :=
  let ch := fun k => s.opt.channels.get {} (68 * y + 17 * g + k)
  maskOf (fun k => (ch k).spare == .bus) 17 + 2 ^ 32 * maskOf (fun k => (ch k).primary == .dead) 17

/-- LN_STATE_p and LN_MAP_p (10). -/
def lnWord (s : State) (l o : Nat) : Option Word :=
  let r := s.ln.get {} l
  let map := r.txSpare + 2 ^ 5 * r.rxSpare + 2 ^ 10 * r.retired.toNat + 2 ^ 27 * r.rxLock.toNat + 2 ^ 44 * r.urgent.toNat
  if o = 0 then some (BitVec.ofNat 32 (r.st.code + 8 * b2n r.duty + 2 ^ 8 * min r.attempts 255))
  else if o = 8 then some (half 0 map)
  else if o = 12 then some (half 4 map)
  else none

/-- LK_STATE_p, the indices and M_L (11). -/
def lkWord (s : State) (l o : Nat) : Option Word :=
  let r := s.lk.get {} l
  if o = 0 then some (BitVec.ofNat 32 (r.st.code + 4 * b2n r.carrying))
  else if o = 8 then some (BitVec.ofNat 32 (r.tx - (r.queue.filter (fun x => !r.kept.any (fun y => y.index == x.index))).length))
  else if o = 12 then some (BitVec.ofNat 32 r.rx)
  else if o = 0x48 then some (BitVec.ofNat 32 r.ml)
  else none

/-- A chiplet's block (09, 10, 11). -/
def yzWord (s : State) (off : Nat) : Word :=
  let y := (off - 0x800000) / 0x100000
  let o := off % 0x100000
  if 0x100 ≤ o ∧ o < 0x120 then half (o % 8) (s.laserWord y ((o - 0x100) / 8))
  else if o = 0x218 then
    let b := s.opt.base.get {} y
    BitVec.ofNat 32 (b.use + 8 * b.high + 64 * b2n b.due)
  else if 0x20000 ≤ o ∧ o < 0x40000 then
    (s.lnWord (32 * y + (o - 0x20000) / 0x1000) (o % 0x1000)).getD (s.word off)
  else if 0x40000 ≤ o ∧ o < 0x60000 then
    (s.lkWord (32 * y + (o - 0x40000) / 0x1000) (o % 0x1000)).getD (s.word off)
  else s.word off

/-- FAB_ENROLLED (12). -/
def enrolledWord (s : State) : Word :=
  BitVec.ofNat 32 (maskOf (fun i => (s.fab.lace.get {} i).enrolled) 32)

/-- How long a lock's holder has been halted in its hold, in ns: the holders 0 to 3 are shanks (18 R811). -/
def lockHalted (s : State) (l : Lock) : Nat :=
  match l.holder with
  | none => 0
  | some h =>
    l.halted + (if h < 4 then (match s.shk.awlHalt.find h with
      | some t => s.clk.now - t
      | none => 0) else 0)

/-- MGT_LOCK_k as it stands (18 R811). -/
def lockWord (s : State) (k : Nat) : Word :=
  let l := s.mgt.locks.get {} k
  match l.holder with
  | none => 0#32
  | some h => BitVec.ofNat 32 ((if 1000000 ≤ s.lockHalted l then 2 else 1) + 256 * h)

/-- The CAL/MGT/DBG block (16, 18). -/
def mgtWord (s : State) (o : Nat) : Word :=
  if 0x100 ≤ o ∧ o < 0x200 then
    match s.mgt.calRecs.find ((o - 0x100) / 0x40) with
    | some r => recWord (withCommit (toBytes 4 r.seq ++ r.bytes)) (o % 0x40)
    | none => 0#32
  else if o = 0x3000 ∨ o = 0x3004 then half (o - 0x3000) s.mgt.evtNext
  else if o = 0x3008 ∨ o = 0x300C then half (o - 0x3008) s.mgt.evtAck
  else if o = 0x3100 then BitVec.ofNat 32 s.mgt.eid
  else if o = 0x3104 then BitVec.ofNat 32 s.mgt.smbAddr
  else if 0x4000 ≤ o ∧ o < 0x4040 then s.lockWord ((o - 0x4000) / 4)
  else if o = 0x5010 then
    BitVec.ofNat 32 (s.flash.st.code + 8 * b2n s.flash.slot + 16 * s.flash.sector + 2 ^ 16 * s.flash.code)
  else if 0x6000 ≤ o ∧ o < 0x7000 then
    BitVec.ofNat 32 (ofBytes ((List.range 4).map (fun i => s.flash.buf.get 0#8 (o - 0x6000 + i))))
  else if o = 0x10100 then BitVec.ofNat 32 s.mgt.replace.toNat
  else if o = 0x10118 then BitVec.ofNat 32 s.mgt.laneLinks
  else if 0x100000 ≤ o ∧ o < 0x200000 then
    match s.mgt.evtLog.find ((o - 0x100000) / 64) with
    | some r => recWord r.bytes (o % 64)
    | none => 0#32
  else s.word (mgtBase + o)

/-- Write-only words and words without storage read 0 (20 R845). -/
def writeOnly (off : Nat) : Bool :=
  off == 0x200 || off == bootBase + 0x20 || off == mgtBase + 0x5000

/-- A 32-bit register word, without the pending-copy view and the banked words. -/
def plainWord (s : State) (off : Nat) : Word :=
  if writeOnly off then 0#32
  else if off = 8 ∨ off = 12 then half (off - 8) s.clk.epoch
  else if 0x100 ≤ off ∧ off < 0x140 then (if off % 0x10 = 0 then s.identWord ((off - 0x100) / 0x10) else 0#32)
  else if off = 0x210 then BitVec.ofNat 32 (3 * s.bits 0x210 0 1)
  else if off < hifBase then s.word off
  else if off < cmdBase then
    let o := off - hifBase
    if o = 0x10 ∨ o = 0x18 then s.portWord ((o - 0x10) / 8)
    else if 0x40 ≤ o ∧ o < 0x50 then
      if s.bits hifBase 0 1 = 0 then coldWord off else s.word off
    else if 0x10000 ≤ o ∧ o < 0x50000 then
      let q := (o - 0x10000) / 0x40
      match o % 0x40 with
      | 0x1C => s.ringStatus q
      | 0x20 => BitVec.ofNat 32 (s.host.rings.get {} q).stopCode
      | _ => s.word off
    else if 0x80000 ≤ o ∧ o < 0x88000 ∧ o % 16 = 12 then
      BitVec.ofNat 32 (b2n (s.host.msix.get {} ((o - 0x80000) / 16)).masked)
    else if 0x90000 ≤ o ∧ o < 0x90100 then
      BitVec.ofNat 32 (maskOf (fun i => (s.host.msix.get {} (8 * (o - 0x90000) + i)).pend) 32)
    else s.word off
  else if off < ctxBase then s.cmdWord (off - cmdBase)
  else if off < bootBase then s.ctxWord (off - ctxBase)
  else if off < memBase then s.bootWord (off - bootBase)
  else if off < sbrBase then s.memWord (off - memBase)
  else if off < 0x800000 then s.sbrWord (off - sbrBase)
  else if off < fabBase then s.yzWord off
  else if off = fabBase + 0x128 then s.enrolledWord
  else if off < mgtBase then s.word off
  else s.mgtWord (off - mgtBase)

/-! ### Pending copies -/

/-- The pending copies armed in a word. -/
def pendsAt (s : State) (off : Nat) : List Pend := s.pend.filter (fun p => p.off == off)

/-- A word with some of its bits replaced. -/
def mergeBits (w mask v : Word) : Word := (w &&& ~~~mask) ||| (v &&& mask)

/-- What a word reads once every pending copy in it is active (20 R855); DARK_NOW follows DARK (17). -/
def viewWord (s : State) (off : Nat) : Word :=
  let w := (s.pendsAt off).foldl (fun w p => mergeBits w p.mask p.value) (s.plainWord off)
  if off = 0x210 then (if w.getLsbD 0 then 3#32 else 0#32) else w

/-- The lowest epoch named among the pending copies of a word (20 R856). -/
def viewEpoch (s : State) (off : Nat) : Nat :=
  (s.pendsAt off).foldl (fun e p => min e p.epoch) (2 ^ 64 - 1)

/-- The word that a bank selects, as PKG_PEND_VIEW shows it (20 R855): the banked words and the view's own have no pending copy. -/
def selectedWord (s : State) (k : Bank) : Word :=
  if k.sel = 0x248 ∨ k.sel = 0x24C then half (k.sel - 0x248) k.pendEpoch
  else if k.sel = 0x250 ∨ k.sel = 0x25C then BitVec.ofNat 32 k.sel
  else if k.sel = 0x260 ∨ k.sel = 0x264 then half (k.sel - 0x260) (s.viewEpoch k.sel)
  else if k.sel % 4 = 0 then s.viewWord k.sel else 0#32

/-- A register word as a writer's bank sees it (20 R852, R855, R856). -/
def readWord (s : State) (b : Src) (off : Nat) : Word :=
  let k := s.banks.get {} (bankOf b)
  if off = 0x248 ∨ off = 0x24C then half (off - 0x248) k.pendEpoch
  else if off = 0x250 then BitVec.ofNat 32 k.sel
  else if off = 0x258 then s.selectedWord k
  else if off = 0x25C then BitVec.ofNat 32 (k.sel + 2 ^ 31 * b2n !(s.pendsAt k.sel).isEmpty)
  else if off = 0x260 ∨ off = 0x264 then half (off - 0x260) (s.viewEpoch k.sel)
  else s.plainWord off

/-- A boundary's pending latch has passed for every epoch up to this one (02 R85): the current epoch, and the next once the latch of the coming boundary has passed. -/
def latchedEpoch (s : State) : Nat := if s.clk.latched then s.clk.epoch + 1 else s.clk.epoch

/-- Arm the pending copy of the field `mask` of a word (02 R85, R86, 20 R850, R853): nothing for an equal value; 0x0220 for an epoch whose latch has passed. -/
def arm (s : State) (off : Nat) (mask v : Word) (epoch : Nat) (owner : Option Nat := none) : State :=
  let old := s.pend.find? (fun p => p.off == off && p.mask == mask)
  let cur := match old with
    | some p => p.value
    | none => s.word off &&& mask
  if (v &&& mask) = cur then s
  else
    let new : Pend := { off := off, mask := mask, value := v &&& mask, epoch := epoch, owner := owner }
    match old with
    | some _ =>
      { s with pend := s.pend.map (fun (p : Pend) => if p.off == off && p.mask == mask then new else p) }.bump 0x240
    | none => { s with pend := s.pend ++ [new] }

/-- Whether a write of a field would change its pending copy (20 R850). -/
def wouldArm (s : State) (off : Nat) (mask v : Word) : Bool :=
  match s.pend.find? (fun p => p.off == off && p.mask == mask) with
  | some p => (v &&& mask) != p.value
  | none => (v &&& mask) != (s.word off &&& mask)

/-- Put one pending copy in force. -/
def applyPend (s : State) (p : Pend) : State := s.setWord p.off (mergeBits (s.word p.off) p.mask p.value)

/-- CTX_POOL_SIZE_n waits for an empty context cache, CTX_BASE_n for a die without contexts out of FREE (07 R269, 20 R864). -/
def deferred (s : State) (p : Pend) : Bool :=
  if ctxBase + 0x120 ≤ p.off ∧ p.off < ctxBase + 0x130 then
    let n := (p.off - ctxBase - 0x120) / 4
    s.ctx.live.any (fun c => c.idx / 1048576 == n && c.cached)
  else if ctxBase + 0x100 ≤ p.off ∧ p.off < ctxBase + 0x120 then
    let n := (p.off - ctxBase - 0x100) / 8
    s.ctx.live.any (fun c => c.idx / 1048576 == n)
  else false

/-- The pending copies that take effect at the boundary into epoch `e` (02 R84). -/
def dueNow (s : State) (e : Nat) (p : Pend) : Bool := decide (p.epoch ≤ e) && !s.deferred p

/-- The boundary step's change of settings into epoch `e` (02 R84). -/
def applyPends (s : State) (e : Nat) : State :=
  let due := s.pend.filter (s.dueNow e)
  let rest := s.pend.filter (fun p => !s.dueNow e p)
  due.foldl applyPend { s with pend := rest }

end State

end Sys2Proof.Machine
end

