-- ==== Sys2Proof/Machine/Journal.lean ====
section
/-! DEFINITION. The command journal (14 R645-R652; 15 R702). -/

namespace Sys2Proof.Machine

/-- The two journal copies, of the shank on P0 and of that on P2 (R645). -/
def jnlP0 : Nat := 0x08F7C00000
def jnlP2 : Nat := 0x2CF7C00000

/-- An entry as it is written (R648). -/
def JEnt.bytes (e : JEnt) (jseq time epoch : Nat) : List Byte :=
  withCommit (toBytes 8 jseq ++ toBytes 8 time ++ toBytes 8 epoch ++ toBytes 1 e.kind ++ toBytes 1 e.opc ++
    toBytes 2 e.status ++ toBytes 2 e.sq ++ toBytes 2 e.cid ++ toBytes 1 e.src ++ toBytes 1 e.kslot ++
    toBytes 6 0 ++ toBytes 8 e.counter ++ toBytes 8 e.arg0 ++ toBytes 4 e.arg1)

namespace State

/-- A write by the package's own traffic: in HBM3E it waits for an open slot (06 R230), and is dropped where its group is out of service (06 R919). -/
def pokeOwn (s : State) (a : Nat) (bs : List Byte) : State :=
  if s.rangeOut a bs.length then s
  else match placeOf a with
    | .hbm _ => s.queueOwn a bs
    | _ => s.poke a bs

/-- The standby shank writes its own copy of the journal (16 R713, R723 step 3). -/
def standbyWrites (s : State) : Bool := s.shk.standby == .inStep || s.shk.standby == .resync

/-- An entry enters a journal copy: its first 60 bytes, then COMMIT in a write of its own (14 R649). -/
def pokeEntry (s : State) (a : Nat) (bs : List Byte) : State := (s.pokeOwn a (bs.take 60)).pokeOwn (a + 60) (bs.drop 60)

/-- Commit an entry (14 R648-R651), in sole mode to the ring of 64 in shank SRAM (15 R702). -/
def commitEntry (s : State) (e : JEnt) : State :=
  match s.boot.phase with
  | .sole =>
    let n := s.cmd.soleNext
    let bs := e.bytes n s.clk.now s.clk.epoch
    { s with cmd := { s.cmd with
        soleNext := n + 1
        sole := if s.cmd.sole.length < 64 then s.cmd.sole ++ [bs] else s.cmd.sole.set (n % 64) bs } }
  | _ =>
    let n := s.cmd.jnlNext
    let bs := e.bytes n s.clk.now s.clk.epoch
    let o := 64 * (n % 65536)
    let s1 := { s with cmd := { s.cmd with jnlNext := n + 1 } }
    let s2 := if s.cmd.jnlAck + 65536 < n then s1.bump (cmdBase + 0x80018) else s1
    let s4 := s2.pokeEntry ((if s.shk.activeP2 then jnlP2 else jnlP0) + o) bs
    if s.standbyWrites then s4.pokeEntry ((if s.shk.activeP2 then jnlP0 else jnlP2) + o) bs else s4

/-- Journal an entry; it waits while the active pair is halted (18 R810). -/
def journal (s : State) (e : JEnt) : State :=
  if s.activeHalted then { s with cmd := { s.cmd with jnlHeld := s.cmd.jnlHeld ++ [e] } } else s.commitEntry e

/-- Commit the entries that waited for RESUME, in order. -/
def flushJournal (s : State) : State :=
  s.cmd.jnlHeld.foldl commitEntry { s with cmd := { s.cmd with jnlHeld := [] } }

/-- The JSEQ that the next entry takes. -/
def nextJseq (s : State) : Nat := if s.boot.phase = .sole then s.cmd.soleNext else s.cmd.jnlNext

/-- A RESET entry with its kind and code; PKG_RESET_STAT.LAST_KIND follows the latest (14 R647, 17). -/
def journalReset (s : State) (kind code : Nat) (src : Nat := 0) : State :=
  let w := s.word 0x220
  let s1 := s.setWord 0x220 (w - (w &&& 7#32) + BitVec.ofNat 32 kind)
  s1.journal { kind := 6, status := code, arg0 := kind, src := src }

end State

end Sys2Proof.Machine
end

