-- ==== Sys2Proof/Machine/HostOps.lean ====
section
/-! DEFINITION. Rings, completions and interrupts: the operations that the host commands share (13, Rings to Interrupts). -/

namespace Sys2Proof.Machine

/-- A field of a descriptor: `n` bytes from byte offset `o` (13, Descriptors). -/
def dField (d : BitVec 512) (o n : Nat) : Nat := d.toNat / 2 ^ (8 * o) % 2 ^ (8 * n)

/-- The header of a descriptor. -/
def dOpc (d : BitVec 512) : Nat := dField d 0 1
def dFence (d : BitVec 512) : Bool := dField d 1 1 % 2 == 1
def dQuiet (d : BitVec 512) : Bool := dField d 1 1 / 2 % 2 == 1
def dCid (d : BitVec 512) : Nat := dField d 2 2
def dCq (d : BitVec 512) : Nat := dField d 4 2

namespace State

/-- A ring as held. -/
def ring (s : State) (q : Nat) : RingQ := s.host.rings.get {} q
/-- Replace a ring. -/
def setRing (s : State) (q : Nat) (r : RingQ) : State := { s with host := { s.host with rings := s.host.rings.set {} q r } }

/-- The function that owns ring `q` (R575). -/
def owner (s : State) (q : Nat) : Nat := if q / 64 ≤ s.host.vfs then q / 64 else 0

/-- The port of a ring's DMA: 0 A, 1 B (ring word 0x10, PORT). -/
def ringPort (s : State) (q : Nat) : Nat := s.bits (ringReg q + 0x10) 17 1

/-- A port, and the same replaced. -/
def port (s : State) (p : Nat) : PortRec := if p = 0 then s.host.portA else s.host.portB
def setPort (s : State) (p : Nat) (r : PortRec) : State :=
  if p = 0 then { s with host := { s.host with portA := r } } else { s with host := { s.host with portB := r } }

/-- The entries of a ring's SQ and CQ. -/
def sqSize (s : State) (q : Nat) : Nat := 2 ^ s.bits (ringReg q + 0x10) 0 5
def cqSize (s : State) (q : Nat) : Nat := 2 ^ s.bits (ringReg q + 0x10) 8 5

/-- Rings work: a started package that is not headless (16, Takeover; R701). -/
def ringsRun (s : State) : Bool := s.started && !s.shk.headless && s.mgt.dark != .idle

/-- The CZ4 may read the next descriptor of a ring (R584, R604, R615, 17 R763, R769). -/
def readsFrom (s : State) (q : Nat) : Bool :=
  let r := s.ring q
  s.ringsRun && s.mgt.dark == .awake && s.ringActive q && !r.stopped && r.sqHead != r.sqTail &&
    !s.host.d3.contains (s.owner q) && (s.port (s.ringPort q)).st != .down

/-- FENCE: every earlier descriptor of the ring has posted its completion (R585). -/
def fenceOpen (s : State) (q : Nat) (d : BitVec 512) : Bool := !dFence d || (s.ring q).outstanding == 0

/-- Read a descriptor: SQ_HEAD passes it (R604), and its command is outstanding. -/
def takeDescriptor (s : State) (q : Nat) : State :=
  let r := s.ring q
  s.setRing q { r with sqHead := (r.sqHead + 1) % s.sqSize q, outstanding := r.outstanding + 1 }

/-- A command of a ring ended. -/
def endCommand (s : State) (q : Nat) : State :=
  s.setRing q { s.ring q with outstanding := (s.ring q).outstanding - 1 }

/-- A completion becomes due at a CQ (R608). -/
def addDue (s : State) (cq : Nat) (d : Due) : State := s.setRing cq { s.ring cq with due := (s.ring cq).due ++ [d] }

/-- Complete a command that came from ring `sq`. -/
def complete (s : State) (sq cid cq opc status : Nat) (tag : Nat := 0) (info : Nat := 0) : State :=
  s.addDue cq ⟨⟨cid, sq, status, tag, s.clk.epoch, info, opc⟩, none, none⟩

/-- The ring whose CQ takes a descriptor's completion: the one it names if the same function owns it, else its own (R587). -/
def cqFor (s : State) (q : Nat) (d : BitVec 512) : Nat :=
  if dCq d < 4096 ∧ s.owner (dCq d) = s.owner q then dCq d else q

/-- Refuse a descriptor (R593). -/
def refuse (s : State) (q : Nat) (d : BitVec 512) (code : Nat) (info : Nat := 0) (tag : Nat := 0) : State :=
  s.complete q (dCid d) (s.cqFor q d) (dOpc d) code tag info

/-- Stop a ring on an error; the code of a stopped ring stays (R615). -/
def stopRing (s : State) (q code : Nat) : State :=
  if (s.ring q).stopped then s else
  (s.setRing q { s.ring q with stopped := true, stopCode := code }).record code {} q

/-! ### Interrupts (R611-R614) -/

/-- Send an MSI-X message, or set the pending bit of a masked vector (R614); vectors are keyed by 2,048 · function + vector. -/
def msix (s : State) (fn v : Nat) : State :=
  let k := 2048 * fn + v
  let m := s.host.msix.get {} k
  if m.masked then { s with host := { s.host with msix := s.host.msix.set {} k { m with pend := true } } }
  else s.emit (.msix fn v)

/-- The condition of R612: the count, or the wait of the oldest completion. -/
def countReached (s : State) (q : Nat) : Bool :=
  decide (max (s.bits (ringReg q + 0x14) 16 8) 1 ≤ (s.ring q).p) || (s.ring q).expired

/-- Send the message of a CQ and clear P and ARMED (R612). -/
def interrupt (s : State) (q : Nat) : State :=
  (s.setRing q { s.ring q with p := 0, armed := false, expired := false }).msix (s.owner q) (s.bits (ringReg q + 0x14) 0 11)

/-- Send the message of an armed CQ whose condition holds; the messages of a function in D3hot wait (17 R764). -/
def tryInterrupt (s : State) (q : Nat) : State :=
  if s.bits (ringReg q + 0x14) 15 1 == 1 && (s.ring q).armed && s.countReached q && !s.host.d3.contains (s.owner q) then
    s.interrupt q
  else s

/-! ### VF windows (R579) -/

/-- A VF's window holds a range of `n` numbers from `a`, in the field pair at bits of a word. -/
def inSpan (first count a n : Nat) : Bool := decide (first ≤ a ∧ a + n ≤ first + count)

def vfHbm (s : State) (f a n : Nat) : Bool :=
  f == 0 || inSpan (2097152 * (s.dword (vfReg f) / 2097152)) (2097152 * s.bits (vfReg f + 8) 0 32) a n
def vfSlot (s : State) (f m : Nat) : Bool :=
  f == 0 || inSpan (s.bits (vfReg f + 0xC) 0 10) (s.bits (vfReg f + 0xC) 10 11) m 1
def vfCtx (s : State) (f i : Nat) : Bool :=
  f == 0 || inSpan (s.bits (vfReg f + 0x10) 0 22) (s.bits (vfReg f + 0x14) 0 23) i 1
def vfObj (s : State) (f k : Nat) : Bool :=
  f == 0 || inSpan (s.bits (vfReg f + 0x18) 0 12) (s.bits (vfReg f + 0x18) 12 13) k 1

/-! ### Journal fields of a ring command (14 R648 SRC) -/

/-- SRC of a command from ring `q`. -/
def srcOf (s : State) (q : Nat) : Nat := s.owner q + 64 * s.ringPort q

/-- The input gates hold: from a fault to the first output of the new active shank (16 R718, R719), and while the awl holds the active pair halted (18 R808). -/
def gateHolds (s : State) : Bool := s.shk.fault.isSome || s.shk.promoted.isSome || s.activeHalted

/-- A gate that holds inputs is full, and stalls the source of a further one (16 R718). -/
def gateFull (s : State) : Bool := s.gateHolds && decide (256 ≤ s.shk.gate.length)

/-- Hold an input in the gate (16 R718). -/
def holdInput (s : State) (g : GateIn) : State := { s with shk := { s.shk with gate := s.shk.gate ++ [g] } }

end State

end Sys2Proof.Machine
end

