-- ==== Sys2Proof/Machine/CtxOps.lean ====
section
/-! DEFINITION. Contexts: records, pool buffers, queues, the slot filler and the end of a context (02 R107-R112; 07 R262-R290). -/

namespace Sys2Proof.Machine

/-- STATE of a context record (R270). -/
def CtxPhase.code : CtxPhase → Nat
  | .posted => 1
  | .staging => 2
  | .copied => 2
  | .queued => 3
  | .bound => 4
  | .done => 5
  | .final => 5

/-- The die of a context index (R262). -/
def ctxDie (idx : Nat) : Nat := idx / 1048576

/-- The boundary at which a last leaves, as it stands (R61). -/
def Last.leaves (l : Last) : Option Nat :=
  match l.leave with
  | some x => if l.run = 0 then some x else some (min x (l.start + l.run))
  | none => if l.run = 0 then none else some (l.start + l.run)

/-- Whether a last that is accepted is resident in epoch `x` (R917). -/
def Last.residentIn (l : Last) (x : Nat) : Bool :=
  l.st != .validating && decide (l.start ≤ x) && (match l.leaves with | some y => decide (x < y) | none => true)

namespace State

/-! ### Records (R262, R270) -/

/-- The address of a context record. -/
def recAddr (s : State) (idx : Nat) : Nat := s.dword (ctxBase + 0x100 + 8 * ctxDie idx) + 64 * (idx % 1048576)

/-- A field of a context record, as the device's own traffic reads it. -/
def ctxField (s : State) (idx o n : Nat) : Nat := s.ownNat (s.recAddr idx + o) n

/-- Write a field of a context record. -/
def setCtxField (s : State) (idx o n v : Nat) : State := s.pokeOwn (s.recAddr idx + o) (toBytes n v)

/-- The context as held, if it is out of FREE. -/
def ctxInfo (s : State) (idx : Nat) : Option CtxInfo := s.ctx.live.find? (fun c => c.idx == idx)

/-- Change what is held of a context. -/
def modCtx (s : State) (idx : Nat) (f : CtxInfo → CtxInfo) : State :=
  { s with ctx := { s.ctx with live := s.ctx.live.map (fun c => if c.idx == idx then f c else c) } }

/-- Move a context to a phase, and its STATE with it. -/
def setPhase (s : State) (idx : Nat) (p : CtxPhase) : State :=
  (s.modCtx idx (fun c => { c with phase := p })).setCtxField idx 0 1 p.code

/-- Free a context: its buffers, its cache entry, its record (R287). -/
def freeCtx (s : State) (idx : Nat) : State :=
  let s1 := s.setCtxField idx 0 1 0
  { s1 with ctx := { s1.ctx with live := s1.ctx.live.filter (fun c => c.idx != idx) } }

/-- A model slot record. -/
def slot (s : State) (m : Nat) : MSlot := s.ctx.slots.get {} m

/-- Counters of CTX_STAT_n: EXPIRED 8, REQUEUED 12, REFUSED 16 (07). -/
def ctxStat (n o : Nat) : Nat := ctxBase + 0x20000 + 0x40 * n + o

/-! ### Queues (R281, R283, R288) -/

/-- The queue of a context's slot and priority. -/
def queueOf (s : State) (idx : Nat) : Nat := 4 * s.ctxField idx 2 2 + s.ctxField idx 1 1 % 4

/-- Change a queue. -/
def modQueue (s : State) (k : Nat) (f : List Nat → List Nat) : State :=
  { s with ctx := { s.ctx with queues := s.ctx.queues.upd [] k f } }

/-- Take a context out of its queue. -/
def unqueue (s : State) (idx : Nat) : State := s.modQueue (s.queueOf idx) (fun l => l.filter (fun i => i != idx))

/-- Return contexts to the heads of their queues, keeping their order (R288). -/
def requeueHead (s : State) (l : List Nat) : State :=
  l.reverse.foldl (fun s idx => (s.modQueue (s.queueOf idx) (fun q => idx :: q)).setPhase idx .queued) s

/-! ### The way into a queue (R281, R282) -/

/-- A copied context enters QUEUED (R281, R282). -/
def enqueueCtx (s : State) (idx : Nat) : State :=
  let t := s.ctxField idx 0x24 4
  let t := if t = 0 then (s.slot (s.ctxField idx 2 2)).timeout else t
  let dl := if t = 0 then 2 ^ 64 - 1 else s.clk.epoch + t
  ((s.setCtxField idx 0x28 8 dl).modQueue (s.queueOf idx) (fun l => l ++ [idx])).setPhase idx .queued

/-- The contexts of a ring that may enter QUEUED: copied, with no earlier context of the ring still on its way (R281). -/
def readyCtxs (q : Nat) : List CtxInfo → List Nat
  | [] => []
  | c :: l =>
    if c.sq != q then readyCtxs q l
    else match c.phase with
      | .posted => []
      | .staging => []
      | .copied => c.idx :: readyCtxs q l
      | _ => readyCtxs q l

/-- Let the copied contexts of a ring enter QUEUED in ring order. -/
def promote (s : State) (q : Nat) : State := (readyCtxs q s.ctx.live).foldl enqueueCtx s

/-! ### The end of a context (R287, R595, R597) -/

/-- Whether OUT_ADDR is a package address (LOCAL_OUT), and IN_ADDR likewise (LOCAL_IN). -/
def localOut (s : State) (idx : Nat) : Bool := s.ctxField idx 1 1 / 8 % 2 == 1
def localIn (s : State) (idx : Nat) : Bool := s.ctxField idx 1 1 / 4 % 2 == 1

/-- The result write of a context: OUT_LEN bytes of its result buffer to OUT_ADDR. -/
def resultOf (s : State) (c : CtxInfo) : ResultWrite :=
  { addr := s.ctxField c.idx 0x18 8
    bytes := s.peek (dbufAddr (ctxDie c.idx) + c.outOff) (min (s.slot (s.ctxField c.idx 2 2)).outLen c.outLen)
    isLocal := s.localOut c.idx
    idx := c.idx }

/-- End a context: it leaves its queue and its completion becomes due; a context of a ring that was reset is freed without one (17 R747). It holds up no later one of its ring (R281). -/
def endCtx (s : State) (idx status : Nat) : State :=
  match s.ctxInfo idx with
  | none => s
  | some c =>
    let s1 := s.unqueue idx
    if c.silent then (s1.freeCtx idx).promote c.sq
    else
      let comp : Completion :=
        { cid := c.cid, sq := c.sq, status := status, tag := s.ctxField idx 8 8, epoch := s.clk.epoch, info := idx, opc := 1 }
      let s2 := if status = 0x705 then s1.bump (ctxStat (ctxDie idx) 8) else s1
      let s3 := s2.modCtx idx (fun c => { c with phase := .final })
      (s3.addDue (s.ctxField idx 4 2) ⟨comp, if status = 0 then some (s.resultOf c) else none, some idx⟩).promote c.sq

/-! ### Pool buffers (R267, R280) -/

/-- The size of a die's context pool. -/
def poolSize (s : State) (n : Nat) : Nat := 2097152 * s.bits (ctxBase + 0x120 + 4 * n) 0 5

/-- Whether a range of the die buffer meets a buffer of a context of the die. -/
def poolUsed (s : State) (n a len : Nat) : Bool :=
  s.ctx.live.any (fun c => ctxDie c.idx == n && c.cached && (meets a len c.inOff c.inLen || meets a len c.outOff c.outLen))

/-- The free places of a buffer in a die's pool, 32 KiB aligned. -/
def poolFree (s : State) (n len : Nat) (taken : Nat × Nat) : List Nat :=
  let base := 67108864 - s.poolSize n
  ((List.range (s.poolSize n / 32768)).map (fun i => base + 32768 * i)).filter (fun a =>
    decide (a + len ≤ 67108864) && !s.poolUsed n a len && !meets a len taken.1 taken.2)

/-- Take one of the free places; which one is open (notes/assumptions/19). -/
def pickPlace (s : State) (l : List Nat) : Option Nat :=
  match l with
  | [] => none
  | a :: _ => some (l.getD (Config.poolPick s.freeNext % l.length) a)

/-- Both buffers of a context, if the pool holds them. -/
def allocate (s : State) (n inLen outLen : Nat) : Option (Nat × Nat) :=
  match s.pickPlace (s.poolFree n inLen (0, 0)) with
  | none => none
  | some a =>
    match pickPlace { s with freeNext := s.freeNext + 1 } (s.poolFree n outLen (a, inLen)) with
    | none => none
    | some b => some (a, b)

/-! ### Staging (R279-R282, R290) -/

/-- The posted context that a die's fetch engine takes next from a ring (R279). -/
def nextPosted (s : State) (n q : Nat) : Option CtxInfo :=
  s.ctx.live.find? (fun c => c.phase == .posted && c.sq == q && ctxDie c.idx == n)

/-- Entries of a die's context cache in use. -/
def cacheUsed (s : State) (n : Nat) : Nat := (s.ctx.live.filter (fun c => ctxDie c.idx == n && c.cached)).length

/-- A range meets the image of an accepted last, read-only to every host function (02 R60). -/
def meetsImage (s : State) (a n : Nat) : Bool := s.cmd.lasts.any (fun p => meets a n p.2.imgAddr p.2.imgLen)

/-- The code with which a LOCAL address ends a context, 0 for none: unmapped, or in a group out of service (06 R224, R919). -/
def localCode (s : State) (a n : Nat) : Nat :=
  if placeOf a = .unmapped ∨ placeOf (a + n - 1) = .unmapped then 0x601
  else if s.rangeOut a n then 0x609 else 0

/-- A posted context takes its die-buffer areas `a` and `b`, goes STAGING, and a refused local input ends it (R280). -/
def stageCtx (s : State) (idx a b il ol : Nat) : State :=
  let s4 := (((({ s with freeNext := s.freeNext + 2 }).modCtx idx
    (fun c => { c with cached := true, inOff := a, inLen := il, outOff := b, outLen := ol })).setCtxField idx 0x30 4 a).setCtxField
      idx 0x34 4 b).setPhase idx .staging
  let code := if s.localIn idx then s.localCode (s.ctxField idx 0x10 8) (s.ctxField idx 0x20 4) else 0
  if code = 0x601 then (s4.record 0x0601).endCtx idx code
  else if code ≠ 0 then s4.endCtx idx code
  else s4

/-- CONTEXT_FETCH: buffers are allocated and the staging copy begins (R280); it waits while a channel of the record's group trains (06 R258). -/
def doContextFetch (s : State) (n q : Nat) : State :=
  if !s.started || s.mgt.dark == .idle then s
  else match s.nextPosted n q with
  | none => s
  | some c =>
    if 16384 ≤ s.cacheUsed n ∨ s.rangeTrains (s.recAddr c.idx) 64 then s
    else
      let m := s.slot (s.ctxField c.idx 2 2)
      let il := roundUp m.inMax 32768
      let ol := roundUp m.outLen 32768
      match s.allocate n il ol with
      | none => s
      | some (a, b) =>
        s.stageCtx c.idx a b il ol

/-- STAGING_COPY_DONE: the input lies in its buffer; a host DMA fault ends the context (R281, R290). A copy from a group of which a channel trains is not done (06 R258). -/
def doStagingCopyDone (s : State) (idx : Nat) (data : Option (List Byte)) : State :=
  match s.ctxInfo idx with
  | none => s
  | some c =>
    if c.phase != .staging then s
    else
      let n := s.ctxField idx 0x20 4
      let dst := dbufAddr (ctxDie idx) + c.inOff
      if s.localIn idx then
        let a := s.ctxField idx 0x10 8
        if s.rangeOut a n then s.endCtx idx 0x609
        else if s.rangeTrains a n then s
        else (((s.touch a n).poke dst (s.ownBytes a n)).setPhase idx .copied).promote c.sq
      else match data with
        | none => s.endCtx idx 0x70A
        | some bs => ((s.poke dst ((bs ++ List.replicate (n - bs.length) 0#8).take n)).setPhase idx .copied).promote c.sq

/-! ### The slot filler (R108-R112, R284) -/

/-- Take up to `cap` contexts of a slot, priority by priority, from the snapshot; each must still be in its queue. -/
def takeCtxs (s : State) (snap : Tbl (List Nat)) (m cap : Nat) : List (Nat × Nat) :=
  ((List.range 4).flatMap (fun p =>
    ((snap.get [] (4 * m + p)).filter (fun i => (s.ctx.queues.get [] (4 * m + p)).contains i)).map (fun i => (i, p)))).take cap

/-- The binding list of R111 as bytes. -/
def bindBytes (l : List (Nat × Nat)) : List Byte :=
  toBytes 4 l.length ++ l.flatMap (fun c => toBytes 4 (c.1 + 4194304 * c.2))

/-- Bind one entry for epoch `x` (R109-R112, R284). -/
def fillEntry (s : State) (snap : Tbl (List Nat)) (x r i : Nat) (e : SlotEnt) : State :=
  let l := s.takeCtxs snap e.ms e.cap
  let s1 := l.foldl (fun s c =>
    ((s.unqueue c.1).setPhase c.1 .bound).setCtxField c.1 0x38 8 x) s
  let s2 := s1.poke (dbufAddr e.die + e.bindAddr) (bindBytes l)
  let s3 := s2.addDword (ctxStat e.die 0) l.length
  { s3 with ctx := { s3.ctx with bindNext := s3.ctx.bindNext ++ [⟨r, i, e.die, l⟩] } }

/-- The entries open in epoch `x`, in the order of R108: residency index, entry index, entry. -/
def openEntries (s : State) (x : Nat) : List (Nat × Nat × SlotEnt) :=
  s.cmd.lasts.flatMap (fun p =>
    if p.2.residentIn x then
      ((List.range p.2.slots.length).zip p.2.slots).filterMap (fun e =>
        if (x - p.2.start) % e.2.period = e.2.offset then some (p.1, e.1, e.2) else none)
    else [])

/-- CTX_MS_DEPTH after a binding: the contexts of the snapshot that stay queued (07, Context counters). -/
def setDepths (s : State) (snap : Tbl (List Nat)) : State :=
  let left := fun (k : Nat) => ((snap.get [] k).filter (fun i => (s.ctx.queues.get [] k).contains i)).length
  let d := (List.range 1024).foldl (fun (t : Tbl Nat) m =>
    t.set 0 m (left (4 * m) + left (4 * m + 1) + left (4 * m + 2) + left (4 * m + 3))) []
  { s with ctx := { s.ctx with depth := d } }

/-- The slot filler for epoch `x` from a snapshot. -/
def fillSlots (s : State) (snap : Tbl (List Nat)) (x : Nat) : State :=
  let s1 := (s.openEntries x).foldl (fun (s : State) e => s.fillEntry snap x e.1 e.2.1 e.2.2)
    { s with ctx := { s.ctx with bindNext := [] } }
  s1.setDepths snap

/-- The contexts of a list of bindings, in binding-list order. -/
def boundCtxs (l : List Binding) : List Nat := l.flatMap (fun b => b.ctxs.map (fun c => c.1))

/-- The queue snapshot's cycle of the coming boundary has come: t = −768 (02 R92). -/
def snapTime (s : State) : Bool :=
  s.started && s.abort.isNone && decide (s.epochN ≤ s.clk.cycle + 768)

/-- CONTEXT_DEADLINE_EXPIRY: a queued context past its DEADLINE leaves with 0x0705 before the boundary into `x` (R283). -/
def doDeadlineExpiry (s : State) (idx : Nat) : State :=
  match s.ctxInfo idx with
  | none => s
  | some c =>
    if c.phase == .queued && s.snapTime && !s.clk.latched && decide (s.ctxField idx 0x28 8 < s.clk.epoch + 1) then
      s.endCtx idx 0x705
    else s

end State

/-! ### Meanings -/

/-- CONTEXT_FETCH (R279, R280). -/
def execContextFetch (die : Fin 4) (ring : Fin 4096) (s : State) : Res := .next (s.doContextFetch die ring)
/-- STAGING_COPY_DONE (R281, R282, R290). -/
def execStagingCopyDone (idx : Fin 4194304) (data : Option (List Byte)) (s : State) : Res :=
  .next (s.doStagingCopyDone idx data)
/-- CONTEXT_DEADLINE_EXPIRY (R283). -/
def execContextDeadlineExpiry (idx : Fin 4194304) (s : State) : Res := .next (s.doDeadlineExpiry idx)

end Sys2Proof.Machine
end

