-- ==== Sys2Proof/Machine/Moves.lean ====
section
/-! DEFINITION. The MOV slot: vector registers, FILL and SPILL, context input and result (03 R142, R913, R918; 06 R225, R248, R915, R916; 07 R285, R286). A word lists the parts of its transfer with their cycles; Cycle.lean carries them out. -/

namespace Sys2Proof.Machine

/-- The lanes of a unit's register as bytes, and back (R913). -/
def laneBytes (x : Tile) (u v : Nat) : List Byte := (lanesOf u).flatMap (fun l => toBytes 4 (x.reg v l).toNat)

/-- The lanes and words that a register's bytes hold. -/
def laneWords (u : Nat) (bs : List Byte) : List (Nat × Word) :=
  (lanesOf u).zip ((List.range (lanesOf u).length).map (fun i => BitVec.ofNat 32 (ofBytes ((bs.drop (4 * i)).take 4))))

/-- The bytes of one register in a unit. -/
def regBytes (u : Nat) : Nat := if u = 4 then 1024 else 256

/-- The registers that a VLD or VST moves; those above 63 do not exist (R913). -/
def moveRegs (vreg len : Nat) : List Nat := (List.range (len + 1)).filter (fun j => decide (vreg + j < 64))

namespace State

/-- Add parts of transfers to those that come. -/
def addWork (s : State) (l : List Job) : State := { s with work := s.work ++ l }

/-- VLD and VST at one unit: register VREG + j uses the V port in the j-th cycle after arrival (R913). -/
def vldUnit (s : State) (vreg a len : Nat) (p : Nat × Nat) : State :=
  s.addWork ((moveRegs vreg len).map (fun j => { due := s.clk.cycle + j, work := .vld p.1 p.2 (vreg + j) (slotAddr p.1 p.2 a + regBytes p.2 * j) }))
def vstUnit (s : State) (vreg a len : Nat) (p : Nat × Nat) : State :=
  s.addWork ((moveRegs vreg len).map (fun j => { due := s.clk.cycle + j, work := .vst p.1 p.2 (vreg + j) (slotAddr p.1 p.2 a + regBytes p.2 * j) }))

/-- A range of a quarter's region meets its active staging half, or either half in cycles 0–15 of a SWAP (R148, R151). -/
def hitsActive (s : State) (t u a n : Nat) : Bool :=
  if u = 4 then false
  else
    let x := (s.tile t).unit u
    let both := s.swapArrives t u || (match x.swapAt with | some c => decide (s.clk.cycle < c + 16) | none => false)
    meets a n (stagingAddr t u x.halfB) 0x40000 || (both && meets a n (stagingAddr t u (!x.halfB)) 0x40000)

/-- The location of an address fault of a row's FILL or SPILL. -/
def addrFault (s : State) (r : Nat) : State := s.abortWith 0x0601 (s.seqLoc r) (4 * r + 256 * (r % 8))

/-- The lines of a die-buffer move with the cycles at which they move (06 R248): line number and cycle. -/
def dbufLines (s : State) (t u off n : Nat) (rd : Bool) : List (Nat × Nat) :=
  (List.range (n / 256)).map (fun k => (k, lineMove u (portSlot (rowOf t) (t % 4) rd) (s.clk.cycle + 6) (off / 256) k))

/-- FILL at one unit: from HBM3E through the channels, from the own die's buffer line by line; any other address is 0x0601 (R225). -/
def fillUnit (s : State) (a len src : Nat) (p : Nat × Nat) : State :=
  let t := p.1
  let u := p.2
  let dst := slotAddr t u a
  let n := 1024 * (len + 1)
  let x := s.tile t
  let s1 := s.setTile t { x with fills := x.fills ++ [{ unit := u, lo := dst, hi := dst + n, left := n / 64 }] }
  if s.hitsActive t u dst n then s.swapFault t u
  else match placeOf src with
    | .hbm _ => s1.sendUnits (.fill t u) src dst (n / 64)
    | .dbuf d =>
      if d = dieOf t then
        s1.addWork ((s.dbufLines t u (src % 67108864) n true).map (fun k => { due := k.2, work := .lineIn t u (src + 256 * k.1) (dst + 256 * k.1) 256 true }))
      else s.addrFault (rowOf t)
    | _ => s.addrFault (rowOf t)

/-- SPILL at one unit: a line leaves scratch 6 cc before it moves (06 R916). -/
def spillUnit (s : State) (a len dst : Nat) (p : Nat × Nat) : State :=
  let t := p.1
  let u := p.2
  let src := slotAddr t u a
  let n := 1024 * (len + 1)
  if s.hitsActive t u src n then s.swapFault t u
  else match placeOf dst with
    | .hbm _ => s.sendUnits (.spill t) dst src (n / 64)
    | .dbuf d =>
      if d = dieOf t then
        s.addWork ((s.dbufLines t u (dst % 67108864) n false).map (fun k => { due := k.2 - 6, work := .lineOut (src + 256 * k.1) (dst + 256 * k.1) 256 }))
      else s.addrFault (rowOf t)
    | _ => s.addrFault (rowOf t)

/-- The context that a word issued with, in a serving row (R143, R918). -/
def wordCtx (s : State) (sel : Sel) (x : Flight) : Option CtxInfo :=
  if s.serving sel.row then
    match x.ctx with
    | some i => s.ctxInfo i
    | none => none
  else none

/-- The lines of a context move of `n` bytes between a die-buffer range and a quarter: line, bytes and cycle (07 R285). -/
def ctxLines (s : State) (t u off n : Nat) (rd : Bool) : List (Nat × Nat × Nat) :=
  (List.range (ceilDiv n 256)).map (fun k => (k, min 256 (n - 256 * k), ctxLine u (portSlot (rowOf t) (t % 4) rd) (s.clk.cycle + 6) (off / 256) k))

/-- CTXIN at one unit: the context's IN_LEN input bytes, each line landing 6 cc after it moves (07 R285). -/
def ctxinUnit (s : State) (c : CtxInfo) (a : Nat) (p : Nat × Nat) : State :=
  s.addWork ((s.ctxLines p.1 p.2 c.inOff (s.ctxField c.idx 0x20 4) true).map (fun k =>
    { due := k.2.2, work := .lineIn p.1 p.2 (dbufAddr (ctxDie c.idx) + c.inOff + 256 * k.1) (slotAddr p.1 p.2 a + 256 * k.1) k.2.1 false }))

/-- CTXOUT: OUT_LEN bytes to the result buffer in the same windows, and DONE at the end of the last (07 R286). -/
def ctxoutUnit (s : State) (c : CtxInfo) (a : Nat) (p : Nat × Nat) : State :=
  let n := min (s.slot (s.ctxField c.idx 2 2)).outLen c.outLen
  let ends := if n = 0 then s.clk.cycle else ctxWindow p.2 (s.clk.cycle + 6) (ceilDiv n 256 - 1) + 127
  s.addWork ((s.ctxLines p.1 p.2 c.outOff n false).map (fun k =>
    { due := k.2.2 - 6, work := .lineOut (slotAddr p.1 p.2 a + 256 * k.1) (dbufAddr (ctxDie c.idx) + c.outOff + 256 * k.1) k.2.1 }) ++
    [{ due := ends, work := .ctxDone c.idx }])

/-- CTXIN. -/
def doCtxin (s : State) (sel : Sel) (a : Nat) : State :=
  s.onSlot sel .mov (isCtxMove 5 a) (fun x s p =>
    match s.wordCtx sel x with
    | some c => s.ctxinUnit c a p
    | none => s)

/-- CTXOUT: exactly one tile and quarter (R918), and a context bound into this epoch. -/
def doCtxout (s : State) (sel : Sel) (a : Nat) : State :=
  let one := (s.unitsNamed sel).length == 1
  s.onSlot sel .mov (isCtxMove 6 a) (fun x s p =>
    match s.wordCtx sel x with
    | some c => if one && (c.phase == .bound || c.phase == .done) then s.ctxoutUnit c a p else s
    | none => s)

end State

/-! ### Meanings -/

/-- MOV 0x1 (R913). -/
def execVld (sel : Sel) (vreg : Fin 64) (maddr : BitVec 14) (len : BitVec 8) (s : State) : Res :=
  .next (s.onSlot sel .mov (isVmove 1 vreg maddr.toNat len.toNat) (fun _ s p => s.vldUnit vreg maddr.toNat len.toNat p))
/-- MOV 0x2 (R913). -/
def execVst (sel : Sel) (vreg : Fin 64) (maddr : BitVec 14) (len : BitVec 8) (s : State) : Res :=
  .next (s.onSlot sel .mov (isVmove 2 vreg maddr.toNat len.toNat) (fun _ s p => s.vstUnit vreg maddr.toNat len.toNat p))
/-- MOV 0x3: from address A as the word issued with it (06 R916). -/
def execFill (sel : Sel) (maddr : BitVec 14) (len : BitVec 8) (s : State) : Res :=
  .next (s.onSlot sel .mov (isFill 3 maddr.toNat len.toNat) (fun x s p => s.fillUnit maddr.toNat len.toNat (1024 * x.a) p))
/-- MOV 0x4 (06 R916). -/
def execSpill (sel : Sel) (maddr : BitVec 14) (len : BitVec 8) (s : State) : Res :=
  .next (s.onSlot sel .mov (isFill 4 maddr.toNat len.toNat) (fun x s p => s.spillUnit maddr.toNat len.toNat (1024 * x.a) p))
/-- MOV 0x5 (07 R285). -/
def execCtxin (sel : Sel) (maddr : BitVec 14) (s : State) : Res := .next (s.doCtxin sel maddr.toNat)
/-- MOV 0x6 (07 R286). -/
def execCtxout (sel : Sel) (maddr : BitVec 14) (s : State) : Res := .next (s.doCtxout sel maddr.toNat)

end Sys2Proof.Machine
end

