-- ==== Sys2Proof/Machine/Cycle.lean ====
section
/-! DEFINITION. The end of a core cycle: the reads of the tiles' ports, the vectors that enter the arrays, the data slots of runs and the steps of swaps, and then the writes of the cycle, the F port's before the V port's, so that a read of a cycle meets what was there before its writes (03 R117-R127, R150, R913; 06 R248, R915, R916; 07 R285, R286). -/

namespace Sys2Proof.Machine

/-- A part of a transfer that writes. -/
def Work.writes : Work → Bool
  | .fWrite _ _ _ _ _ => true
  | .vWrite _ _ => true
  | .pageWrite _ _ _ _ => true
  | .bufWrite _ _ => true
  | _ => false

namespace State

/-- A part of a transfer that reads, or that changes a unit, in its cycle. -/
def readWork (s : State) (j : Job) : State :=
  match j.work with
  | .vld t u v src =>
    let s1 := s.touch src (regBytes u)
    s1.setTile t { s1.tile t with vres := (s1.tile t).vres ++ [{ due := s.clk.cycle + 2, vd := v, lanes := laneWords u (s.peek src (regBytes u)) }] }
  | .vst t u v dst => s.addWork [{ due := s.clk.cycle + 1, work := .vWrite dst (laneBytes ((s.tile t).settle s.clk.cycle) u v) }]
  | .lineIn t u src dst n fills => (s.touch src n).addWork [{ due := s.clk.cycle + 6, work := .fWrite t u dst (s.peek src n) fills }]
  | .lineOut src dst n => (s.touch src n).addWork [{ due := s.clk.cycle + 6, work := .bufWrite dst (s.peek src n) }]
  | .unit c rd a act => s.runUnit c rd a act
  | .swap t q slot => s.swapTile t q slot
  | .ctxDone idx => if (s.ctxInfo idx).any (fun c => c.phase == .bound) then s.setPhase idx .done else s
  | _ => s

/-- Bytes of a FILL have landed: it is done with its last (03 R151). -/
def fillLanded (x : Tile) (u a n : Nat) : Tile :=
  let hit := fun (f : FillJob) => f.unit == u && decide (f.lo ≤ a ∧ a < f.hi)
  { x with fills := (x.fills.map (fun f => if hit f then { f with left := f.left - n / 64 } else f)).filter (fun f => f.left != 0) }

/-- A part of a transfer that writes. -/
def writeWork (s : State) (j : Job) : State :=
  match j.work with
  | .fWrite t u a bs fills =>
    let s1 := s.poke a bs
    if fills then s1.setTile t (fillLanded (s1.tile t) u a bs.length) else s1
  | .vWrite a bs => s.poke a bs
  | .bufWrite a bs => s.poke a bs
  | .pageWrite r k o bs =>
    let x := s.seq r
    match x.pages.find k with
    | some g => s.setSeq r { x with pages := x.pages.put k { g with bytes := g.bytes.take o ++ bs ++ g.bytes.drop (o + bs.length) } }
    | none => s
  | _ => s

/-- Parts of transfers whose cycle has come. -/
def dueWork (s : State) (f : Work → Bool) : List Job := s.work.filter (fun j => decide (j.due ≤ s.clk.cycle) && f j.work)

/-- Take them from those that come, and carry them out in order. -/
def runWork (s : State) (f : Work → Bool) (g : State → Job → State) : State :=
  (s.dueWork f).foldl g { s with work := s.work.filter (fun j => !(decide (j.due ≤ s.clk.cycle) && f j.work)) }

/-- Every unit of every tile. -/
def eachUnit (s : State) (f : State → Nat → Nat → State) : State :=
  s.tiles.foldl (fun s p => (List.range 5).foldl (fun s u => f s p.1 u) s) s

/-- Whether a part of a transfer writes through the V port. -/
def isVWrite : Work → Bool
  | .vWrite _ _ => true
  | _ => false

/-- The reads of a cycle: queued streams that start, vectors that enter (03 R117, R120), the bytes of SPILLs that leave (06 R239), and what is due. -/
def cycleReads (s : State) : State :=
  let s1 := (s.eachUnit startDue).eachUnit capture
  let s2 := s1.hbm.chans.foldl (fun (s : State) p => s.leaveScratch p.1) s1
  s2.runWork (fun w => !w.writes) readWork

/-- The steps of the swaps that run (03 R150). -/
def cycleSwaps (s : State) : State :=
  s.eachUnit (fun s t u => match ((s.tile t).unit u).swapAt with
    | some c => s.swapStep t u (s.clk.cycle - c)
    | none => s)

/-- The end of a cycle; a write of the V port lands last (03 R127). -/
def endCycle (s : State) : State :=
  let s1 := ((s.cycleReads.cycleSwaps).runWork (fun w => w.writes && !isVWrite w) writeWork).runWork isVWrite writeWork
  { s1 with setNow := [], wrote := [] }

/-- Store bytes that may lie in scratch from outside the schedule: what is read in this cycle is read first (03 R126). -/
def store (s : State) (a : Nat) (bs : List Byte) : State :=
  match placeOf a with
  | .scratch _ => s.cycleReads.poke a bs
  | _ => s.poke a bs

end State

end Sys2Proof.Machine
end

