-- ==== Sys2Proof/Machine/Host.lean ====
section
/-! DEFINITION. The host's descriptors that are not critical: checks and work of CTX_SUBMIT, MS_LOAD, COPY, the SYN commands and EPOCH_MARK, and open-slot accesses (06 R224-R232, R919; 07; 13 R585-R593). -/

namespace Sys2Proof.Machine

/-- The reserved bits of the header (13, Descriptors). -/
def badHeader (d : BitVec 512) : Bool := dField d 1 1 / 4 != 0 || dField d 6 2 != 0

/-- Opcodes of the table (R588). -/
def knownOpc (o : Nat) : Bool := (decide (1 ≤ o) && decide (o ≤ 7)) || (decide (0x40 ≤ o) && decide (o ≤ 0x45))

/-- R588, R592: reserved fields that are not 0 and operands outside their range, by opcode. -/
def badFields (d : BitVec 512) : Bool :=
  badHeader d ||
  (match dOpc d with
   | 1 => decide (4194304 ≤ dField d 8 4) || decide (1024 ≤ dField d 0xC 2) || decide (16 ≤ dField d 0xE 1) ||
      dField d 0xF 1 != 0 || dField d 0x28 4 == 0 || dField d 0x30 16 != 0
   | 2 => decide (1024 ≤ dField d 8 2) || decide (4 ≤ dField d 0xA 1) || decide (2 ≤ dField d 0xB 1) ||
      dField d 0x24 4 != 0 || dField d 0x30 16 != 0 ||
      (dField d 0xB 1 == 0 && (dField d 0xC 4 == 0 || decide (262144 < dField d 0xC 4) ||
        dField d 0x1C 4 == 0 || decide (262144 < dField d 0x1C 4)))
   | 3 => decide (2 ≤ dField d 0x1C 1) || dField d 0x1D 19 != 0 || dField d 0x18 4 == 0
   | 4 => decide (4096 ≤ dField d 8 2) || dField d 0xA 2 != 0 || dField d 0xC 4 == 0 || decide (65535 < dField d 0xC 4) ||
      dField d 0x10 48 != 0
   | 5 => decide (4096 ≤ dField d 8 2) || dField d 0xA 2 != 0 || dField d 0x10 48 != 0
   | 6 => decide (4096 ≤ dField d 8 2) || dField d 0xA 2 != 0 || dField d 0x10 4 == 0 || dField d 0x14 44 != 0
   | 7 => dField d 0x10 48 != 0
   | _ => dField d 8 1 / 8 != 0 || dField d 9 7 != 0 || dField d 0x20 16 != 0)

/-- The mesh bridges that traffic from die `a` to die `b` crosses, always clockwise to the diagonal die (01 R34, R35; 08 R306). -/
def meshPath (a b : Nat) : List Nat :=
  match (b + 4 - a) % 4 with
  | 0 => []
  | 1 => [a % 4]
  | 2 => [a % 4, (a + 1) % 4]
  | _ => [b % 4]

/-- The die that holds an address. -/
def placeDie : Place → Option Nat
  | .hbm h => some (h / 2)
  | .dbuf n => some n
  | .scratch t => some (t / 32)
  | .unmapped => none

/-- The pieces of a range by 64 B units: offset in the range and length. -/
def pieces (a n : Nat) : List (Nat × Nat) :=
  (List.range ((a + n + 63) / 64 - a / 64)).map (fun i =>
    let lo := max a (64 * (a / 64 + i))
    let hi := min (a + n) (64 * (a / 64 + i) + 64)
    (lo - a, hi - lo))

namespace State

/-! ### Checks -/

/-- Steps 1 to 4 of R593 that a descriptor fails, or 0. -/
def firstChecks (s : State) (q : Nat) (d : BitVec 512) : Nat :=
  if !knownOpc (dOpc d) then 0x0D01
  else if badFields d then 0x0D02
  else if 0x40 ≤ dOpc d ∧ s.owner q ≠ 0 then 0x0D04
  else if dCq d < 4096 ∧ s.owner (dCq d) = s.owner q then 0
  else 0x0D0B

/-- Read a descriptor of a row with opcode `opc`, and refuse it or do its work (R585, R593, R604, R605). A descriptor with another opcode of the table is no command of this row (notes/assumptions/20). -/
def descriptor (s : State) (q : Nat) (d : BitVec 512) (opc : Nat) (work : State → State) : State :=
  if s.readsFrom q && s.fenceOpen q d && (dOpc d == opc || !knownOpc (dOpc d)) then
    let s1 := s.takeDescriptor q
    let c := s.firstChecks q d
    if c = 0 then work s1 else s1.refuse q d c
  else s

/-- End a command with success: no completion under QUIET where the opcode knows it (R586). -/
def succeed (s : State) (q : Nat) (d : BitVec 512) (quietOp : Bool) (info : Nat := 0) : State :=
  if quietOp && dQuiet d then s.endCommand q else s.complete q (dCid d) (s.cqFor q d) (dOpc d) 0 0 info

/-- Some running last claims a synchronisation object or a model slot. -/
def claimsObj (s : State) (k : Nat) : Bool :=
  s.cmd.lasts.any (fun p => p.2.st == .running && p.2.sections.claims.sync.any (fun o => o.val == k))
def claimsSlot (s : State) (m : Nat) : Bool :=
  s.cmd.lasts.any (fun p => p.2.st == .running && p.2.sections.claims.modelSlots.any (fun o => o.val == m))

/-! ### Host accesses to package memory (R591) -/

/-- The ranges of a die's context-table quarter: active, and pending where a new base is armed (20 R864). -/
def quarterBases (s : State) (n : Nat) : List Nat :=
  let off := ctxBase + 0x100 + 8 * n
  let pendBase := (s.viewWord off).toNat + 2 ^ 32 * (s.viewWord (off + 4)).toNat
  [s.dword off, pendBase]

/-- A range meets a context-table quarter (R266), a journal copy (14 R646), the resident region (06 R223). -/
def meetsQuarter (s : State) (a n : Nat) : Bool :=
  (List.range 4).any (fun k => (s.quarterBases k).any (fun b => meets a n b 67108864))
def meetsJournal (a n : Nat) : Bool := meets a n jnlP0 4194304 || meets a n jnlP2 4194304
def residentRegion (n : Nat) : Nat := stackAddr (2 * n) + 0x900000000 - 67108864
def meetsResident (a n : Nat) : Bool := (List.range 4).any (fun k => meets a n (residentRegion k) 67108864)

/-- Some running last claims the row of a tile. -/
def rowClaimed (s : State) (r : Nat) : Bool := (s.lastOfRow r).isSome

/-- A range is one run of mapped addresses of one kind. -/
def mapped (a n : Nat) : Bool :=
  match placeOf a, placeOf (a + n - 1) with
  | .hbm _, .hbm _ => true
  | .dbuf _, .dbuf _ => true
  | .scratch _, .scratch _ => true
  | _, _ => false

/-- Some mesh bridge on the way between a port's die and die `e` is down (08 R347). -/
def dieCut (s : State) (p e : Nat) : Bool :=
  (meshPath (2 * p) e ++ meshPath e (2 * p)).any (fun b => s.br.st.get .untrained b == .down)

/-- The same of the dies of a range. -/
def wayDown (s : State) (p a n : Nat) : Bool :=
  [a, a + n - 1].any (fun x =>
    match placeDie (placeOf x) with
    | none => false
    | some e => s.dieCut p e)

/-- The code that refuses a host access to a range, 0 where it proceeds (06 R224, 0x0605, R919; 02 R60; 07 R266; 14 R646; 08 R347). -/
def accessCode (s : State) (p a n : Nat) (write : Bool) : Nat :=
  if !mapped a n then 0x0601
  else if (match placeOf a, placeOf (a + n - 1) with
      | .scratch t, .scratch u => (List.range (u + 1 - t)).any (fun i => s.rowClaimed (rowOf (t + i)))
      | _, _ => false) then 0x0605
  else if s.rangeOut a n then 0x0609
  else if write && meetsJournal a n then 0x0E08
  else if write && s.meetsQuarter a n then 0x0706
  else if write && (meetsResident a n || s.meetsImage a n) then 0x0606
  else if s.wayDown p a n then 0x080C
  else 0

/-- A code of a host access that is recorded beside its completion (R224 and the scratch rule of 06). -/
def recordAccess (s : State) (c : Nat) : State := if c = 0x0601 ∨ c = 0x0605 then s.record c else s

/-! ### CTX_SUBMIT -/

/-- Steps 5 and 7 to 10 of R593. -/
def submitCheck (s : State) (q : Nat) (d : BitVec 512) : Nat :=
  let f := s.owner q
  let idx := dField d 8 4
  let m := dField d 0xC 2
  let fl := dField d 0xE 1
  let r := s.slot m
  if !(s.vfCtx f idx && s.vfSlot f m && (fl / 4 % 2 == 0 || s.vfHbm f (dField d 0x18 8) (dField d 0x28 4)) &&
      (fl / 8 % 2 == 0 || s.vfHbm f (dField d 0x20 8) r.outLen)) then 0x0D08
  else if !r.loaded then 0x0703
  else if ctxDie idx ≠ r.home then 0x0702
  else if r.inMax < dField d 0x28 4 then 0x070B
  else if s.rangeOut (s.recAddr idx) 64 then 0x0609
  else if s.wayDown (s.ringPort q) (s.recAddr idx) 64 then 0x080C
  else if s.ctxField idx 0 1 ≠ 0 ∨ (s.ctxInfo idx).isSome then 0x0701
  else 0

/-- The context enters POSTED with the fields its descriptor supplies (R270). -/
def post (s : State) (q : Nat) (d : BitVec 512) : State :=
  let idx := dField d 8 4
  let bs := toBytes 1 1 ++ toBytes 1 (dField d 0xE 1) ++ toBytes 2 (dField d 0xC 2) ++ toBytes 2 (dCq d) ++ toBytes 2 0 ++
    toBytes 8 (dField d 0x10 8) ++ toBytes 8 (dField d 0x18 8) ++ toBytes 8 (dField d 0x20 8) ++
    toBytes 4 (dField d 0x28 4) ++ toBytes 4 (dField d 0x2C 4)
  let s1 := s.pokeOwn (s.recAddr idx) bs
  { s1 with ctx := { s1.ctx with live := s1.ctx.live ++ [{ idx := idx, sq := q, cid := dCid d, phase := .posted }] } }

/-- CTX_SUBMIT. -/
def doCtxSubmit (s : State) (q : Nat) (d : BitVec 512) : State :=
  s.descriptor q d 1 (fun s =>
    let c := s.submitCheck q d
    if c = 0 then s.post q d
    else
      (s.bump (ctxStat (ctxDie (dField d 8 4)) 16)).refuse q d c (dField d 8 4) (dField d 0x10 8))

/-! ### MS_LOAD -/

/-- Steps 5 and 6 of R593, and the epoch it names (R589, 02 R85). -/
def msLoadCheck (s : State) (q : Nat) (d : BitVec 512) : Nat :=
  let f := s.owner q
  let m := dField d 8 2
  let un := dField d 0xB 1 == 1
  let a := dField d 0x10 8
  let n := dField d 0x18 4
  let h := dField d 0xA 1
  if !(s.vfSlot f m && (un || s.vfHbm f a n)) then 0x0D08
  else if s.claimsSlot m then 0x0708
  else if !un && !(decide (stackAddr (2 * h) ≤ a ∧ a + n ≤ stackAddr (2 * h + 2))) then 0x0D0A
  else if dField d 0x28 8 ≤ s.latchedEpoch then 0x0220
  else 0

/-- What an accepted MS_LOAD waits with. -/
def msPendOf (s : State) (q : Nat) (d : BitVec 512) : MsPend :=
  { ms := dField d 8 2
    unload := dField d 0xB 1 == 1
    record :=
      { home := dField d 0xA 1, imageAddr := dField d 0x10 8, imageLen := dField d 0x18 4, inMax := dField d 0xC 4,
        outLen := dField d 0x1C 4, timeout := dField d 0x20 4, loaded := true }
    epoch := dField d 0x28 8
    sq := q
    cid := dCid d
    cq := s.cqFor q d }

/-- Accept an MS_LOAD: it is journalled and waits for its boundary (R589, 14 R647). -/
def acceptMsLoad (s : State) (m : MsPend) : State :=
  let s1 := s.journal
    { kind := 4, opc := 2, sq := m.sq, cid := m.cid, src := s.srcOf m.sq, arg0 := m.ms, arg1 := m.epoch }
  { s1 with ctx := { s1.ctx with msPend := s1.ctx.msPend ++ [m] } }

/-- MS_LOAD; its journal entry waits in the input gate during a takeover, whose full gate stalls the ring (16 R718). -/
def doMsLoad (s : State) (q : Nat) (d : BitVec 512) : State :=
  if s.gateFull then s else s.descriptor q d 2 (fun s =>
    let c := s.msLoadCheck q d
    if c ≠ 0 then s.refuse q d c
    else if s.gateHolds then s.holdInput (.msLoad (s.msPendOf q d))
    else s.acceptMsLoad (s.msPendOf q d))

/-! ### Synchronisation -/

/-- SYN_SIGNAL (07 R294, R298). -/
def doSynSignal (s : State) (q : Nat) (d : BitVec 512) : State :=
  s.descriptor q d 4 (fun s =>
    let k := dField d 8 2
    let n := dField d 0xC 4
    if !s.vfObj (s.owner q) k then s.refuse q d 0x0D08
    else if s.dieCut (s.ringPort q) (k / 1024) then s.refuse q d 0x080C
    else
      let s1 := s.synAdd k n
      (s1.setObj k { s1.obj k with hostSince := (s1.obj k).hostSince + n }).succeed q d true)

/-- Set an object, journal it, and complete it (07 R297, 14 R647). -/
def acceptSynSet (s : State) (sq cid cq k v : Nat) (quiet : Bool) : State :=
  let s1 := s.setObj k { s.obj k with c := v }
  let s2 := s1.journal { kind := 5, opc := 5, sq := sq, cid := cid, src := s.srcOf sq, arg0 := k, arg1 := v }
  if quiet then s2.endCommand sq else s2.complete sq cid cq 5 0

/-- SYN_SET (07 R297, R298); a full input gate stalls the ring (16 R718). -/
def doSynSet (s : State) (q : Nat) (d : BitVec 512) : State :=
  if s.gateFull then s else s.descriptor q d 5 (fun s =>
    let k := dField d 8 2
    let v := dField d 0xC 4
    if !s.vfObj (s.owner q) k then s.refuse q d 0x0D08
    else if s.claimsObj k then s.refuse q d 0x0222
    else if s.dieCut (s.ringPort q) (k / 1024) then s.refuse q d 0x080C
    else if s.gateHolds then s.holdInput (.synSet q (dCid d) (s.cqFor q d) k v (dQuiet d))
    else s.acceptSynSet q (dCid d) (s.cqFor q d) k v (dQuiet d))

/-- SYN_WAIT: it is evaluated at each queue snapshot (07 R299). -/
def doSynWait (s : State) (q : Nat) (d : BitVec 512) : State :=
  s.descriptor q d 6 (fun s =>
    let k := dField d 8 2
    if !s.vfObj (s.owner q) k then s.refuse q d 0x0D08
    else if s.dieCut (s.ringPort q) (k / 1024) then s.refuse q d 0x080C
    else
      let w : HostWait :=
        { obj := k, value := dField d 0xC 4, left := dField d 0x10 4, sq := q, cid := dCid d, cq := s.cqFor q d }
      { s with sync := { s.sync with waits := s.sync.waits ++ [w] } })

/-- SYN_WAIT_TIMEOUT: a wait with no epoch left and not satisfied ends with 0x070C (07 R299). -/
def doSynWaitTimeout (s : State) (q cid : Nat) : State :=
  let hit := fun (w : HostWait) => w.sq == q && w.cid == cid && w.left == 0 && w.sat.isNone
  match s.sync.waits.find? hit with
  | none => s
  | some w =>
    { s with sync := { s.sync with waits := s.sync.waits.erase w } }.complete w.sq w.cid w.cq 6 0x070C

/-- EPOCH_MARK: at once if x has begun, else at the boundary step into x (13 R595). -/
def doEpochMark (s : State) (q : Nat) (d : BitVec 512) : State :=
  s.descriptor q d 7 (fun s =>
    let x := dField d 8 8
    if x ≤ s.clk.epoch then s.succeed q d false
    else { s with host := { s.host with marks := s.host.marks ++ [⟨x, q, dCid d, s.cqFor q d⟩] } })

/-! ### COPY (R591) -/

/-- The package address of a COPY. -/
def CopyJob.pkg (j : CopyJob) : Nat := if j.toHost then j.src else j.dst

/-- Move one piece of a COPY. -/
def movePiece (s : State) (j : CopyJob) (o n : Nat) : State :=
  let a := CopyJob.pkg j + o
  let s1 := if j.toHost then
      let s2 := s.touch a n
      s2.emit (.hostWrite (s.ringPort j.sq) (j.dst + o) (s2.peek a n) false)
    else s.store a (((j.data.drop o) ++ List.replicate n 0#8).take n)
  { s1 with host := { s1.host with
      copies := s1.host.copies.map (fun (k : CopyJob) => if k.job == j.job then { k with moved := k.moved + n } else k) } }

/-- Send the pieces of a COPY: HBM3E units wait at their controllers for open slots (06 R230), the rest moves at once. -/
def sendCopy (s : State) (j : CopyJob) : State :=
  (pieces (CopyJob.pkg j) j.len).foldl (fun (s : State) p =>
    match placeOf (CopyJob.pkg j + p.1) with
    | .hbm _ =>
      let c := (hbmDecode (CopyJob.pkg j + p.1)).chan
      s.setChan c { s.chan c with queue := (s.chan c).queue ++ [.copy j.job p.1] }
    | _ => s.movePiece j p.1 p.2) s

/-- End a COPY; its waiting units leave the channels. -/
def endCopy (s : State) (j : CopyJob) (status : Nat) : State :=
  let s1 := s.dropUnits j.job
  let s2 := { s1 with host := { s1.host with copies := s1.host.copies.filter (fun k => k.job != j.job) } }
  if status = 0 ∧ j.quiet then s2.endCommand j.sq else s2.complete j.sq j.cid j.cq 3 status 0 j.moved

/-- COPY; `data` is what the host's memory gives, none for a DMA fault. -/
def doCopy (s : State) (q : Nat) (d : BitVec 512) (data : Option (List Byte)) : State :=
  s.descriptor q d 3 (fun s =>
    let toHost := dField d 0x1C 1 == 1
    let n := dField d 0x18 4
    let a := if toHost then dField d 8 8 else dField d 0x10 8
    let c := s.accessCode (s.ringPort q) a n (!toHost)
    if !s.vfHbm (s.owner q) a n then s.refuse q d 0x0D08
    else if c ≠ 0 then (s.recordAccess c).refuse q d c
    else if !toHost && data.isNone then s.refuse q d 0x0D09
    else
      let j : CopyJob :=
        { job := s.host.copyNext, sq := q, cid := dCid d, cq := s.cqFor q d, quiet := dQuiet d, toHost := toHost,
          src := dField d 8 8, dst := dField d 0x10 8, len := n, moved := 0, data := data.getD [] }
      { s with host := { s.host with copyNext := s.host.copyNext + 1, copies := s.host.copies ++ [j] } }.sendCopy j)

/-- COPY_COMPLETE: the oldest COPY of the name ends when all has moved, or with a host DMA fault (R591, 0x0D07, 0x0D09). -/
def doCopyComplete (s : State) (q cid : Nat) (fault : Bool) : State :=
  match s.host.copies.find? (fun j => j.sq == q && j.cid == cid) with
  | none => s
  | some j =>
    if fault then s.endCopy j (if j.toHost then 0x0D07 else 0x0D09)
    else if j.moved = j.len then s.endCopy j 0
    else s

/-- A channel serves open slots: its group is in service and no channel of it trains (R258), and HBM3E is not in self-refresh (17 R767). -/
def openSlots (s : State) (c : Nat) : Bool :=
  s.started && !s.outOfService (c / 4) && !s.groupTrains (c / 4) && s.mgt.dark != .idle && s.slotOpen c

/-- The code that ends a COPY at the access of one of its units, 0 where it proceeds: a range that became read-only, a bridge that went down (02 R60; 08 R347). -/
def lateCode (s : State) (j : CopyJob) (a n : Nat) : Nat :=
  if !j.toHost && s.meetsImage a n then 0x0606
  else if s.wayDown (s.ringPort j.sq) a n then 0x080C
  else 0

/-- OPEN_SLOT_ACCESS: the oldest waiting unit moves, in an open slot that keeps the gap (R229-R231). A write to the memory of a host whose function is in D3hot waits (17 R764). -/
def doOpenSlotAccess (s : State) (c : Nat) : State :=
  match (s.chan c).queue with
  | [] => s
  | o :: rest =>
    let served := s.setChan c { s.chan c with queue := rest, used := some (s.clk.now, s.clk.sub) }
    match o with
    | .own a bs => if s.openSlots c && s.gapKept c (64 * (a / 64)) true then served.poke a bs else s
    | .copy job off =>
      match s.host.copies.find? (fun j => j.job == job) with
      | none => s.setChan c { s.chan c with queue := rest }
      | some j =>
        let a := CopyJob.pkg j + off
        let n := min (64 * (a / 64) + 64) (CopyJob.pkg j + j.len) - a
        let late := s.lateCode j a n
        if !s.openSlots c || !s.gapKept c (64 * (a / 64)) (!j.toHost) || (j.toHost && s.host.d3.contains (s.owner j.sq)) then s
        else if late ≠ 0 then s.endCopy j late
        else served.movePiece j off n

/-- CHANNEL_RETRAIN_DONE: after three failures the group goes out of service, and what waits for it ends with 0x0609 (R261, R919). -/
def doRetrainDone (s : State) (c : Nat) (ok : Bool) : State :=
  let x := s.chan c
  if !x.training then s
  else if ok then s.setChan c { x with training := false, attempts := 0 }
  else if x.attempts + 1 < 3 then s.setChan c { x with attempts := x.attempts + 1 }
  else
    let s1 := (s.setChan c { x with training := false, attempts := 0 }).loseGroup c
    let jobs := s1.copiesIn (c / 4)
    (s1.host.copies.filter (fun j => jobs.contains j.job)).foldl (fun (s : State) j => s.endCopy j 0x0609) s1

end State

/-! ### Meanings -/

/-- CTX_SUBMIT (R593). -/
def execCtxSubmit (ring : Fin 4096) (d : BitVec 512) (s : State) : Res := .next (s.doCtxSubmit ring d)
/-- MS_LOAD (R589). -/
def execMsLoad (ring : Fin 4096) (d : BitVec 512) (s : State) : Res := .next (s.doMsLoad ring d)
/-- SYN_SIGNAL (07 R294). -/
def execSynSignal (ring : Fin 4096) (d : BitVec 512) (s : State) : Res := .next (s.doSynSignal ring d)
/-- SYN_SET (07 R298). -/
def execSynSet (ring : Fin 4096) (d : BitVec 512) (s : State) : Res := .next (s.doSynSet ring d)
/-- SYN_WAIT (07 R299). -/
def execSynWait (ring : Fin 4096) (d : BitVec 512) (s : State) : Res := .next (s.doSynWait ring d)
/-- SYN_WAIT_TIMEOUT (07 R299, R305). -/
def execSynWaitTimeout (ring : Fin 4096) (cid : BitVec 16) (s : State) : Res := .next (s.doSynWaitTimeout ring cid.toNat)
/-- COPY (R591). -/
def execCopy (ring : Fin 4096) (d : BitVec 512) (data : Option (List Byte)) (s : State) : Res := .next (s.doCopy ring d data)
/-- COPY_COMPLETE (R591). -/
def execCopyComplete (ring : Fin 4096) (cid : BitVec 16) (fault : Bool) (s : State) : Res :=
  .next (s.doCopyComplete ring cid.toNat fault)
/-- EPOCH_MARK (R595). -/
def execEpochMark (ring : Fin 4096) (d : BitVec 512) (s : State) : Res := .next (s.doEpochMark ring d)
/-- OPEN_SLOT_ACCESS (06 R230). -/
def execOpenSlotAccess (chan : Fin 128) (s : State) : Res := .next (s.doOpenSlotAccess chan)
/-- CHANNEL_RETRAIN_DONE (06 R261). -/
def execChannelRetrainDone (chan : Fin 128) (ok : Bool) (s : State) : Res := .next (s.doRetrainDone chan ok)

end Sys2Proof.Machine
end

