-- ==== Sys2Proof/Machine/Records.lean ====
section
/-! DEFINITION. Records in the external flash: the two copies of the boot and health records, the marks of the key record, erases suspended for a store or that a write waits for, and the locks of the interface (18 R811, R815-R825; 15 R671, R672; 14 R631). -/

namespace Sys2Proof.Machine

/-- UPD_STATE as a byte. -/
def UpdState.byte : UpdState → Byte
  | .idle => 0#8
  | .erasing => 1#8
  | .erased => 2#8

/-- A boot record's bytes before RSEQ (18 R818; the order of the fields: notes/assumptions/70). -/
def bootBytes (r : BootRec) : List Byte :=
  toBytes 1 (b2n r.sel) ++ toBytes 1 (b2n r.prev) ++ toBytes 1 (b2n r.trial) ++ toBytes 4 r.fails ++ toBytes 8 r.seq ++
    toBytes 2 r.lastCode ++ r.failed.flatMap Report.bytes ++ toBytes 1 (b2n r.updSlot) ++ [r.updState.byte]

/-- A health record's bytes before RSEQ: BOOT_SEQ and time stamp by chiplet and version (16 R731). -/
def healthBytes (t : Tbl (Nat × Nat)) : List Byte := t.flatMap (fun p => toBytes 1 p.1 ++ toBytes 8 p.2.1 ++ toBytes 8 p.2.2)

/-- The CRC-32 that ends a copy, over the record and its RSEQ (18 R817). -/
def recCrc (bs : List Byte) (rseq : Nat) : Nat := crc32 (bs ++ toBytes 8 rseq)

/-- A copy that stands and whose CRC checks. -/
def goodCopy {α : Type} (f : α → List Byte) (c : Option (RecCopy α)) : Option (RecCopy α) :=
  c.filter (fun x => x.crc == recCrc (f x.body) x.rseq)

/-- A reader uses the valid copy with the higher RSEQ (18 R817). -/
def RecPair.read {α : Type} (f : α → List Byte) (p : RecPair α) : Option α :=
  match goodCopy f p.copy0, goodCopy f p.copy1 with
  | some a, some b => some (if a.rseq < b.rseq then b.body else a.body)
  | some a, none => some a.body
  | none, some b => some b.body
  | none, none => none

/-- A write erases and programs the copy with the lower valid RSEQ, or an invalid one, with RSEQ one above the other copy's (18 R817); with both invalid it is copy 0, with RSEQ 1 (notes/assumptions/70). -/
def RecPair.write {α : Type} (f : α → List Byte) (p : RecPair α) (v : α) : RecPair α :=
  let made := fun (n : Nat) => some (⟨v, n, recCrc (f v) n⟩ : RecCopy α)
  match goodCopy f p.copy0, goodCopy f p.copy1 with
  | some a, some b => if a.rseq < b.rseq then { p with copy0 := made (b.rseq + 1) } else { p with copy1 := made (a.rseq + 1) }
  | some a, none => { p with copy1 := made (a.rseq + 1) }
  | none, some b => { p with copy0 := made (b.rseq + 1) }
  | none, none => { p with copy0 := made 1 }

/-- A 16 B mark entry: slot, MARK_k and a CRC-32 (18 R819). -/
def markEnt (slot mark : Nat) : MarkEnt := ⟨slot, mark, crc32 (toBytes 4 slot ++ toBytes 8 mark)⟩

/-- The newest valid entry of a slot gives its mark (18 R819). -/
def newestMark (l : List MarkEnt) (k : Nat) : Nat :=
  match l.reverse.find? (fun e => e.slot == k && e == markEnt e.slot e.mark) with
  | some e => e.mark
  | none => 0

/-- Mark entries that a key record sector holds: 64 KiB but the sealed block's 4 KiB (notes/assumptions/70). -/
def markSpace : Nat := 3840

namespace State

/-- A lock, and the same replaced (18 R811). -/
def lock (s : State) (k : Nat) : Lock := s.mgt.locks.get {} k
def setLock (s : State) (k : Nat) (l : Lock) : State := { s with mgt := { s.mgt with locks := s.mgt.locks.set {} k l } }

/-- The update engine takes lock 0 (18 R822). -/
def takeFlash (s : State) : State :=
  if (s.lock 0).holder = none then s.setLock 0 { s.lock 0 with holder := some s.activePos, told := false, halted := 0 } else s

/-! ### Writes of records (18 R817, R825; 15 R672) -/

/-- An erase instruction is in flight. -/
def eraseRuns (s : State) : Bool := s.flash.st == .erasing && !s.flash.stalled

/-- A write that has to wait for an erase: 0x1209 once per start (18 R825). -/
def tellWait (s : State) : State :=
  if s.nor.told then s else ({ s with nor := { s.nor with told := true } }).record 0x1209

/-- A record reaches the flash. -/
def programRec (s : State) (w : RecWrite) : State :=
  match w with
  | .boot r => { s with nor := { s.nor with boot := s.nor.boot.write bootBytes r } }
  | .health t => { s with nor := { s.nor with health := s.nor.health.write healthBytes t } }

/-- Write a record: an erase in flight is suspended for it and resumed as it ends, or the write waits for its end where the device has no suspend (18 R825). -/
def writeRec (s : State) (w : RecWrite) : State :=
  if s.eraseRuns && !s.nor.suspends then (State.tellWait { s with nor := { s.nor with waits := s.nor.waits ++ [w] } }) else s.programRec w

/-- Write the boot record; where it cannot be written, retention SRAM carries BOOT_FAILS and BOOT_SEQ (15 R672, 18 R815). -/
def storeBoot (s : State) (r : BootRec) : State :=
  let b := { s.boot with record := r }
  if s.flash.readOnly then ({ s with boot := { b with carried := some (r.fails, r.seq) } }).record 0x0F09
  else ({ s with boot := { b with carried := none } }).writeRec (.boot r)

/-- The boot record as stage 0 reads it: the flash's, blank where no copy is valid (notes/assumptions/70), with the counts that retention SRAM carries (15 R671, R672). -/
def readBoot (s : State) : BootRec :=
  let r := (s.nor.boot.read bootBytes).getD {}
  match s.boot.carried with
  | some c => { r with fails := c.1, seq := c.2 }
  | none => r

/-- The boot record's UPD_SLOT and UPD_STATE (18 R818). -/
def setUpd (s : State) (b : Bool) (u : UpdState) : State := s.storeBoot { s.boot.record with updSlot := b, updState := u }

/-! ### Stores of the key record (14 R631, R637; 18 R819, R825) -/

/-- A mark enters the log; when fewer than 64 entries are left free, the other sector takes the sealed block and the current marks (18 R819). -/
def programMark (s : State) (k m : Nat) : State :=
  let l := s.nor.marks ++ [markEnt k m]
  if markSpace < l.length + 64 then
    { s with nor := { s.nor with
      keySec := !s.nor.keySec
      marks := ((List.range 8).filter (fun i => newestMark l i != 0)).map (fun i => markEnt i (newestMark l i)) } }
  else { s with nor := { s.nor with marks := l } }

/-- A new sealed block goes into the other sector with the current marks, that of a slot installed anew 0 (14 R635; notes/assumptions/70). -/
def programKeys (s : State) (t : Option Nat) : State :=
  { s with nor := { s.nor with
    keySec := !s.nor.keySec
    marks := ((List.range 8).filter (fun i => some i != t && newestMark s.nor.marks i != 0)).map (fun i => markEnt i (newestMark s.nor.marks i)) } }

/-- A store of a mark or of the key record begins: an erase in flight is suspended for it, or it waits for its end (18 R825). -/
def beginStore (s : State) : State :=
  if !s.eraseRuns then s
  else if s.nor.suspends then { s with nor := { s.nor with suspended := true } }
  else State.tellWait { s with nor := { s.nor with storeWaits := true } }

/-- A store is under way or waits: a check that waits for its mark, or a key change being worked on. -/
def storing (s : State) : Bool := s.cmd.marking.isSome || s.cmd.current.any (fun c => c.d.toNat % 256 == 0x43)

/-! ### The update engine's instructions (18 R812, R813, R822, R823) -/

/-- The engine's next access to the flash is refused, since its lock was forced away (R812). -/
def engineRefused (s : State) : Bool :=
  match (s.lock 0).refuse with
  | some h => decide (h < 4)
  | none => false

/-- The engine meets that refusal: the session ends, and its sequence begins again with the next FLASH_BEGIN (R812, R813). -/
def refuseEngine (s : State) : State :=
  let s1 := s.setLock 0 { s.lock 0 with refuse := none }
  { s1 with flash := { s1.flash with st := if s1.flash.st = .idle then .idle else .failed, code := 0x1205, session := none, stalled := false } }

/-- The lock of the flash is free, or held by the engine, whose session goes on through a takeover (R822). -/
def flashFree (s : State) : Bool :=
  match (s.lock 0).holder with
  | none => true
  | some h => h == s.activePos || (decide (h < 4) && (s.flash.session.isSome || s.flash.st == .erasing))

/-- The engine frees lock 0 (R822). -/
def freeFlash (s : State) : State :=
  if s.flashFree then s.setLock 0 { s.lock 0 with holder := none, told := false, halted := 0 } else s

/-- The next instruction of the erase, or the ERASED state (R823); none once the lock has been forced away (R813). -/
def nextSector (s : State) : State :=
  if s.engineRefused then s.refuseEngine
  else if s.flash.sector = 0 then
    let s1 := State.setUpd { s with flash := { s.flash with st := .erased, stalled := false } } s.flash.slot .erased
    if s1.flash.session.isNone then s1.freeFlash else s1
  else { s with flash := { s.flash with sector := s.flash.sector - 1, stalled := false } }

/-- A store has ended: the erase that was suspended for it, or that waits for it, goes on (R825). -/
def endStore (s : State) : State :=
  if s.storing then s
  else
    let s1 := { s with nor := { s.nor with suspended := false } }
    if s1.flash.stalled && s1.flash.st == .erasing then s1.nextSector else s1

end State

end Sys2Proof.Machine
end

