-- ==== Sys2Proof/Machine/Critical.lean ====
section
/-! DEFINITION. Critical commands: the queue, the keyed check, the work of accepted commands and their ends (14; 02 R57, R61, R108; 09 R380, R407; 15 R670-R673, R694, R701; 16 R727, R728). -/

namespace Sys2Proof.Machine

/-- A field of a parameter block (14 R622). -/
def pField (p : BitVec 1024) (o n : Nat) : Nat := p.toNat / 2 ^ (8 * o) % 2 ^ (8 * n)

/-- Bytes of a parameter block that are reserved for an opcode and not 0 (R622). -/
def badParam (opc : Nat) (p : BitVec 1024) : Bool :=
  match opc with
  | 0x40 => decide (8 ≤ pField p 0x20 1) || pField p 0x21 7 != 0 || pField p 0x48 56 != 0
  | 0x41 => pField p 1 7 != 0 || pField p 0x30 80 != 0
  | 0x42 => pField p 3 5 != 0 || pField p 9 119 != 0
  | 0x43 => decide (64 ≤ pField p 2 1) || pField p 3 29 != 0 || pField p 0x40 64 != 0
  | 0x44 => decide (2 ≤ pField p 0 1) || pField p 1 7 != 0 || pField p 0x10 112 != 0
  | _ => pField p 8 120 != 0

/-- KSLOT and COUNTER of a critical descriptor (R620). -/
def dKslot (d : BitVec 512) : Nat := dField d 8 1 % 8
def dCounter (d : BitVec 512) : Nat := dField d 0x10 8

/-- Arrivals of one cycle enter the queue in the order port A, port B, MCTP (R640). -/
def critRank (c : Crit) : Nat :=
  match c.src with
  | .ring _ false => 0
  | .ring _ true => 1
  | .mctp => 2

/-- A command takes its place among those that wait: at the end, but before those of its own cycle that come after it in the order of R640. -/
def placeCrit (c : Crit) : List Crit → List Crit
  | [] => [c]
  | x :: l => if x.time = c.time ∧ critRank c < critRank x then c :: x :: l else x :: placeCrit c l

/-- The parameter block of a command, 0 where none was read. -/
def Crit.p (c : Crit) : BitVec 1024 := c.param.getD 0#1024

/-- The message M of R623. -/
def critMessage (d : BitVec 512) (p : BitVec 1024) (serial : Nat) : List Byte :=
  toBytes 48 d.toNat ++ toBytes 128 p.toNat ++ toBytes 8 serial

/-- The check value of R623. -/
def critMac (key : List Byte) (d : BitVec 512) (p : BitVec 1024) (serial : Nat) : List Byte :=
  (hmac key (critMessage d p serial)).take 16

/-- H of R636, under the authorising slot's key. -/
def wrapH (key : List Byte) (counter serial : Nat) : List Byte :=
  hmac key ([0x43#8, 0x5A#8, 0x34#8, 0x4B#8, 0x57#8, 0x52#8, 0x41#8, 0x50#8] ++ toBytes 8 counter ++ toBytes 8 serial)

/-- A FUSE_BURN's version entry: the current entry plus the ring's correction, clamped (09 R380). -/
def burnEntry (cur : Nat) (corr : Int) : Nat := (max 0 (min 4095 ((cur : Int) + corr))).toNat

/-- The key of a table entry: ring 34·port + 17·drop + channel of 1,088 in a chiplet, 18 entries (09 R374). -/
def tableKey (y v ring e : Nat) : Nat := ((8 * y + v) * 1088 + ring) * 18 + e

/-- A last is named to leave at the boundary into `x` (R61). -/
def Last.nameLeave (l : Last) (x : Nat) : Last :=
  { l with leave := some (match l.leave with | some y => min x y | none => x) }

namespace State

/-- An MCTP answer waits to be sent (18 R777, R788). -/
def answer (s : State) (status : Nat) (bytes : List Byte) : State :=
  { s with mgt := { s.mgt with answers := s.mgt.answers ++ [{ status := status, bytes := bytes, start := s.clk.now }] } }

/-- A key slot, and the same replaced. -/
def key (s : State) (k : Nat) : KeySlot := s.cmd.keys.get {} k
def setKey (s : State) (k : Nat) (x : KeySlot) : State := { s with cmd := { s.cmd with keys := s.cmd.keys.set {} k x } }

/-! ### Journal and completion of a critical command (R643, R647) -/

/-- The journal fields of a command's source. -/
def critSq (c : Crit) : Nat := match c.src with | .ring q _ => q | .mctp => 0xFFFF
def critCid (c : Crit) : Nat := dCid c.d
def critSrc (s : State) (c : Crit) : Nat :=
  match c.src with
  | .ring q b => s.owner q + 64 * b2n b
  | .mctp => 128

/-- The CHECK entry (KIND 1). -/
def journalCheck (s : State) (c : Crit) (status : Nat) : State :=
  s.journal
    { kind := 1, opc := dOpc c.d, status := status, sq := critSq c, cid := critCid c, src := s.critSrc c,
      kslot := dKslot c.d, counter := dCounter c.d,
      arg0 := (match c.src with | .ring _ _ => dField c.d 0x18 8 | .mctp => 0),
      arg1 := crc32 (toBytes 128 c.p.toNat) }

/-- The completion of a critical command, or its MCTP answer with the JSEQ of its CHECK entry (18 R782). -/
def replyCrit (s : State) (c : Crit) (status : Nat) : State :=
  match c.src with
  | .ring q _ => if c.mute then s else s.complete q (dCid c.d) (s.cqFor q c.d) (dOpc c.d) status
  | .mctp => s.answer status (toBytes 8 c.jseq)

/-- A refusal: the CHECK entry with its code, then the completion (R627, R643). -/
def refuseCrit (s : State) (c : Crit) (code : Nat) : State :=
  let j := s.nextJseq
  (s.journalCheck c code).replyCrit { c with jseq := j } code

/-- The work of the command in progress ends: its RESULT entry, its completion (R643, R647). -/
def endWork (s : State) (status arg0 : Nat) : State :=
  match s.cmd.current with
  | none => s
  | some c =>
    let s1 := s.journal
      { kind := 2, opc := dOpc c.d, status := status, sq := critSq c, cid := critCid c, src := s.critSrc c,
        kslot := dKslot c.d, arg0 := arg0, arg1 := c.jseq }
    { s1 with cmd := { s1.cmd with current := none } }.replyCrit c status

/-! ### Lasts -/

/-- The lowest free residency index (02 R108). -/
def freeLast (s : State) : Option Nat := (List.range 16).find? (fun r => (s.cmd.lasts.find r).isNone)

/-- Change the last of a residency index. -/
def modLast (s : State) (r : Nat) (f : Last → Last) : State :=
  { s with cmd := { s.cmd with lasts := s.cmd.lasts.map (fun p => if p.1 == r then (p.1, f p.2) else p) } }

/-- Whether a LAST_LOAD names a new image (02, Loading and validation). -/
def namesImage (c : Crit) : Bool := pField c.p 0 8 != 0 || pField c.p 8 8 != 0

/-- The entry that an accepted LAST_LOAD of a new image takes while it is validated (R108). -/
def newLast (s : State) (c : Crit) (jseq : Nat) : Last :=
  let a := pField c.p 0 8
  let h := fun o n => s.mem.nat (a + o) n
  { id := h 0x18 8, start := pField c.p 0x10 8, run := h 0x20 8, rowMask := h 0x14 4, pkgCount := h 0xC 4, rank := h 0x10 4,
    ek := h 7 1, afab := h 8 4, energy := h 0x30 4, st := .validating, jseq := jseq, imgAddr := a, imgLen := pField c.p 8 8,
    leave := none, replaces := if pField c.p 0x20 1 % 2 = 1 then some (pField c.p 0x18 8) else none,
    replaceAll := pField c.p 0x20 1 / 2 % 2 == 1,
    sections := ⟨[], [], ⟨[], [], [], [], []⟩, []⟩, slots := [], seqs := [], mems := [], brgs := [] }

/-- The lasts that a load names leave at the boundary into its START_EPOCH (R61). -/
def nameLeaving (s : State) (all : Bool) (target : Option Nat) (x : Nat) (except : Nat) : State :=
  { s with cmd := { s.cmd with lasts := s.cmd.lasts.map (fun p =>
      if p.1 != except && p.2.st != .validating && (all || target == some p.2.id) then (p.1, Last.nameLeave p.2 x) else p) } }

/-- An UNLOAD or a REPLACE_ALL without a new image (R57, R61). -/
def workUnload (s : State) (c : Crit) : State :=
  let x := pField c.p 0x10 8
  let fl := pField c.p 0x20 1
  if x < c.accepted + 2 ∨ x ≤ s.latchedEpoch then s.endWork 0x020D (pField c.p 0x18 8)
  else
    (s.nameLeaving (fl / 2 % 2 == 1) (if fl / 4 % 2 = 1 then some (pField c.p 0x18 8) else none) x 16).endWork 0
      (pField c.p 0x18 8)

/-! ### The work of each opcode (R618) -/

/-- Whether a KEY_CHANGE is invalid under R635, authorised by slot `k`. -/
def keyChangeBad (s : State) (c : Crit) : Bool :=
  let t := pField c.p 0 1
  let a := pField c.p 1 1
  let r := pField c.p 2 1
  decide (7 < t) || !(a == 1 || a == 2) || (a == 2 && t == 0) ||
    (a == 1 && t == 0 && r != 0x3F) ||
    (a == 1 && (List.range 6).any (fun i => r.testBit i && !((s.key (dKslot c.d)).rights.testBit i)))

/-- Write the next baseline version of a chiplet (09 R380). -/
def burnTables (s : State) (y v : Nat) : State :=
  let use := (s.opt.base.get {} y).use
  let t := (List.range 1088).foldl (fun (t : Tbl Nat) r =>
    (List.range 18).foldl (fun (t : Tbl Nat) e =>
      t.set 0 (tableKey y v r e)
        (burnEntry (s.opt.tables.get 0 (tableKey y use r e)) (s.opt.rings.get {} (1088 * y + r)).corr)) t) s.opt.tables
  { s with opt := { s.opt with tables := t } }

/-- A FUSE_BURN begins, or fails with 0x0E0A (R622, 15 R694), or with 0x1205 where the fuse programmer's lock was forced away from the active shank (18 R812). -/
def workFuse (s : State) (c : Crit) : State :=
  let t := pField c.p 0 1
  let u := pField c.p 1 1
  if (s.lock 1).refuse = some s.activePos then (s.setLock 1 { s.lock 1 with refuse := none }).endWork 0x1205 0
  else if t = 1 then
    let v := pField c.p 8 1
    let h := (s.opt.base.get {} u).high
    if u < 4 ∧ v = h + 1 ∧ v ≤ 7 then s.burnTables u v else s.endWork 0x0E0A v
  else if t = 2 then
    let r := pField c.p 2 1
    if u < 4 ∧ r ≤ 8 ∧ s.fuse.rowSpare.find u = none then s else s.endWork 0x0E0A r
  else s.endWork 0x0E0A 0

/-- Begin the work of the command in progress. Work that takes time ends with its own command: LAST_VALIDATION_DONE, FW_ACTIVATE_DONE, FUSE_BURN_DONE, KEY_RECORD_STORED. -/
def beginWork (s : State) (c : Crit) : State :=
  match dOpc c.d with
  | 0x40 =>
    if namesImage c then s else s.workUnload c
  | 0x41 => s
  | 0x42 => s.workFuse c
  | 0x43 => if s.keyChangeBad c then s.endWork 0x0E06 (pField c.p 0 1) else s.beginStore
  | 0x44 =>
    let x := pField c.p 8 8
    if x ≤ s.latchedEpoch then s.endWork 0x0220 0
    else { s with cmd := { s.cmd with overridePend := some (pField c.p 0 1 == 1, x) } }.endWork 0 0
  | 0x45 =>
    let x := pField c.p 0 8
    if s.shk.standby != .inStep then s.endWork 0x1009 0
    else if x ≤ s.latchedEpoch then s.endWork 0x0220 0
    else { s with cmd := { s.cmd with rolePend := some x } }.endWork 0 0
  | _ => s

/-- Start the oldest accepted command's work if none runs (R642), unless the active pair is halted (18 R810). -/
def startWork (s : State) : State :=
  match s.activeHalted, s.cmd.current, s.cmd.work with
  | false, none, c :: rest => { s with cmd := { s.cmd with current := some c, work := rest } }.beginWork c
  | _, _, _ => s

/-- Step 8 of R625: the counter is consumed, the CHECK entry committed, the work queued; a LAST_LOAD of a new image takes its CMD_LAST_r (02 R108). -/
def acceptCrit (s : State) (c : Crit) : State :=
  let k := dKslot c.d
  let j := s.nextJseq
  let c1 := { c with jseq := j, accepted := s.clk.epoch }
  let s1 := (s.setKey k { s.key k with counter := dCounter c.d }).journalCheck c 0
  let s2 := if dOpc c.d = 0x40 ∧ namesImage c then
      match s1.freeLast with
      | some r => { s1 with cmd := { s1.cmd with lasts := s1.cmd.lasts.put r (s1.newLast c j) } }
      | none => s1
    else s1
  { s2 with cmd := { s2.cmd with work := s2.cmd.work ++ [c1] } }.startWork

/-- A failure at step 6: FAILS counts, and eight in a row lock the slot (R630). -/
def macFailed (s : State) (k : Nat) : State :=
  let x := s.key k
  let n := min (x.fails + 1) 0xFFFFFFFF
  let s1 := if x.run + 1 = 8 then s.setKey k { x with fails := n, run := 0, st := .locked }
    else s.setKey k { x with fails := n, run := x.run + 1 }
  if n = 0xFFFFFFFF ∧ x.fails < n then s1.record 0x1301 {} (cmdBase + 0x118 + 0x20 * k) else s1

/-- Steps 1 to 5 of R625 that a command fails, or 0. In sole mode only FW_ACTIVATE and KEY_CHANGE are taken (15 R701). -/
def critChecks (s : State) (c : Crit) : Nat :=
  let k := s.key (dKslot c.d)
  let vf := match c.src with | .ring q _ => s.owner q != 0 | .mctp => false
  let badCq := match c.src with
    | .ring q _ => !(decide (dCq c.d < 4096) && s.owner (dCq c.d) == s.owner q)
    | .mctp => false
  if !(decide (0x40 ≤ dOpc c.d) && decide (dOpc c.d ≤ 0x45)) then 0x0D01
  else if badFields c.d then 0x0D02
  else if vf then 0x0D04
  else if badCq then 0x0D0B
  else if s.boot.phase = .sole ∧ dOpc c.d ≠ 0x41 ∧ dOpc c.d ≠ 0x43 then 0x0F0F
  else match c.param with
    | none => 0x0E05
    | some p =>
      if badParam (dOpc c.d) p then 0x0D02
      else if k.st = .empty then 0x0E01
      else if k.st = .locked then 0x0E09
      else if !k.rights.testBit (dOpc c.d - 0x40) then 0x0E02
      else if dCounter c.d ≤ k.counter then 0x0E03
      else 0

/-- One keyed check (R625): a refusal, an acceptance, or a wait for its counter mark. -/
def checkCrit (s : State) (c : Crit) : State :=
  let code := s.critChecks c
  if code ≠ 0 then s.refuseCrit c code
  else
    let k := dKslot c.d
    if critMac (s.key k).key c.d c.p s.fuse.serial ≠ toBytes 16 (dField c.d 0x30 16) then (s.macFailed k).refuseCrit c 0x0E04
    else
      let s1 := s.setKey k { s.key k with run := 0 }
      if (s.key k).mark < dCounter c.d then State.beginStore { s1 with cmd := { s1.cmd with marking := some c } }
      else s1.acceptCrit c

/-- The checks run in queue order until the queue is empty or one waits (R642). -/
def runQueue : Nat → State → State
  | 0, s => s
  | n + 1, s =>
    match s.cmd.marking, s.cmd.queue with
    | none, c :: rest => runQueue n ({ s with cmd := { s.cmd with queue := rest } }.checkCrit c)
    | _, _ => s

/-- Let the queue run, unless the active pair is halted (18 R810). -/
def runChecks (s : State) : State := if s.activeHalted then s else runQueue s.cmd.queue.length s

/-- A critical command enters the queue (R640), or the input gate while it holds inputs (16 R718). -/
def enterCrit (s : State) (c : Crit) : State :=
  let x := { c with time := (s.clk.now, s.clk.sub) }
  if s.gateHolds then s.holdInput (.crit x)
  else { s with cmd := { s.cmd with queue := placeCrit x s.cmd.queue } }.runChecks

/-- A critical descriptor on a ring (R619, R621, R641). -/
def doCritical (s : State) (q : Nat) (d : BitVec 512) (opc : Nat) (p : Option (BitVec 1024)) : State :=
  let full := if s.gateHolds then decide (256 ≤ s.shk.gate.length) else decide (64 ≤ s.cmd.queue.length)
  if s.readsFrom q && s.fenceOpen q d && dOpc d == opc && !full then
    (s.takeDescriptor q).enterCrit { src := .ring q (s.ringPort q == 1), d := d, param := p }
  else s

/-- The mark that a counter needs (R631). -/
def markFor (c : Crit) : Nat := min (dCounter c.d + 4096) (2 ^ 64 - 1)

/-- COUNTER_MARK_STORED (R631): the mark is COUNTER + 4,096, and the check ends. A store that waits for an erase has not begun (18 R825). -/
def doMarkStored (s : State) (ok : Bool) : State :=
  match s.activeHalted || s.nor.storeWaits, s.cmd.marking with
  | true, _ => s
  | _, none => s
  | false, some c =>
    let k := dKslot c.d
    let s1 := { s with cmd := { s.cmd with marking := none } }
    let s2 := if ok then ((s1.setKey k { s1.key k with mark := markFor c }).programMark k (markFor c)).endStore.acceptCrit c
      else s1.endStore.refuseCrit c 0x0E07
    s2.runChecks

/-- KEY_SLOT_UNLOCK (R630). -/
def doUnlock (s : State) (k : Nat) : State :=
  if (s.key k).st = .locked then s.setKey k { s.key k with st := .active } else s

/-- The command in progress, if it has an opcode and the shank that works on it is not halted (18 R810). -/
def working (s : State) (opc : Nat) : Option Crit :=
  match s.activeHalted, s.cmd.current with
  | false, some c => if dOpc c.d = opc then some c else none
  | _, _ => none

/-- KEY_RECORD_STORED: the change applies (R635-R638), and the sealed block is in flash (18 R819). -/
def doKeyStored (s : State) : State :=
  if s.nor.storeWaits then s
  else match s.working 0x43 with
  | none => s
  | some c =>
    let t := pField c.p 0 1
    if pField c.p 1 1 = 1 then
      let h := wrapH (s.key (dKslot c.d)).key (dCounter c.d) s.fuse.serial
      let k := (toBytes 32 (pField c.p 0x20 32)).zipWith (fun a b => a ^^^ b) h
      let s1 := s.setKey t { s.key t with key := k, st := .active, rights := pField c.p 2 1, counter := 0, mark := 0 }
      let s2 := if t = 0 then { s1 with cmd := { s1.cmd with spent := true }, fuse := { s1.fuse with spent := true } } else s1
      ((s2.programKeys (some t)).endWork 0 t).endStore
    else (((s.setKey t { s.key t with key := [], st := .empty }).programKeys none).endWork 0 t).endStore

/-- A firmware slot. -/
def fslot (s : State) (b : Bool) : FSlot := if b then s.flash.slotB else s.flash.slotA

/-- A field of a slot's bytes: its header (18 R820). -/
def slotField (x : FSlot) (o n : Nat) : Nat := ofBytes ((List.range n).map (fun i => x.bytes.get 0xFF#8 (o + i)))

/-- The header of a slot stands and is not marked erase-in-progress (15 R670, 18 R820). -/
def slotHeader (x : FSlot) : Bool := slotField x 0 4 == 0x5A434657 && slotField x 4 4 == 1 && x.state == 0xFFFFA5A5#32

/-- A slot is valid (15 R670; notes/assumptions/8). -/
def slotValid (s : State) (b : Bool) : Bool := slotHeader (s.fslot b) && Config.slotVerdict (s.fslot b).bytes s.fuse.rootPk == 0

/-- The manifest of a slot, by MAN_OFF and MAN_LEN. -/
def manifest (x : FSlot) : List Byte :=
  (List.range (slotField x 0x20 4)).map (fun i => x.bytes.get 0xFF#8 (slotField x 0x1C 4 + i))

/-- FW_ACTIVATE_DONE: the slot is checked and marked for the next start (R618, 15 R673); in sole mode BOOT_FAILS clears (15 R703). -/
def doFwDone (s : State) : State :=
  match s.working 0x41 with
  | none => s
  | some c =>
    let f := pField c.p 0 1
    let b := f == 1
    let x := s.fslot b
    if decide (f ≤ 1) && s.slotValid b && slotField x 0x10 8 == pField c.p 8 8 &&
        sha256 (manifest x) == toBytes 32 (pField c.p 0x10 32) then
      let r := s.boot.record
      let fails := if s.boot.phase = .sole then 0 else r.fails
      (s.storeBoot { r with prev := s.boot.slotB, sel := b, trial := true, fails := fails }).endWork 0 f
    else s.endWork 0x0E0B f

end State

/-! ### Meanings -/

/-- LAST_LOAD (R618). -/
def execLastLoad (ring : Fin 4096) (d : BitVec 512) (param : Option (BitVec 1024)) (s : State) : Res :=
  .next (s.doCritical ring d 0x40 param)
/-- FW_ACTIVATE (R618). -/
def execFwActivate (ring : Fin 4096) (d : BitVec 512) (param : Option (BitVec 1024)) (s : State) : Res :=
  .next (s.doCritical ring d 0x41 param)
/-- FUSE_BURN (R618). -/
def execFuseBurn (ring : Fin 4096) (d : BitVec 512) (param : Option (BitVec 1024)) (s : State) : Res :=
  .next (s.doCritical ring d 0x42 param)
/-- LASER_OVERRIDE (09 R407). -/
def execLaserOverride (ring : Fin 4096) (d : BitVec 512) (param : Option (BitVec 1024)) (s : State) : Res :=
  .next (s.doCritical ring d 0x44 param)
/-- ROLE_TRANSFER (16 R727). -/
def execRoleTransfer (ring : Fin 4096) (d : BitVec 512) (param : Option (BitVec 1024)) (s : State) : Res :=
  .next (s.doCritical ring d 0x45 param)
/-- KEY_CHANGE (R635). -/
def execKeyChange (ring : Fin 4096) (d : BitVec 512) (param : Option (BitVec 1024)) (s : State) : Res :=
  .next (s.doCritical ring d 0x43 param)
/-- CRITICAL_WORK_START (R642). -/
def execCriticalWorkStart (s : State) : Res := .next s.startWork
/-- COUNTER_MARK_STORED (R631). -/
def execCounterMarkStored (ok : Bool) (s : State) : Res := .next (s.doMarkStored ok)
/-- KEY_SLOT_UNLOCK (R630). -/
def execKeySlotUnlock (slot : Fin 8) (s : State) : Res := .next (s.doUnlock slot)
/-- KEY_RECORD_STORED (R637). -/
def execKeyRecordStored (s : State) : Res := .next s.doKeyStored
/-- FW_ACTIVATE_DONE (15 R670, R673). -/
def execFwActivateDone (s : State) : Res := .next s.doFwDone

end Sys2Proof.Machine
end

