-- ==== Sys2Proof/Machine/Frames.lean ====
section
/-! DEFINITION. Lane words and lane frames: wavelengths and logical lanes, the pattern generator, scrambled payload words, and the alignment markers that an end sends (10 R413-R420, R431, R447-R458, R462). -/

namespace Sys2Proof.Machine

/-- What a wavelength carries at an end's transmitter: no light, a tone word (10 R425), steady 1s (R429), PRBS-31 from a seed (R431), the signals of a calibration (09 R390), or lane frames (R414). -/
inductive Light where
  | dark | tone (word : Nat) | steady | prbs (seed : Nat) | sweep | frame
deriving DecidableEq, Repr

/-- The logical lane that normally rides wavelength `w` with spare `sp`; 31 for the spare itself (10 R462). -/
def laneOf (w sp : Nat) : Nat := if w = sp then 31 else if w < sp then w else w - 1

/-- The wavelength that logical lane `j` normally rides. -/
def waveOf (j sp : Nat) : Nat := if j < sp then j else j + 1

/-- TX_MAP of wavelength `k` in a frame whose lane map puts `m` on the spare: its logical lane, 31 for the idle frame (R417, R420, R448). -/
def waveMap (k sp : Nat) (m : Option Nat) : Nat :=
  match m with
  | none => 31
  | some j => if k = sp then j else if laneOf k sp = j then 31 else laneOf k sp

/-! ### The generator of x^31 + x^28 + 1 (R419, R431; its bit order: notes/assumptions/50) -/

/-- The next bit, and the register after it. -/
def prbsBit (g : Nat) : Nat := (g / 2 ^ 30 + g / 2 ^ 27) % 2
def prbsNext (g : Nat) : Nat := 2 * g % 2 ^ 31 + prbsBit g

/-- The register after `n` bits, and the next `n` bits, first one lowest. -/
def prbsSkip : Nat → Nat → Nat
  | 0, g => g
  | n + 1, g => prbsSkip n (prbsNext g)
def prbsMask : Nat → Nat → Nat
  | 0, _ => 0
  | n + 1, g => prbsBit g + 2 * prbsMask n (prbsNext g)

/-- What the generator of a wavelength is loaded with at a marker (R419); with count 0, before PRBS-31 (R431). -/
def prbsSeed (k fcnt : Nat) : Nat := 0x40000000 + 2048 * k + fcnt % 2048

/-- Payload word `w`, 1 to 31, of a frame: SYNC, then the side bits and the body of its lane, scrambled (R416, R419). -/
def payloadWord (k fcnt w body side : Nat) : BitVec 132 :=
  BitVec.ofNat 132 (1 + 4 * ((side % 4 + 4 * (body % 2 ^ 128)) ^^^ prbsMask 130 (prbsSkip (130 * (w - 1)) (prbsSeed k fcnt))))

/-- The word of a row on wavelength `k`: body bytes 16j to 16j + 15 and side bits 2j + 1 to 2j of its logical lane j, zeros in the idle frame (R416, R420). -/
def rowWord (r : LinkLn) (row : BitVec 2048 × Word) (k : Nat) : BitVec 132 :=
  let j := waveMap k r.spareCh r.frameMap
  if j = 31 then payloadWord k r.fcnt r.word 0 0
  else payloadWord k r.fcnt r.word (row.1.toNat / 2 ^ (128 * j)) (row.2.toNat / 2 ^ (2 * j))

/-! ### Markers sent (R417, R418) -/

/-- PLAN_LANE to PLAN_EPOCH, from bit 107 of a marker (R417). -/
def planBits (m : Move) (req : Bool) : Nat :=
  m.lane % 32 + 2 ^ 5 * b2n m.back + 2 ^ 6 * b2n req + 2 ^ 7 * b2n (!req) + 2 ^ 8 * (m.epoch % 256)

/-- The PLAN fields that an end sends (R454, R455): its own move until it is acknowledged, the partner's once accepted; with both, in turn (notes/assumptions/51). -/
def planFields (r : LinkLn) : Nat :=
  let own := match r.txMove with
    | some m => if m.acked then none else some m
    | none => none
  match own, r.rxMove with
  | some m, none => planBits m true
  | none, some m => planBits m false
  | some a, some b => if r.fcnt % 2 = 0 then planBits a true else planBits b false
  | none, none =>
    let x := (Config.planIdle r.fcnt).toNat
    x % 64 + 2 ^ 8 * (x / 64)

/-- The marker of an end's next frame on wavelength `k` (R417, R447, R448). -/
def sentMarker (r : LinkLn) (k : Nat) : BitVec 132 :=
  let v := 2 + 4 * 3 + 2 ^ 4 * 0x9C6B4A71E25D0F83 + 2 ^ 68 * (r.fcnt % 2048) + 2 ^ 79 * (waveMap k r.spareCh r.frameMap % 32) +
    2 ^ 84 * (r.rxReq % 32) + 2 ^ 89 * b2n r.down + 2 ^ 90 * r.rxLock.toNat + 2 ^ 107 * planFields r
  BitVec.ofNat 132 (v + 2 ^ 124 * markerChk v)

/-- The lane map of the frame that an end begins: idle frames in FRAME, but for an end that returned there from CAPX (R421, R442). -/
def nextMap (r : LinkLn) : Option Nat := if r.st = .frame ∧ r.capFails = 0 then none else some r.txSpare

/-- The states in which an end sends frames (R421). -/
def sendsFrames (r : LinkLn) : Bool :=
  match r.st with
  | .frame => true
  | .capx => true
  | .active => true
  | _ => false

end Sys2Proof.Machine
end

