-- ==== Sys2Proof/Machine/LinkOps.lean ====
section
/-! DEFINITION. The operations that optics, lanes and the link layer share: lanes and spares, planned moves, swaps, timetables of a link, and how a link goes down and its traffic passes to its twin (09 R386, 10 R422-R462, 11 R467-R515). -/

namespace Sys2Proof.Machine

/-- The laser group of a link, 4·y + g (09, The optical path). -/
def linkGroup (l : Nat) : Nat := 4 * (l / 32) + l % 32 / 8

/-- The twin of a link (08 R348, 11 R507). -/
def twin (l : Nat) : Nat := l ^^^ 64

/-- The key of a channel: 68·y + 17·g + k. -/
def chanOf (y g k : Nat) : Nat := 68 * y + 17 * g + k

/-- The location of a link, and of a wavelength of it (15 R662). -/
def linkLoc (l : Nat) (w : Nat := 0) : Loc := { kind := 5, unit := l, a := w }

/-- Set or clear bit `k` of a 17-bit mask. -/
def setBit17 (m : BitVec 17) (k : Nat) (b : Bool) : BitVec 17 :=
  if b then m ||| BitVec.ofNat 17 (2 ^ k) else m &&& ~~~(BitVec.ofNat 17 (2 ^ k))

/-- The difference of two `w`-bit counts, read as a signed value (11 R493). -/
def wrapDiff (w a b : Nat) : Int :=
  let d := (a + 2 ^ w - b % 2 ^ w) % 2 ^ w
  if 2 ^ (w - 1) ≤ d then (d : Int) - 2 ^ w else d

/-- A field of a row body: `n` bytes from offset `o`. -/
def bField (b : BitVec 2048) (o n : Nat) : Nat := b.toNat / 2 ^ (8 * o) % 2 ^ (8 * n)

/-- LEN and the data credits of a packet (11 R472, R486). -/
def packetLen (b : BitVec 2048) : Nat := min (bField b 4 1) 224
def packetData (b : BitVec 2048) : Nat := (packetLen b + 31) / 32

/-- The stitch list of a stream in epoch `e` of a last that started at `start` (11 R468). -/
def streamList (x : StreamSpec) (start e : Nat) : List StitchSlot :=
  x.lists.getD ((e - start) % max 1 x.lists.length) []

namespace State

/-! ### Records of a link -/

/-- One end of a link at its lanes, and the same replaced. -/
def lnk (s : State) (l : Nat) : LinkLn := s.ln.get {} l
def setLnk (s : State) (l : Nat) (x : LinkLn) : State := { s with ln := s.ln.set {} l x }
/-- One end of a link at its link layer, and the same replaced. -/
def lkk (s : State) (l : Nat) : LinkLk := s.lk.get {} l
def setLkk (s : State) (l : Nat) (x : LinkLk) : State := { s with lk := s.lk.set {} l x }
/-- A shutter. -/
def shutter (s : State) (l : Nat) : Shutter := s.opt.shutters.get .closed l
def setShutter (s : State) (l : Nat) (x : Shutter) : State :=
  { s with opt := { s.opt with shutters := s.opt.shutters.set .closed l x } }
/-- A lane as calibration sees it, by 17·link + lane. -/
def laneCal (s : State) (l k : Nat) : LaneCal := s.opt.lanes.get {} (17 * l + k)
def setLaneCal (s : State) (l k : Nat) (x : LaneCal) : State :=
  { s with opt := { s.opt with lanes := s.opt.lanes.set {} (17 * l + k) x } }
/-- A laser group's rotation. -/
def calGroup (s : State) (g : Nat) : CalGroup := s.opt.groups.get {} g
def setCalGroup (s : State) (g : Nat) (x : CalGroup) : State :=
  { s with opt := { s.opt with groups := s.opt.groups.set {} g x } }

/-- A link is ACTIVE. -/
def linkUp (s : State) (l : Nat) : Bool := (s.lnk l).st == .active

/-- LN_CTL.ENABLE, the spare wavelength to read at ALIGN, LK_CTL.REROUTE and LEAK_RETRAIN, in force. -/
def lnEnabled (s : State) (l : Nat) : Bool := s.bits (lnReg l + 0x10) 0 1 == 1
def lnSpareCtl (s : State) (l : Nat) : Nat := s.bits (lnReg l + 0x10) 8 5
def lkReroutes (s : State) (l : Nat) : Bool := s.bits (lkReg l + 0x10) 0 1 == 1
def lkLeakRetrain (s : State) (l : Nat) : Bool := s.bits (lkReg l + 0x10) 1 1 == 1

/-! ### What an end sends (10 R413-R421) -/

/-- A channel of a laser group. -/
def chOf (s : State) (k : Nat) : Channel := s.opt.channels.get {} k

/-- A channel of a group is lit on the bus. -/
def channelLit (s : State) (k : Nat) : Bool :=
  let c := s.chOf k
  s.opt.lit && (if c.cross then c.spare == .bus else c.primary == .bus)

/-- A wavelength out of service is being calibrated. -/
def sweeping (s : State) (l k : Nat) : Bool :=
  match (s.calGroup (linkGroup l)).run with
  | some c => c.link == l && c.lane == k && waveMap k (s.lnk l).spareCh (s.lnk l).frameMap == 31
  | none => false

/-- What wavelength `k` of a link carries at this end's transmitter (R421, R425, R427, R429, R431; 09 R365, R369, R390, R402). -/
def lightOf (s : State) (l k : Nat) : Light :=
  let r := s.lnk l
  if s.shutter l == .closed || !s.channelLit (chanOf (l / 32) (l % 32 / 8) k) then .dark
  else match r.st with
    | .off => .dark
    | .detect => .tone (if r.found then 0x2C59 else 0xD3A6)
    | .align => .steady
    | .bitlock => .prbs (prbsSeed k 0)
    | _ => if s.sweeping l k then .sweep else if (s.laneCal l k).prbs then .prbs (prbsSeed k 0) else .frame

/-- One word on every wavelength that carries frames. -/
def waveWords (s : State) (l : Nat) (w : Nat → BitVec 132) : List (Nat × BitVec 132) :=
  ((List.range 17).filter (fun k => s.lightOf l k == .frame)).map (fun k => (k, w k))

/-- A frame begins: its lane map stands, and its marker goes out on every wavelength (R414, R448). -/
def frameStart (s : State) (l : Nat) : State :=
  let r := s.lnk l
  if r.word = 0 then
    let r1 := { r with word := 1, frameMap := nextMap r }
    let s1 := s.setLnk l r1
    s1.emit (.words l (s1.waveWords l (sentMarker r1)))
  else s

/-- The next payload word of every wavelength: a row, or zeros (R415, R416, R419). -/
def sendWords (s : State) (l : Nat) (row : BitVec 2048 × Word) : State :=
  let s1 := s.frameStart l
  let r := s1.lnk l
  (s1.emit (.words l (s1.waveWords l (rowWord r row)))).setLnk l
    { r with word := (r.word + 1) % 32, fcnt := if r.word = 31 then (r.fcnt + 1) % 2048 else r.fcnt }

/-- A row goes out on its lanes. -/
def sendLine (s : State) (l : Nat) (body : BitVec 2048) (side : Word) : State := (s.emit (.row l body side)).sendWords l (body, side)

/-- A last frame with DOWN in its markers, before the shutter leaves OPEN (R424, R452). -/
def sendDown (s : State) (l : Nat) : State :=
  let r := s.lnk l
  if s.shutter l == .opened && s.opt.lit && sendsFrames r then
    s.emit (.words l (s.waveWords l (sentMarker { r with down := true, frameMap := nextMap r })))
  else s

/-! ### The fabric identity of this end (12) -/

def joined (s : State) : Bool := s.bits (fabBase + 0x10) 0 1 == 1
def fabId (s : State) : Nat := s.bits (fabBase + 0x14) 0 32
def member (s : State) : Nat := s.bits (fabBase + 0x18) 0 16

/-- A field of the partner's capability block, 0 where none was taken (10 R439). -/
def capField (s : State) (l o n : Nat) : Nat :=
  match (s.lnk l).cap with
  | some b => b.toNat / 2 ^ (8 * o) % 2 ^ (8 * n)
  | none => 0

/-! ### Timetables (02 R54, 11 R468) -/

/-- The stream of a link in one direction, with the epoch in which its last started, of the running lasts. -/
def streamOf (s : State) (l : Nat) (send : Bool) : Option (Nat × StreamSpec) :=
  (s.cmd.lasts.filterMap (fun p =>
    if p.2.st == .running then
      ((p.2.sections.streams.find? (fun x => x.link.val == l && x.send == send)).map (fun x => (p.2.start, x)))
    else none)).head?

/-- The stitches of a link direction in the current epoch. -/
def stitchList (s : State) (l : Nat) (send : Bool) : List StitchSlot :=
  match s.streamOf l send with
  | some (st, x) => streamList x st s.clk.epoch
  | none => []

/-- F_L in force for a link, if a running last claims it (02 R72). -/
def flightOf (s : State) (l : Nat) : Option Nat :=
  match s.streamOf l false, s.streamOf l true with
  | some p, _ => some p.2.fL
  | none, some p => some p.2.fL
  | none, none => none

/-- A measured flight keeps the link in the schedule (02 R73, R74). -/
def flightFits (s : State) (l m : Nat) : Bool :=
  match s.flightOf l with
  | some f => decide (m ≤ f)
  | none => true

/-- The reduce group of a link's stitches with a group number, of the running lasts (12 R561). -/
def groupSpec (s : State) (block g : Nat) : Option GroupSpec :=
  (s.cmd.lasts.filterMap (fun p =>
    if p.2.st == .running then
      p.2.sections.groups.find? (fun x => x.block.val == block && x.group.val == g)
    else none)).head?

/-- The member links of a group, in its operand order. -/
def groupMembers (x : GroupSpec) : List Nat :=
  (x.order.take (x.nlink.val + 1)).map (fun p => 8 * x.block.val + p.val)

/-- The member through which a group's results cross Wn (08 R344). -/
def groupLow (x : GroupSpec) : Nat := (groupMembers x).foldl min 127

/-- Result flits of an operand set (09 R411). -/
def groupFlits (x : GroupSpec) : Nat := if x.fmt.val = 0 then 1 else if x.fmt.val = 1 then 2 else 4

/-- The landings that link `l` owes in the current epoch (02 R99): its stitches of no group, and the results of the groups that cross on it. -/
def owed (s : State) (l : Nat) : Nat :=
  let t := s.stitchList l false
  let plain := (t.filter (fun x => x.group == 0)).length
  [1, 2].foldl (fun n g =>
    match s.groupSpec (l / 8) g with
    | some x => if groupLow x = l then n + (t.filter (fun y => y.group == g)).length * groupFlits x else n
    | none => n) plain

/-- Every stitch of the epoch that a running last receives has landed (02 R99). -/
def allLanded (s : State) : Bool :=
  s.cmd.lasts.all (fun p => p.2.st != .running ||
    p.2.sections.streams.all (fun x => x.send || decide (s.owed x.link.val ≤ (s.lkk x.link.val).landed)))

/-! ### Spare lanes (10 R422, R447-R455) -/

/-- The receive direction's spare lane is free: locked, not retired, carrying nothing, and not asked for. -/
def rxFree (s : State) (l : Nat) : Bool :=
  let r := s.lnk l
  r.rxSpare == 31 && r.rxReq == 31 && r.rxLock.getLsbD r.spareCh && !r.retired.getLsbD r.spareCh

/-- The transmit direction's spare lane is free, as the partner's markers show it; not while it is retired here or its new light is checked (09 R365, R394). -/
def txFree (s : State) (l : Nat) : Bool :=
  let r := s.lnk l
  let x := s.laneCal l r.spareCh
  r.txSpare == 31 && r.partnerLock.getLsbD r.spareCh && !r.partnerRetired.getLsbD r.spareCh && !x.retired && !x.prbs

/-- Ask for a planned move of a transmit lane in this epoch; a second one waits (10 R454, R458). -/
def requestMove (s : State) (l j : Nat) (back : Bool) : State :=
  let r := s.lnk l
  let there := if back then r.txSpare != j else r.txSpare == j
  let asked := match r.txMove with
    | some m => m.lane == j && m.back == back
    | none => false
  if there || asked || r.want.contains (j, back) || r.st != .active then s
  else match r.txMove with
    | none => s.setLnk l { r with txMove := some ⟨j, back, s.clk.epoch + 2, false, true⟩ }
    | some _ => s.setLnk l { r with want := r.want ++ [(j, back)] }

/-- A lane becomes urgent: it joins the head of its group's calibration queue (09 R391, 10 R446). -/
def markUrgent (s : State) (l w : Nat) : State :=
  let r := s.lnk l
  let s1 := s.setLnk l { r with urgent := setBit17 r.urgent w true }
  let g := s1.calGroup (linkGroup l)
  let s2 := s1.setLaneCal l w { s1.laneCal l w with urgent := true }
  if g.head.contains (l, w) then s2 else s2.setCalGroup (linkGroup l) { g with head := g.head ++ [(l, w)] }

/-- A TC3 calibration request to the partner (09 R390, 11 R475): a receiver's lane is calibrated, queued and moved by the transmitting end (notes/assumptions/66). -/
def askPartner (s : State) (l what w : Nat) : State :=
  if s.linkUp l then s.setLkk l { s.lkk l with newPkt := (s.lkk l).newPkt ++ [⟨3, 0, Config.calAsk what w, none⟩] } else s

/-- A wavelength of this receiver becomes urgent: it is marked, and the partner, whose transmit lane it is, is asked to queue it (09 R391, 10 R446). -/
def urgentRx (s : State) (l w : Nat) : State :=
  if (s.lnk l).urgent.getLsbD w then s.markUrgent l w else (s.markUrgent l w).askPartner l 1 w

/-- A wavelength is retired at this receiver, with its code (10 R421). -/
def retireRx (s : State) (l w code : Nat) : State :=
  let r := s.lnk l
  if r.retired.getLsbD w then s
  else (s.setLnk l { r with retired := setBit17 r.retired w true }).record code (linkLoc l w)

/-- A transmit lane is retired by calibration (09 R376, R390): it stays on, or moves to, the spare lane. -/
def retireTx (s : State) (l w code : Nat) : State :=
  let s1 := (s.setLaneCal l w { s.laneCal l w with retired := true }).record code (linkLoc l w)
  if laneOf w (s.lnk l).spareCh = 31 then s1 else s1.requestMove l (laneOf w (s.lnk l).spareCh) false

/-- The calibration of a link stops (09 R395). -/
def stopCalibration (s : State) (l : Nat) : State :=
  let g := s.calGroup (linkGroup l)
  match g.run with
  | some c => if c.link = l then s.setCalGroup (linkGroup l) { g with run := none } else s
  | none => s

/-! ### The link layer of a link that goes down (11 R505-R515) -/

/-- The key of a Wn channel direction (08 R329). -/
def chanKey (l : Nat) (toYz : Bool) : Nat := 64 * (l / 32) + 2 * (l % 32) + b2n toYz

/-- A Wn channel direction, and the same replaced. -/
def dir (s : State) (k : Nat) : WDir := s.br.dirs.get {} k
def setDir (s : State) (k : Nat) (x : WDir) : State := { s with br := { s.br with dirs := s.br.dirs.set {} k x } }

/-- The receive buffer of a packet is free again (11 R488). -/
def freePkt (s : State) (l cls n : Nat) : State :=
  let r := s.lkk l
  let cr := r.credits.upd {} cls (fun c => if c.occH = 0 then c else
    { c with freeH := (c.freeH + 1) % 2 ^ 16, freeD := (c.freeD + n) % 2 ^ 16, occH := c.occH - 1, occD := c.occD - n })
  s.setLkk l { r with credits := cr }

/-- The twin can carry a link's traffic (R507). -/
def canReroute (s : State) (l : Nat) : Bool :=
  let m := twin l
  s.linkUp m && (s.lkk m).st == .inSched && s.capField m 8 8 == s.capField l 8 8 &&
    (s.lnk l).cap.isSome && s.lkReroutes l

/-- Stitches of a link still on their way through Wn, oldest first: flits sent and not yet accepted, then flits waiting. -/
def lateStitches (s : State) (l : Nat) : List (BitVec 2048) :=
  let d := s.dir (chanKey l true)
  ((d.replay.filter (fun f => f.kind == 1 && decide (0 ≤ wrapDiff 12 f.seq d.expect))) ++ d.stitches).map (fun f => f.payload)

/-- What a link direction still owes its partner when it reroutes (R508): its stitch queue and its unacknowledged stitches in index order, then those that no slot has taken, with the indices that follow. A poisoned stitch gets its real body. -/
def unsent (s : State) (l : Nat) : List Stitch :=
  let r := s.lkk l
  let late := s.lateStitches l
  let fix := fun (x : Stitch) =>
    match (r.poison.zip late).find? (fun p => p.1 == x.index) with
    | some p => { x with body := p.2 }
    | none => x
  let fresh := r.queue.filter (fun x => !r.kept.any (fun y => y.index == x.index))
  let bodies := r.ready ++ late.drop r.poison.length
  (r.kept ++ fresh).map fix ++ ((List.range bodies.length).zip bodies).map (fun p => ⟨r.tx + p.1, p.2⟩)

/-- The rerouted stream of a link ends: its carrier goes down too (R515). -/
def loseCarrier (s : State) (m : Nat) : State :=
  let n := twin m
  if (s.lkk m).carrying then
    let s1 := s.setLkk m { s.lkk m with carrying := false, rrQueue := [], keptRr := [], rrExpect := none, rrHeld := [] }
    (s1.setLkk n { s1.lkk n with st := .down }).record 0x0B06 (linkLoc n)
  else s

/-- READY and RELEASE markers that a link still repeats pass to its twin; with both down they wait for one of them, with 0x0C04 (12 R543, R544). -/
def moveRepeats (s : State) (l : Nat) : State :=
  let r := s.lkk l
  let m := twin l
  if r.repeats.isEmpty then s
  else if s.linkUp m then
    let t := s.lkk m
    (s.setLkk l { r with repeats := [] }).setLkk m
      { t with repeats := t.repeats ++ r.repeats, markers := t.markers ++ r.repeats.map (fun x => x.m), ctlDue := true }
  else s.record 0x0C04 (linkLoc l)

/-- The link layer takes a link down: its traffic passes to the twin, or has no route (R505-R508, R512, R515). One that was out of the schedule keeps its unacknowledged packets for its next service. -/
def lkDown (s : State) (l : Nat) : State :=
  let s := s.moveRepeats l
  let r := s.lkk l
  if r.st = .down ∨ r.st = .rerouted then
    s.setLkk l { r with keptPkt := [], newPkt := r.keptPkt ++ r.newPkt, pktReplay := [], ctlDue := false, nakDue := false, nakAt := none,
                        retrainReq := false, retrainDue := false, rejoinAt := none, proposed := none, markers := [] }
  else
    let s1 := s.loseCarrier l
    let r := s1.lkk l
    let quiet : LinkLk :=
      { r with queue := [], kept := [], ready := [], poison := [], keptPkt := [], newPkt := r.keptPkt ++ r.newPkt, pktReplay := [], ctlDue := false, nakDue := false,
               nakAt := none, retrainReq := false, retrainDue := false, rejoinAt := none, proposed := none, markers := [] }
    if r.st = .inSched then
      if s1.canReroute l then
        let u := s1.unsent l
        let m := twin l
        let t := s1.lkk m
        let d := s1.dir (chanKey l true)
        let s2 := s1.setLkk l { quiet with st := .rerouted, tx := r.tx + (r.ready.length + ((s1.lateStitches l).length - r.poison.length)), newPkt := [] }
        let s3 := s2.setLkk m { t with carrying := true, rrQueue := t.rrQueue ++ u, rrExpect := none, rrHeld := [], newPkt := r.keptPkt ++ r.newPkt ++ t.newPkt }
        let s4 := s3.setDir (chanKey l true) { d with stitches := [] }
        (s4.bump (lkReg l + 0x3C)).record 0x0B05 (linkLoc l)
      else ((s1.setLkk l { quiet with st := .down }).setDir (chanKey l true) { s1.dir (chanKey l true) with stitches := [] }).record 0x0B06 (linkLoc l)
    else if s1.linkUp l then s1.setLkk l { quiet with st := .down }
    else s1

/-! ### A link goes down at its lanes (10 R424, R459, R505) -/

/-- A link leaves training or service for DETECT; `held`: the shutter stays CLOSED for 10 s; `duty`: it probes 2 ms in every second. A link that may not be lit goes to OFF (R421, 09 R405, R406). -/
def lnDetect (s : State) (l : Nat) (held duty : Bool) : State :=
  let r := s.lnk l
  let off := !s.lnEnabled l || !s.opt.lit
  let s1 := (s.sendDown l).stopCalibration l
  let s2 := if r.st = .active ∧ !off then s1.bump (lnReg l + 0x2C) else s1
  let s3 := s2.setLnk l
    { st := if off then .off else .detect, duty := duty && !off, held := held && !off,
      attempts := if off then r.attempts else r.attempts + 1, retired := r.retired, urgent := r.urgent, spareCh := r.spareCh,
      down := s.shutter l == .opened, cap := r.cap, capFails := 0, fcnt := (r.fcnt + 1) % 2048 }
  s3.setShutter l (if off ∨ held ∨ duty then .closed else .probe)

/-- A link goes down (10 R459, 11 R505, R506). -/
def linkDown (s : State) (l : Nat) (held : Bool := false) (duty : Bool := false) : State :=
  match (s.lnk l).st with
  | .off => s
  | .detect => if held ∨ duty ∨ !s.lnEnabled l ∨ !s.opt.lit then s.lnDetect l held duty else s
  | _ => (s.lkDown l).lnDetect l held duty

/-- A capability retrain: both ends return to CAPX with lock and lane map in place, and the link is out of the schedule (10 R461, 11 R492). -/
def capRetrain (s : State) (l : Nat) : State :=
  if s.linkUp l then
    let s1 := s.lkDown l
    s1.setLnk l { s1.lnk l with
      st := .capx, capLast := none, capSeen := false, capPartner := false, capSent := 0, txMove := none, rxMove := none, want := [] }
  else s

/-- A fault that the link layer answers with a capability retrain (11, code 0x0B03). -/
def linkProtocol (s : State) (l : Nat) : State := (s.record 0x0B03 (linkLoc l)).capRetrain l

/-! ### Unplanned swaps (10 R447-R453) -/

/-- A wavelength in service leaves it at this receiver: to the free spare, or the link goes down (R447, R452). `code` is recorded when the spare takes it. -/
def swapRx (s : State) (l w code : Nat) : State :=
  let r := s.lnk l
  let j := laneOf w r.spareCh
  if s.rxFree l then
    let s1 := s.record code (linkLoc l w)
    match r.rxMove with
    | some m =>
      if m.lane = j ∧ !m.back then s1.setLnk l { s1.lnk l with rxReq := j, rxMove := none }
      else (s1.setLnk l { s1.lnk l with rxReq := j, rxMove := none }).record 0x0A0C (linkLoc l w)
    | none => s1.setLnk l { s1.lnk l with rxReq := j }
  else (s.record 0x0A09 (linkLoc l w)).linkDown l

end State

end Sys2Proof.Machine
end

