-- ==== Sys2Proof/Machine/Bridge.lean ====
section
/-! DEFINITION. The bridges: mesh lines, the flits of the Wn channels, their retry and credits, stitches on their way through Wn (08 R318-R348). -/

namespace Sys2Proof.Machine

/-- The 224 header bits that the CRC covers, as a number (R330). -/
def flitHead (f : Flit) (ack : Nat) (nak : Bool) (crClass crH crD : Nat) : Nat :=
  f.kind + 4 * f.tc + 16 * b2n f.sop + 32 * b2n f.eop + 64 * b2n f.par + 2 ^ 8 * f.lastlen +
  2 ^ 16 * (if f.kind = 0 then 0 else f.seq) + 2 ^ 28 * ack + 2 ^ 40 * b2n nak + 2 ^ 41 * crClass +
  2 ^ 44 * (crH % 256) + 2 ^ 52 * (crD % 4096) + 2 ^ 64 * f.addr + 2 ^ 96 * f.ldata

/-- CRC of a flit (R330): header bytes 0 to 27, then the payload. -/
def flitCrc (head : Nat) (payload : BitVec 2048) : Nat := crc32 (toBytes 28 head ++ bodyBytes payload)

/-- A field of a received flit header. -/
def hField (h : BitVec 256) (lo w : Nat) : Nat := h.toNat / 2 ^ lo % 2 ^ w

/-- An IDLE flit. -/
def idleFlit : Flit :=
  { seq := 0, kind := 0, tc := 0, sop := false, eop := false, par := false, lastlen := 0, addr := 0, ldata := 0, payload := 0#2048 }

/-- The credits that INIT advertises: header and data credits of TC0 to TC3 and LOCAL (R332). -/
def initAdv : List (Nat × Nat) := [(16, 64), (16, 64), (16, 64), (16, 64), (8, 8)]

/-- A direction's credits at its start, as its receiver advertised them. -/
def startCredits (adv : List (Nat × Nat)) : Tbl Credit :=
  (List.range 5).foldl (fun (t : Tbl Credit) c => t.set {} c { advH := (adv.getD c (0, 0)).1, advD := (adv.getD c (0, 0)).2 }) []

/-- The grid of a Wn channel: S slots every P cycles (R318). -/
def wnGrid (variant : Nat) : Nat × Nat := match variant with | 0 => (1, 3) | 1 => (5, 13) | _ => (10, 21)

/-- The latest slot of a grid at or before cycle `c` (R318, R339). -/
def gridBefore (g : Nat × Nat) (c : Nat) : Nat :=
  let m := c / g.2
  g.2 * m + ((List.range g.1).filter (fun j => decide (g.2 * j / g.1 ≤ c % g.2))).foldl (fun a j => max a (g.2 * j / g.1)) 0

namespace State

/-- SBR_STATE of a bridge. -/
def bridge (s : State) (b : Nat) : BridgeState := s.br.st.get .untrained b
def setBridge (s : State) (b : Nat) (x : BridgeState) : State := { s with br := { s.br with st := s.br.st.set .untrained b x } }

/-- The location of a Wn channel: its first slice. -/
def wnLoc (y c : Nat) : Loc := { kind := 4, unit := 4 + y, a := 8 * c }

/-- A channel of Wy carries flits. -/
def chanRuns (s : State) (y c : Nat) : Bool := s.bridge (4 + y) == .active && !s.chanDown y c

/-! ### Mesh lines (R320, R324) -/

/-- Add corrected errors of a mesh direction, in its counter and to those of the epoch (R320, R324). -/
def countCe (s : State) (k n : Nat) : State :=
  let s1 := s.bumpBy (sbrBase + 0x200 + 4 * k) n
  { s1 with br := { s1.br with ceEpoch := s1.br.ceEpoch.upd 0 k (fun m => m + n) } }

/-- A bridge's retrain becomes due. -/
def bridgeDue (s : State) (b : Nat) : State :=
  { s with br := { s.br with due := if s.br.due.contains b then s.br.due else s.br.due ++ [b] } }

/-- A line arrives over a mesh bridge in 32 slices: each single-bit error is corrected and counted, a double-bit error in any slice aborts (R320). -/
def doMeshLine (s : State) (b : Nat) (rev : Bool) (singles : Nat) (double : Bool) : State :=
  if s.bridge b != .active then s
  else
    let s1 := if singles = 0 then s else s.countCe (2 * b + b2n rev) singles
    if double then (s1.bridgeDue b).abortWith 0x0805 { kind := 4, unit := b + 8 * b2n rev } else s1

/-- A mesh direction has passed 1,024 corrected errors in the epoch, and that is not recorded yet (R324). -/
def ceOver (s : State) (k : Nat) : Bool := decide (1024 < s.br.ceEpoch.get 0 k) && !s.br.ceTold.contains k

/-- MESH_RETRAIN_DUE: each direction of the bridge that has passed 1,024 corrected errors in an epoch is recorded, and the retrain is due (R324). -/
def doMeshDue (s : State) (b : Nat) : State :=
  if s.bridge b != .active then s
  else ([2 * b, 2 * b + 1].filter s.ceOver).foldl (fun (s : State) k =>
    ({ s with br := { s.br with ceTold := s.br.ceTold ++ [k] } }.bridgeDue b).record 0x0806 { kind := 4, unit := b + 8 * (k % 2) }) s

/-! ### Channel retrains (R342, R348) -/

/-- The receive buffer of a flit in a class, taken and freed (R332, R333). -/
def takeBuffer (d : WDir) (cls : Nat) (first : Bool) : WDir :=
  { d with credits := d.credits.upd {} cls (fun x => { x with rcvdH := (x.rcvdH + b2n first) % 256, rcvdD := (x.rcvdD + 1) % 4096 }) }
def freeBuffer (d : WDir) (cls : Nat) (first : Bool) : WDir :=
  { d with credits := d.credits.upd {} cls (fun x => { x with freeH := (x.freeH + b2n first) % 256, freeD := (x.freeD + 1) % 4096 }) }

/-- A channel that trains starts with fresh credits: packets that its receiver still holds owe it none. -/
def forgetWn (s : State) (k : Nat) : State :=
  { s with lk := s.lk.map (fun p => (p.1, { p.2 with newPkt := p.2.newPkt.map (fun q => if q.wn.any (fun w => w.1 == k) then { q with wn := none } else q) })) }

/-- A channel of Wy trains alone; its link is down, and the bridge is down when no channel is left (R342, R348). LOCAL flits that wait belong to no channel and stand. -/
def chanRetrain (s : State) (y c code : Nat) : State :=
  let k := 64 * y + 2 * c
  let s1 := ((s.record code (wnLoc y c)).linkDown (32 * y + c)).forgetWn (k + 1)
  let s2 := (s1.setDir k { down := true, locals := (s1.dir k).locals }).setDir (k + 1) { down := true, locals := (s1.dir (k + 1)).locals }
  if (List.range 32).all (fun c => s2.chanDown y c) then s2.setBridge (4 + y) .down else s2

/-- A channel starts its protocol with fresh sequence numbers and the credits that its receivers advertised: the die's toward it, `adv` toward the chiplet (R332, R345). -/
def chanStart (s : State) (adv : List (Nat × Nat)) (y c : Nat) : State :=
  let k := 64 * y + 2 * c
  (s.setDir k { credits := startCredits initAdv, locals := (s.dir k).locals }).setDir (k + 1)
    { credits := startCredits adv, locals := (s.dir (k + 1)).locals }

/-- A channel's retrain ended; a bridge that was down has a channel again. -/
def chanTrained (s : State) (y c : Nat) (ok : Bool) : State :=
  if s.chanDown y c && ok then
    let s1 := s.chanStart initAdv y c
    if s1.bridge (4 + y) = .down then s1.setBridge (4 + y) .active else s1
  else if s.chanDown y c then s.record 0x0803 (wnLoc y c)
  else s

/-! ### Sending (R331-R337) -/

/-- Credit for one more flit of a class, with a header credit for the first flit of a packet (R332, R333). -/
def hasCredit (d : WDir) (cls : Nat) (first : Bool) : Bool :=
  let c := d.credits.get {} cls
  (!first || decide ((c.sentH + 256 - c.retH) % 256 < c.advH)) && decide ((c.sentD + 4096 - c.retD) % 4096 < c.advD)

/-- Use one data credit, and a header credit for the first flit of a packet. -/
def useCredit (d : WDir) (cls : Nat) (first : Bool) : WDir :=
  { d with credits := d.credits.upd {} cls (fun c => { c with sentH := (c.sentH + b2n first) % 256, sentD := (c.sentD + 1) % 4096 }) }

/-- Running lasts reserve the slot of a channel in this cycle (R321, R331); in a pause every slot is open. -/
def slotReserved (s : State) (y c : Nat) (toYz : Bool) : Bool :=
  let g := wnGrid s.fuse.variant
  let i := slotIdx g s.clk.cycle
  s.started && decide (s.clk.cycle < s.epochN) && decide (slotCycle g i = s.clk.cycle) &&
    s.cmd.lasts.any (fun p => p.2.st == .running && p.2.brgs.any (fun t => t.key == (if toYz then 4 else 12) + y &&
      ((tabLists brgKind s.mem t ((s.clk.epoch - p.2.start) % t.period)).getD []).any (fun w =>
        eb w 41 5 == c && decide (eb w 0 27 ≤ i ∧ i ≤ eb w 0 27 + eb w 29 12))))

/-- Put a flit on a channel with the acknowledgement, NAK and credit fields of the opposite direction (R330, R333, R337). -/
def putFlit (s : State) (y c : Nat) (toYz : Bool) (f : Flit) : State :=
  let k := 64 * y + 2 * c + b2n toYz
  let rk := 64 * y + 2 * c + b2n (!toYz)
  let r := s.dir rk
  let d := s.dir k
  let cr := r.credits.get {} d.rotate
  let head := flitHead f ((r.expect + 4095) % 4096) r.nak d.rotate cr.freeH cr.freeD
  let h := BitVec.ofNat 256 (head + 2 ^ 224 * flitCrc head f.payload)
  let s1 := s.setDir k { d with rotate := (d.rotate + 1) % 5 }
  (s1.setDir rk { s1.dir rk with nak := false }).emit (.flit y c toYz h f.payload)

/-- Send a new sequenced flit: it takes the next SEQ and enters the replay buffer (R336); behind a replay it is resent in its turn (R335). -/
def sendFlit (s : State) (y c : Nat) (toYz : Bool) (d : WDir) (f : Flit) : State :=
  let k := 64 * y + 2 * c + b2n toYz
  let q := (d.seq + 1) % 4096
  let f := { f with seq := q }
  let d1 := { d with seq := q, replay := d.replay ++ [f], resend := if d.resend.isEmpty then [] else d.resend ++ [f] }
  (s.setDir k d1).putFlit y c toYz f

/-- Send the next flit of a replay; the replays of the oldest flit are counted (R342). -/
def sendReplay (s : State) (y c : Nat) (toYz : Bool) (d : WDir) (f : Flit) (rest : List Flit) : State :=
  let k := 64 * y + 2 * c + b2n toYz
  let oldest := d.replay.head?.any (fun g => g.seq == f.seq)
  ((s.setDir k { d with resend := rest, tries := d.tries + b2n oldest }).bump (sbrBase + 0x1000 + 0x100 * y + 8 * c + 4 * b2n (!toYz))).putFlit y c toYz f

/-- The channel whose turn it is for LOCAL flits of a direction (R331). -/
def localChan (s : State) (y : Nat) (toYz : Bool) : Nat := (s.br.localTurn.get 31 (2 * y + b2n toYz) + 1) % 32

/-- Put a LOCAL flit behind those that wait in its direction: they stand with channel 0 and ride the free slots of all (R330, R331). -/
def addLocal (s : State) (y : Nat) (toYz : Bool) (off data : Nat) : State :=
  let k := 64 * y + b2n toYz
  s.setDir k { s.dir k with locals := (s.dir k).locals ++ [{ idleFlit with kind := 3, sop := true, eop := true, addr := off, ldata := data }] }

/-- A channel has something else for its slot in this cycle, or cannot take a flit: it is passed over in the rotation of LOCAL flits (R331). -/
def slotTaken (s : State) (y c : Nat) (toYz : Bool) : Bool :=
  let d := s.dir (64 * y + 2 * c + b2n toYz)
  !s.chanRuns y c || s.slotReserved y c toYz || !d.resend.isEmpty || !d.stitches.isEmpty || decide (64 ≤ d.replay.length) || !hasCredit d 4 true ||
    (match d.packets with
     | p :: _ => hasCredit d p.tc p.sop
     | [] => false)

/-- The channel that carries the next LOCAL flit: the first in the rotation with a free slot (R331). -/
def localNext (s : State) (y : Nat) (toYz : Bool) : Option Nat :=
  ((List.range 32).map (fun i => (s.localChan y toYz + i) % 32)).find? (fun c => !s.slotTaken y c toYz)

/-- A free slot with no replay, stitch or packet to send: a LOCAL flit in its turn, else IDLE (R331). -/
def sendLocal (s : State) (y c : Nat) (toYz : Bool) : State :=
  let k0 := 64 * y + b2n toYz
  match (s.dir k0).locals with
  | f :: rest =>
    if s.localNext y toYz = some c then
      let s1 := s.setDir k0 { s.dir k0 with locals := rest }
      let s2 := { s1 with br := { s1.br with localTurn := s1.br.localTurn.set 31 (2 * y + b2n toYz) c } }
      s2.sendFlit y c toYz (useCredit (s2.dir (64 * y + 2 * c + b2n toYz)) 4 true) f
    else s.putFlit y c toYz idleFlit
  | [] => s.putFlit y c toYz idleFlit

/-- FLIT_SLOT: what a channel slot carries, by the order of R331. A reserved slot carries stitches and their replays only; a stitch that a replay has delayed takes the next slot (08, Worked case 8.1). -/
def doFlitSlot (s : State) (y c : Nat) (toYz : Bool) : State :=
  if !s.chanRuns y c then s
  else
    let k := 64 * y + 2 * c + b2n toYz
    let d := s.dir k
    let room := decide (d.replay.length < 64)
    let kept := s.slotReserved y c toYz
    match d.resend, d.stitches with
    | [], f :: rest => if room then s.sendFlit y c toYz { d with stitches := rest } f else s.putFlit y c toYz idleFlit
    | f :: rest, g :: more =>
      if f.kind = 1 ∨ !room then (if kept && f.kind != 1 then s.putFlit y c toYz idleFlit else s.sendReplay y c toYz d f rest)
      else s.sendFlit y c toYz { d with stitches := more } g
    | f :: rest, [] => if kept && f.kind != 1 then s.putFlit y c toYz idleFlit else s.sendReplay y c toYz d f rest
    | [], [] =>
      if kept then s.putFlit y c toYz idleFlit
      else match d.packets with
        | p :: rest =>
          if hasCredit d p.tc p.sop then
            if room then
              let s1 := s.sendFlit y c toYz { useCredit d p.tc p.sop with packets := rest } p
              if toYz then s1 else s1.freePkt (32 * y + c) p.tc (packetData p.payload)
            else s.putFlit y c toYz idleFlit
          else s.sendLocal y c toYz
        | [] => s.sendLocal y c toYz

/-- Replay from the oldest unacknowledged flit (R335). -/
def startReplay (s : State) (k : Nat) : State :=
  let d := s.dir k
  if d.replay.isEmpty then s else s.setDir k { d with resend := d.replay }

/-! ### Receiving (R335-R342) -/

/-- A stitch reaches the link layer of its link (R339, R340), unless an abort has stopped its epoch: the real body of a poisoned stitch goes into its replay-buffer entry. -/
def yzStitch (s : State) (l : Nat) (body : BitVec 2048) : State :=
  let r := s.lkk l
  if r.st != .inSched || !s.notStopped then s
  else match r.poison with
    | i :: rest =>
      let fix := fun (x : Stitch) => if x.index == i then { x with body := body } else x
      s.setLkk l { r with poison := rest, kept := r.kept.map fix, queue := r.queue.map fix }
    | [] => s.setLkk l { r with ready := r.ready ++ [body] }

/-- The landing region of a link's stream for a parity (02 R75), as a package address. -/
def landingBase (s : State) (l : Nat) (odd : Bool) : Option Nat :=
  (s.streamOf l false).map (fun p => dbufAddr (l / 32) + (if odd then p.2.regionOdd else p.2.regionEven))

/-- A stitch reaches its die and waits for its landing slot (06 R250); one of an epoch that an abort has stopped is dropped (17 R755). -/
def dieStitch (s : State) (l : Nat) (odd : Bool) (line : Nat) (body : BitVec 2048) : State :=
  match s.landingBase l odd with
  | some a => if !s.notStopped then s else s.setLkk l { s.lkk l with landing := (s.lkk l).landing ++ [(a + 256 * line, body)] }
  | none => s

/-- A packet that reached its die (11 R475): a host transfer's data goes to the address that its header names (12, End-to-end transfer tags). -/
def diePacket (s : State) (tc : Nat) (body : BitVec 2048) : State :=
  let n := min (body.toNat / 2 ^ 32 % 256) 224
  if tc = 2 then s.pokeOwn (body.toNat / 2 ^ 192 % 2 ^ 64) ((bodyBytes body).drop 32 |>.take n) else s

/-- The acknowledgement, NAK and credit fields of a good flit act on the sender of the opposite direction (R330, R333, R335). -/
def applyAck (s : State) (rk : Nat) (h : BitVec 256) : State :=
  let d := s.dir rk
  let ack := hField h 28 12
  let left := d.replay.filter (fun f => decide (0 < wrapDiff 12 f.seq ack))
  let tries := if left.length = d.replay.length then d.tries else 0
  let cls := hField h 41 3
  let cr := if cls ≤ 4 then
      d.credits.upd {} cls (fun c => { c with retH := hField h 44 8, retD := hField h 52 12 })
    else d.credits
  let resend := d.resend.filter (fun f => decide (0 < wrapDiff 12 f.seq ack))
  let s1 := s.setDir rk { d with replay := left, resend := resend, tries := tries, credits := cr }
  if hField h 40 1 = 1 then s1.startReplay rk else s1

/-- A PACKET or LOCAL flit beyond the credit of its class (R342). -/
def overCredit (d : WDir) (cls : Nat) (first : Bool) : Bool :=
  let c := d.credits.get {} cls
  (first && decide (c.advH ≤ (c.rcvdH + 256 - c.freeH) % 256)) || decide (c.advD ≤ (c.rcvdD + 4096 - c.freeD) % 4096)

/-- A flit accepted in order (R335, R339): a packet toward the chiplet holds its buffer until its link sends it; all others are used at once. What a LOCAL flit names, a register word of the chiplet, changed with the write that it stands for (notes/assumptions/64). -/
def acceptFlit (s : State) (y c : Nat) (toYz : Bool) (h : BitVec 256) (payload : BitVec 2048) : State :=
  let l := 32 * y + c
  let k := 64 * y + 2 * c + b2n toYz
  let d := s.dir k
  let kind := hField h 0 2
  let cls := if kind = 3 then 4 else hField h 2 2
  let first := kind == 3 || hField h 4 1 == 1
  let d1 := { (if kind = 1 then d else takeBuffer d cls first) with expect := (d.expect + 1) % 4096 }
  let s1 := s.setDir k (if kind = 1 ∨ kind = 2 ∧ toYz then d1 else freeBuffer d1 cls first)
  if kind = 1 then
    if toYz then s1.yzStitch l payload else s1.dieStitch l (hField h 6 1 == 1) (hField h 64 18) payload
  else if kind = 2 then
    if toYz then s1.setLkk l { s1.lkk l with newPkt := (s1.lkk l).newPkt ++ [⟨cls, 0, payload, some (k, first)⟩] }
    else s1.diePacket cls payload
  else s1

/-- FLIT_RECEIVE. -/
def doFlitReceive (s : State) (y c : Nat) (toYz : Bool) (h : BitVec 256) (payload : BitVec 2048) : State :=
  if !s.chanRuns y c then s
  else
    let k := 64 * y + 2 * c + b2n toYz
    let rk := 64 * y + 2 * c + b2n (!toYz)
    let kind := hField h 0 2
    if flitCrc (h.toNat % 2 ^ 224) payload ≠ hField h 224 32 then
      if kind = 0 then s else s.setDir k { s.dir k with nak := true }
    else
      let s1 := s.applyAck rk h
      if kind = 0 then s1
      else
        let x := wrapDiff 12 (hField h 16 12) (s1.dir k).expect
        let cls := if kind = 3 then 4 else hField h 2 2
        if x = 0 then
          (if kind != 1 && overCredit (s1.dir k) cls (kind == 3 || hField h 4 1 == 1) then s1.chanRetrain y c 0x0808
           else s1.acceptFlit y c toYz h payload)
        else if -64 ≤ x ∧ x < 64 then s1
        else s1.chanRetrain y c 0x0808

/-- FLIT_REPLAY_TIMEOUT (R335). -/
def doFlitTimeout (s : State) (y c : Nat) (toYz : Bool) : State :=
  if s.chanRuns y c then s.startReplay (64 * y + 2 * c + b2n toYz) else s

/-- FLIT_RETRY_EXHAUSTED: the oldest flit has been replayed 8 times (R342). -/
def doFlitExhausted (s : State) (y c : Nat) (toYz : Bool) : State :=
  if s.chanRuns y c && decide (8 ≤ (s.dir (64 * y + 2 * c + b2n toYz)).tries) then s.chanRetrain y c 0x0807 else s

/-- STITCH_RELEASE: the die network releases a stitch into Wn for its send slot (R339), or toward the twin's chiplet while the link is rerouted (11 R508). -/
def doStitchRelease (s : State) (l : Nat) (body : BitVec 2048) : State :=
  let r := s.lkk l
  match (s.stitchList l true)[r.released]? with
  | none => s
  | some x =>
    if s.inEpoch && s.notStopped && decide (gridBefore (wnGrid s.fuse.variant) (x.cycle - 101) ≤ s.clk.cycle) then
      let s1 := s.setLkk l { r with released := r.released + 1 }
      match r.st with
      | .inSched =>
        let k := chanKey l true
        let f : Flit := { idleFlit with kind := 1, par := s.clk.epoch % 2 == 1, addr := x.cycle % 2 ^ 26, payload := body }
        s1.setDir k { s1.dir k with stitches := (s1.dir k).stitches ++ [f] }
      | .rerouted =>
        let m := twin l
        let t := s1.lkk m
        (s1.setLkk l { s1.lkk l with tx := r.tx + 1 }).setLkk m { t with rrQueue := t.rrQueue ++ [⟨r.tx, body⟩] }
      | _ => s1
    else s

end State

/-! ### Meanings -/

/-- MESH_LINE_RECEIVE (R320). -/
def execMeshLineReceive (b : Fin 4) (dir : Bool) (errors : LineErrors) (s : State) : Res := .next (s.doMeshLine b dir errors.singles errors.double)
/-- MESH_RETRAIN_DUE (R324). -/
def execMeshRetrainDue (b : Fin 4) (s : State) : Res := .next (s.doMeshDue b)
/-- STITCH_RELEASE (R339). -/
def execStitchRelease (link : Fin 128) (payload : BitVec 2048) (s : State) : Res := .next (s.doStitchRelease link payload)
/-- FLIT_SLOT (R331). -/
def execFlitSlot (y : Fin 4) (c : Fin 32) (toYz : Bool) (s : State) : Res := .next (s.doFlitSlot y c toYz)
/-- FLIT_RECEIVE (R335). -/
def execFlitReceive (y : Fin 4) (c : Fin 32) (toYz : Bool) (header : BitVec 256) (payload : BitVec 2048) (s : State) : Res :=
  .next (s.doFlitReceive y c toYz header payload)
/-- FLIT_REPLAY_TIMEOUT (R335). -/
def execFlitReplayTimeout (y : Fin 4) (c : Fin 32) (toYz : Bool) (s : State) : Res := .next (s.doFlitTimeout y c toYz)
/-- FLIT_RETRY_EXHAUSTED (R342). -/
def execFlitRetryExhausted (y : Fin 4) (c : Fin 32) (toYz : Bool) (s : State) : Res := .next (s.doFlitExhausted y c toYz)

end Sys2Proof.Machine
end

