-- ==== Sys2Proof/Machine/Fabric.lean ====
section
/-! DEFINITION. The fabric: readiness, releases, the Lace line and epoch markers (02 R93-R100; 07 R301-R303; 12 R519-R560). -/

namespace Sys2Proof.Machine

/-- A marker as it travels (R539), without the sender's fields. -/
def encodeMarker (m : Marker) (cycle fabId member : Nat) : Nat :=
  m.kind + 2 ^ 8 * m.flags + 2 ^ 32 * (cycle % 2 ^ 32) + 2 ^ 64 * (m.epoch % 2 ^ 64) + 2 ^ 128 * fabId + 2 ^ 160 * member +
  2 ^ 192 * m.count + 2 ^ 256 * m.arr

/-- A field of a received marker: `n` bytes from offset `o`. -/
def mField (m : BitVec 512) (o n : Nat) : Nat := m.toNat / 2 ^ (8 * o) % 2 ^ (8 * n)

/-- A received marker. -/
def decodeMarker (m : BitVec 512) : Marker :=
  { kind := mField m 0 1, flags := mField m 1 1, epoch := mField m 8 8, count := mField m 0x18 4, arr := mField m 0x20 32 }

/-- FLAGS of a READY or RELEASE marker. -/
def flagBits (late abort stop : Bool) : Nat := b2n late + 2 * b2n abort + 4 * b2n stop

/-- The barriers whose bit is set. -/
def bitsSet (arr : Nat) : List Nat := (List.range 256).filter (fun k => arr.testBit k)

namespace State

/-! ### Set-up (12, FAB set-up registers) -/

def isLeader (s : State) : Bool := s.bits (fabBase + 0x10) 1 1 == 1
def isRoot (s : State) : Bool := s.bits (fabBase + 0x10) 2 1 == 1
def laceSlot (s : State) : Nat := s.bits (fabBase + 0x10) 8 4
def parentLink (s : State) : Option Nat :=
  if s.bits (fabBase + 0x10) 23 1 = 1 then some (s.bits (fabBase + 0x10) 16 7 % 128) else none
def childLinks (s : State) : List Nat :=
  (List.range 128).filter (fun i => s.bits (fabBase + 0x20 + 4 * (i / 32)) (i % 32) 1 == 1)
def chunks (s : State) : List Nat := (List.range 16).filter (fun w => s.bits (fabBase + 0x30) w 1 == 1)

/-! ### Ready words and arrivals (R532, R533) -/

/-- The epoch that this package reports as completed: its own, or the one before it once it has recovered from an abort (R556). -/
def doneEpoch (s : State) : Nat :=
  match s.abort with
  | some a => if a.recovered then s.clk.epoch - 1 else s.clk.epoch
  | none => s.clk.epoch

/-- The epoch that the next release is to name (R66, R556). -/
def nextEpoch (s : State) : Nat :=
  match s.abort with
  | some a => if a.recovered then s.clk.epoch else s.clk.epoch + 1
  | none => s.clk.epoch + 1

/-- An epoch abort is under way and ready has not been reported since (R550). -/
def aborting (s : State) : Bool :=
  match s.abort with
  | some a => !a.recovered
  | none => false

/-- The ready word (R532). -/
def readyWord (s : State) : Nat :=
  b2n s.joined + 2 * b2n (s.clk.ready && !s.aborting) + 4 * b2n s.clk.late + 8 * b2n s.aborting + 16 * b2n s.fab.stopped +
  2 ^ 8 * (s.doneEpoch % 256)

/-- The arrival bit of a barrier: not claimed here, or arrived. -/
def arrivedBit (s : State) (k : Nat) : Bool := !s.barrierClaimed k || (s.sync.barriers.get {} k).arrived

/-- The arrival bits of this package, of one chunk and of all (R533). -/
def arrivalChunk (s : State) (w : Nat) : Nat := maskOf (fun k => s.arrivedBit (16 * w + k)) 16
def arrivals (s : State) : Nat := maskOf s.arrivedBit 256

/-! ### Markers to send (R540-R544) -/

/-- A marker waits for the next control row of a link. -/
def queueMarker (s : State) (l : Nat) (m : Marker) : State :=
  let r := s.lkk l
  s.setLkk l { r with markers := r.markers ++ [m], ctlDue := true }

/-- The link that carries the markers of tree link `l`: itself, or its twin while it is down (R544). -/
def treeCarrier (s : State) (l : Nat) : Option Nat :=
  if s.linkUp l then some l else if s.linkUp (twin l) then some (twin l) else none

/-- Send a READY or RELEASE on a tree link, or on its twin when it is down; among the tree link's repeats it waits for its answer, and with both down for one of them to return (R543, R544). -/
def sendTree (s : State) (l : Nat) (m : Marker) : State :=
  let s1 := s.setLkk l { s.lkk l with repeats := (s.lkk l).repeats.filter (fun x => x.m.kind != m.kind) ++ [⟨m, 0⟩] }
  match s1.treeCarrier l with
  | some k => s1.queueMarker k m
  | none => s1.record 0x0C04 (linkLoc l)

/-- What answers the markers repeated on link `l` ends them there and on its twin, which carried them while it was down (R543, R544). -/
def dropRepeats (s : State) (l : Nat) (answered : Repeat → Bool) : State :=
  let one := fun (s : State) (k : Nat) => s.setLkk k { s.lkk k with repeats := (s.lkk k).repeats.filter (fun x => !answered x) }
  one (one s l) (twin l)

/-! ### Releases (R520, R537-R542, R551) -/

/-- A release reaches the package: one with ABORT discards the current epoch (R552); another waits for the boundary step. One that names another epoch than the one expected is dropped (R545), a repeat silently (R543); after the package's own watchdog expiry, a release without STOP that names the epoch it is in already (12, If instead, after R560). -/
def takeRelease (s : State) (r : Release) : State :=
  if r.abort then
    if r.epoch ≠ s.clk.epoch ∧ !s.fab.adopt then s.record 0x0C0A
    else
      match s.abort with
      | some a => if a.fabric then s else { s.bump (fabBase + 0x11C) with abort := some { a with fabric := true } }
      | none =>
        { (s.bump (fabBase + 0x11C)).record 0x0C08 with abort := some { epoch := s.clk.epoch, code := 0x0C08, start := s.clk.now, fabric := true } }
  else if s.aborting then s.record 0x0C0A
  else if s.clk.release.isSome then s
  else if s.fab.stopped ∧ !r.stop ∧ r.epoch = s.clk.epoch then s.record 0x0C0A
  else if s.fab.adopt ∨ r.epoch = s.nextEpoch then { s with clk := { s.clk with release := some r, settle := 64 } }
  else if r.epoch = s.clk.epoch then s
  else s.record 0x0C0A

/-- The Lace words of a release (R538): the leader drives RELEASE words 0 to 4, then one word per chunk. -/
def laceWords (s : State) (r : Release) : List Out :=
  let w0 := 1 + 4 * b2n r.late + 8 * b2n r.abort + 16 * b2n r.stop + 2 ^ 8 * (r.epoch % 256)
  let ep := (List.range 4).map (fun i => Out.lace 2 (i + 1) (r.epoch / 2 ^ (16 * i) % 2 ^ 16))
  let ch := s.chunks.map (fun w =>
    let bits := maskOf (fun k => r.complete.contains (16 * w + k)) 16
    if w ≤ 10 then Out.lace 2 (w + 5) bits else Out.lace 4 (w - 11) bits)
  Out.lace 2 0 w0 :: ep ++ ch

/-- A release that has reached this package: the current abort's, or the one passed on for the coming epoch. A repeat of it is dropped (R543). -/
def releaseSeen (s : State) (r : Release) : Bool :=
  if r.abort then (match s.abort with | some a => a.fabric | none => false)
  else s.isLeader && s.fab.sentRelease == some r.epoch || s.clk.release.isSome

/-- A release names the epoch expected of it (R545, R552, R560). -/
def releaseFits (s : State) (r : Release) : Bool :=
  if r.abort then r.epoch == s.clk.epoch || s.fab.adopt
  else !s.aborting && !(s.fab.stopped && !r.stop && r.epoch == s.clk.epoch) && (s.fab.adopt || r.epoch == s.nextEpoch)

/-- A leader passes a release on: RELEASE on every child link, the Lace line, and itself (R542). -/
def spreadRelease (s : State) (r : Release) : State :=
  let arr := r.complete.foldl (fun n k => n + 2 ^ k) 0
  let m : Marker :=
    { kind := 3, flags := flagBits r.late r.abort r.stop, epoch := r.epoch, count := s.bits (fabBase + 0x1C) 0 17, arr := arr }
  let s1 := s.childLinks.foldl (fun (s : State) l => s.sendTree l m) s
  let s2 := (s1.laceWords r).foldl emit s1
  { s2 with fab := { s2.fab with sentRelease := if r.abort then s2.fab.sentRelease else some r.epoch } }.takeRelease r

/-- An ABORT goes up the tree at once, and the root answers at once, each once for an abort (R550, R551). -/
def abortUp (s : State) (epoch : Nat) : State :=
  if !s.isLeader then s
  else if s.isRoot then
    if s.releaseSeen { epoch := epoch, abort := true } then s else s.spreadRelease { epoch := epoch, abort := true }
  else match s.parentLink with
    | some p =>
      let m : Marker := { kind := 2, flags := flagBits false true s.fab.stopped, epoch := epoch, count := 0, arr := 0 }
      if (s.lkk p).repeats.any (fun x => x.m == m) then s else s.sendTree p m
    | none => s

/-! ### Agreement (R520, R535-R542) -/

/-- The enrolled slots other than the leader's own. -/
def otherSlots (s : State) : List LaceSlot :=
  (s.fab.lace.filter (fun p => p.2.enrolled && p.1 != s.laceSlot)).map (fun p => p.2)

/-- A slot's word reads ready for this epoch, and every chunk has been read since (R535, R537). -/
def slotReady (s : State) (x : LaceSlot) : Bool :=
  x.word.testBit 1 && x.word / 256 % 256 == s.doneEpoch % 256 && s.chunks.all (fun w => (x.arr.find w).isSome)

/-- The READY that a child has sent for this epoch. -/
def childReady (s : State) (l : Nat) : Option Marker :=
  match s.fab.children.find l with
  | some m => if m.epoch = s.doneEpoch then some m else none
  | none => none

/-- The board and every child are ready. -/
def subtreeReady (s : State) : Bool :=
  s.clk.ready && s.otherSlots.all s.slotReady && s.childLinks.all (fun l => (s.childReady l).isSome)

/-- The flags of the board and the children, by bit of the ready word and bit of FLAGS (R541). -/
def subtreeFlag (s : State) (own : Bool) (wordBit flagBit : Nat) : Bool :=
  own || s.otherSlots.any (fun x => x.word.testBit wordBit) ||
  s.childLinks.any (fun l => match s.childReady l with | some m => m.flags.testBit flagBit | none => false)

/-- The AND of the arrival bits of the board and the children; a chunk that is not polled stays 1 (R541, R549). -/
def subtreeArrivals (s : State) : Nat :=
  let slotBits := fun (x : LaceSlot) =>
    s.chunks.foldl (fun n w => n + 2 ^ (16 * w) * x.arr.get 0 w)
      (maskOf (fun k => !s.chunks.contains (k / 16)) 256)
  let a := s.otherSlots.foldl (fun n x => n &&& slotBits x) s.arrivals
  s.childLinks.foldl (fun n l => match s.childReady l with | some m => n &&& m.arr | none => n) a

/-- Form the release, or send READY to the parent, once everyone below is ready (R520, R541, R542). -/
def agree (s : State) : State :=
  if !s.started || s.aborting || s.clk.release.isSome || !s.clk.ready then s
  else if !s.joined then
    s.takeRelease { epoch := s.nextEpoch, late := s.clk.late, complete := bitsSet s.arrivals }
  else if s.isLeader && s.subtreeReady then
    let late := s.subtreeFlag s.clk.late 2 0
    let stop := s.subtreeFlag s.fab.stopped 4 2
    if s.isRoot then
      if s.fab.sentRelease = some s.nextEpoch then s
      else s.spreadRelease { epoch := s.nextEpoch, late := late, stop := stop, complete := bitsSet s.subtreeArrivals }
    else match s.parentLink with
      | some p =>
        if s.fab.sentReady = some s.doneEpoch then s
        else
          let n := (s.otherSlots.length + 1) + s.childLinks.foldl (fun n l => match s.childReady l with | some m => n + m.count | none => n) 0
          { s with fab := { s.fab with sentReady := some s.doneEpoch } }.sendTree p
            { kind := 2, flags := flagBits late false stop, epoch := s.doneEpoch, count := n, arr := s.subtreeArrivals }
      | none => s
  else s

/-- The package reports ready (02 R99). -/
def becomeReady (s : State) (late : Bool) : State := { s with clk := { s.clk with ready := true, late := late } }.agree

/-! ### The Lace line (R529-R538) -/

/-- A Lace word that this package drives: its ready word or an arrival chunk (R530, R532, R533). -/
def laceAnswer (s : State) (hi : Bool) (word : Nat) : Option Nat :=
  if hi then (if word = 0 then some (s.arrivalChunk 15) else none)
  else if word = 0 then some s.readyWord
  else some (s.arrivalChunk (word - 1))

/-- The leader reads a ready word (R535, R536): REG = 0 ends an enrolment with 0x0C09. -/
def readReady (s : State) (slot data : Nat) : State :=
  let x := s.fab.lace.get {} slot
  let reg := data.testBit 0
  let x1 : LaceSlot := { x with regRuns := if reg then x.regRuns + 1 else 0, word := data, enrolled := x.enrolled && reg, arr := [] }
  let s1 := { s with fab := { s.fab with lace := s.fab.lace.set {} slot x1 } }
  let s2 := if x.enrolled && !reg then s1.record 0x0C09 {} slot else s1
  if x.enrolled && data.testBit 3 && data / 256 % 256 == s.clk.epoch % 256 && s.abort.isNone then s2.abortUp s.clk.epoch else s2

/-- The leader reads an arrival chunk. -/
def readChunk (s : State) (slot w data : Nat) : State :=
  let x := s.fab.lace.get {} slot
  { s with fab := { s.fab with lace := s.fab.lace.set {} slot { x with arr := x.arr.put w data } } }

/-- POLL and POLL_HI: the named package answers (R531); the leader reads the answer, its own included. -/
def doPoll (s : State) (hi : Bool) (slot word data : Nat) : State :=
  if !s.joined || !s.started || s.shk.headless then s
  else
    let own := slot == s.laceSlot
    let ans := if own then s.laceAnswer hi word else some data
    let s1 := if own then (match s.laceAnswer hi word with | some d => s.emit (.lace (if hi then 3 else 1) word d) | none => s) else s
    match s.isLeader, ans with
    | true, some d =>
      if hi then (if word = 0 then (s1.readChunk slot 15 d).agree else s1)
      else if word = 0 then (s1.readReady slot d).agree
      else (s1.readChunk slot (word - 1) d).agree
    | _, _ => s1

/-- The words of a broadcast release, gathered. -/
def gatherRelease (words : List (Fin 16 × BitVec 16)) : Option Release :=
  let w := fun (i : Nat) => ((words.find? (fun p => p.1.val == i)).map (fun p => p.2.toNat)).getD 0
  if (w 0).testBit 0 then
    some { epoch := (List.range 4).foldl (fun n i => n + 2 ^ (16 * i) * w (i + 1)) 0
           late := (w 0).testBit 2, abort := (w 0).testBit 3, stop := (w 0).testBit 4
           complete := (List.range 176).filter (fun k => (w (5 + k / 16)).testBit (k % 16)) }
  else none

/-- LACE_RELEASE: the words of RELEASE operations; with no chunk of RELEASE_HI to come, the release has arrived (R538). A leader drives them and takes none. -/
def doLaceRelease (s : State) (words : List (Fin 16 × BitVec 16)) : State :=
  if !s.joined || s.isLeader || !s.started then s
  else match gatherRelease words with
    | none => s
    | some r =>
      if s.chunks.any (fun w => decide (11 ≤ w)) then { s with fab := { s.fab with part := some r } }
      else s.takeRelease r

/-- RELEASE_HI: completion chunks 11 to 15 end the release (R530, R538). -/
def doReleaseHi (s : State) (words : List (Fin 16 × BitVec 16)) : State :=
  match s.fab.part with
  | none => s
  | some r =>
    let more := words.flatMap (fun p =>
      if p.1.val ≤ 4 then ((List.range 16).filter (fun k => p.2.getLsbD k)).map (fun k => 16 * (p.1.val + 11) + k) else [])
    { s with fab := { s.fab with part := none } }.takeRelease { r with complete := r.complete ++ more }

/-! ### Markers received (R541-R547, R554) -/

/-- A marker of another fabric is dropped (R545). -/
def ownFabric (s : State) (m : BitVec 512) : Bool := mField m 0x10 4 == s.fabId

/-- SYNC: it ends the RELEASE repeats to that child (R543). -/
def doSync (s : State) (l : Nat) (m : BitVec 512) : State :=
  if !s.linkUp l || !s.ownFabric m then s
  else s.dropRepeats l (fun x => x.m.kind == 3 && x.m.epoch == mField m 8 8)

/-- The tree link that a marker on link `l` stands for: itself, or its twin while that is down (R544). -/
def treeLink (s : State) (l : Nat) (isTree : Nat → Bool) : Option Nat :=
  if isTree l then some l else if isTree (twin l) && !s.linkUp (twin l) then some (twin l) else none

/-- READY from a child (R541, R545, R550). -/
def doReady (s : State) (l : Nat) (raw : BitVec 512) : State :=
  let m := decodeMarker raw
  if !s.linkUp l || !s.ownFabric raw || !s.joined || !s.isLeader then s
  else match s.treeLink l (fun i => s.childLinks.contains i) with
    | none => s
    | some c =>
      if m.flags.testBit 1 then
        if m.epoch = s.clk.epoch then (if s.abort.isSome then s else s.abortUp m.epoch) else s.record 0x0C0A (linkLoc l)
      else if m.epoch = s.doneEpoch ∨ s.fab.adopt then
        { s with fab := { s.fab with children := s.fab.children.put c m } }.agree
      else if m.epoch + 1 = s.doneEpoch then s
      else s.record 0x0C0A (linkLoc l)

/-- RELEASE from the parent (R542, R545); it ends the READY repeats. -/
def doReleaseMarker (s : State) (l : Nat) (raw : BitVec 512) : State :=
  let m := decodeMarker raw
  if !s.linkUp l || !s.ownFabric raw || !s.joined then s
  else match s.treeLink l (fun i => s.parentLink == some i) with
    | none => s
    | some _ =>
      let r : Release :=
        { epoch := m.epoch, late := m.flags.testBit 0, abort := m.flags.testBit 1, stop := m.flags.testBit 2, complete := bitsSet m.arr }
      let s1 := s.dropRepeats l (fun x => x.m.kind == 2)
      if (r.epoch = s.clk.epoch ∧ !r.abort ∧ r.epoch ≠ s.nextEpoch ∧ !s.fab.adopt) ∨ s.releaseSeen r then s1
      else if s.isLeader && s.releaseFits r then s1.spreadRelease r else s1.takeRelease r

/-- The stitches that a link direction schedules in the current epoch: S_e (R553). -/
def scheduled (s : State) (l : Nat) (send : Bool) : Nat := (s.stitchList l send).length

/-- FENCE: the receiver's expected index passes the aborted epoch, and so does that of a rerouted stream (R554, R555). -/
def doFence (s : State) (l : Nat) (raw : BitVec 512) : State :=
  if !s.linkUp l || !s.ownFabric raw || s.abort.isNone || mField raw 8 8 != s.clk.epoch then s
  else
    let r := s.lkk l
    let s1 := s.setLkk l { r with rx := r.rx0 + s.scheduled l false, fenced := true, ctlDue := true }
    match r.rrExpect with
    | some _ =>
      let n := twin l
      let x := (s1.lkk n).rx0 + s1.scheduled n false
      (s1.setLkk n { s1.lkk n with rx := x }).setLkk l { s1.lkk l with rrExpect := some x }
    | none => s1

/-- SYNC_MARKER_SEND: once per epoch, from cycle 16, on every ACTIVE link (R540). -/
def doSyncSend (s : State) : State :=
  if s.started && decide (16 ≤ s.clk.cycle) && !s.clk.synced then
    let s1 := { s with clk := { s.clk with synced := true } }
    ((List.range 128).filter s.linkUp).foldl (fun (s : State) l =>
      s.queueMarker l { kind := 1, flags := 0, epoch := s.clk.epoch, count := 0, arr := 0 }) s1
  else s

/-- MARKER_REPEAT: unanswered READYs and RELEASEs of a tree link go out again, on it or on its twin; the eighth repeat records 0x0C03 (R543, R544). -/
def doRepeat (s : State) (l : Nat) : State :=
  let r := s.lkk l
  match (if r.repeats.isEmpty then none else s.treeCarrier l) with
  | none => s
  | some k =>
    let s0 := s.setLkk l { r with repeats := r.repeats.map (fun x => { x with sent := x.sent + 1 }) }
    let s1 := r.repeats.foldl (fun (s : State) x => s.queueMarker k x.m) s0
    let s2 := s1.bumpBy (fabBase + 0x120) r.repeats.length
    if r.repeats.any (fun x => x.sent == 7) then s2.record 0x0C03 (linkLoc l) else s2

end State

/-! ### Meanings -/

/-- POLL (R531). -/
def execPoll (slot word : Fin 16) (data : BitVec 16) (s : State) : Res := .next (s.doPoll false slot word data.toNat)
/-- POLL_HI (R530). -/
def execPollHi (slot word : Fin 16) (data : BitVec 16) (s : State) : Res := .next (s.doPoll true slot word data.toNat)
/-- RELEASE on the Lace line (R538). -/
def execLaceRelease (words : List (Fin 16 × BitVec 16)) (s : State) : Res := .next (s.doLaceRelease words)
/-- RELEASE_HI on the Lace line (R538). -/
def execReleaseHi (words : List (Fin 16 × BitVec 16)) (s : State) : Res := .next (s.doReleaseHi words)
/-- IDLE on the Lace line: nobody answers (R530). -/
def execLaceIdle (s : State) : Res := .next s
/-- SYNC_MARKER_SEND (R540). -/
def execSyncMarkerSend (s : State) : Res := .next s.doSyncSend
/-- SYNC_MARKER (R543). -/
def execSyncMarker (link : Fin 128) (m : BitVec 512) (s : State) : Res := .next (s.doSync link m)
/-- READY_MARKER (R541). -/
def execReadyMarker (link : Fin 128) (m : BitVec 512) (s : State) : Res := .next (s.doReady link m)
/-- RELEASE_MARKER (R542). -/
def execReleaseMarker (link : Fin 128) (m : BitVec 512) (s : State) : Res := .next (s.doReleaseMarker link m)
/-- FENCE_MARKER (R554). -/
def execFenceMarker (link : Fin 128) (m : BitVec 512) (s : State) : Res := .next (s.doFence link m)
/-- MARKER_REPEAT (R543). -/
def execMarkerRepeat (link : Fin 128) (s : State) : Res := .next (s.doRepeat link)

end Sys2Proof.Machine
end

