-- ==== Sys2Proof/Machine/Links.lean ====
section
/-! DEFINITION. The link layer: row opportunities, received rows, control rows, packets, replay, landing, reduce-on-receive and rejoin (11 R463-R515; 09 R408-R411; 12 R561-R566). -/

namespace Sys2Proof.Machine

/-- The tags of R464. -/
def ownTag (i : Nat) : Nat := i % 2 ^ 30
def rrTag (i : Nat) : Nat := 2 ^ 30 + i % 2 ^ 30
def plainTag : Nat := 2 ^ 31

/-- A packet's row body with its SEQ, and REPLAY in a resent copy (R472, R473, R497). -/
def packetRow (p : Pkt) (replay : Bool) : BitVec 2048 :=
  let b := p.body.toNat
  BitVec.ofNat 2048 (1 + 2 ^ 8 * (p.cls + 4 * b2n replay) + 2 ^ 16 * p.seq + 2 ^ 32 * (b / 2 ^ 32))

/-- A link-local TC0 packet of the rejoin exchange: data byte 0 and the epoch in data bytes 8 to 15 (R513). -/
def rejoinBody (code epoch : Nat) : BitVec 2048 :=
  BitVec.ofNat 2048 (2 ^ 32 * 16 + 2 ^ 256 * (code + 2 ^ 64 * (epoch % 2 ^ 64)))

/-- The body of a control row (R477). -/
def controlBody (r : LinkLk) (nak : Bool) (marker : Option Nat) : BitVec 2048 :=
  let cr := fun (f : LkCredit → Nat) =>
    (List.range 4).foldl (fun n c => n + 2 ^ (16 * c) * (f (r.credits.get {} c) % 2 ^ 16)) 0
  BitVec.ofNat 2048
    (2 + 2 ^ 8 * (b2n nak + 2 * b2n marker.isSome + 4 * b2n r.retrainReq) + 2 ^ 16 * (r.rxSeq % 2 ^ 16) +
      2 ^ 32 * (r.rx % 2 ^ 32) + 2 ^ 64 * (r.rrExpect.getD 0 % 2 ^ 32) + 2 ^ 128 * cr (fun c => c.freeH) +
      2 ^ 192 * cr (fun c => c.freeD) + 2 ^ 256 * (r.ctlNo % 2 ^ 32) + 2 ^ 512 * marker.getD 0)

/-! ### Reduce-on-receive arithmetic (09 R410) -/

/-- The elements of an operand, as binary32 words: binary32, bfloat16, FP8 E4M3 or E5M2 (12, FMT). -/
def widen (fmt : Nat) (b : BitVec 2048) : List Word :=
  match fmt with
  | 0 => (List.range 64).map (fun i => BitVec.ofNat 32 (b.toNat / 2 ^ (32 * i)))
  | 1 => (List.range 128).map (fun i => floatTo32 fBfloat16 (b.toNat / 2 ^ (16 * i) % 2 ^ 16))
  | 2 => (List.range 256).map (fun i => floatTo32 fE4M3 (b.toNat / 2 ^ (8 * i) % 2 ^ 8))
  | _ => (List.range 256).map (fun i => floatTo32 fE5M2 (b.toNat / 2 ^ (8 * i) % 2 ^ 8))

/-- ((o1 + o2) + o3) + o4, element by element (R410). -/
def sumOperands : List (List Word) → List Word
  | [] => []
  | a :: rest => rest.foldl (fun acc x => acc.zipWith fadd32 x) a

/-- A sum as result flits of 64 elements each (R411). -/
def sumFlits (ws : List Word) : Nat → List (BitVec 2048)
  | 0 => []
  | n + 1 =>
    BitVec.ofNat 2048 ((List.range 64).foldl (fun a i => a + 2 ^ (32 * i) * (ws.getD i 0#32).toNat) 0) :: sumFlits (ws.drop 64) n

namespace State

/-! ### Sending rows (R482-R502) -/

/-- A row leaves the link layer with its check (R463). -/
def sendRow (s : State) (l tag : Nat) (body : BitVec 2048) : State := s.sendLine l body (BitVec.ofNat 32 (rowCheck tag body))

/-- Entries of the replay buffer in use (R501). -/
def keptRows (r : LinkLk) : Nat := r.kept.length + r.keptPkt.length + r.keptRr.length

/-- An opportunity finds every entry of the replay buffer in use: 0x0B07 once for the episode (R502). -/
def logFull (s : State) (l : Nat) : State :=
  let r := s.lkk l
  if keptRows r < 4096 || r.fullLogged then s
  else (s.setLkk l { r with fullLogged := true }).record 0x0B07 (linkLoc l)

/-- The head of the stitch queue goes out: a first sending enters the replay buffer, poisoned while its body is missing (08 R340); a replay counts as resent, and waits for a body that is still missing (R341). `none` where it cannot go. -/
def sendQueued (s : State) (l : Nat) : Option State :=
  let r := s.lkk l
  match r.queue with
  | [] => none
  | x :: rest =>
    let bad := r.poison.contains x.index
    if r.kept.any (fun y => y.index == x.index) then
      if bad then none
      else some (((s.setLkk l { r with queue := rest }).bump (lkReg l + 0x34)).sendRow l (ownTag x.index) x.body)
    else if keptRows r < 4096 then
      let s1 := s.setLkk l { r with queue := rest, kept := r.kept ++ [x], fullLogged := false }
      if bad then
        let s2 := s1.bump (sbrBase + 0x2000 + 0x80 * (l / 32) + 4 * (l % 32))
        some (s2.sendLine l 0#2048 (BitVec.ofNat 32 (0xFFFFFFFF - rowCheck (ownTag x.index) 0#2048)))
      else some (s1.sendRow l (ownTag x.index) x.body)
    else none

/-- The slot's own stitch takes its index and joins the stitch queue (R467, R482); one that has not arrived over Wn is poisoned (08 R340). -/
def takeSlot (s : State) (l : Nat) : State :=
  let r := s.lkk l
  match r.ready with
  | b :: rest => s.setLkk l { r with ready := rest, queue := r.queue ++ [⟨r.tx, b⟩], tx := r.tx + 1, slotNo := r.slotNo + 1 }
  | [] => s.setLkk l { r with queue := r.queue ++ [⟨r.tx, 0#2048⟩], poison := r.poison ++ [r.tx], tx := r.tx + 1, slotNo := r.slotNo + 1 }

/-- The opportunity is a scheduled slot (02 R71, R92; R554: after an abort, only once the partner has taken the fence). -/
def slotDue (s : State) (l : Nat) : Bool :=
  let r := s.lkk l
  r.st == .inSched && s.inEpoch && s.notStopped && !r.fencing &&
    (match (s.stitchList l true)[r.slotNo]? with | some x => decide (x.cycle ≤ s.clk.cycle) | none => false)

/-- A control row: FENCE while a fence is open (R553), else the oldest marker that waits; its send cycle is written as it leaves (R481). -/
def sendControl (s : State) (l : Nat) : State :=
  let r := s.lkk l
  let fence : Marker := { kind := 4, flags := 0, epoch := s.clk.epoch, count := 0, arr := 0 }
  let pick := if r.fencing then some fence else r.markers.head?
  let raw := pick.map (fun m => encodeMarker m s.clk.cycle s.fabId s.member)
  let nak := r.nakDue
  let rest := if r.fencing then r.markers else r.markers.drop 1
  let s1 := s.setLkk l { r with
    markers := rest, ctlDue := !rest.isEmpty, nakDue := false, accepted := 0, ctlNo := r.ctlNo + 1
    nakAt := if nak then some (r.rx, r.rrExpect.getD 0, r.rxSeq) else r.nakAt
    nakTime := if nak then s.clk.now else r.nakTime }
  (if nak then s1.bump (lkReg l + 0x2C) else s1).sendRow l plainTag (controlBody r nak raw)

/-- The next rerouted stitch of the twin (R508); one whose body is still missing waits. -/
def sendRerouted (s : State) (l : Nat) : Option State :=
  let r := s.lkk l
  match r.rrQueue with
  | [] => none
  | x :: rest =>
    if r.keptRr.any (fun y => y.index == x.index) then
      some (((s.setLkk l { r with rrQueue := rest }).bump (lkReg l + 0x34)).sendRow l (rrTag x.index) x.body)
    else if keptRows r < 4096 then
      some ((s.setLkk l { r with rrQueue := rest, keptRr := r.keptRr ++ [x], fullLogged := false }).sendRow l (rrTag x.index) x.body)
    else none

/-- The next packet to replay (R496, R497). -/
def sendReplayPkt (s : State) (l : Nat) : Option State :=
  let r := s.lkk l
  match r.pktReplay with
  | [] => none
  | p :: rest => some (((s.setLkk l { r with pktReplay := rest }).bump (lkReg l + 0x34)).sendRow l plainTag (packetRow p true))

/-- A class has credit for a packet (R486). -/
def pktCredit (r : LinkLk) (p : Pkt) : Bool :=
  let c := r.credits.get {} p.cls
  decide ((c.sentH + 2 ^ 16 - c.retH) % 2 ^ 16 < c.advH) &&
    decide ((c.sentD + 2 ^ 16 - c.retD) % 2 ^ 16 + packetData p.body ≤ c.advD)

/-- The new packet that goes first: class order TC0, TC1, TC3, TC2, within credit (R475, R482); a link of another fabric carries TC3 only (12 R546). -/
def nextPkt (r : LinkLk) : Option Pkt :=
  ([0, 1, 3, 2].filterMap (fun c =>
    match r.newPkt.find? (fun p => p.cls == c) with
    | some p => if pktCredit r p && (!r.tc3Only || c == 3) then some p else none
    | none => none)).head?

/-- A packet from Wn leaves its receive buffer there (08 R332, R333). -/
def freeWn (s : State) (p : Pkt) : State :=
  match p.wn with
  | some w => s.setDir w.1 (freeBuffer (s.dir w.1) p.cls w.2)
  | none => s

/-- Send a new packet: it takes the next SEQ, uses its credits and enters the replay buffer (R473, R487, R501). -/
def sendNewPkt (s : State) (l : Nat) : Option State :=
  let r := s.lkk l
  match nextPkt r with
  | none => none
  | some p =>
    if keptRows r < 4096 then
      let q := { p with seq := r.txSeq % 2 ^ 16, wn := none }
      let cr := r.credits.upd {} p.cls (fun c => { c with sentH := (c.sentH + 1) % 2 ^ 16, sentD := (c.sentD + packetData p.body) % 2 ^ 16 })
      some ((s.setLkk l { r with newPkt := r.newPkt.erase p, keptPkt := r.keptPkt ++ [q], txSeq := (r.txSeq + 1) % 2 ^ 16, credits := cr }).freeWn p |>.sendRow l
        plainTag (packetRow q false))
    else none

/-- What a free row carries (R482). -/
def freeRow (s : State) (l : Nat) : State :=
  let r := s.lkk l
  if r.ctlDue || r.nakDue then s.sendControl l
  else match s.sendQueued l with
    | some t => t
    | none => match s.sendRerouted l with
      | some t => t
      | none => match s.sendReplayPkt l with
        | some t => t
        | none => match s.sendNewPkt l with
          | some t => t
          | none => s.sendRow l plainTag 0#2048

/-- The capability block of this end (10 R439). -/
def capBlock (s : State) (l : Nat) : BitVec 2048 :=
  let r := s.lnk l
  let adv := [64, 448, 256, 1792, 2048, 14336, 64, 448, 4096, 64, 256, 2000]
  let bs := toBytes 2 0x4C43 ++ toBytes 1 1 ++ toBytes 1 s.fuse.variant ++ toBytes 1 (b2n r.capSeen) ++ toBytes 1 r.spareCh ++
    toBytes 2 l ++ toBytes 4 s.fabId ++ toBytes 4 s.member ++ toBytes 4 r.retired.toNat ++ toBytes 4 1024 ++ toBytes 8 s.clk.epoch ++
    adv.flatMap (toBytes 2) ++ toBytes 1 8 ++ toBytes 7 0 ++ List.replicate 188 0#8
  BitVec.ofNat 2048 (ofBytes (bs ++ toBytes 4 (crc32 bs)))

/-- A capability row goes out; those sent with SEEN = 1 count (10 R441). -/
def sendCap (s : State) (l : Nat) : State :=
  let r := s.lnk l
  let s1 := if r.capSeen then s.setLnk l { r with capSent := r.capSent + 1 } else s
  s1.sendLine l (s.capBlock l) 0#32

/-- ROW_OPPORTUNITY: idle frames in FRAME (10 R420, R421), a capability row in CAPX, and after a return from it to FRAME (10 R439, R441, R442); in ACTIVE, by R482. -/
def doRow (s : State) (l : Nat) : State :=
  let r := s.lnk l
  match r.st with
  | .frame => if r.capFails = 0 then s.sendWords l (0#2048, 0#32) else s.sendCap l
  | .capx => s.sendCap l
  | .active =>
    if s.slotDue l then
      let s1 := (s.takeSlot l).logFull l
      match s1.sendQueued l with
      | some t => t
      | none => s1.sendRow l plainTag 0#2048
    else (s.logFull l).freeRow l
  | _ => s

/-! ### Control rows that become due (R478, R479, R494, R495) -/

/-- A control row becomes due. -/
def wantControl (s : State) (l : Nat) : State := if s.linkUp l then s.setLkk l { s.lkk l with ctlDue := true } else s

/-- A stitch or packet was accepted: the 64th since the last control row makes one due (R478). -/
def countAccepted (s : State) (l : Nat) : State :=
  let r := s.lkk l
  s.setLkk l { r with accepted := r.accepted + 1, ctlDue := r.ctlDue || decide (63 ≤ r.accepted) }

/-- A NAK becomes due, unless one is outstanding for the same points (R494, R495). -/
def wantNak (s : State) (l : Nat) : State :=
  let r := s.lkk l
  let held := match r.nakAt with
    | some p => p == (r.rx, r.rrExpect.getD 0, r.rxSeq) && decide (273 * s.clk.now < 273 * r.nakTime + (2 * r.ml + 1024) * s.cycle273)
    | none => false
  if held then s else s.setLkk l { r with nakDue := true, ctlDue := true }

/-! ### Landing (R468, R493; 09 R409-R411; 12 R563) -/

/-- The key of a group's engine. -/
def engineKey (block g : Nat) : Nat := 2 * block + (g - 1)

/-- An operand set holds the operand of every member (R409). -/
def setComplete (s : State) (block g : Nat) (x : OperandSet) : Bool :=
  match s.groupSpec block g with
  | some z => (groupMembers z).all (fun m => (x.ops.find m).isSome)
  | none => false

/-- An operand of link `l` for set `j` of a group; `none` where 64 sets are incomplete (R409, R563). -/
def addOperand (s : State) (l g j : Nat) (body : BitVec 2048) : Option State :=
  let k := engineKey (l / 8) g
  let sets := s.opt.reduce.get [] k
  let put := fun (x : List OperandSet) => { s with opt := { s.opt with reduce := s.opt.reduce.set [] k x } }
  if sets.any (fun x => x.set == j) then
    some (put (sets.map (fun x => if x.set == j then { x with ops := x.ops.put l body } else x)))
  else if (sets.filter (fun x => !s.setComplete (l / 8) g x)).length < 64 then some (put (sets ++ [⟨j, [(l, body)]⟩]))
  else none

/-- Land the stitch of link `l` at position `pos` of the epoch: through Wn (`viaWn`), over open slots for a rerouted one, or into its group's engine. -/
def landStitch (s : State) (l pos : Nat) (viaWn : Bool) (x : StitchSlot) (body : BitVec 2048) : Option State :=
  if x.group = 0 then
    if viaWn then
      let k := chanKey l false
      let f : Flit := { idleFlit with kind := 1, par := s.clk.epoch % 2 == 1, addr := x.line, payload := body }
      some (s.setDir k { s.dir k with stitches := (s.dir k).stitches ++ [f] })
    else some (s.dieStitch l (s.clk.epoch % 2 == 1) x.line body)
  else
    let j := (((s.stitchList l false).take pos).filter (fun y => y.group == x.group)).length
    s.addOperand l x.group j body

/-- REDUCE_RESULT_READY: the oldest complete set is summed, and its flits cross Wn on the channel of the lowest member, to the landing lines of that member's stitch of the set (R344, R410, R411). -/
def doReduce (s : State) (y block engine : Nat) : State :=
  match s.groupSpec block (engine + 1) with
  | none => s
  | some x =>
    let k := engineKey block (engine + 1)
    let sets := s.opt.reduce.get [] k
    let ms := groupMembers x
    match sets.find? (fun z => ms.all (fun m => (z.ops.find m).isSome)) with
    | none => s
    | some z =>
      if y ≠ block / 4 then s
      else
        let low := groupLow x
        let line := ((((s.stitchList low false).filter (fun t => t.group == engine + 1))[z.set]?).map (fun t => t.line)).getD 0
        let flits := sumFlits (sumOperands (ms.map (fun m => widen x.fmt.val (z.ops.get 0#2048 m)))) (groupFlits x)
        let c := chanKey low false
        let fs := ((List.range flits.length).zip flits).map (fun p =>
          ({ idleFlit with kind := 1, par := s.clk.epoch % 2 == 1, addr := line + p.1, payload := p.2 } : Flit))
        let s1 := { s with opt := { s.opt with reduce := s.opt.reduce.set [] k (sets.filter (fun w => w.set != z.set)) } }
        s1.setDir c { s1.dir c with stitches := (s1.dir c).stitches ++ fs }

/-! ### Rejoin (R513, R514) -/

/-- The end with the lower MEMBER proposes; between equal members, the lower link number (notes/assumptions/21). -/
def proposes (s : State) (l : Nat) : Bool :=
  let m := s.capField l 0xC 4
  decide (s.member < m) || (s.member == m && decide (l ≤ s.capField l 6 2))

/-- A link may rejoin: ACTIVE, out of the schedule, M_L within F_L, not kept out, its Wn channel not retraining (R513, 08 R342, 12 R546, R547). -/
def mayRejoin (s : State) (l : Nat) : Bool :=
  let r := s.lkk l
  s.linkUp l && (r.st == .down || r.st == .rerouted) && !r.barred && s.flightFits l r.ml && r.rejoinAt.isNone && !s.chanDown (l / 32) (l % 32)

/-- Propose the epoch after next (R513). -/
def propose (s : State) (l : Nat) : State :=
  let r := s.lkk l
  if s.mayRejoin l && s.proposes l && r.proposed.isNone then
    let e := s.clk.epoch + 2
    s.setLkk l { r with proposed := some e, newPkt := r.newPkt ++ [⟨0, 0, rejoinBody 1 e, none⟩] }
  else s

/-- REJOIN from the partner: answered while its latch has not passed (R513). -/
def doRejoin (s : State) (l e : Nat) : State :=
  if s.mayRejoin l && decide (s.latchedEpoch < e) then
    let r := s.lkk l
    s.setLkk l { r with rejoinAt := some e, newPkt := r.newPkt ++ [⟨0, 0, rejoinBody 2 e, none⟩] }
  else s

/-- REJOIN_ACK: it confirms the epoch, or misses the latch with 0x0B09 (R513). -/
def doRejoinAck (s : State) (l e : Nat) : State :=
  let r := s.lkk l
  if r.proposed = some e then
    if s.latchedEpoch < e then s.setLkk l { r with proposed := none, rejoinAt := some e }
    else (s.setLkk l { r with proposed := none }).record 0x0B09 (linkLoc l)
  else s

/-! ### Received rows (R493-R498) -/

/-- An own stitch in order (R468, R493). -/
def acceptOwn (s : State) (l : Nat) (body : BitVec 2048) : State :=
  let r := s.lkk l
  let pos := r.rx - r.rx0
  match (s.stitchList l false)[pos]? with
  | none => s.linkProtocol l
  | some x =>
    match s.landStitch l pos true x body with
    | some t => (t.setLkk l { t.lkk l with rx := r.rx + 1 }).countAccepted l
    | none => (s.bump (lkReg l + 0x24)).wantNak l

/-- A rerouted stitch of the twin in order: it lands as the twin's (R510). -/
def acceptRr (s : State) (l e : Nat) (body : BitVec 2048) : State :=
  let n := twin l
  let pos := e - (s.lkk n).rx0
  match (s.stitchList n false)[pos]? with
  | none => s.linkProtocol l
  | some x =>
    match s.landStitch n pos false x body with
    | some t =>
      let t1 := t.setLkk n { t.lkk n with rx := e + 1 }
      (t1.setLkk l { t1.lkk l with rrExpect := some (e + 1) }).countAccepted l
    | none => (s.bump (lkReg l + 0x24)).wantNak l

/-- A bad row (R493). -/
def badRow (s : State) (l : Nat) : State := (s.bump (lkReg l + 0x20)).wantNak l

/-- What an index does against the expected one: accept, drop as duplicate, NAK a gap, or a bad row (R493). -/
def byIndex (s : State) (l i e : Nat) (acc : State) : State :=
  let d := wrapDiff 30 i e
  if d = 0 then acc
  else if -4096 ≤ d ∧ d ≤ -1 then s.bump (lkReg l + 0x28)
  else if 1 ≤ d ∧ d ≤ 4095 then (s.bump (lkReg l + 0x24)).wantNak l
  else s.badRow l

/-- A rerouted row: by index once the twin's expected index is known; until then up to 64 are held (R509). -/
def takeRr (s : State) (l i : Nat) (body : BitVec 2048) : State :=
  let r := s.lkk l
  match r.rrExpect with
  | some e => s.byIndex l i e (s.acceptRr l e body)
  | none =>
    if (s.lkk (twin l)).st = .rerouted ∧ r.rrHeld.length < 64 then s.setLkk l { r with rrHeld := r.rrHeld ++ [⟨i, body⟩] }
    else s.badRow l

/-- REROUTE_INDEX_ARRIVAL: the twin's receiver learns the down link's expected index and takes the rows it held (R509). -/
def doRrIndex (s : State) (n : Nat) : State :=
  let m := twin n
  if (s.lkk n).st = .rerouted ∧ (s.lkk m).rrExpect = none then
    let held := (s.lkk m).rrHeld
    let s1 := s.setLkk m { s.lkk m with rrExpect := some (s.lkk n).rx, rrHeld := [] }
    held.foldl (fun (s : State) x => s.takeRr m x.index x.body) s1
  else s

/-- Suppress a second copy of a tagged packet (12 R565, R566): `none` for a copy. Windows are kept by the lower link of a pair. -/
def tagSeen (s : State) (l : Nat) (b : BitVec 2048) : Option State :=
  let e2e := bField b 8 24
  let key := (bField b 8 8, bField b 0x10 4)
  let w := s.fab.window.get [] (l % 64)
  if e2e = 0 ∨ key.1 = 0 then some s
  else if w.contains key then none
  else some { s with fab := { s.fab with window := s.fab.window.set [] (l % 64) ((key :: w).take 8192) } }

/-- A TC3 request of the partner for a lane that this end transmits: to calibrate it at the head of its group's queue, or to take it out of service (09 R376, R391, R400); a sweep of a drop filter is CALIBRATE_LANE's (notes/assumptions/66). -/
def takeAsk (s : State) (l : Nat) (b : BitVec 2048) : State :=
  match Config.askedFor b with
  | some (1, w) => s.markUrgent l w
  | some (2, w) =>
    let s1 := s.setLaneCal l w { s.laneCal l w with retired := true }
    let j := laneOf w (s1.lnk l).spareCh
    if j = 31 then s1 else s1.requestMove l j false
  | _ => s

/-- A packet's consumer (R475): the rejoin exchange, or the die over Wn for classes TC1 and TC2; management packets are taken by the chiplet. -/
def consume (s : State) (l cls : Nat) (b : BitVec 2048) : State :=
  if cls = 0 then
    let e := bField b 0x28 8
    let s1 := s.freePkt l 0 (packetData b)
    if bField b 0x20 1 = 1 then s1.doRejoin l e
    else if bField b 0x20 1 = 2 then s1.doRejoinAck l e
    else s1
  else if cls = 3 then (s.freePkt l 3 (packetData b)).takeAsk l b
  else
    let k := chanKey l false
    let f : Flit := { idleFlit with kind := 2, tc := cls, sop := true, eop := true, lastlen := 255, payload := b }
    s.setDir k { s.dir k with packets := (s.dir k).packets ++ [f] }

/-- A packet in SEQ order, within credit (R474, R488, R489). -/
def acceptPkt (s : State) (l : Nat) (b : BitVec 2048) : State :=
  let cls := bField b 1 1 % 4
  let n := packetData b
  let r := s.lkk l
  let c := r.credits.get {} cls
  let adv := [(64, 448), (256, 1792), (2048, 14336), (64, 448)].getD cls (0, 0)
  if adv.1 < c.occH + 1 ∨ adv.2 < c.occD + n then s.linkProtocol l
  else
    let c1 := { c with rcvdH := (c.rcvdH + 1) % 2 ^ 16, rcvdD := (c.rcvdD + n) % 2 ^ 16, occH := c.occH + 1, occD := c.occD + n }
    let s1 := (s.setLkk l { r with rxSeq := (r.rxSeq + 1) % 2 ^ 16, credits := r.credits.set {} cls c1 }).countAccepted l
    match s1.tagSeen l b with
    | some t => t.consume l cls b
    | none => (s1.bump (fabBase + 0x124)).freePkt l cls n

/-- The index of an acknowledged stream point, from its low 32 bits (19 R831, R832). -/
def ackPoint (wire near : Nat) : Nat := ((near : Int) + wrapDiff 32 wire near).toNat

/-- A received control row: acknowledgements free replay entries, credits return, a NAK replays every stream, RETRAIN_REQ makes a capability retrain due (R477, R486, R492, R496, R504). -/
def takeControl (s : State) (l : Nat) (b : BitVec 2048) : State :=
  let r := s.lkk l
  let flags := bField b 1 1
  let no := bField b 0x20 4
  let miss := match r.ctlSeen with
    | some o => (no + 2 ^ 32 - (o + 1) % 2 ^ 32) % 2 ^ 32
    | none => 0
  let ackSt := ackPoint (bField b 4 4) r.tx
  let ackPkt := bField b 2 2
  let near := match r.keptRr, r.rrQueue with
    | x :: _, _ => x.index
    | [], x :: _ => x.index
    | [], [] => 0
  let ackRr := if bField b 8 4 = 0 then 0 else ackPoint (bField b 8 4) near
  let kept := r.kept.filter (fun x => decide (ackSt ≤ x.index))
  let keptRr := r.keptRr.filter (fun x => decide (ackRr ≤ x.index))
  let keptPkt := r.keptPkt.filter (fun x => decide (0 ≤ wrapDiff 16 x.seq ackPkt))
  let fresh := r.queue.filter (fun x => !r.kept.any (fun y => y.index == x.index))
  let freshRr := r.rrQueue.filter (fun x => !r.keptRr.any (fun y => y.index == x.index))
  let nak := flags.testBit 0
  let cr := (List.range 4).foldl (fun (t : Tbl LkCredit) c =>
    t.upd {} c (fun x => { x with retH := bField b (0x10 + 2 * c) 2, retD := bField b (0x18 + 2 * c) 2 })) r.credits
  let r1 := { r with
    ctlSeen := some no, ackSt := ackSt, kept := kept, keptRr := keptRr, keptPkt := keptPkt, credits := cr
    expiries := r.expiries.filter (fun p => p.1 == 0 && kept.length == r.kept.length || p.1 == 1 && keptRr.length == r.keptRr.length || p.1 == 2 && keptPkt.length == r.keptPkt.length)
    queue := if nak then kept ++ fresh else r.queue.filter (fun x => decide (ackSt ≤ x.index))
    rrQueue := if nak then keptRr ++ freshRr else r.rrQueue.filter (fun x => decide (ackRr ≤ x.index))
    pktReplay := if nak then keptPkt else r.pktReplay.filter (fun x => decide (0 ≤ wrapDiff 16 x.seq ackPkt))
    retrainDue := r.retrainDue || flags.testBit 2
    fencing := r.fencing && decide (ackSt < r.tx)
    fullLogged := r.fullLogged && decide (4096 ≤ kept.length + keptRr.length + keptPkt.length) }
  let s1 := (s.setLkk l r1).bumpBy (lkReg l + 0x4C) miss
  let s2 := if nak then s1.bump (lkReg l + 0x30) else s1
  if flags.testBit 1 then
    let m := BitVec.ofNat 512 (bField b 0x40 64)
    match mField m 0 1 with
    | 1 => s2.doSync l m
    | 2 => s2.doReady l m
    | 3 => s2.doReleaseMarker l m
    | 4 => s2.doFence l m
    | _ => s2
  else s2

/-- ROW_RECEIVE: a row by its decoded tag (R465, R466, R493). -/
def doRowReceive (s : State) (l : Nat) (b : BitVec 2048) (side : Word) : State :=
  if !s.linkUp l then s
  else
    let t := rowTag side.toNat b
    let r := s.lkk l
    if t / 2 ^ 30 = 0 then s.byIndex l t r.rx (s.acceptOwn l b)
    else if t / 2 ^ 30 = 1 ∧ (r.rrExpect.isSome ∨ (s.lkk (twin l)).st = .rerouted) then s.takeRr l (t % 2 ^ 30) b
    else if t = plainTag then
      match bField b 0 1 with
      | 0 => s
      | 1 =>
        let d := wrapDiff 16 (bField b 2 2) r.rxSeq
        if d = 0 then s.acceptPkt l b
        else if -4096 ≤ d ∧ d ≤ -1 then s
        else if 1 ≤ d ∧ d ≤ 4095 then s.wantNak l
        else s.linkProtocol l
      | 2 => s.takeControl l b
      | _ => s.linkProtocol l
    else s.badRow l

/-- STITCH_LANDING: one die-buffer line (06 R250); the last one after C makes the package ready, late (02 R99, R104). -/
def doLanding (s : State) (l : Nat) : State :=
  let r := s.lkk l
  match r.landing with
  | [] => s
  | (a, b) :: rest =>
    let s1 := s.poke a (bodyBytes b)
    let done := r.landed + 1 == s.owed l
    let slack := min (s.word (lkReg l + 0x44)).toNat (s.checkC - s.clk.cycle)
    let late := done && s.clk.checked
    let s2 := s1.setLkk l { r with landing := rest, landed := r.landed + 1, lastLand := s.clk.cycle, lateThis := r.lateThis || late }
    let s3 := if late && !r.lateThis then s2.bump (lkReg l + 0x40) else s2
    let s4 := if done then s3.setWord (lkReg l + 0x44) (BitVec.ofNat 32 slack) else s3
    if s4.clk.checked && !s4.clk.ready && !s4.aborting && s4.allLanded then s4.becomeReady true else s4

/-! ### Timers (R478, R479, R500, R504) -/

/-- KEEPALIVE_TIMEOUT (R504). -/
def doKeepalive (s : State) (l : Nat) : State :=
  if s.linkUp l then (s.record 0x0B01 (linkLoc l)).linkDown l else s

/-- Expiries in a row of a stream's timer for the point `i` (R500). -/
def expiredFor (r : LinkLk) (stream i : Nat) : Nat :=
  match r.expiries.find stream with
  | some p => if p.1 = i then p.2 else 0
  | none => 0

/-- REPLAY_TIMER_EXPIRY of stream 0 own, 1 rerouted, 2 packets: the stream is replayed from its oldest row; the fourth expiry in a row for it takes the link down (R500). -/
def doReplayTimer (s : State) (l stream : Nat) : State :=
  let r := s.lkk l
  let oldest : Option Nat := match stream with
    | 0 => r.kept.head?.map (fun (x : Stitch) => x.index)
    | 1 => r.keptRr.head?.map (fun (x : Stitch) => x.index)
    | _ => r.keptPkt.head?.map (fun (x : Pkt) => x.seq)
  match oldest with
  | none => s
  | some i =>
    if !s.linkUp l then s
    else
      let n := expiredFor r stream i + 1
      let s1 := (s.setLkk l { r with expiries := r.expiries.set (0, 0) stream (i, n) }).bump (lkReg l + 0x38)
      if 4 ≤ n then (s1.record 0x0B02 (linkLoc l)).linkDown l
      else
        let fresh := r.queue.filter (fun (x : Stitch) => !r.kept.any (fun (y : Stitch) => y.index == x.index))
        let freshRr := r.rrQueue.filter (fun (x : Stitch) => !r.keptRr.any (fun (y : Stitch) => y.index == x.index))
        let x := s1.lkk l
        match stream with
        | 0 => s1.setLkk l { x with queue := r.kept ++ fresh }
        | 1 => s1.setLkk l { x with rrQueue := r.keptRr ++ freshRr }
        | _ => s1.setLkk l { x with pktReplay := r.keptPkt }

end State

/-! ### Meanings -/

/-- ROW_OPPORTUNITY (R482). -/
def execRowOpportunity (link : Fin 128) (s : State) : Res := .next (s.doRow link)
/-- ROW_RECEIVE (R493). -/
def execRowReceive (link : Fin 128) (payload : BitVec 2048) (side : Word) (s : State) : Res := .next (s.doRowReceive link payload side)
/-- STITCH_LANDING (06 R250). -/
def execStitchLanding (link : Fin 128) (s : State) : Res := .next (s.doLanding link)
/-- REDUCE_RESULT_READY (09 R411). -/
def execReduceResultReady (y : Fin 4) (block : Fin 16) (engine : Fin 2) (s : State) : Res := .next (s.doReduce y block engine)
/-- CONTROL_ROW_TIMER (R478). -/
def execControlRowTimer (link : Fin 128) (s : State) : Res := .next (s.wantControl link)
/-- KEEPALIVE_SEND (R479). -/
def execKeepaliveSend (link : Fin 128) (s : State) : Res := .next (s.wantControl link)
/-- KEEPALIVE_TIMEOUT (R504). -/
def execKeepaliveTimeout (link : Fin 128) (s : State) : Res := .next (s.doKeepalive link)
/-- REPLAY_TIMER_EXPIRY (R500). -/
def execReplayTimerExpiry (link : Fin 128) (stream : Fin 3) (s : State) : Res := .next (s.doReplayTimer link stream)
/-- REROUTE_INDEX_ARRIVAL (R509). -/
def execRerouteIndexArrival (link : Fin 128) (s : State) : Res := .next (s.doRrIndex link)
/-- REJOIN (R513). -/
def execRejoin (link : Fin 128) (epoch : DWord) (s : State) : Res := .next (s.doRejoin link epoch.toNat)
/-- REJOIN_ACK (R513). -/
def execRejoinAck (link : Fin 128) (epoch : DWord) (s : State) : Res := .next (s.doRejoinAck link epoch.toNat)

end Sys2Proof.Machine
end

