-- ==== Sys2Proof/Machine/Optics.lean ====
section
/-! DEFINITION. Lasers, heaters, calibration, overload and the interlock of the Yilzar chiplets (09 R357-R407); calibration records (16 R729-R731). -/

namespace Sys2Proof.Machine

/-- The eight links of a laser group. -/
def groupLinks (y g : Nat) : List Nat := (List.range 8).map (fun i => 32 * y + 8 * g + i)

/-- The key of a ring of a link: drop filter or modulator of wavelength `w`. -/
def ringKey (l w : Nat) (drop : Bool) : Nat := 34 * l + 17 * b2n drop + w

/-- Detuning margins and guard bands of a band, drop filter and modulator, in 0.1 GHz (R361), by temperature in 0.1 °C. -/
def detuneBand (t : Int) : Nat × Nat × Nat × Nat :=
  if t < 450 then (209, 125, 157, 94)
  else if t < 650 then (195, 117, 146, 88)
  else if t < 800 then (176, 106, 132, 80)
  else if t < 900 then (158, 95, 119, 71)
  else if t < 1000 then (133, 80, 100, 60)
  else (107, 64, 80, 48)

/-- A correction in 10 signed bits (R374). -/
def clampCorr (c : Int) : Int := max (-512) (min 511 c)

/-- The gain range of a calibration. -/
def gainOf (g : Fin 3) : Gain := match g.val with | 0 => .hi | 1 => .mid | _ => .lo

namespace State

/-- Replace a channel of a laser group. -/
def setCh (s : State) (k : Nat) (x : Channel) : State := { s with opt := { s.opt with channels := s.opt.channels.set {} k x } }
/-- A ring, and the same replaced. -/
def ringOf (s : State) (k : Nat) : RingH := s.opt.rings.get {} k
def setRingH (s : State) (k : Nat) (x : RingH) : State := { s with opt := { s.opt with rings := s.opt.rings.set {} k x } }

/-- The detuning margins and guard bands at a link: those of its chiplet's temperature (R361, 21 R890). -/
def bandOf (s : State) (l : Nat) : Nat × Nat × Nat × Nat := detuneBand (10 * s.mgt.yzTemps.get 0 (l / 32))

/-- The location of a laser's event: its chiplet, the channel of the chiplet. -/
def laserLoc (y g k : Nat) : Loc := { kind := 2, unit := y, a := 17 * g + k }

/-! ### Calibration records (16 R729, R730) -/

/-- The rings of a chiplet with the largest correction: ring and magnitude. -/
def corrMax (s : State) (y : Nat) : Nat × Nat :=
  (s.opt.rings.filter (fun p => decide (p.1 / 1088 = y))).foldl (fun (b : Nat × Nat) p =>
    if b.2 < p.2.corr.natAbs then (p.1 % 1088, p.2.corr.natAbs) else b) (0, 0)

/-- Wavelengths of a chiplet retired, both directions. -/
def retiredCount (s : State) (y : Nat) : Nat :=
  (s.opt.lanes.filter (fun p => decide (p.1 / 544 = y) && p.2.retired)).length +
  ((s.ln.filter (fun p => decide (p.1 / 32 = y))).map (fun p => ((List.range 17).filter (fun k => p.2.retired.getLsbD k)).length)).foldl (· + ·) 0

/-- Refresh a calibration record (R730). -/
def refreshCal (s : State) (y : Nat) : State :=
  let b := s.opt.base.get {} y
  let o := yzBase y
  let m := s.corrMax y
  let deferred := (s.opt.lanes.filter (fun p => decide (p.1 / 544 = y) && p.2.deferred)).length
  let bs := toBytes 1 b.use ++ toBytes 1 b.high ++ toBytes 1 (b2n b.due + 2 * b2n (decide (b.high = 7))) ++
    toBytes 1 (min (s.retiredCount y) 255) ++ toBytes 4 (s.word (o + 0x200)).toNat ++ toBytes 4 (s.word (o + 0x210)).toNat ++
    toBytes 8 (s.dword (o + 0x208)) ++ toBytes 8 b.lastSeq ++ toBytes 8 b.lastNs ++ toBytes 2 m.2 ++
    toBytes 2 (m.1 / 34 + 32 * (m.1 % 17) + 1024 * (m.1 % 34 / 17)) ++ toBytes 2 deferred ++ toBytes 2 0 ++
    toBytes 4 (s.word (o + 0x228)).toNat ++ toBytes 4 (s.word (o + 0x22C)).toNat ++ toBytes 4 0
  let seq := ((s.mgt.calRecs.get {} y).seq + 1) % 2 ^ 32
  { s with mgt := { s.mgt with calRecs := s.mgt.calRecs.put y ⟨seq, bs⟩ } }

/-! ### Lasers (R362-R372) -/

/-- What the power loop has set in a laser's DACs: it moves only the one of the range in force, and the other is at 0 (R362; its code is free: notes/assumptions/67). -/
def biasNow (s : State) (x : Nat) (spare hi : Bool) : Bias :=
  let c := Config.biasCode (2 * x + b2n spare) s.clk.now
  if hi then { hi := c } else { lo := c }

/-- The enable sequence runs, and the primaries have been lit on chip since its first 5 ms (R403). -/
def seqLit (s : State) : Bool := decide (s.opt.enable = .running) && decide (s.opt.enableAt + 5000000 ≤ s.clk.now)

/-- A laser has bias: it is brought up, qualified or on the bus; a primary also in the enable sequence, where none is on the bus yet. -/
def laserOn (s : State) (c : Channel) (spare : Bool) : Bool :=
  match if spare then c.spare else c.primary with
  | .bringup => true
  | .ready => true
  | .bus => true
  | .dark => !spare && s.seqLit
  | _ => false

/-- The power loops run, at 10 kHz (R362, Lasers). -/
def powerLoops (s : State) : State :=
  if s.clk.now < s.opt.loopAt + 100000 then s
  else
    (List.range 272).foldl (fun (s : State) x =>
      let c := s.chOf x
      s.setCh x { c with
        primaryBias := if s.laserOn c false then s.biasNow x false c.primaryHi else c.primaryBias
        spareBias := if s.laserOn c true then s.biasNow x true c.spareHi else c.spareBias }) { s with opt := { s.opt with loopAt := s.clk.now } }

/-- The active links of a laser group. -/
def activeLinks (s : State) (y g : Nat) : List Nat := (groupLinks y g).filter s.linkUp

/-- A lane is out of service, so that it can be calibrated and its light changed: the free spare lane, or a lane that rides the spare (R387, R390, R394). -/
def txIdle (s : State) (l w : Nat) : Bool :=
  let r := s.lnk l
  let j := laneOf w r.spareCh
  if j = 31 then r.txSpare == 31 else r.txSpare == j

/-- PRBS-31 starts on the new light of a channel, on each active link of the group (R365, R369). -/
def startCheck (s : State) (y g k : Nat) : State :=
  (s.activeLinks y g).foldl (fun (s : State) l => s.setLaneCal l k { s.laneCal l k with prbs := true }) s

/-- Active links of a group whose traffic rides a channel's wavelength normally: the link and its logical lane. -/
def channelLanes (s : State) (y g k : Nat) : List (Nat × Nat) :=
  (s.activeLinks y g).filterMap (fun l =>
    let j := laneOf k (s.lnk l).spareCh
    if j = 31 then none else some (l, j))

/-- A channel has no working laser left (R372). -/
def loseChannel (s : State) (y g k : Nat) : State :=
  let x := chanOf y g k
  (s.setCh x { s.chOf x with lost := true }).record 0x0902 (laserLoc y g k)

/-- The bank switch goes to cross after a failure: the spare takes the channel, and its light is checked (R364, R365). -/
def takeover (s : State) (y g k : Nat) : State :=
  let x := chanOf y g k
  ((s.setCh x { s.chOf x with cross := true, spare := .bus, lost := false, exchange := none, stage := .waiting }).bump (yzBase y + 0x228)).startCheck y g k

/-- A spare is brought up in the dump path, in its range in force (R364). -/
def spareUp (s : State) (x : Nat) : State :=
  let c := s.chOf x
  s.setCh x { c with spare := .bringup, spareBias := s.biasNow x true c.spareHi }

/-- LASER_FAILURE (R363, R364, R372): the laser's bias goes off. A primary that fails in the enable sequence takes its spare too (R403). -/
def doLaserFailure (s : State) (y g k : Nat) (spare : Bool) (cause : LaserFault) : State :=
  let x := chanOf y g k
  let c := s.chOf x
  if spare then
    if c.spare = .dark ∨ c.spare = .dead ∨ c.spare = .failed then s
    else
      let s1 := s.setCh x { c with spare := .dead, spareBias := {}, exchange := if c.exchange = some .toSpare then none else c.exchange }
      if c.spare = .bus ∨ c.primary = .failed ∨ c.primary = .dead then s1.loseChannel y g k else s1
  else if (c.primary = .dark ∧ s.opt.enable ≠ .running) ∨ c.primary = .failed ∨ c.primary = .dead then s
  else
    let s1 := (s.record (if cause = .wavelength then 0x090E else 0x0901) (laserLoc y g k)).setCh x
      { c with primary := .failed, primaryBias := {}, hiDue := false, exchange := none, stage := .waiting }
    if c.primary = .bringup ∨ c.primary = .ready then s1
    else match c.spare with
      | .dark => s1.spareUp x
      | .ready => s1.takeover y g k
      | .dead => s1.loseChannel y g k
      | _ => s1

/-! ### Exchanges (R368-R370) -/

/-- An exchange that waits begins once every active link of the group has its spare lane free; else it is held, with 0x0910 once (R368). -/
def tryExchange (s : State) (y g k : Nat) : State :=
  let x := chanOf y g k
  let c := s.chOf x
  if c.exchange.isNone || c.stage != .waiting then s
  else if (s.activeLinks y g).all s.txFree then
    let s1 := (s.channelLanes y g k).foldl (fun (s : State) p => s.requestMove p.1 p.2 false) s
    s1.setCh x { c with stage := .moving }
  else if c.exchangeHeld then s
  else ((s.setCh x { c with exchangeHeld := true }).record 0x0910 (laserLoc y g k)).bump (yzBase y + 0x230)

/-- An exchange is due; its moves are asked for at once, so that it begins two boundaries on (R367, Worked case 9.1), or at a later boundary (R368). -/
def dueExchange (s : State) (y g k : Nat) (e : Exchange) : State :=
  let x := chanOf y g k
  (s.setCh x { s.chOf x with exchange := some e, stage := .waiting, exchangeHeld := false }).tryExchange y g k

/-- SPARE_LASER_QUALIFIED: after a failure the spare takes the channel (R364); for a bias range change an exchange is due (R370). -/
def doSpareQualified (s : State) (y g k : Nat) : State :=
  let x := chanOf y g k
  let c := s.chOf x
  if c.spare ≠ .bringup then s
  else if c.primary = .bus then (s.setCh x { c with spare := .ready }).dueExchange y g k .toSpare
  else s.takeover y g k

/-- PRIMARY_RETRY: ramp and lock in the dump path (R366). -/
def doPrimaryRetry (s : State) (y g k : Nat) : State :=
  let x := chanOf y g k
  let c := s.chOf x
  if c.primary = .failed && s.opt.lit then s.setCh x { c with primary := .bringup, primaryBias := s.biasNow x false c.primaryHi } else s

/-- PRIMARY_RETRY_RESULT: a pass makes a handback due, the 16th failure marks the primary dead (R366, R367). -/
def doRetryResult (s : State) (y g k : Nat) (ok : Bool) : State :=
  let x := chanOf y g k
  let c := s.chOf x
  if c.primary ≠ .bringup then s
  else if ok then (s.setCh x { c with primary := .ready, retries := 0 }).dueExchange y g k .handback
  else if c.retries + 1 < 16 then s.setCh x { c with primary := .failed, primaryBias := {}, retries := c.retries + 1 }
  else
    let s1 := (s.setCh x { c with primary := .dead, primaryBias := {}, retries := 16 }).record 0x0911 (laserLoc y g k)
    if c.spare = .dead ∧ !c.lost then s1.loseChannel y g k else s1

/-- A primary that is to change to BIAS_HI has its spare brought up already in that range, once no exchange runs and the spare is dark (R370). -/
def startRange (s : State) (y g k : Nat) : State :=
  let x := chanOf y g k
  let c := s.chOf x
  if c.hiDue && c.primary = .bus && c.spare = .dark && c.exchange.isNone then
    s.setCh x { c with hiDue := false, spare := .bringup, spareHi := true, spareBias := s.biasNow x true true }
  else s

/-- BIAS_RANGE_CHANGE (R370): a change to BIAS_HI is due for a primary on the bus. A spare on the bus is handed back to its primary; one that waits for its retry is brought up for it at once (notes/assumptions/67). -/
def doBiasRange (s : State) (y g k : Nat) (spare : Bool) : State :=
  let x := chanOf y g k
  let c := s.chOf x
  if spare then
    if c.spare = .bus && !c.spareHi then
      (if c.primary = .ready && c.exchange.isNone then s.dueExchange y g k .handback else s.doPrimaryRetry y g k)
    else s
  else if c.primary = .bus && !c.primaryHi then (s.setCh x { c with hiDue := true }).startRange y g k
  else s

/-- The bank switch moves once the channel is out of service on every active link (R369, R387): its lane rides the spare lane, or it is the free spare lane itself. The new light is then checked. -/
def switchBank (s : State) (y g k : Nat) : State :=
  let x := chanOf y g k
  let c := s.chOf x
  if c.stage != .moving then s
  else if (s.activeLinks y g).all (fun l => s.txIdle l k) then
    match c.exchange with
    | some .handback =>
      (s.setCh x { c with cross := false, primary := .bus, spare := if c.spare = .bus then .ready else c.spare, lost := false, stage := .checking }).startCheck y g k
    | some .toSpare => (s.setCh x { c with cross := true, primary := .ready, spare := .bus, stage := .checking }).startCheck y g k
    | none => s
  else (s.channelLanes y g k).foldl (fun (s : State) p => if s.txFree p.1 then s.requestMove p.1 p.2 false else s) s

/-- The new light of an exchange has passed its check on every active link, and every lane that is not retired has returned (R369). -/
def checkOver (s : State) (y g k : Nat) : Bool :=
  (s.activeLinks y g).all (fun l =>
    let x := s.laneCal l k
    !x.prbs && (x.retired || laneOf k (s.lnk l).spareCh == 31 || !s.txIdle l k))

/-- The exchange ends: after a handback the spare goes dark; a primary that gave way takes BIAS_HI in the dump path and is handed back (R369, R370). -/
def endExchange (s : State) (y g k : Nat) : State :=
  let x := chanOf y g k
  let c := s.chOf x
  if c.stage != .checking || !s.checkOver y g k then s
  else match c.exchange with
    | some .handback =>
      (s.setCh x { c with spare := if c.spare = .dead then .dead else .dark, spareHi := false, spareBias := {}, exchange := none, stage := .waiting, exchangeHeld := false }).bump
        (yzBase y + 0x22C)
    | some .toSpare => (s.setCh x { c with primaryHi := true, primaryBias := s.biasNow x false true }).dueExchange y g k .handback
    | none => s

/-- The exchanges and range changes of every channel at a boundary, after the planned moves. -/
def exchanges (s : State) : State :=
  (s.opt.channels.map (fun p => p.1)).foldl (fun (s : State) x =>
    let y := x / 68
    let g := x % 68 / 17
    let k := x % 17
    (((s.endExchange y g k).startRange y g k).switchBank y g k).tryExchange y g k) s

/-- LANE_PRBS_CHECK_DONE: the check of the new light on a wavelength ended, and its lane returns from the spare lane by a planned move (R365, R369). With errors it runs on (notes/assumptions/67). -/
def doPrbsDone (s : State) (l w : Nat) (ok : Bool) : State :=
  let r := s.lnk l
  let j := laneOf w r.spareCh
  let x := s.laneCal l w
  if !x.prbs || !ok then s
  else
    let s1 := s.setLaneCal l w { x with prbs := false }
    let busy := match (s.calGroup (linkGroup l)).run with
      | some c => c.link == l && c.lane == w
      | none => false
    if r.st == .active && j != 31 && r.txSpare == j && s.channelLit (chanOf (l / 32) (l % 32 / 8) w) && !busy && !x.retired then s1.requestMove l j true else s1

/-! ### Heaters (R373-R376) -/

/-- The baseline code of a ring at a temperature in 0.1 °C: linear interpolation between the 18 entries (R374). -/
def baseCode (s : State) (key : Nat) (t : Int) : Nat :=
  let y := key / 1088
  let e := fun (i : Nat) => s.opt.tables.get 0 (tableKey y (s.opt.base.get {} y).use (key % 1088) i)
  if t < 200 then e 0
  else if 1050 ≤ t then e 17
  else
    let d := (t - 200).toNat
    let n := e (d / 50) * (50 - d % 50) + e (d / 50 + 1) * (d % 50)
    n / 50 + (if n % 50 ≠ 0 ∧ Config.heaterRound n then 1 else 0)

/-- The heater code that R374 gives a ring at its link's temperature. -/
def targetCode (s : State) (key : Nat) : Nat :=
  (max 0 (min 4095 ((s.baseCode key (s.opt.temps.get 0 (key / 34)) : Int) + (s.ringOf key).corr))).toNat

/-- A ring's code has come to 0 or 4,095: its lane is retired and leaves service by a planned move, a receive lane's by the partner (R376). -/
def edgeReached (s : State) (l w : Nat) (drop : Bool) : State :=
  if drop then
    (if (s.lnk l).retired.getLsbD w then s.record 0x0905 (linkLoc l w) else (s.retireRx l w 0x0905).askPartner l 2 w)
  else if (s.laneCal l w).retired then s.record 0x0905 (linkLoc l w) else s.retireTx l w 0x0905

/-- Set a ring's code, at most 4 codes nearer on a live ring (R375); one that comes to 0 or 4,095 retires its lane (R376). -/
def setHeater (s : State) (l w : Nat) (drop : Bool) : State :=
  let key := ringKey l w drop
  let r := s.ringOf key
  let t := s.targetCode key
  let c := if s.linkUp l then max (r.code - 4) (min (r.code + 4) t) else t
  let e := decide (c = 0) || decide (c = 4095)
  let s1 := s.setRingH key { r with code := c, edge := e }
  if e && !r.edge then s1.edgeReached l w drop else s1

/-- HEATER_UPDATE: the link's temperature is read and every ring of the link recomputed (R375). -/
def doHeater (s : State) (l : Nat) (t : Int) : State :=
  let s1 := { s with opt := { s.opt with temps := s.opt.temps.set 0 l t } }
  if s.opt.lit || s.opt.enable = .running then
    (List.range 34).foldl (fun (s : State) i => s.setHeater l (i % 17) (decide (17 ≤ i))) s1
  else s1

/-- DETUNE_ESTIMATE_REFRESH: a lane past half the band's margin becomes urgent (R385, R391). -/
def doDetune (s : State) (l : Nat) (est : List (Fin 34 × Int)) : State :=
  if !s.linkUp l then s
  else
    let b := s.bandOf l
    est.foldl (fun (s : State) p =>
      let k := 34 * l + p.1.val
      let s1 := s.setRingH k { s.ringOf k with est := p.2.natAbs }
      let margin := if 17 ≤ p.1.val then b.1 else b.2.1
      if margin < 2 * p.2.natAbs then (if 17 ≤ p.1.val then s1.urgentRx l (p.1.val - 17) else s1.markUrgent l p.1.val) else s1) s

/-- GUARD_BAND_EXCEEDED: a deferred lane beyond the guard band for 1 s (R393). -/
def doGuard (s : State) (l w : Nat) : State :=
  let b := s.bandOf l
  let x := s.laneCal l w
  let out := decide (b.2.2.1 < (s.ringOf (ringKey l w true)).est) || decide (b.2.2.2 < (s.ringOf (ringKey l w false)).est)
  if x.deferred && !x.guardOut && out then (s.setLaneCal l w { x with guardOut := true }).record 0x0908 (linkLoc l w) else s

/-! ### Calibration (R378-R396) -/

/-- Write a ring's correction; 128 codes make a re-burn due (R378, R379). -/
def setCorr (s : State) (key : Nat) (c : Int) : State :=
  let s1 := s.setRingH key { s.ringOf key with corr := clampCorr c }
  if 128 ≤ (clampCorr c).natAbs then
    let y := key / 1088
    { s1 with opt := { s1.opt with base := s1.opt.base.upd {} y (fun b => { b with due := true }) } }
  else s1

/-- GAIN_RANGE_TIMEOUT: the lane moves to the head of the queue (R383, R391). -/
def doGainTimeout (s : State) (l w : Nat) : State := if s.linkUp l then s.urgentRx l w else s

/-- A lane is deferred (R390). -/
def deferLane (s : State) (l w : Nat) : State :=
  let s1 := s.bump (yzBase (l / 32) + 0x210)
  let x := s1.laneCal l w
  if x.deferred then s1 else (s1.setLaneCal l w { x with deferred := true }).record 0x0907 (linkLoc l w)

/-- The lane that a turn takes: the oldest urgent lane of an active link, else the next lane of the link calibrated longest ago (R390). -/
def turnLane (s : State) (y g : Nat) : Option (Nat × Nat) :=
  let c := s.calGroup (4 * y + g)
  match c.head.find? (fun p => s.linkUp p.1) with
  | some p => some p
  | none =>
    match (groupLinks y g).filter s.linkUp with
    | [] => none
    | l :: rest =>
      let best := rest.foldl (fun b i => if c.last.get 0 i < c.last.get 0 b then i else b) l
      some (best, c.next.get 0 best % 17)

/-- A planned move for a calibration was cancelled: the turn ends, and the lane is deferred (R390; notes/assumptions/32). -/
def dropCal (s : State) (l j : Nat) : State :=
  let gk := linkGroup l
  match (s.calGroup gk).run with
  | some c =>
    if c.link = l ∧ c.moved ∧ laneOf c.lane (s.lnk l).spareCh = j ∧ !s.txIdle l c.lane then
      (s.setCalGroup gk { s.calGroup gk with run := none }).deferLane l c.lane
    else s
  | none => s

/-- CAL_TURN (R389, R390). -/
def doCalTurn (s : State) (y g : Nat) : State :=
  let gk := 4 * y + g
  let c := s.calGroup gk
  if !s.started || !s.opt.lit || c.run.isSome then s
  else match s.turnLane y g with
    | none => s
    | some (l, w) =>
      let s1 := s.setCalGroup gk { c with head := c.head.filter (fun p => p != (l, w)), next := c.next.set 0 l ((w + 1) % 17) }
      let s2 := s1.setLnk l { s1.lnk l with urgent := setBit17 (s1.lnk l).urgent w false }
      let s3 := s2.setLaneCal l w { s2.laneCal l w with urgent := false }
      let c1 := s3.calGroup gk
      if s.bits (yzBase y + 0x10) 0 1 = 0 then s3.deferLane l w
      else if s3.txIdle l w then s3.setCalGroup gk { c1 with run := some ⟨l, w, false⟩ }
      else if s3.txFree l then
        (s3.setCalGroup gk { c1 with run := some ⟨l, w, true⟩ }).requestMove l (laneOf w (s3.lnk l).spareCh) false
      else s3.deferLane l w

/-- A calibration of this end's transmit lane ended (R390, R394). -/
def endTxCal (s : State) (l w : Nat) (e : CalEnd) : State :=
  let gk := linkGroup l
  let c := s.calGroup gk
  let s1 := s.setCalGroup gk { c with run := none, last := c.last.set 0 l s.clk.now }
  let j := laneOf w (s.lnk l).spareCh
  match e with
  | .passed m _ _ =>
    let s2 := (s1.setCorr (ringKey l w false) m).setLaneCal l w
      { s1.laneCal l w with retired := false, deferred := false, guardOut := false }
    let s3 := (s2.bump (yzBase (l / 32) + 0x200)).setDword (yzBase (l / 32) + 0x208) s.clk.now
    let s4 := if j = 31 then s3 else s3.requestMove l j true
    s4.refreshCal (l / 32)
  | _ => ((s1.setLaneCal l w { s1.laneCal l w with deferred := false, guardOut := false }).retireTx l w 0x0906).refreshCal (l / 32)

/-- A calibration that the partner asked for ended at this receiver: the drop filter and the gain range (R383, R390). -/
def endRxCal (s : State) (l w : Nat) (e : CalEnd) : State :=
  match e with
  | .passed _ d g =>
    let s1 := (s.setCorr (ringKey l w true) d).setLaneCal l w { s.laneCal l w with gain := gainOf g, overloadRetired := false }
    s1.setLnk l { s1.lnk l with retired := setBit17 (s1.lnk l).retired w false }
  | _ => s.retireRx l w 0x0906

/-- CALIBRATE_LANE, once the lane is out of service (R387, R390); after the sweep of its own modulator this end asks the partner for the sweep of the drop filter. -/
def doCalibrate (s : State) (l w : Nat) (e : CalEnd) : State :=
  let r := s.lnk l
  let own := match (s.calGroup (linkGroup l)).run with
    | some c => c.link == l && c.lane == w
    | none => false
  let j := laneOf w r.spareCh
  if !s.linkUp l then s
  else if own then (if s.txIdle l w then (if e = .noResonance then s else s.askPartner l 0 w).endTxCal l w e else s)
  else if (j = 31 ∧ r.rxSpare = 31) ∨ (j ≠ 31 ∧ r.rxSpare = j) then s.endRxCal l w e
  else s

/-! ### Ambient light (R384, R397-R401) -/

/-- RX_OVERLOAD: the flag sets and an episode counts (R384, R399). -/
def doOverload (s : State) (l w : Nat) : State :=
  let x := s.laneCal l w
  if x.overload then s else (s.setLaneCal l w { x with overload := true }).bump (lnReg l + 0x100 + 4 * w)

/-- OVERLOAD_CLEAR (R384). -/
def doOverloadClear (s : State) (l w : Nat) : State := s.setLaneCal l w { s.laneCal l w with overload := false }

/-- OVERLOAD_RETIRE: 100 µs of overload retire the lane to the spare lane as an unplanned swap; with the spare lane in use the link goes down (R399, R401). -/
def doOverloadRetire (s : State) (l w : Nat) : State :=
  let x := s.laneCal l w
  let r := s.lnk l
  let j := laneOf w r.spareCh
  if !x.overload || x.overloadRetired || r.st != .active then s
  else
    let s1 := s.setLaneCal l w { x with overloadRetired := true }
    if j ≠ 31 ∧ r.rxSpare = j then s1.record 0x0909 (linkLoc l w)
    else
      let free := s1.rxFree l
      let s2 := s1.retireRx l w 0x0909
      if j = 31 then (if r.rxSpare = 31 then s2 else s2.linkDown l)
      else if free then s2.setLnk l { s2.lnk l with rxReq := j, rxMove := none }
      else s2.linkDown l

/-- OVERLOAD_RECOVERY: the lane is calibrated at the head of its group's queue (R400); as the partner transmits it, the partner is asked to. -/
def doOverloadRecovery (s : State) (l w : Nat) : State :=
  let x := s.laneCal l w
  if x.overloadRetired && !x.overload then
    let c := s.calGroup (linkGroup l)
    let s1 := s.setCalGroup (linkGroup l) { c with head := (l, w) :: c.head.filter (fun p => p != (l, w)) }
    (s1.setLnk l { s1.lnk l with urgent := setBit17 (s1.lnk l).urgent w true }).askPartner l 1 w
  else s

/-! ### The interlock, darkness and the enable sequence (R402-R407) -/

/-- A laser goes dark; a failed or dead one stays so. -/
def darkLaser (x : LaserState) : LaserState :=
  match x with
  | .failed => .failed
  | .dead => .dead
  | _ => .dark

/-- Every laser dark, every bank switch in bar, every shutter CLOSED, every link down (R402, R406). -/
def darken (s : State) : State :=
  let s1 := { s with opt := { s.opt with
    lit := false
    channels := s.opt.channels.foldl (fun (t : Tbl Channel) (p : Nat × Channel) =>
      t.set {} p.1 { p.2 with primary := darkLaser p.2.primary, spare := darkLaser p.2.spare, primaryBias := {}, spareBias := {}, hiDue := false,
                              cross := false, exchange := none, stage := .waiting, exchangeHeld := false }) s.opt.channels } }
  let s2 := (List.range 128).foldl (fun (s : State) l => s.linkDown l) s1
  { s2 with opt := { s2.opt with shutters := [] } }

/-- LASER_PERMIT is high, or the override is in force (R403, R407). -/
def mayLight (s : State) : Bool := s.opt.permit || s.cmd.override

/-- The enable sequence starts, or waits for the permit (R403). -/
def beginEnable (s : State) : State :=
  if s.mayLight then { s with opt := { s.opt with enable := .running, enableAt := s.clk.now } } else { s with opt := { s.opt with enable := .waiting } }

/-- A waiting sequence proceeds once it may (R403). -/
def proceedEnable (s : State) : State := if s.opt.enable = .waiting then s.beginEnable else s

/-- LASER_PERMIT falls: with any laser lit, in the enable sequence too, and no override, everything goes dark with 0x090F, and the sequence waits (R403, R406, R407). -/
def doPermitFall (s : State) : State :=
  let s1 := { s with opt := { s.opt with permit := false } }
  if s1.cmd.override then s1
  else if s1.opt.lit || s1.seqLit then
    let s2 := (s1.record 0x090F).darken
    { s2 with opt := { s2.opt with enable := .waiting } }
  else if s1.opt.enable = .running then { s1 with opt := { s1.opt with enable := .waiting } }
  else s1

/-- A link leaves OFF for DETECT, its shutter at PROBE (10 R421). -/
def toDetect (s : State) (l : Nat) : State :=
  if (s.lnk l).st = .off ∧ s.opt.lit ∧ s.lnEnabled l then
    (s.setLnk l { s.lnk l with st := .detect }).setShutter l .probe
  else s

/-- LASER_ENABLE_DONE: the primaries that have not failed on the bus, a failed one's spare in bring-up or in its place (R364, R403); enabled links enter DETECT (10 R421). -/
def doEnableDone (s : State) : State :=
  if s.opt.enable ≠ .running then s
  else
    let s1 := { s with opt := { s.opt with lit := true, enable := .idle } }
    let s2 := (List.range 272).foldl (fun (s : State) x =>
      let c := s.chOf x
      match c.primary with
      | .dark => s.setCh x { c with primary := .bus, primaryHi := false, lost := false, primaryBias := s.biasNow x false false }
      | _ => if c.spare = .dead then s.loseChannel (x / 68) (x % 68 / 17) (x % 17) else if c.spare = .dark then s.spareUp x else s) s1
    (List.range 128).foldl toDetect s2

/-- OPEN_FIBRE: the shutter closes, the link goes down and probes 2 ms in every second (R405, 10 R424). -/
def doOpenFibre (s : State) (l : Nat) : State :=
  if s.shutter l = .opened then (s.record 0x090A (linkLoc l)).linkDown l (duty := true) else s

/-- PROBE_WINDOW: the shutter opens to PROBE for the window, and closes after it unless a tone was found (R405, 10 R421, R427). -/
def doProbeWindow (s : State) (l : Nat) (opens : Bool) : State :=
  let r := s.lnk l
  if r.st = .detect ∧ r.duty ∧ !r.held ∧ !r.found then s.setShutter l (if opens then .probe else .closed) else s

/-! ### Burns (R380-R382, 15 R694, 16 R731) -/

/-- The burn's read-back verify ends. -/
def doBurnDone (s : State) (ok stored : Bool) : State :=
  match s.working 0x42 with
  | none => s
  | some c =>
    let u := pField c.p 1 1
    if pField c.p 0 1 = 1 then
      let v := pField c.p 8 1
      let b := s.opt.base.get {} u
      let put := fun (s : State) (b : Baseline) => { s with opt := { s.opt with base := s.opt.base.set {} u b } }
      let s3 := if ok then
          let kept := stored && !s.flash.readOnly
          let s1 := put s { b with high := v, lastSeq := if kept then s.boot.record.seq else 2 ^ 64 - 1, lastNs := s.clk.now }
          let s2 := s1.setDword (yzBase u + 0x220) s.clk.now
          let h := s2.mgt.health.put (8 * u + v) (s.boot.record.seq, s.clk.now)
          if kept then State.writeRec { s2 with mgt := { s2.mgt with health := h } } (.health h)
          else s2.record 0x1008 { kind := 2, unit := u }
        else (put s { b with high := v, bad := b.bad ++ [v] }).record 0x090D { kind := 2, unit := u }
      let s4 := if v = 7 then s3.record 0x090B { kind := 2, unit := u } else s3
      (s4.refreshCal u).endWork (if ok then 0 else 0x090D) v
    else
      let r := pField c.p 2 1
      if ok then { s with fuse := { s.fuse with rowSpare := s.fuse.rowSpare.put u r } }.endWork 0 r
      else s.endWork 0x0E0A r

end State

/-! ### Meanings -/

/-- LASER_FAILURE (R363, R364). -/
def execLaserFailure (l : LaserId) (spare : Bool) (cause : LaserFault) (s : State) : Res := .next (s.doLaserFailure l.chip l.group l.chan spare cause)
/-- SPARE_LASER_QUALIFIED (R364). -/
def execSpareLaserQualified (l : LaserId) (s : State) : Res := .next (s.doSpareQualified l.chip l.group l.chan)
/-- LANE_PRBS_CHECK_DONE (R365). -/
def execLanePrbsCheckDone (link : Fin 128) (wave : Fin 17) (ok : Bool) (s : State) : Res := .next (s.doPrbsDone link wave ok)
/-- PRIMARY_RETRY (R366). -/
def execPrimaryRetry (l : LaserId) (s : State) : Res := .next (s.doPrimaryRetry l.chip l.group l.chan)
/-- PRIMARY_RETRY_RESULT (R366). -/
def execPrimaryRetryResult (l : LaserId) (ok : Bool) (s : State) : Res := .next (s.doRetryResult l.chip l.group l.chan ok)
/-- BIAS_RANGE_CHANGE (R370). -/
def execBiasRangeChange (l : LaserId) (spare : Bool) (s : State) : Res := .next (s.doBiasRange l.chip l.group l.chan spare)
/-- HEATER_UPDATE (R375). -/
def execHeaterUpdate (link : Fin 128) (temp : Int) (s : State) : Res := .next (s.doHeater link temp)
/-- DETUNE_ESTIMATE_REFRESH (R385). -/
def execDetuneEstimateRefresh (link : Fin 128) (est : List (Fin 34 × Int)) (s : State) : Res := .next (s.doDetune link est)
/-- GUARD_BAND_EXCEEDED (R393). -/
def execGuardBandExceeded (link : Fin 128) (lane : Fin 17) (s : State) : Res := .next (s.doGuard link lane)
/-- GAIN_RANGE_TIMEOUT (R383). -/
def execGainRangeTimeout (link : Fin 128) (lane : Fin 17) (s : State) : Res := .next (s.doGainTimeout link lane)
/-- CAL_TURN (R390). -/
def execCalTurn (chip group : Fin 4) (s : State) : Res := .next (s.doCalTurn chip group)
/-- CALIBRATE_LANE (R390). -/
def execCalibrateLane (link : Fin 128) (lane : Fin 17) (e : CalEnd) (s : State) : Res := .next (s.doCalibrate link lane e)
/-- FUSE_BURN_DONE (R380). -/
def execFuseBurnDone (ok stored : Bool) (s : State) : Res := .next (s.doBurnDone ok stored)
/-- RX_OVERLOAD (R384). -/
def execRxOverload (link : Fin 128) (lane : Fin 17) (s : State) : Res := .next (s.doOverload link lane)
/-- OVERLOAD_RETIRE (R399). -/
def execOverloadRetire (link : Fin 128) (lane : Fin 17) (s : State) : Res := .next (s.doOverloadRetire link lane)
/-- OVERLOAD_RECOVERY (R400). -/
def execOverloadRecovery (link : Fin 128) (lane : Fin 17) (s : State) : Res := .next (s.doOverloadRecovery link lane)
/-- OVERLOAD_CLEAR (R384). -/
def execOverloadClear (link : Fin 128) (lane : Fin 17) (s : State) : Res := .next (s.doOverloadClear link lane)
/-- LASER_PERMIT_RISE (R403). -/
def execLaserPermitRise (s : State) : Res := .next (State.proceedEnable { s with opt := { s.opt with permit := true } })
/-- LASER_PERMIT_FALL (R406). -/
def execLaserPermitFall (s : State) : Res := .next s.doPermitFall
/-- LASER_ENABLE_DONE (R403). -/
def execLaserEnableDone (s : State) : Res := .next s.doEnableDone
/-- OPEN_FIBRE (R405). -/
def execOpenFibre (link : Fin 128) (s : State) : Res := .next (s.doOpenFibre link)
/-- PROBE_WINDOW (R405). -/
def execProbeWindow (link : Fin 128) (opens : Bool) (s : State) : Res := .next (s.doProbeWindow link opens)

end Sys2Proof.Machine
end

