-- ==== Sys2Proof/Machine/Lanes.lean ====
section
/-! DEFINITION. Lane bring-up, lock and lane sparing: finding the partner, ring alignment, bit and frame lock, the capability exchange, loss of lock, swaps and planned moves (10). -/

namespace Sys2Proof.Machine

/-! ### Alignment markers (R417) -/

/-- A field of a marker. -/
def kField (m : BitVec 132) (lo w : Nat) : Nat := m.toNat / 2 ^ lo % 2 ^ w

/-- A good marker: SYNC, bits 3:2, AM and CHK (R417, R435, R905). -/
def markerGood (m : BitVec 132) : Bool :=
  kField m 0 2 == 2 && kField m 2 2 == 3 && kField m 4 64 == 0x9C6B4A71E25D0F83 && kField m 124 8 == markerChk m.toNat

/-- The epoch that PLAN_EPOCH names: the first one from `e` on with these low eight bits (R454). -/
def planEpoch (e low : Nat) : Nat := e + (low + 256 - e % 256) % 256

/-- The difference of two frame counts, read as a signed value. -/
def fcntDiff (a b : Nat) : Int := wrapDiff 11 a b

/-- Two wavelengths are more than 16.5 ns apart, by the times and counts of their markers; a frame lasts 66 ns (R414, R438). -/
def skewed (a b : Hunt) : Bool :=
  let d : Int := ((a.time : Int) - b.time) - 66 * fcntDiff a.fcnt b.fcnt
  decide (33 < 2 * d.natAbs)

namespace State

/-! ### Finding the partner (R421, R425-R428) -/

/-- A receiver in overload on two or more wavelengths finds no tone (R426; 09 R384). -/
def flooded (s : State) (l : Nat) : Bool :=
  decide (2 ≤ ((List.range 17).filter (fun k => (s.laneCal l k).overload)).length)

/-- TONE_FRAME_RECEIVE: a partner word was found; the end holds PROBE and sends FOUND (R427; 09 R404). -/
def doTone (s : State) (l : Nat) (found : Bool) : State :=
  let r := s.lnk l
  if r.st = .detect ∧ !r.held ∧ s.shutter l = .probe ∧ !s.flooded l then
    s.setLnk l { r with found := true, duty := false, partnerFound := r.partnerFound || found }
  else s

/-- PARTNER_WORD_LOSS: back to SEEK (R428). -/
def doWordLoss (s : State) (l : Nat) : State :=
  let r := s.lnk l
  if r.st = .detect then s.setLnk l { r with found := false, partnerFound := false } else s

/-- ALIGN_ENTRY: the shutter opens, the spare wavelength is read, retired wavelengths get a new chance (R421, R424, R427, R462; 09 R404). -/
def doAlignEntry (s : State) (l : Nat) : State :=
  let r := s.lnk l
  if r.st = .detect ∧ r.found ∧ r.partnerFound then
    let s1 := (List.range 17).foldl (fun (s : State) k => s.setLaneCal l k { s.laneCal l k with retired := false, overloadRetired := false }) s
    (s1.setLnk l { r with st := .align, retired := 0#17, spareCh := s.lnSpareCtl l, down := false, phase2 := false }).setShutter l .opened
  else s

/-- DETECT_TIMEOUT: probing 2 ms in every second (R421). -/
def doDetectTimeout (s : State) (l : Nat) : State :=
  let r := s.lnk l
  if r.st = .detect ∧ !r.duty ∧ !r.held ∧ !r.found then
    ((s.setLnk l { r with duty := true }).setShutter l .closed).record 0x0A01 (linkLoc l)
  else s

/-- DETECT_HOLD_EXPIRY: the link trains again (R423). -/
def doHoldExpiry (s : State) (l : Nat) : State :=
  let r := s.lnk l
  if r.st = .detect ∧ r.held then (s.setLnk l { r with held := false }).setShutter l .probe else s

/-! ### Ring alignment (R429, R430) -/

/-- The result of a sweep on wavelength `k`; one that is not listed found no resonance (09 R396: every lane is calibrated). -/
def sweepOf {α : Type} (sweeps : List (Fin 17 × Option α)) (k : Nat) : Option α :=
  (sweeps.find? (fun p => p.1.val == k)).bind (fun p => p.2)

/-- ALIGN_SECOND_PHASE: the drop-filter sweeps have written their corrections and gain ranges; a ring without resonance retires its wavelength. -/
def doSecondPhase (s : State) (l : Nat) (sweeps : List (Fin 17 × Option (Int × Fin 3))) : State :=
  let r := s.lnk l
  if r.st = .align ∧ !r.phase2 then
    (List.range 17).foldl (fun (s : State) (k : Nat) =>
      match sweepOf sweeps k with
      | some (c, g) => (s.setCorr (ringKey l k true) c).setLaneCal l k { s.laneCal l k with gain := gainOf g }
      | none => s.retireRx l k 0x0906) (s.setLnk l { r with phase2 := true })
  else s

/-- ALIGN_DONE: the modulator sweeps have written their corrections; BITLOCK begins. -/
def doAlignDone (s : State) (l : Nat) (sweeps : List (Fin 17 × Option Int)) : State :=
  let r := s.lnk l
  if r.st = .align ∧ r.phase2 then
    let s1 := (List.range 17).foldl (fun (s : State) (k : Nat) =>
      match sweepOf sweeps k with
      | some c => s.setCorr (ringKey l k false) c
      | none => s.retireRx l k 0x0906) s
    s1.setLnk l { s1.lnk l with st := .bitlock }
  else s

/-! ### Bit lock (R431, R432) -/

/-- BITLOCK_CHECK_WINDOW: wavelengths without bit lock by 1.5 ms are retired. -/
def doBitWindow (s : State) (l : Nat) (locked : BitVec 17) : State :=
  if (s.lnk l).st = .bitlock then
    (List.range 17).foldl (fun (s : State) k => if locked.getLsbD k then s else s.retireRx l k 0x0A02)
      (s.setLnk l { s.lnk l with locked := locked })
  else s

/-- BITLOCK_DONE: locked wavelengths that saw errors are retired, and FRAME begins. -/
def doBitDone (s : State) (l : Nat) (errored : BitVec 17) : State :=
  if (s.lnk l).st = .bitlock then
    let s1 := (List.range 17).foldl (fun (s : State) k =>
      if errored.getLsbD k && (s.lnk l).locked.getLsbD k then s.retireRx l k 0x0906 else s) s
    s1.setLnk l { s1.lnk l with st := .frame, hunt := [], rxLock := 0#17, frameTries := 0 }
  else s

/-! ### Frame lock and deskew (R422, R423, R435-R438) -/

/-- Leave FRAME: with two or more retired wavelengths the link is not brought up (R422, R423). -/
def leaveFrame (s : State) (l : Nat) : State :=
  let r := s.lnk l
  let gone := ((List.range 17).filter (fun k => r.retired.getLsbD k)).length
  let live := (List.range 17).filter (fun k => !r.retired.getLsbD k)
  if live.any (fun a => live.any (fun b => skewed (r.hunt.get {} a) (r.hunt.get {} b))) then
    (s.record 0x0A04 (linkLoc l)).linkDown l (held := true)
  else if 2 ≤ gone then (s.record 0x0A07 (linkLoc l)).linkDown l (held := true)
  else s.setLnk l { r with st := .capx, capLast := none }

/-- FRAME ends once every unretired wavelength has frame lock. -/
def tryLeaveFrame (s : State) (l : Nat) : State :=
  let r := s.lnk l
  if r.st = .frame ∧ (List.range 17).all (fun k => r.retired.getLsbD k || r.rxLock.getLsbD k) then s.leaveFrame l else s

/-- One marker of the search of R435 on wavelength `k`: the 32nd in a row gives frame lock. -/
def huntMarker (s : State) (l k : Nat) (m : BitVec 132) : State :=
  let r := s.lnk l
  let h := r.hunt.get {} k
  let f := kField m 68 11
  if !markerGood m then s.setLnk l { r with hunt := r.hunt.set {} k { h with run := 0 } }
  else
    let run := if h.run ≠ 0 ∧ f = (h.fcnt + 1) % 2048 then h.run + 1 else 1
    let lock := r.rxLock.getLsbD k || decide (32 ≤ run)
    s.setLnk l { r with hunt := r.hunt.set {} k { run := run, fcnt := f, time := s.clk.now }, rxLock := setBit17 r.rxLock k lock }

/-- FRAME_ATTEMPT_TIMEOUT: after the third attempt the wavelengths still unlocked are retired (R421). -/
def doFrameTimeout (s : State) (l : Nat) : State :=
  let r := s.lnk l
  if r.st = .frame then
    if r.frameTries < 2 then s.setLnk l { r with frameTries := r.frameTries + 1, hunt := r.hunt.map (fun p => (p.1, { p.2 with run := 0 })) }
    else
      let s1 := (List.range 17).foldl (fun (s : State) k =>
        if (s.lnk l).rxLock.getLsbD k then s else s.retireRx l k 0x0A03) (s.setLnk l { r with frameTries := 3 })
      s1.tryLeaveFrame l
  else s

/-! ### Loss of lock (R443-R453) -/

/-- The spare wavelength loses lock (R453): carrying a lane, or asked for one, the link goes down; free, it stays out until it relocks. -/
def loseSpare (s : State) (l : Nat) : State :=
  let r := s.lnk l
  if r.rxSpare ≠ 31 ∨ r.rxReq ≠ 31 then (s.record 0x0A09 (linkLoc l r.spareCh)).linkDown l
  else
    let s1 := s.record 0x0A0A (linkLoc l r.spareCh)
    match r.rxMove with
    | some _ => (s1.setLnk l { s1.lnk l with rxMove := none }).record 0x0A0C (linkLoc l r.spareCh)
    | none => s1

/-- A wavelength whose lane rides the spare loses lock again: a move back is cancelled (the table of R458). -/
def loseIdle (s : State) (l w : Nat) : State :=
  let r := s.lnk l
  match r.rxMove with
  | some m =>
    if m.back ∧ m.lane = laneOf w r.spareCh then (s.setLnk l { r with rxMove := none }).record 0x0A0C (linkLoc l w) else s
  | none => s

/-- LOSS_OF_LOCK of wavelength `w`. -/
def doLoss (s : State) (l w : Nat) : State :=
  let r := s.lnk l
  let cleared := { r with rxLock := setBit17 r.rxLock w false, hunt := r.hunt.set {} w {} }
  if (s.laneCal l w).overload || !r.rxLock.getLsbD w then s
  else match r.st with
    | .frame => s.setLnk l cleared
    | .capx => s.setLnk l cleared
    | .active =>
      let s1 := ((s.setLnk l cleared).bump (lnReg l + 0x180 + 4 * w)).urgentRx l w
      if w = r.spareCh then s1.loseSpare l
      else if r.rxSpare = laneOf w r.spareCh then s1.loseIdle l w
      else s1.swapRx l w 0x0A08
    | _ => s

/-- A bad marker at the expected position of a wavelength in service: the fourth in a row loses its lock (R443); a marker that is missing altogether comes as LOSS_OF_LOCK. -/
def badMarker (s : State) (l k : Nat) : State :=
  let r := s.lnk l
  let h := r.hunt.get {} k
  if r.st ≠ .active then s
  else if 3 ≤ h.bad then s.doLoss l k
  else s.setLnk l { r with hunt := r.hunt.set {} k { h with bad := h.bad + 1 } }

/-- A good one ends the row of bad ones (R443). -/
def goodMarker (s : State) (l k : Nat) : State :=
  let r := s.lnk l
  let h := r.hunt.get {} k
  if h.bad = 0 then s else s.setLnk l { r with hunt := r.hunt.set {} k { h with bad := 0 } }

/-! ### Marker fields in service (R447-R458) -/

/-- RX_REQ of the partner: the lane rides the spare from the next frame (R448); a pending move of another lane is cancelled. -/
def takeRxReq (s : State) (l j : Nat) : State :=
  let r := s.lnk l
  if 15 < j ∨ r.txSpare ≠ 31 then s
  else
    let s1 := s.setLnk l { r with txSpare := j, txMove := none }
    match r.txMove with
    | some m => if m.lane = j ∧ !m.back then s1 else (s1.record 0x0A0C (linkLoc l (waveOf j r.spareCh))).dropCal l m.lane
    | none => s1

/-- TX_MAP of the spare wavelength: the receiver follows it frame by frame (R449, R457). -/
def takeTxMap (s : State) (l j : Nat) : State :=
  let r := s.lnk l
  if r.rxSpare = j ∨ (15 < j ∧ j ≠ 31) then s
  else
    let moved := match r.rxMove with
      | some m => if m.back then j == 31 && m.lane == r.rxSpare else m.lane == j
      | none => false
    let s1 := s.setLnk l { r with rxSpare := j, rxReq := if r.rxReq = j then 31 else r.rxReq, rxMove := if moved then none else r.rxMove }
    let s2 := if r.rxReq = j ∧ j ≠ 31 then s1.bump (lnReg l + 0x20) else s1
    if moved then s2.bump (lnReg l + 0x24) else s2

/-- PLAN_REQ of the partner, for its transmit direction: accepted while the rule of R455 holds. -/
def takePlanReq (s : State) (l j : Nat) (back : Bool) (low : Nat) : State :=
  let r := s.lnk l
  let e := planEpoch s.clk.epoch low
  let can := if back then r.rxSpare == j && r.rxLock.getLsbD (waveOf j r.spareCh) else s.rxFree l
  if j ≤ 15 ∧ can ∧ s.clk.epoch < e then s.setLnk l { r with rxMove := some ⟨j, back, e, true, false⟩ } else s

/-- PLAN_ACK for the pending move of this end (R454). -/
def takePlanAck (s : State) (l j : Nat) (back : Bool) (low : Nat) : State :=
  let r := s.lnk l
  match r.txMove with
  | some m => if m.lane = j ∧ m.back = back ∧ m.epoch % 256 = low then s.setLnk l { r with txMove := some { m with acked := true } } else s
  | none => s

/-- RX_LOCK of the partner: an accepted move whose wavelength lost lock there is cancelled (the table of R458). -/
def takeRxLock (s : State) (l : Nat) (m : BitVec 17) : State :=
  let r := s.lnk l
  let s1 := s.setLnk l { r with partnerLock := m }
  match r.txMove with
  | some v =>
    let w := if v.back then waveOf v.lane r.spareCh else r.spareCh
    if v.acked && !m.getLsbD w then ((s1.setLnk l { s1.lnk l with txMove := none }).record 0x0A0C (linkLoc l w)).dropCal l v.lane else s1
  | none => s1

/-- A good marker of a link in service (R447-R458). -/
def serviceMarker (s : State) (l k : Nat) (m : BitVec 132) : State :=
  let j := kField m 107 5
  let back := (kField m 112 1 == 1)
  let s1 := s.takeRxReq l (kField m 84 5)
  let s2 := if k = (s1.lnk l).spareCh then s1.takeTxMap l (kField m 79 5) else s1
  let s3 := if kField m 113 1 = 1 then s2.takePlanReq l j back (kField m 115 8) else s2
  if kField m 114 1 = 1 then s3.takePlanAck l j back (kField m 115 8) else s3

/-- ALIGNMENT_MARKER_RECEIVE on wavelength `k` (R421, R424, R435-R438, R443-R458). -/
def doMarker (s : State) (l k : Nat) (m : BitVec 132) : State :=
  let r := s.lnk l
  if r.st = .off ∨ r.st = .detect then s
  else if r.st = .frame then
    let s1 := s.huntMarker l k m
    if (s1.lnk l).rxLock.getLsbD k && markerGood m then
      if kField m 89 1 = 1 then s1.linkDown l
      else (s1.setLnk l { s1.lnk l with partnerLock := BitVec.ofNat 17 (kField m 90 17) }).tryLeaveFrame l
    else s1
  else if !r.rxLock.getLsbD k then (if r.st = .active then s.huntMarker l k m else s)
  else if !markerGood m then s.badMarker l k
  else if kField m 89 1 = 1 then s.linkDown l
  else
    let s1 := (s.goodMarker l k).takeRxLock l (BitVec.ofNat 17 (kField m 90 17))
    if r.st = .active then s1.serviceMarker l k m else s1

/-! ### Capability exchange (R439-R442; 12 R546, R547) -/

/-- A return from CAPX to FRAME with 0x0A05; after the third in a row the end goes to DETECT (R421, R442). -/
def capReturn (s : State) (l : Nat) : State :=
  let r := s.lnk l
  let s1 := s.record 0x0A05 (linkLoc l)
  if 2 ≤ r.capFails then s1.linkDown l
  else s1.setLnk l { s1.lnk l with st := .frame, hunt := [], rxLock := 0#17, frameTries := 0, capLast := none, capFails := r.capFails + 1 }

/-- The first good block of the exchange: VARIANT and SPARE_CH (R441), then the fabrics and epochs of joined ends (12 R546, R547). An end that names a fabric is joined (notes/assumptions/43). -/
def capGood (s : State) (l : Nat) (b : BitVec 2048) : State :=
  let r := s.lnk l
  if bField b 3 1 ≠ s.fuse.variant ∨ bField b 5 1 ≠ r.spareCh then (s.record 0x0A06 (linkLoc l)).linkDown l (held := true)
  else
    let fab := bField b 8 4
    let both := s.joined && fab != 0
    let far := decide (s.clk.epoch + 1 < bField b 0x18 8) || decide (bField b 0x18 8 + 1 < s.clk.epoch)
    let foreign := both && fab != s.fabId
    let apart := both && !foreign && far
    let s1 := s.setLnk l { r with capSeen := true, cap := some b }
    let s2 := s1.setLkk l { s1.lkk l with tc3Only := foreign, barred := foreign || apart }
    if foreign then s2.record 0x0C01 (linkLoc l) else if apart then s2.record 0x0C02 (linkLoc l) else s2

/-- CAPABILITY_BLOCK_RECEIVE (R440-R442). -/
def doCapBlock (s : State) (l : Nat) (b : BitVec 2048) : State :=
  let r := s.lnk l
  if r.st ≠ .capx then s
  else if crc32 ((bodyBytes b).take 252) ≠ bField b 0xFC 4 then (s.bump (lnReg l + 0x28)).capReturn l
  else if r.capLast ≠ some b then s.setLnk l { r with capLast := some b }
  else
    let s1 := if r.capSeen then s else s.capGood l b
    if (s1.lnk l).st = .capx ∧ bField b 4 1 = 1 then s1.setLnk l { s1.lnk l with capPartner := true } else s1

/-- CAPX_TIMEOUT (R421). -/
def doCapTimeout (s : State) (l : Nat) : State := if (s.lnk l).st = .capx then s.capReturn l else s

/-- The credits that the partner advertises (11 R484, R485). -/
def advertised (s : State) (l : Nat) : Tbl LkCredit :=
  (List.range 4).foldl (fun (t : Tbl LkCredit) c =>
    t.set {} c { advH := min (s.capField l (0x20 + 4 * c) 2) 4096, advD := min (s.capField l (0x22 + 4 * c) 2) 28672 }) []

/-- The link layer of a link that enters ACTIVE: counts and credits start anew (11 R467, R484, R492, 17 R762); a rerouted link keeps the points its twin carries on. -/
def lkStart (s : State) (l flight : Nat) : State :=
  let r := s.lkk l
  let keep := decide (r.st = .rerouted)
  let st := if r.st = .out ∧ !r.barred ∧ (s.streamOf l true).isNone ∧ (s.streamOf l false).isNone then .inSched
    else if r.st = .out ∧ !r.barred then .down else r.st
  let s1 := s.setLkk l { r with
    st := st, tx := if keep then r.tx else 0, rx := if keep then r.rx else 0, tx0 := if keep then r.tx0 else 0, rx0 := if keep then r.rx0 else 0,
    txSeq := 0, rxSeq := 0, credits := s.advertised l, ctlNo := 0, ctlSeen := none, ctlDue := false, nakDue := false, nakAt := none,
    accepted := 0, retrainReq := false, retrainDue := false, expiries := [], ackSt := 0, ml := flight, proposed := none, rejoinAt := none }
  s1.propose l

/-- LINK_ACTIVE: at the frame boundary after the exchange (R422, R441), while the link's Wn channel does not retrain (08 R342); M_L is measured (02 R73). -/
def doLinkActive (s : State) (l flight : Nat) : State :=
  let r := s.lnk l
  if r.st = .capx ∧ r.capSeen ∧ r.capPartner ∧ 16 ≤ r.capSent ∧ !s.chanDown (l / 32) (l % 32) then
    let theirs := BitVec.ofNat 17 (s.capField l 0x10 4)
    let lane := fun (m : BitVec 17) (cur : Nat) =>
      if cur ≠ 31 then cur
      else match (List.range 17).find? (fun k => m.getLsbD k) with
        | some k => laneOf k r.spareCh
        | none => 31
    let s1 := s.setLnk l { r with
      st := .active, attempts := 0, capFails := 0, partnerRetired := theirs, txSpare := lane theirs r.txSpare, rxSpare := lane r.retired r.rxSpare }
    let s2 := (List.range 17).foldl (fun (s : State) k => s.setLaneCal l k { s.laneCal l k with guardOut := false, prbs := false }) s1
    (s2.setDword (lnReg l + 0x30) s.clk.now).lkStart l flight
  else s

end State

/-! ### Meanings -/

/-- TONE_FRAME_RECEIVE (R426). -/
def execToneFrameReceive (link : Fin 128) (found : Bool) (s : State) : Res := .next (s.doTone link found)
/-- PARTNER_WORD_LOSS (R428). -/
def execPartnerWordLoss (link : Fin 128) (s : State) : Res := .next (s.doWordLoss link)
/-- ALIGN_ENTRY (R427). -/
def execAlignEntry (link : Fin 128) (s : State) : Res := .next (s.doAlignEntry link)
/-- DETECT_TIMEOUT (R421). -/
def execDetectTimeout (link : Fin 128) (s : State) : Res := .next (s.doDetectTimeout link)
/-- DETECT_HOLD_EXPIRY (R423). -/
def execDetectHoldExpiry (link : Fin 128) (s : State) : Res := .next (s.doHoldExpiry link)
/-- ALIGN_SECOND_PHASE (R429). -/
def execAlignSecondPhase (link : Fin 128) (sweeps : List (Fin 17 × Option (Int × Fin 3))) (s : State) : Res := .next (s.doSecondPhase link sweeps)
/-- ALIGN_DONE (R429). -/
def execAlignDone (link : Fin 128) (sweeps : List (Fin 17 × Option Int)) (s : State) : Res := .next (s.doAlignDone link sweeps)
/-- BITLOCK_CHECK_WINDOW (R432). -/
def execBitlockCheckWindow (link : Fin 128) (locked : BitVec 17) (s : State) : Res := .next (s.doBitWindow link locked)
/-- BITLOCK_DONE (R421). -/
def execBitlockDone (link : Fin 128) (errored : BitVec 17) (s : State) : Res := .next (s.doBitDone link errored)
/-- ALIGNMENT_MARKER_RECEIVE (R437). -/
def execAlignmentMarkerReceive (link : Fin 128) (lane : Fin 17) (marker : BitVec 132) (s : State) : Res := .next (s.doMarker link lane marker)
/-- FRAME_ATTEMPT_TIMEOUT (R421). -/
def execFrameAttemptTimeout (link : Fin 128) (s : State) : Res := .next (s.doFrameTimeout link)
/-- CAPABILITY_BLOCK_RECEIVE (R441). -/
def execCapabilityBlockReceive (link : Fin 128) (block : BitVec 2048) (s : State) : Res := .next (s.doCapBlock link block)
/-- CAPX_TIMEOUT (R421). -/
def execCapxTimeout (link : Fin 128) (s : State) : Res := .next (s.doCapTimeout link)
/-- LINK_ACTIVE (R441). -/
def execLinkActive (link : Fin 128) (flight : Nat) (s : State) : Res := .next (s.doLinkActive link flight)
/-- LOSS_OF_LOCK (R443). -/
def execLossOfLock (link : Fin 128) (lane : Fin 17) (_cause : LockLoss) (s : State) : Res := .next (s.doLoss link lane)

end Sys2Proof.Machine
end

