-- ==== Sys2Proof/Machine/Shanks.lean ====
section
/-! DEFINITION. Shank pairs, the standby, takeover, resynchronisation, calibration records and the replace request (16). -/

namespace Sys2Proof.Machine

/-- The size of a journal copy (14 R645). -/
def jnlBytes : Nat := 65536 * 64

namespace State

/-- The die of the standby (16, SHK_STATE). -/
def standbyPos (s : State) : Nat := if s.shk.standbyP0 then 0 else 2

/-- The location of a die (15 R662). -/
def dieLoc (n : Nat) : Loc := { kind := 1, unit := n }

/-- SHANK_ROLE of a die (01 R25). -/
def setRole (s : State) (n role : Nat) : State :=
  { s with boot := { s.boot with ident := s.boot.ident.upd {} n (fun d => { d with role := role }) } }

/-- A pair's state, and the same replaced. -/
def pair (s : State) (n : Nat) : Pair := s.shk.pairs.get .running n
def setPair (s : State) (n : Nat) (x : Pair) : State := { s with shk := { s.shk with pairs := s.shk.pairs.set .running n x } }

/-- The shanks run: out of reset and not stopped for good. -/
def shanksRun (s : State) : Bool :=
  match s.boot.phase with
  | .heldReset => false
  | .shankFailed => false
  | .headless => false
  | _ => !s.shk.headless

/-! ### Replace request (R732-R735) -/

/-- REPLACE_N is driven low (R733, R734, R722 section). -/
def driveReplace (s : State) : State :=
  let mask := s.bits (mgtBase + 0x10108) 0 7
  let want := s.mgt.replaceForced || s.mgt.replace.toNat &&& (127 - mask) != 0
  let s1 := { s with mgt := { s.mgt with replaceLow := want } }
  if want && !s.mgt.replaceLow then s1.setDword (mgtBase + 0x10110) s.clk.now else s1

/-- P1 or P2 drives REPLACE_N low by itself (R722 section; 15 R673 section). -/
def forceReplace (s : State) : State := { s with mgt := { s.mgt with replaceForced := true } }.driveReplace

/-- The spare wavelength of a link carries a logical lane, or is retired or dark, in a direction seen here (R732 bit 0). -/
def spareSpent (s : State) (l : Nat) : Bool :=
  let r := s.lnk l
  r.txSpare != 31 || r.rxSpare != 31 || r.retired.getLsbD r.spareCh || r.partnerRetired.getLsbD r.spareCh ||
    (s.opt.lit && !s.channelLit (chanOf (l / 32) (l % 32 / 8) r.spareCh))

/-- Channels of a group on their spares or lost (R732 bit 1). -/
def groupWorn (s : State) (y g : Nat) : Bool :=
  let ch := (List.range 17).map (fun k => s.chOf (chanOf y g k))
  decide (4 ≤ (ch.filter (fun c => c.spare == .bus)).length) || ch.any (fun c => c.lost)

/-- The triggers that hold, with the links that have met LANES for 60 s (R732). -/
def triggers (s : State) (lanes : Nat) : Nat :=
  let hbm := s.mgt.replace.getLsbD 3 || s.hbm.known && (List.range 8).any (fun h => decide (s.leftPct h < 10))
  b2n (decide (4 < lanes)) +
  2 * b2n ((List.range 16).any (fun i => s.groupWorn (i / 4) (i % 4))) +
  4 * b2n (s.shk.standby != .inStep && decide (s.shk.lostSince + 1000000000 ≤ s.clk.now)) +
  8 * b2n hbm +
  16 * b2n ((List.range 4).any (fun y => (s.opt.base.get {} y).high == 7)) +
  32 * b2n (s.opt.lanes.any (fun p => p.2.guardOut)) +
  64 * b2n (s.br.feedOk.contains false)

/-- REPLACE_TRIGGER_CHANGE: ACTIVE, LATCH, 0x1007 with the trigger in DETAIL, and the pin (R732-R734). `lanes`: the links that have met LANES continuously for 60 s; LANES stops only when 4 or fewer have met it for 60 s. -/
def doReplace (s : State) (lanes : List (Fin 128)) : State :=
  if !s.shanksRun || s.activeHalted || s.boot.phase == .sole then s
  else
    let n := ((List.range 128).filter (fun l => lanes.any (fun x => x.val == l) && s.spareSpent l)).length
    let old := s.mgt.replace.toNat
    let few := decide (n ≤ 4) && old.testBit 0
    let since := s.mgt.lanesLow.getD s.clk.now
    let holds := few && decide (s.clk.now < since + 60000000000)
    let now := s.triggers (if holds then 5 else n)
    let fresh := (List.range 7).filter (fun b => now.testBit b && !old.testBit b)
    let s1 := { s with mgt := { s.mgt with replace := BitVec.ofNat 7 now, laneLinks := n, lanesLow := if holds then some since else none } }
    let s2 := s1.setWord (mgtBase + 0x10104) (s1.word (mgtBase + 0x10104) ||| BitVec.ofNat 32 now)
    (fresh.foldl (fun (s : State) b => s.record 0x1007 {} b) s2).driveReplace

/-! ### Loss of the standby and the headless package (R714, R715, R722) -/

/-- The standby is lost; resynchronisation begins (R714, R715, R723). -/
def loseStandby (s : State) : State :=
  match s.shk.standby with
  | .inStep =>
    let s1 := (s.setRole s.standbyPos 0).setDword (bootBase + 0x8020) s.clk.now
    { s1 with shk := { s1.shk with standby := .resync, lostSince := s.clk.now, fails := 0 } }
  | _ => s

/-- No standby at an active fault: P1 records 0x1006 and drives REPLACE_N (R722). A package that has not started stops at once. -/
def goHeadless (s : State) : State :=
  let s1 := (s.record 0x1006 (dieLoc 1)).forceReplace
  let s2 := { s1 with shk := { s1.shk with headless := true, standby := .none }, cmd := { s1.cmd with rolePend := none } }
  if s2.started then s2 else { s2 with boot := { s2.boot with phase := .headless } }

/-- A pair miscompares, or its watchdog expires (R707-R709, R714, R716), unless the awl holds it halted (18 R807). -/
def pairFault (s : State) (n code : Nat) : State :=
  if !s.shanksRun || s.pair n != .running || s.awlHalted n then s
  else if n = s.activePos then
    let s1 := (s.setPair n .halted).record code (dieLoc n)
    if s.shk.standby = .inStep then { s1 with shk := { s1.shk with fault := some code } } else s1.goHeadless
  else if n = s.standbyPos then
    (if s.shk.standby = .inStep then (s.record 0x1003 (dieLoc n)).loseStandby else s)
  else s.record 0x1004 (dieLoc n)

/-- A watchdog expires (R708). -/
def doWatchdog (s : State) (n : Nat) : State := s.pairFault n (if n = s.activePos then 0x1002 else 0x1001)

/-- FEED_FAILURE: 0x080A, and the standby is lost (R715; 08 R349). -/
def doFeedFailure (s : State) (slice : Nat) : State :=
  if !s.shanksRun then s
  else
    let s1 := { s with br := { s.br with feedOk := s.br.feedOk.set slice false } }
    (s1.record 0x080A { kind := 4, unit := slice, a := 0xFFFF }).loseStandby

/-! ### Takeover (R717-R722) and planned transfer (R727) -/

/-- The standby takes the active role: SHANK_ROLE, JNL_BASE and the control port follow, and the feed turns toward the pair that resynchronises (R712, R717, R719, R723; 08 R308). -/
def promote2 (s : State) (old : Pair) : State :=
  let a := s.activePos
  let b := s.standbyPos
  let s1 := (((s.setRole a 0).setRole b 1).setPair a old).bump (bootBase + 0x8008)
  let s2 := s1.setDword (bootBase + 0x8010) s.clk.now
  { s2 with
    shk := { s2.shk with activeP2 := !s.shk.activeP2, standbyP0 := !s.shk.activeP2, feedToP0 := !s.shk.activeP2, standby := .resync, lostSince := s.clk.now, fails := 0 }
    cmd := { s2.cmd with rolePend := none } }

/-- An output of the package partition, and none of the bridges or the lanes. -/
def ofPartition (o : Out) : Bool :=
  match o with
  | .row _ _ _ => false
  | .words _ _ => false
  | .flit _ _ _ _ _ => false
  | _ => true

/-- OSEQ, the output sequence number that the next output of the package partition carries (R711): outputs are numbered as they leave, and a takeover goes on from there, so that none is lost or issued twice (R717; notes/assumptions/34). -/
def oseq (s : State) : DWord := BitVec.ofNat 64 (s.out.filter ofPartition).length

/-- TAKEOVER: the FAULT mark reaches the standby, which promotes itself (R717, R722). -/
def doTakeover (s : State) : State :=
  match s.shk.fault with
  | none => s
  | some c =>
    if s.shk.headless then s
    else if s.shk.standby = .inStep then
      let s1 := s.promote2 .reset
      { s1 with shk := { s1.shk with fault := none, promoted := some c } }
    else { s with shk := { s.shk with fault := none } }.goHeadless

/-- A ROLE_TRANSFER at its boundary (R727, R728). -/
def roleTransfer (s : State) : State :=
  if s.shk.standby = .inStep then
    let s1 := (s.promote2 .running).record 0x100B
    s1.journalReset 4 0x100B
  else { s with cmd := { s.cmd with rolePend := none } }.record 0x1009

/-! ### Resynchronisation (R723-R726) -/

/-- The journal copy of the active shank, copied to the joining pair's (R723 step 3). -/
def copyJournal (s : State) : State :=
  let src := if s.shk.activeP2 then jnlP2 else jnlP0
  let dst := if s.shk.activeP2 then jnlP0 else jnlP2
  if s.rangeOut src jnlBytes || s.rangeOut dst jnlBytes then s
  else
    let moved := (s.mem.filter (fun p => decide (src ≤ p.1 ∧ p.1 < src + jnlBytes))).map (fun p => (p.1 - src + dst, p.2))
    let m := moved.foldl (fun (m : Mem) p => m.setByte p.1 p.2) (s.mem.clear dst jnlBytes)
    let s1 := { s with mem := m, memErr := s.memErr.filter (fun e => !decide (dst / 32 ≤ e.1 ∧ e.1 < (dst + jnlBytes) / 32)) }
    (s.ownUnits.filter (fun p => decide (src ≤ p.1 ∧ p.1 < src + jnlBytes))).foldl (fun s p => s.queueOwn (p.1 - src + dst) p.2) s1

/-- The joining pair is in step (R723). -/
def standbyJoins (s : State) : State :=
  let s1 := ((s.copyJournal.setPair s.standbyPos .running).setRole s.standbyPos 2).bump (bootBase + 0x8018)
  { s1 with shk := { s1.shk with standby := .inStep, fails := 0, feedToP0 := s.shk.standbyP0 } }

/-- A step of resynchronisation failed; the third in a row leaves the joining shank in reset (R725). -/
def resyncFails (s : State) : State :=
  let s1 := s.record 0x1004 (dieLoc s.standbyPos)
  let n := s.shk.fails + 1
  if 3 ≤ n then
    { (s1.setPair s.standbyPos .reset) with shk := { (s1.setPair s.standbyPos .reset).shk with standby := .failed, fails := n } }
  else { s1 with shk := { s1.shk with standby := .none, fails := n } }

/-- RESYNCHRONISATION: every step passed, or one failed (R723, R725). -/
def doResync (s : State) (ok : Bool) : State :=
  if s.shanksRun && !s.activeHalted && !s.awlHalted s.standbyPos && s.shk.standby == .resync then (if ok then s.standbyJoins else s.resyncFails) else s

/-- RESYNC_RETRY: 1 s after a failed step (R725). -/
def doResyncRetry (s : State) (ok : Bool) : State :=
  if s.shanksRun && !s.activeHalted && !s.awlHalted s.standbyPos && s.shk.standby == .none && decide (0 < s.shk.fails) && decide (s.shk.fails < 3) then
    (if ok then s.standbyJoins else s.resyncFails)
  else s

/-! ### Calibration records (R729, R730) -/

/-- CAL_RECORD_REFRESH: every chiplet's record. -/
def doCalRefresh (s : State) : State :=
  if s.shanksRun && !s.activeHalted && s.boot.phase != .sole then (List.range 4).foldl refreshCal s else s

end State

/-! ### Meanings -/

/-- PAIR_MISCOMPARE (R707). -/
def execPairMiscompare (die : Fin 4) (s : State) : Res := .next (s.pairFault die 0x1001)
/-- SHANK_WATCHDOG_EXPIRY (R708). -/
def execShankWatchdogExpiry (die : Fin 4) (s : State) : Res := .next (s.doWatchdog die)
/-- TAKEOVER (R717). -/
def execTakeover (s : State) : Res := .next s.doTakeover
/-- RESYNCHRONISATION (R723). -/
def execResynchronisation (ok : Bool) (s : State) : Res := .next (s.doResync ok)
/-- RESYNC_RETRY (R725). -/
def execResyncRetry (ok : Bool) (s : State) : Res := .next (s.doResyncRetry ok)
/-- CAL_RECORD_REFRESH (R730). -/
def execCalRecordRefresh (s : State) : Res := .next s.doCalRefresh
/-- REPLACE_TRIGGER_CHANGE (R732). -/
def execReplaceTriggerChange (lanes : List (Fin 128)) (s : State) : Res := .next (s.doReplace lanes)
/-- FEED_FAILURE (R715). -/
def execFeedFailure (slice : Fin 2) (s : State) : Res := .next (s.doFeedFailure slice)
/-- PORT_A_SHANK_FAILED_REPLACE (15 R673). -/
def execPortAShankFailedReplace (s : State) : Res := .next (if s.boot.phase = .shankFailed then s.forceReplace else s)

end Sys2Proof.Machine
end

