-- ==== Sys2Proof/Machine/Boundary.lean ====
section
/-! DEFINITION. The epoch boundary: queue snapshot, pending latch, page preload, check point, boundary step and the fabric watchdog (02 R63-R112; 07 R283-R305; 12 R528, R536, R549, R557-R560). -/

namespace Sys2Proof.Machine

/-- An epoch number moved by a jump of the package's own (12 R528, R560). -/
def moveEpoch (d : Int) (x : Nat) : Nat := ((x : Int) + d).toNat

/-- The last-owned fields of a last's claims, by BAR0 offset and mask (20 R857): TIL_ROW_MODE bits, SFU_CTL and SFU_EPS, FB_CTL_k. -/
def ownedFields (l : Last) : List (Nat × Word) :=
  ((List.range 32).filter (fun r => l.rowMask.testBit r)).flatMap (fun r =>
    (tilBase (r / 8) + 0x10, BitVec.ofNat 32 (2 ^ (r % 8))) ::
      (List.range 4).flatMap (fun c => [(tileReg (State.tileOf r c) + 0x10, 1#32), (tileReg (State.tileOf r c) + 0x14, 0xFFFFFFFF#32)])) ++
  l.sections.claims.barriers.flatMap (fun k =>
    [(ctxBase + 0x1000 + 4 * k.val, 0xFFF#32), (ctxBase + 0x1000 + 4 * k.val, 0xFFF0000#32)])

/-- The epoch offset of the next write of a SET section to a field after epoch `e`. -/
def nextOff (l : Last) (e : Nat) (f : Nat × Word) : Option Nat :=
  (l.sections.sets.filter (fun w => decide (e < l.start + w.off) && w.reg == f.1 && w.mask &&& f.2 != 0#32)).foldl
    (fun (m : Option Nat) w => match m with
      | some x => some (min x w.off)
      | none => some w.off) none

/-- The bits that the writes of a SET section at an epoch offset give to a word. -/
def setValue (l : Last) (off j : Nat) (w : Word) : Word :=
  (l.sections.sets.filter (fun x => x.reg == off && x.off == j)).foldl (fun v x => (v &&& ~~~x.mask) ||| (x.value &&& x.mask)) w

namespace State

/-! ### Queue snapshot (R107; 07 R283, R292, R299) -/

/-- The waits that a snapshot satisfies (07 R299). -/
def satisfy (s : State) (w : HostWait) : HostWait :=
  if w.left ≠ 0 ∧ w.sat.isNone ∧ w.value ≤ (s.obj w.obj).c then { w with sat := some (s.obj w.obj).c } else w

/-- QUEUE_SNAPSHOT: late contexts leave with 0x0705, then queues, allowances and waits are taken. -/
def doSnapshot (s : State) : State :=
  if !s.snapTime || s.clk.snapped then s
  else
    let late := (s.ctx.live.filter (fun c => c.phase == .queued && decide (s.ctxField c.idx 0x28 8 < s.clk.epoch + 1))).map (fun c => c.idx)
    let s1 := late.foldl (fun (s : State) i => s.endCtx i 0x705) s
    { s1 with
      clk := { s1.clk with snapped := true }
      ctx := { s1.ctx with snap := s1.ctx.queues }
      sync := { s1.sync with objs := s1.sync.objs.map (fun p => (p.1, { p.2 with allowNext := p.2.c })), waits := s1.sync.waits.map s1.satisfy } }

/-! ### Pending latch (R58, R85, R92, R109; 10 R456; 11 R513) -/

/-- A last still in validation whose latch passes is rejected (R58): its entry is free at once (R108). DESIGN CHOICE: where several loads in validation miss one latch, only the first of them fails here; each other one fails with the same code when its own validation ends (notes/assumptions/54). -/
def missLatch (s : State) (x : Nat) : State :=
  match s.activeHalted, s.cmd.lasts.find? (fun p => p.2.st == .validating && p.2.start == x) with
  | true, _ => s
  | _, none => s
  | false, some p =>
    let s1 := { s with cmd := { s.cmd with lasts := s.cmd.lasts.del p.1 } }
    match s1.cmd.current with
    | some c => if c.jseq = p.2.jseq then (s1.endWork 0x020D p.2.id).startWork else s1
    | none => s1

/-- A move of this end that was not acknowledged is cancelled and asked for again (10 R456); an unanswered rejoin is proposed again (11 R513). -/
def latchLink (s : State) (x l : Nat) : State :=
  let r := s.lnk l
  let s1 := match r.txMove with
    | some m =>
      if !m.acked && decide (m.epoch ≤ x) then
        (s.setLnk l { r with txMove := none, want := (m.lane, m.back) :: r.want }).record 0x0A0B (linkLoc l (waveOf m.lane r.spareCh))
      else s
    | none => s
  match (s1.lkk l).proposed with
  | some e => if e ≤ x then (s1.setLkk l { s1.lkk l with proposed := none }).record 0x0B09 (linkLoc l) else s1
  | none => s1

/-- Rows to preload before the boundary into `x` (03 R914). -/
def rowsToPreload (s : State) (x : Nat) : List Nat :=
  s.cmd.lasts.flatMap (fun p => if p.2.st == .staged && p.2.start == x then p.2.later else [])

/-- PENDING_LATCH. -/
def doLatch (s : State) : State :=
  if s.started && s.abort.isNone && decide (s.epochN ≤ s.clk.cycle + 512) && s.clk.snapped && !s.clk.latched then
    let x := s.clk.epoch + 1
    let s1 := s.missLatch x
    let s2 := (s1.ln.map (fun p => p.1)).foldl (fun (s : State) l => s.latchLink x l) s1
    let s3 := s2.fillSlots s2.ctx.snap x
    { s3 with clk := { s3.clk with latched := true, preload := s3.rowsToPreload x } }
  else s

/-! ### Page preload (03 R914) -/

/-- Pages 0 to min(31, LENGTH / 4,096 − 1) of a row program, into the page slots; none from a channel group out of service (06 R919). -/
def preloadRow (s : State) (e : SeqEnt) : State :=
  let n := min 32 (e.len / 4096)
  let held := (List.range n).filter (fun p => !s.rangeOut (e.addr + 4096 * p) 4096)
  let pages := held.map (fun p => (p, ({ page := p, usable := true, bytes := s.peek (e.addr + 4096 * p) 4096 } : Page)))
  s.setSeq e.row { s.seq e.row with pages := pages }

/-- PAGE_PRELOAD of a row, from t = −16 of the boundary into its last's START_EPOCH. -/
def doPreload (s : State) (r : Nat) : State :=
  if s.clk.preload.contains r && decide (s.epochN ≤ s.clk.cycle + 16) then
    let e := (s.cmd.lasts.find? (fun p => p.2.st == .staged && p.2.start == s.clk.epoch + 1 && p.2.later.contains r)).bind (fun p => p.2.seqs.find? (fun e => e.row == r))
    let s1 := match e with
      | some e => s.preloadRow e
      | none => s
    { s1 with clk := { s1.clk with preload := s1.clk.preload.filter (fun x => x != r) } }
  else s

/-! ### Check point (R99, R104; 07 R301) -/

/-- FB_CTL_k: ARRIVE_SY and DONE_SY (20). -/
def arriveSy (s : State) (k : Nat) : Nat := s.bits (ctxBase + 0x1000 + 4 * k) 0 12
def doneSy (s : State) (k : Nat) : Nat := s.bits (ctxBase + 0x1000 + 4 * k) 16 12

/-- A barrier of the last samples its ARRIVE_SY (07 R301, R302). -/
def sampleBarrier (s : State) (k : Nat) : State :=
  let b := s.sync.barriers.get {} k
  let a := s.arriveSy k
  let o := s.obj a
  if b.arrived || o.c == 0 then s
  else
    let s1 := s.setObj a { o with c := o.c - 1, taken := o.taken + 1 }
    { s1 with sync := { s1.sync with barriers := s1.sync.barriers.set {} k { b with arrived := true } } }

/-- The barriers that resident lasts claim, in number order. -/
def claimedBarriers (s : State) : List Nat :=
  (s.cmd.lasts.flatMap (fun p => if p.2.st == .running then p.2.sections.claims.barriers.map (fun b => b.val) else [])).mergeSort (fun a b => decide (a ≤ b))

/-- A link that still owes landings is late: its slack of the epoch is 0 (R104). -/
def lateSlack (s : State) (l : Nat) : State :=
  if s.owed l ≤ (s.lkk l).landed then s else s.setWord (lkReg l + 0x44) 0#32

/-- CHECK_POINT. -/
def doCheck (s : State) : State :=
  if s.started && s.abort.isNone && decide (s.checkC ≤ s.clk.cycle) && !s.clk.checked then
    let s1 := s.claimedBarriers.foldl sampleBarrier s
    let s2 := { s1 with clk := { s1.clk with checked := true } }
    if s2.allLanded then s2.becomeReady false
    else (s2.lk.map (fun p => p.1)).foldl lateSlack s2
  else s

/-! ### The boundary step: pauses and epoch numbers (R64, R94-R96, R104; 12 R528, R560) -/

/-- Held boundaries and alignment pauses (R95, R96, R104); the boundary step after an abort counts as neither (12 R556). DESIGN CHOICE: a boundary that the fabric watchdog forces has no release; its pause is added to FAB_ALIGN_NS (notes/assumptions/55). -/
def countPause (s : State) (late : Bool) : State :=
  if s.abort.isSome then s
  else
    let dt := match s.clk.pauseFrom with
      | some t => s.clk.now - t
      | none => 0
    if late then (s.bump (fabBase + 0x100)).addDword (fabBase + 0x108) dt else s.addDword (fabBase + 0x110) dt

/-- Everything that names an epoch moves with a jump of the epoch number: pending copies, the DEADLINEs that contexts have (from QUEUED on, 07 R282), lasts (12 R528, R560). -/
def shiftEpochs (s : State) (d : Int) : State :=
  if d = 0 then s
  else
    let s1 := s.ctx.live.foldl (fun (s : State) c =>
      let x := s.ctxField c.idx 0x28 8
      if (c.phase == .queued || c.phase == .bound || c.phase == .done) && x != 2 ^ 64 - 1 then s.setCtxField c.idx 0x28 8 (moveEpoch d x) else s) s
    { s1 with
      pend := s1.pend.map (fun p => { p with epoch := moveEpoch d p.epoch })
      ctx := { s1.ctx with msPend := s1.ctx.msPend.map (fun m => { m with epoch := moveEpoch d m.epoch }) }
      cmd := { s1.cmd with
        lasts := s1.cmd.lasts.map (fun p => (p.1, { p.2 with start := moveEpoch d p.2.start, leave := p.2.leave.map (moveEpoch d) }))
        current := s1.cmd.current.map (fun c => { c with accepted := moveEpoch d c.accepted })
        work := s1.cmd.work.map (fun c => { c with accepted := moveEpoch d c.accepted })
        overridePend := s1.cmd.overridePend.map (fun p => (p.1, moveEpoch d p.2))
        rolePend := s1.cmd.rolePend.map (moveEpoch d) }
      ln := s1.ln.map (fun p => (p.1, { p.2 with
        txMove := p.2.txMove.map (fun m => { m with epoch := moveEpoch d m.epoch })
        rxMove := p.2.rxMove.map (fun m => { m with epoch := moveEpoch d m.epoch }) }))
      lk := s1.lk.map (fun p => (p.1, { p.2 with rejoinAt := p.2.rejoinAt.map (moveEpoch d), proposed := p.2.proposed.map (moveEpoch d) })) }

/-! ### Lasts that leave and start (R61, R65, R88; 08 R346; 12 R559; 17 R761) -/

/-- Why a last leaves at the boundary into `x`, if it does: its run or a command ends it (0), the watchdog or a STOP, a channel group out of service (06 R261; notes/assumptions/52), a bridge that failed its retrain, a fourth abort. -/
def leaveCause (s : State) (x : Nat) (stop : Bool) (l : Last) : Option Nat :=
  if l.st = .validating then none
  else if s.abort.isSome ∧ s.abortRun.1 = s.clk.epoch ∧ 4 ≤ s.abortRun.2 then some 0x1103
  else if stop ∧ 1 < l.pkgCount then some 0x0C05
  else if l.sections.claims.hbm.any (fun r => s.rangeOut r.1 r.2) then some 0x0609
  else if s.abort.isSome ∧ (l.brgs.any (fun b => decide (b.key % 8 < 4) && s.bridge (b.key % 8) == .down) ∨ l.routes.any (fun b => s.bridge b == .down)) then some 0x080C
  else match l.leaves with
    | some y => if y ≤ x then some 0 else none
    | none => none

/-- A last leaves: its claims are free, an unfinished arrival at one of its barriers with them (notes/assumptions/53), its armed settings are discarded with 0x0223, the journal notes it (R61, R88, 14 R647). -/
def departLast (s : State) (p : Nat × Last × Nat) : State :=
  let gone := s.pend.filter (fun q => q.owner == some p.1)
  let mine := fun (k : Nat) => p.2.1.st == .running && p.2.1.sections.claims.barriers.any (fun b => b.val == k)
  let s1 := { s with
    cmd := { s.cmd with lasts := s.cmd.lasts.del p.1 }
    sync := { s.sync with barriers := s.sync.barriers.map (fun b => (b.1, if mine b.1 then { b.2 with arrived := false } else b.2)) }
    pend := s.pend.filter (fun q => q.owner != some p.1) }
  let s2 := gone.foldl (fun (s : State) q => s.record 0x0223 {} q.off) s1
  s2.journal { kind := 3, status := p.2.2, arg0 := p.2.1.id, arg1 := p.1 }

/-- Every last that leaves at the boundary into `x`, with its cause, in order of residency index. -/
def leavers (s : State) (x : Nat) (stop : Bool) : List (Nat × Last × Nat) :=
  s.cmd.lasts.filterMap (fun p => (s.leaveCause x stop p.2).map (fun c => (p.1, p.2, c)))

/-- Arm one field of a last: the copy that its SET section's next write makes, over the cold value at offset 0 and over the active copy later (R82, R87, 20 R858). -/
def armField (p : Nat × Last) (s : State) (f : Nat × Word) : State :=
  match nextOff p.2 s.clk.epoch f with
  | none => s
  | some j =>
    if s.pend.any (fun q => q.owner == some p.1 && q.off == f.1 && q.mask == f.2) then s
    else { s with pend := s.pend ++ [⟨f.1, f.2, setValue p.2 f.1 j (if j = 0 then coldWord f.1 else s.word f.1) &&& f.2, p.2.start + j, some p.1⟩] }

/-- Arm the next write of each field of a last's claims: of several writes to one field only the earliest is armed (notes/assumptions/44). -/
def armSets (s : State) (p : Nat × Last) : State := (ownedFields p.2).foldl (armField p) s

/-- Last-owned fields that the SET section does not write at epoch offset 0 start at their cold values (20 R858). -/
def coldOwned (s : State) (l : Last) : State :=
  (ownedFields l).foldl (fun (s : State) f =>
    if l.sections.sets.any (fun w => w.off == 0 && w.reg == f.1 && w.mask &&& f.2 != 0#32) then s
    else s.setWord f.1 (mergeBits (s.word f.1) f.2 (coldWord f.1))) s

/-- Staged lasts whose START_EPOCH has come run, with their last-owned fields; the journal notes it (20 R858, 14 R647). -/
def startLasts (s : State) (x : Nat) : State :=
  (s.cmd.lasts.filter (fun p => p.2.st == .staged && decide (p.2.start ≤ x))).foldl (fun (s : State) p =>
    ((s.modLast p.1 (fun l => { l with st := .running })).coldOwned p.2).journal { kind := 3, arg0 := p.2.id, arg1 := p.1 }) s

/-- A row whose mode differs from the state before: every quarter's staging pointer returns to half A (03 R147). DESIGN CHOICE: a SET of the mode that the row has already, at a hand-over between two lasts too, changes no mode and moves no pointer (notes/assumptions/56). -/
def modeChanges (old s : State) : State :=
  ((List.range 32).filter (fun r => old.serving r != s.serving r)).foldl (fun (s : State) r =>
    (List.range 4).foldl (fun (s : State) c =>
      let t := s.tile (tileOf r c)
      s.setTile (tileOf r c) ((List.range 4).foldl (fun (t : Tile) q => t.setUnit q { t.unit q with halfB := false }) t)) s) s

/-- EPOCH_K and A_FAB in force: those of the resident lasts, or FAB_TIMING's (R65). -/
def setTiming (s : State) : State :=
  match s.cmd.lasts.find? (fun p => p.2.st == .running) with
  | some p => { s with clk := { s.clk with ek := p.2.ek, afab := p.2.afab } }
  | none => { s with clk := { s.clk with ek := s.bits (fabBase + 0x38) 0 5, afab := (s.word (fabBase + 0x3C)).toNat } }

/-! ### Contexts at the boundary (07 R276, R277, R287, R288; 06 R919) -/

/-- Contexts return to the heads of their queues and count as requeued (07 R288). -/
def returnCtxs (s : State) (l : List Nat) : State :=
  l.foldl (fun (s : State) i => s.bump (ctxStat (ctxDie i) 12)) (s.requeueHead l)

/-- What the end of an epoch does with the contexts bound into it: DONE ones are final, BOUND ones return; those of a reset ring are freed (07 R287, R288; 17 R747). -/
def finishCtxs (s : State) (l : List Nat) : State :=
  let ph := fun (i : Nat) => (s.ctxInfo i).map (fun c => (c.phase, c.silent))
  let done := l.filter (fun i => ph i == some (.done, false) || ph i == some (.done, true) || ph i == some (.bound, true))
  let back := l.filter (fun i => ph i == some (.bound, false))
  (done.foldl (fun (s : State) i => s.endCtx i 0) s).returnCtxs back

/-- Contexts bound into the coming epoch for a last that left return (07 R288); the bindings of the others stand. -/
def takeBindings (s : State) : State :=
  let stays := fun (b : Binding) => (s.cmd.lasts.find b.last).isSome
  let s1 := { s with ctx := { s.ctx with bindNow := s.ctx.bindNext.filter stays, bindNext := [], snapNow := s.ctx.snap } }
  s1.returnCtxs (boundCtxs (s.ctx.bindNext.filter (fun b => !stays b)))

/-- The contexts of a slot that wait, on their way or in its queues. -/
def waitingCtxs (s : State) (m : Nat) : List Nat :=
  (s.ctx.live.filter (fun c => (c.phase == .posted || c.phase == .staging || c.phase == .copied || c.phase == .queued) && s.ctxField c.idx 2 2 == m)).map
    (fun c => c.idx)

/-- An MS_LOAD takes effect (07 R276, R277; 13 R589). -/
def msEffect (s : State) (m : MsPend) : State :=
  let old := s.slot m.ms
  let drop := m.unload || (old.loaded && (m.record.home != old.home || decide (old.inMax < m.record.inMax) || decide (old.outLen < m.record.outLen)))
  let s1 := if drop then (s.waitingCtxs m.ms).foldl (fun (s : State) i => s.endCtx i 0x703) s else s
  let rec' := if m.unload then { old with loaded := false } else { m.record with loaded := true }
  let s2 := { s1 with ctx := { s1.ctx with slots := s1.ctx.slots.set {} m.ms rec' } }
  let s3 := s2.journal { kind := 3, arg0 := m.ms }
  if m.mute then s3 else s3.complete m.sq m.cid m.cq 2 0

/-- The MS_LOADs whose boundary has come. -/
def msEffects (s : State) (x : Nat) : State :=
  let due := s.ctx.msPend.filter (fun m => decide (m.epoch ≤ x))
  due.foldl msEffect { s with ctx := { s.ctx with msPend := s.ctx.msPend.filter (fun m => !decide (m.epoch ≤ x)) } }

/-- Contexts whose records lie in a channel group out of service end with 0x0609 (06 R919). -/
def outCtxs (s : State) : State :=
  if s.hbm.groupOut.isEmpty then s
  else ((s.ctx.live.filter (fun c => c.phase != .final && s.rangeOut (s.recAddr c.idx) 64)).map (fun c => c.idx)).foldl
    (fun (s : State) i => s.endCtx i 0x609) s

/-! ### Host waits, marks, barriers, objects (07 R292, R299-R303; 13 R595) -/

/-- Satisfied waits complete; the others have one epoch less (07 R299). -/
def stepWaits (s : State) : State :=
  let done := s.sync.waits.filter (fun w => w.sat.isSome)
  let rest := (s.sync.waits.filter (fun w => w.sat.isNone)).map (fun w => { w with left := w.left - 1 })
  done.foldl (fun (s : State) w => s.complete w.sq w.cid w.cq 6 0) { s with sync := { s.sync with waits := rest } }

/-- EPOCH_MARKs whose boundary has come (13). -/
def stepMarks (s : State) (x : Nat) : State :=
  let done := s.host.marks.filter (fun m => decide (m.epoch ≤ x))
  done.foldl (fun (s : State) m => s.complete m.sq m.cid m.cq 7 0)
    { s with host := { s.host with marks := s.host.marks.filter (fun m => !decide (m.epoch ≤ x)) } }

/-- A barrier of a last that was resident in the epoch completes (07 R303; 12 R549). -/
def finishBarrier (s : State) (k : Nat) : State :=
  let b := s.sync.barriers.get {} k
  if s.claimedBarriers.contains k && b.arrived then
    { s with sync := { s.sync with barriers := s.sync.barriers.set {} k { gen := b.gen + 1, arrived := false } } }.synAdd (s.doneSy k) 1
  else s

/-- Objects enter the epoch (07 R292, R300). -/
def stepObjs (s : State) : State :=
  { s with sync := { s.sync with objs := s.sync.objs.map (fun p =>
      (p.1, { p.2 with allow := p.2.allowNext, allowAt := p.2.allowNext, atBoundary := p.2.c, hostSince := 0, taken := 0 })) } }

/-! ### Settings that become active (R84) and what follows from them -/

/-- What a pending copy that becomes active starts: a ring (13 R583, R611), a link turned off or on (10, LN_CTL), a fabric joined (12 R528). -/
def afterPend (s : State) (p : Pend) : State :=
  let w := s.word p.off
  if hifBase + 0x10000 ≤ p.off ∧ p.off < hifBase + 0x50000 ∧ p.off % 0x40 = 0x10 ∧ p.mask.getLsbD 16 then
    let q := (p.off - hifBase - 0x10000) / 0x40
    if w.getLsbD 16 then
      s.setRing q { s.ring q with sqTail := 0, sqHead := 0, cqTail := 0, cqHead := 0, phase := true, stopped := false, stopCode := 0, armed := true }
    else s
  else if 0x800000 ≤ p.off ∧ p.off < fabBase ∧ p.off % 0x100000 / 0x20000 = 1 ∧ p.off % 0x1000 = 0x10 ∧ p.mask.getLsbD 0 then
    let l := 32 * ((p.off - 0x800000) / 0x100000) + p.off % 0x20000 / 0x1000
    if w.getLsbD 0 then s.toDetect l else s.linkDown l
  else if p.off = fabBase + 0x10 ∧ p.mask.getLsbD 0 then
    { s with fab := { s.fab with adopt := w.getLsbD 0 } }
  else s

/-- The pending copies of the boundary into `x`, DARK aside. -/
def settings (s : State) (x : Nat) : State :=
  let due := (s.pend.filter (s.dueNow x)).filter (fun p => p.off != 0x210)
  let keep := s.pend.filter (fun p => p.off == 0x210)
  let s1 := { s with pend := s.pend.filter (fun p => p.off != 0x210) }.applyPends x
  due.foldl afterPend { s1 with pend := s1.pend ++ keep }

/-- Heaters off (17 R767). -/
def heatersOff (s : State) : State :=
  { s with opt := { s.opt with rings := s.opt.rings.foldl (fun (t : Tbl RingH) (p : Nat × RingH) => t.set {} p.1 { p.2 with code := 0 }) s.opt.rings } }

/-- In dark-idle, and not leaving it (17 R767). -/
def isDark (s : State) : Bool := s.mgt.dark == .entered || s.mgt.dark == .idle

/-- PKG_POWER_CTL.DARK at its boundary: entry where its conditions hold, else 0x1106; exit; a write of the state it is in changes nothing (17 R766-R769). -/
def darkStep (s : State) (x : Nat) : State :=
  match s.pend.find? (fun p => p.off == 0x210 && decide (p.epoch ≤ x)) with
  | none => s
  | some p =>
    let s1 := { s with pend := s.pend.filter (fun q => q.off != 0x210) }
    if p.value.getLsbD 0 then
      if s.cmd.lasts.any (fun q => q.2.st != .validating) || !s.ctx.live.isEmpty || s.joined then s1.record 0x1106
      else if s.isDark then s1.setWord 0x210 1#32
      else
        let s2 := (s1.setWord 0x210 1#32).darken.heatersOff
        { s2 with mgt := { s2.mgt with dark := .entered }, opt := { s2.opt with enable := .idle } }
    else if !s.isDark then s1.setWord 0x210 0#32
    else
      let s2 := (s1.setWord 0x210 0#32).beginEnable
      { s2 with mgt := { s2.mgt with dark := .leaving } }

/-- The interlock override at its boundary (09 R406, R407; 14 R647). -/
def overrideStep (s : State) (x : Nat) : State :=
  match s.cmd.overridePend with
  | some (v, e) =>
    if e ≤ x then
      let s1 := { s with cmd := { s.cmd with override := v, overridePend := none } }.journal { kind := 3 }
      if v then s1.proceedEnable else if s1.opt.permit then s1 else s1.doPermitFall
    else s
  | none => s

/-- ROLE_TRANSFER at its boundary (16 R727); a halted active pair leaves it to the first boundary after RESUME (18 R808). -/
def roleStep (s : State) (x : Nat) : State :=
  match s.cmd.rolePend with
  | some e => if e ≤ x ∧ !s.activeHalted then s.roleTransfer else s
  | none => s

/-! ### Links at the boundary (02 R72-R74; 10 R457; 11 R490-R492, R513, R514) -/

/-- A measured flight: a link whose M_L exceeds F_L leaves the schedule, and its lanes train again (02 R72, R74; 11 R505). -/
def measure (s : State) (p : Fin 128 × Nat) : State :=
  let l := p.1.val
  if !s.linkUp l then s
  else
    let s1 := s.setLkk l { s.lkk l with ml := p.2 }
    if s1.flightFits l p.2 || (s1.lkk l).st != .inSched then s1 else s1.linkDown l

/-- An acknowledged move of this end takes effect; the next one that waits is asked for (10 R457, R458). -/
def moveLane (s : State) (x l : Nat) : State :=
  let r := s.lnk l
  let s1 := match r.txMove with
    | some m =>
      if m.acked ∧ m.epoch ≤ x then
        (s.setLnk l { r with txMove := none, txSpare := if m.back then (if r.txSpare = m.lane then 31 else r.txSpare) else m.lane }).bump (lnReg l + 0x24)
      else s
    | none => s
  let r1 := s1.lnk l
  match r1.txMove, r1.want with
  | none, w :: rest => (s1.setLnk l { r1 with want := rest }).requestMove l w.1 w.2
  | _, _ => s1

/-- The advertised credits of a class (11 R484). -/
def advCredits (c : Nat) : Nat × Nat := [(64, 448), (256, 1792), (2048, 14336), (64, 448)].getD c (0, 0)

/-- The leak of one class, headers and data (11 R490). -/
def leakOf (c : LkCredit) : Nat × Nat :=
  ((c.rcvdH + 2 ^ 16 - c.freeH) % 2 ^ 16 - c.occH, (c.rcvdD + 2 ^ 16 - c.freeD) % 2 ^ 16 - c.occD)

/-- The credit audit of a link, and the retrain it asks for (11 R490-R492). -/
def audit (s : State) (l : Nat) : State :=
  if !s.linkUp l then s
  else
    let r := s.lkk l
    let s1 := (List.range 4).foldl (fun (s : State) c =>
      let k := leakOf (r.credits.get {} c)
      s.setWord (lkReg l + 0x80 + 4 * c) (BitVec.ofNat 32 (k.1 % 2 ^ 16 + 2 ^ 16 * (k.2 % 2 ^ 16)))) s
    let bad := (List.range 4).any (fun c =>
      let k := leakOf (r.credits.get {} c)
      let a := advCredits c
      decide (a.1 < 2 * k.1) || decide (a.2 < 2 * k.2))
    if bad && s.lkLeakRetrain l && !r.retrainReq then
      (s1.setLkk l { s1.lkk l with retrainReq := true, ctlDue := true }).record 0x0B04 (linkLoc l)
    else s1

/-- A link's boundary: a due capability retrain, the audit, planned moves, a rejoin, a proposal, and the counts of the new epoch. -/
def linkStep (s : State) (x l : Nat) : State :=
  let r := s.lkk l
  let s1 := if r.retrainReq ∨ r.retrainDue then s.capRetrain l else s
  let s2 := (s1.audit l).moveLane x l
  let r2 := s2.lkk l
  let s3 := match r2.rejoinAt with
    | some e => if e ≤ x then s2.setLkk l { r2 with rejoinAt := none, st := if s2.linkUp l && !s2.chanDown (l / 32) (l % 32) then .inSched else r2.st, tx := 0, rx := 0 } else s2
    | none => s2
  let r3 := s3.lkk l
  let idle := r3.rrQueue.isEmpty && r3.keptRr.isEmpty && (s3.lkk (twin l)).st != .rerouted
  (s3.setLkk l { r3 with
    carrying := r3.carrying && !idle, tx0 := r3.tx, rx0 := r3.rx, released := 0, slotNo := 0, landed := 0, lastLand := 0, lateThis := false,
    landing := [], fencing := false, fenced := false }).propose l

/-- Every link. -/
def linkSteps (s : State) (x : Nat) : State :=
  ((s.ln.map (fun p => p.1)) ++ ((s.lk.map (fun p => p.1)).filter (fun l => (s.ln.find l).isNone))).foldl (fun (s : State) l => s.linkStep x l) s

/-- A leader's enrolment (12 R536). -/
def enrol (s : State) : State :=
  if s.isLeader then
    { s with fab := { s.fab with lace := s.fab.lace.map (fun p => (p.1, { p.2 with enrolled := p.2.enrolled || decide (2 ≤ p.2.regRuns) })) } }
  else s

/-! ### The step (R92-R94, R84) -/

/-- The islands of the shanks, die networks and host interfaces, which a headless package keeps (16, Takeover). -/
def coreIsland (i : Nat) : Bool := decide (i < 176) && (i % 44 == 36 || i % 44 == 42 || i % 44 == 43)

/-- A headless package stops at its next boundary step (16, Takeover). -/
def stopHeadless (s : State) : State :=
  if s.shk.headless then
    { s with
      boot := { s.boot with phase := .headless, islands := s.boot.islands.filter coreIsland }
      seqs := s.seqs.map (fun p => (p.1, { p.2 with running := false })) }
  else s

/-- The clock enters epoch `x` at cycle 0. -/
def enterEpoch (s : State) (x : Nat) : State :=
  { s with
    clk := { s.clk with
      epoch := x, cycle := 0, snapped := false, latched := false, checked := false, ready := false, late := false, release := none, settle := 0,
      synced := false, pauseFrom := none, preload := [] }
    abort := none
    seqs := s.seqs.map (fun p => (p.1, { p.2 with running := false, ran := false, flight := [] }))
    work := []
    br := { s.br with ceEpoch := [], ceTold := [] }
    opt := { s.opt with reduce := [] }
    fab := { s.fab with children := [], sentReady := none, sentRelease := none } }

/-- A trigger that a pause held aborts the new epoch at its cycle 0 (17 R752). -/
def heldAbort (s : State) : State :=
  match s.abortHeld with
  | some h =>
    let s1 := { s with abortHeld := none }.trigger h.1
    { s1 with abort := s1.abort.map (fun a => { a with thermal := a.thermal || h.2 }) }
  | none => s

/-- The boundary step with release `r`, or without one at a watchdog expiry (`expired`). What becomes due in it carries the epoch entered (13 R595, 14 R648); the barriers of lasts that leave complete first (07 R303). -/
def takeBoundary (s : State) (r : Release) (expired : Bool) (flights : List (Fin 128 × Nat)) : State :=
  let rerun := s.abort.isSome
  let jump : Int := if s.fab.adopt ∧ !expired then (r.epoch : Int) - (s.nextEpoch : Int) else 0
  let s1 := (s.countPause r.late).shiftEpochs jump
  let x := r.epoch
  let old := s1.ctx.bindNow
  let gone := s1.leavers x (r.stop || expired)
  let s2 := s1.enterEpoch x
  let s3 := (gone.foldl departLast (if rerun then s2 else r.complete.foldl finishBarrier s2.stepWaits)).outCtxs
  let s4 := if rerun then s3.fillSlots s3.ctx.snapNow x else s3.finishCtxs (boundCtxs old)
  let s5 := if rerun then { s4 with ctx := { s4.ctx with bindNow := s4.ctx.bindNext, bindNext := [] } } else s4.takeBindings
  let s6 := (s5.msEffects x).settings x
  let s7 := (modeChanges s5 (s6.startLasts x)).setTiming
  let s8 := s7.cmd.lasts.foldl (fun (s : State) p => if p.2.st == .validating then s else s.armSets p) s7
  let s9 := if rerun then s8 else s8.stepObjs
  let s10 := (s9.stepMarks x).startTraining (fun c => !s9.groupClaimed (c / 4))
  let s11 := ((flights.foldl measure s10).linkSteps x).exchanges
  let s12 := (((s11.enrol.overrideStep x).roleStep x).darkStep x).driveReplace
  let s13 := { s12 with fab := { s12.fab with stopped := expired, adopt := if expired then true else if s.fab.adopt then false else s12.fab.adopt } }
  s13.stopHeadless.heldAbort

/-- The boundary step may run: cycle N is reached, or an abort's recovery is over; 64 cc have passed since the release arrived; no page preload or refresh is open (R93, R94; 12 R556; 03 R914). -/
def boundaryOpen (s : State) : Bool :=
  s.started && (s.clk.release.isNone || s.clk.settle == 0) && s.clk.preload.isEmpty && s.hbm.chans.all (fun p => decide (p.2.refreshUntil ≤ s.clk.now)) &&
    (match s.abort with
     | some a => a.recovered
     | none => decide (s.clk.cycle = s.epochN))

/-- BOUNDARY_STEP (R93). -/
def doBoundary (s : State) (flights : List (Fin 128 × Nat)) : State :=
  match s.clk.release with
  | some r => if s.boundaryOpen then s.takeBoundary r false flights else s
  | none => s

/-- What the fabric watchdog times from: cycle N, or after an abort the moment ready was reported for the epoch before (12 R557; 19 R840). -/
def waitFrom (s : State) : Option Nat :=
  match s.abort with
  | some a => if a.recovered then some a.readyAt else none
  | none => s.clk.pauseFrom

/-- The wait for the boundary step has reached FAB_WD.MS; 0 is taken as 1 (12 R557, R558). -/
def waitedOut (s : State) : Bool :=
  match s.waitFrom with
  | some t => decide (1000000 * max 1 (s.bits (fabBase + 0x34) 0 16) ≤ s.clk.now - t)
  | none => false

/-- FABRIC_WATCHDOG_EXPIRY: the boundary step at once, without a release (12 R557-R560; 19 R840). -/
def doWatchdogExpiry (s : State) : State :=
  if s.boundaryOpen && s.clk.release.isNone && s.waitedOut then
    ((s.record 0x0C05).bump (fabBase + 0x118)).takeBoundary { epoch := s.nextEpoch } true []
  else s

end State

/-! ### Meanings -/

/-- QUEUE_SNAPSHOT (R107). -/
def execQueueSnapshot (s : State) : Res := .next s.doSnapshot
/-- PENDING_LATCH (R92). -/
def execPendingLatch (s : State) : Res := .next s.doLatch
/-- PAGE_PRELOAD (03 R914). -/
def execPagePreload (row : Fin 32) (s : State) : Res := .next (s.doPreload row)
/-- CHECK_POINT (R99). -/
def execCheckPoint (s : State) : Res := .next s.doCheck
/-- BOUNDARY_STEP (R93). -/
def execBoundaryStep (flights : List (Fin 128 × Nat)) (s : State) : Res := .next (s.doBoundary flights)
/-- FABRIC_WATCHDOG_EXPIRY (12 R558). -/
def execFabricWatchdogExpiry (s : State) : Res := .next s.doWatchdogExpiry

end Sys2Proof.Machine
end

