-- ==== Sys2Proof/Machine/Aborts.lean ====
section
/-! DEFINITION. The recovery from an epoch abort (17 R752-R761; 05 R212; 06 R259; 07 R289, R300, R304; 08 R324, R346; 12 R550-R556). -/

namespace Sys2Proof.Machine

/-- FLAGS of a context record with ATTEMPTS set (07 R270). -/
def withAttempts (flags n : Nat) : Nat := flags % 16 + 16 * (n % 8) + 128 * (flags / 128)

/-- The trip limits of a die or a chiplet, and of a stack, °C (21 R891). -/
def dieTrip : Int := 110
def stackTrip : Int := 100

namespace State

/-! ### The abort is taken (R755 t = 0, R761; 12 R550) -/

/-- EPOCH_ABORT: every sequencer stops, ABORT is set and RDY cleared in the ready word, and the READY with ABORT goes up; the fourth abort of one epoch records 0x1103. -/
def doEpochAbort (s : State) : State :=
  match s.abort with
  | none => s
  | some a =>
    if a.taken then s
    else
      let n := if s.abortRun.1 = a.epoch then s.abortRun.2 + 1 else 1
      let s1 := { s with
        abort := some { a with taken := true }
        abortRun := (a.epoch, n)
        clk := { s.clk with ready := false, late := false, release := none } }
      let w := s1.word 0x220
      let s2 := (s1.setWord 0x220 (w &&& 0xFFFF#32 ||| BitVec.ofNat 32 (65536 * a.code))).bump 0x22C
      let s3 := if n = 4 then s2.record 0x1103 else s2
      if s3.joined then s3.abortUp a.epoch else s3

/-! ### What 2 µs restores (R755) -/

/-- A tile with its statistics cleared and what was in flight dropped (R212, R755). DESIGN CHOICE: the staging pointer keeps its half, and a SWAP in flight is dropped (notes/assumptions/57). -/
def restTile (t : Tile) : Tile :=
  { t with
    units := t.units.map (fun p => (p.1, { p.2 with running := none, queued := none, draining := [], swapAt := none }))
    vres := [], sfuWait := [], sfuRes := [], stats := [], red := [], fills := [] }

/-- Every tile; the parts of transfers still to come are dropped with what was in flight. -/
def restTiles (s : State) : State :=
  { s with work := [], tiles := s.tiles.map (fun p => (p.1, restTile p.2)) }

/-- Sequencers at the start of their epoch program, not running (R911). -/
def restSeqs (s : State) : State :=
  { s with seqs := s.seqs.map (fun p => (p.1, { seqFresh p.2 0 with running := false, ran := false, flight := [] })) }

/-- Scheduled HBM3E requests in flight are dropped. -/
def dropRequests (s : State) : State :=
  { s with hbm := { s.hbm with chans := s.hbm.chans.map (fun p => (p.1, { p.2 with reqs := [] })) } }

/-- One context bound into the aborted epoch: one more ATTEMPT, or 0x0707 at the third (07 R289). -/
def countAttempt (s : State) (i : Nat) : State :=
  let f := s.ctxField i 1 1
  let n := f / 16 % 8 + 1
  s.setCtxField i 1 1 (withAttempts f n)

/-- Contexts bound into the coming epoch, and then those of the aborted one, return to the heads of their queues (07 R288, R289). -/
def restContexts (s : State) : State :=
  let here := fun (s : State) (i : Nat) => match s.ctxInfo i with
    | some c => c.phase == .bound || c.phase == .done
    | none => false
  let next := (boundCtxs s.ctx.bindNext).filter (here s)
  let s1 := s.requeueHead next
  let l := (boundCtxs s1.ctx.bindNow).filter (here s1)
  let s2 := l.foldl countAttempt s1
  let out := l.filter (fun i => decide (3 ≤ s2.ctxField i 1 1 / 16 % 8))
  let s3 := out.foldl (fun (s : State) i => s.endCtx i 0x707) s2
  let s4 := s3.returnCtxs (l.filter (fun i => !out.contains i))
  { s4 with ctx := { s4.ctx with bindNow := [], bindNext := [] } }

/-- A claimed object: C at the boundary into the aborted epoch, plus host SIGNALs, less what barriers took; its allowance anew (07 R300, R304). -/
def restObj (o : SyObj) : SyObj :=
  { o with c := min (o.atBoundary + o.hostSince) 0xFFFFFFFF - o.taken, allow := o.allowAt }

/-- The objects that running lasts claim; what was on its way to an object or back is dropped. -/
def restObjs (s : State) : State :=
  let claimed := fun (k : Nat) => s.cmd.lasts.any (fun p => p.2.st == .running && p.2.sections.claims.sync.any (fun x => x.val == k))
  { s with sync := { s.sync with
      objs := s.sync.objs.map (fun p => (p.1, if claimed p.1 then restObj p.2 else p.2))
      sigs := [], semWaits := [], misses := [] } }

/-! ### Fences (12 R553-R555) -/

/-- A link of a running last's streams. -/
def scheduledLinks (s : State) : List Nat :=
  (List.range 128).filter (fun l => (s.streamOf l true).isSome || (s.streamOf l false).isSome)

/-- One scheduled link fences: its unacknowledged stitches of the epoch are freed, its next index passes the epoch; a rerouted stream is fenced by its twin. -/
def fenceLink (s : State) (l : Nat) : State :=
  let r := s.lkk l
  let next := r.tx0 + s.scheduled l true
  let clear := fun (s : State) (k : Nat) => s.setDir k { s.dir k with stitches := [] }
  let s0 := clear (clear s (chanKey l true)) (chanKey l false)
  match r.st with
  | .inSched => s0.setLkk l { s0.lkk l with queue := [], kept := [], ready := [], poison := [], landing := [], tx := next, fencing := s.linkUp l, ctlDue := true }
  | .rerouted =>
    let m := twin l
    let s1 := s0.setLkk l { s0.lkk l with queue := [], kept := [], ready := [], poison := [], landing := [], tx := next }
    s1.setLkk m { s1.lkk m with rrQueue := [], keptRr := [], ctlDue := true }
  | _ => s0.setLkk l { s0.lkk l with ready := [], landing := [] }

/-! ### Retrains (06 R259; 08 R324) -/

/-- The mesh bridges that are due begin to retrain; one that is down stays down (08 R346). -/
def startBridges (s : State) : State :=
  (s.br.due.filter (fun b => decide (b < 4) && s.bridge b == .active)).foldl (fun (s : State) b =>
    ({ s with br := { s.br with due := s.br.due.filter (fun x => x != b) } }).setBridge b .training) s

/-- ABORT_RESTORE. -/
def doRestore (s : State) : State :=
  match s.abort with
  | none => s
  | some a =>
    if !a.taken || a.restored then s
    else
      let s1 := ((s.restTiles.restSeqs.dropRequests).restContexts).restObjs
      let s2 := { s1 with
        abort := some { a with restored := true }
        opt := { s1.opt with reduce := [] }
        clk := { s1.clk with snapped := false, latched := false, checked := false, preload := [] } }
      let s3 := s2.scheduledLinks.foldl fenceLink s2
      ((s3.journalReset 3 a.code).startTraining (fun _ => true)).startBridges

/-! ### The end of recovery (R755-R758; 12 R556) -/

/-- Every die, its chiplet and its stacks read at least 5 °C below their trip limits (R757, 21 R891). -/
def cooled (s : State) : Bool :=
  (List.range 4).all (fun n => decide (s.mgt.dieTemps.get 0 n + 5 ≤ dieTrip) && decide (s.mgt.yzTemps.get 0 n + 5 ≤ dieTrip)) &&
    (List.range 8).all (fun h => decide (s.mgt.stackTemps.get 0 h + 5 ≤ stackTrip))

/-- 100 µs have passed, the fences and retrains of a recovery are over, and it need not wait to cool. -/
def recovered (s : State) (a : Abort) : Bool :=
  a.restored && decide (a.start + 100000 ≤ s.clk.now) && (!a.thermal || s.cooled) &&
    s.scheduledLinks.all (fun l =>
      let r := s.lkk l
      !(r.st == .inSched && s.linkUp l) || (!r.fencing && r.fenced)) &&
    s.hbm.chans.all (fun p => !p.2.training) &&
    (List.range 4).all (fun b => s.bridge b != .training)

/-- ABORT_RECOVERY_DONE: ready is reported for the epoch before, so that the epoch runs again. -/
def doRecovered (s : State) : State :=
  match s.abort with
  | none => s
  | some a =>
    if s.recovered a && !a.recovered then
      (({ s with abort := some { a with recovered := true, readyAt := s.clk.now } }).addDword 0x230 (s.clk.now - a.start)).becomeReady false
    else s

/-- RECOVERY_OVERTIME: 0x1102 once (R758). -/
def doOvertime (s : State) : State :=
  match s.abort with
  | none => s
  | some a =>
    if a.recovered || a.overtime || decide (s.clk.now - a.start ≤ 30000000) then s
    else ({ s with abort := some { a with overtime := true } }).record 0x1102

end State

/-! ### Meanings -/

/-- EPOCH_ABORT (R755). -/
def execEpochAbort (s : State) : Res := .next s.doEpochAbort
/-- ABORT_RESTORE (R755). -/
def execAbortRestore (s : State) : Res := .next s.doRestore
/-- ABORT_RECOVERY_DONE (R755; 12 R556). -/
def execAbortRecoveryDone (s : State) : Res := .next s.doRecovered
/-- RECOVERY_OVERTIME (R758). -/
def execRecoveryOvertime (s : State) : Res := .next s.doOvertime

end Sys2Proof.Machine
end

