-- ==== Sys2Proof/Machine/Vector.lean ====
section
/-! DEFINITION. The vector unit: lane operations, LDACC and the write of their results (03 R133-R135, R922; 04 R172-R173). -/

namespace Sys2Proof.Machine

/-- SHIFT of one lane (R922): bits 5:0 of the count are signed, bit 6 makes a right shift arithmetic. -/
def shiftLane (a c : Word) : Word :=
  let n := c.toNat % 64
  if n < 32 then a <<< n
  else
    let k := 64 - n
    if c.toNat / 64 % 2 = 1 then a.sshiftRight k else a >>> k

/-- SEL of one lane (R133). -/
def selLane (d a b : Word) : Word := if d ≠ 0#32 then a else b

/-- The least due of a list of results that is due by a cycle, and the rest. -/
def takeDue {α : Type} (due : α → Nat) (c : Nat) (l : List α) : Option (α × List α) :=
  match l.filter (fun x => decide (due x ≤ c)) with
  | [] => none
  | x :: xs =>
    let m := xs.foldl (fun m y => min m (due y)) (due x)
    let i := l.findIdx (fun y => due y == m)
    match l[i]? with
    | some y => some (y, l.eraseIdx i)
    | none => none

namespace State

/-- Put a result on its way to VD of one unit of a tile (R133). -/
def pushVec (s : State) (t lat vd : Nat) (lanes : List (Nat × Word)) : State :=
  let x := s.tile t
  s.setTile t { x with vres := x.vres ++ [{ due := s.clk.cycle + lat, vd := vd, lanes := lanes }] }

/-- A lane operation on every unit that an arriving word of that operation names: `f` gives a lane's result from its tile, whose registers hold every result due by now. -/
def vecOp (s : State) (sel : Sel) (op lat vd vs1 vs2 : Nat) (f : Tile → Nat → Word) : State :=
  s.onSlot sel .vec (isVop op vd vs1 vs2) (fun _ s p =>
    let x := (s.tile p.1).settle s.clk.cycle
    s.pushVec p.1 lat vd ((lanesOf p.2).map (fun l => (l, f x l))))

/-- A two-source lane operation. -/
def vecOp2 (s : State) (sel : Sel) (op lat : Nat) (vd vs1 vs2 : Nat) (f : Word → Word → Word) : State :=
  s.vecOp sel op lat vd vs1 vs2 (fun t l => f (t.reg vs1 l) (t.reg vs2 l))

/-- LDACC at one unit (R135, R151): accumulator row ACCBASE + VS1; bit 0 of VS2 chooses the half in quarter mode. -/
def ldaccUnit (s : State) (accbase vd vs1 vs2 : Nat) (p : Nat × Nat) : State :=
  let t := p.1
  let u := p.2
  if s.inSwap t u then s.swapFault t u
  else
    let r := accbase + vs1
    let col := fun l => if u = 4 then l else l % 64 + 64 * (vs2 % 2)
    let x := s.tile t
    let s1 := s.pushVec t 3 vd ((lanesOf u).map (fun l => (l, x.acc.get 0#32 (accIndex u r (col l)))))
    if (lanesOf u).any (fun l => x.accErr.contains (accIndex u r (col l))) then s1.unitAbort t u 0x0305 else s1

/-- VECTOR_OP_RESULT: the least due vector result of a tile is written to VD at its latency (R133). -/
def doVecResult (s : State) (t : Nat) : State :=
  let x := s.tile t
  match takeDue VRes.due s.clk.cycle x.vres with
  | some (r, rest) => s.setTile t ({ x with vres := rest }.setRegs r.vd r.lanes)
  | none => s

end State

/-! ### Meanings -/

/-- VOP 0x01 (04 R173). -/
def execFadd (sel : Sel) (vd vs1 vs2 : Fin 64) (s : State) : Res := .next (s.vecOp2 sel 0x01 4 vd vs1 vs2 fadd32)
/-- VOP 0x02 (04 R173). -/
def execFmul (sel : Sel) (vd vs1 vs2 : Fin 64) (s : State) : Res := .next (s.vecOp2 sel 0x02 4 vd vs1 vs2 fmul32)
/-- VOP 0x03: one rounding (04 R173). -/
def execFma (sel : Sel) (vd vs1 vs2 : Fin 64) (s : State) : Res :=
  .next (s.vecOp sel 0x03 4 vd vs1 vs2 (fun t l => fma32 (t.reg vs1 l) (t.reg vs2 l) (t.reg vd l)))
/-- VOP 0x04 (04 R172). -/
def execFmax (sel : Sel) (vd vs1 vs2 : Fin 64) (s : State) : Res := .next (s.vecOp2 sel 0x04 2 vd vs1 vs2 fmax32)
/-- VOP 0x05 (04 R172). -/
def execFmin (sel : Sel) (vd vs1 vs2 : Fin 64) (s : State) : Res := .next (s.vecOp2 sel 0x05 2 vd vs1 vs2 fmin32)
/-- VOP 0x06: wrapping. -/
def execIadd (sel : Sel) (vd vs1 vs2 : Fin 64) (s : State) : Res := .next (s.vecOp2 sel 0x06 2 vd vs1 vs2 (· + ·))
/-- VOP 0x07: the low 32 bits. -/
def execImul (sel : Sel) (vd vs1 vs2 : Fin 64) (s : State) : Res := .next (s.vecOp2 sel 0x07 3 vd vs1 vs2 (· * ·))
/-- VOP 0x08 (R922). -/
def execShift (sel : Sel) (vd vs1 vs2 : Fin 64) (s : State) : Res := .next (s.vecOp2 sel 0x08 2 vd vs1 vs2 shiftLane)
/-- VOP 0x09. -/
def execAnd (sel : Sel) (vd vs1 vs2 : Fin 64) (s : State) : Res := .next (s.vecOp2 sel 0x09 2 vd vs1 vs2 (· &&& ·))
/-- VOP 0x0A. -/
def execOr (sel : Sel) (vd vs1 vs2 : Fin 64) (s : State) : Res := .next (s.vecOp2 sel 0x0A 2 vd vs1 vs2 (· ||| ·))
/-- VOP 0x0B. -/
def execXor (sel : Sel) (vd vs1 vs2 : Fin 64) (s : State) : Res := .next (s.vecOp2 sel 0x0B 2 vd vs1 vs2 (· ^^^ ·))
/-- VOP 0x0C: VS1 where VD is not 0, else VS2. -/
def execSel (sel : Sel) (vd vs1 vs2 : Fin 64) (s : State) : Res :=
  .next (s.vecOp sel 0x0C 2 vd vs1 vs2 (fun t l => selLane (t.reg vd l) (t.reg vs1 l) (t.reg vs2 l)))
/-- VOP 0x10 (R135). -/
def execLdacc (sel : Sel) (vd vs1 vs2 : Fin 64) (s : State) : Res :=
  .next (s.onSlot sel .vec (isVop 0x10 vd vs1 vs2) (fun x s p => s.ldaccUnit x.accbase vd vs1 vs2 p))
/-- A vector result is written (R133). -/
def execVectorOpResult (tile : Fin 128) (s : State) : Res := .next (s.doVecResult tile)

end Sys2Proof.Machine
end

