-- ==== Sys2Proof/Machine/Convert.lean ====
section
/-! DEFINITION. CVT: the lane conversions and the block forms (04 R174-R187, R926). -/

namespace Sys2Proof.Machine

/-- The rounding mode and POS of an FN field (R174). -/
def fnRnd (fn : BitVec 5) : Rnd := rndOf fn.toNat
def fnPos (fn : BitVec 5) : Nat := fn.toNat / 4

/-- The first bit of element POS of a width (R175); a RANGE24 and a whole word lie at bit 0. -/
def posBit (w pos : Nat) : Nat :=
  match w with
  | 16 => 16 * (pos % 2)
  | 8 => 8 * (pos % 4)
  | 4 => 4 * pos
  | _ => 0

/-- Insert a field of `w` bits into a word at its position (R175). -/
def insertField (w pos : Nat) (old : Word) (v : Nat) : Word :=
  let lo := posBit w pos
  let x := old.toNat
  BitVec.ofNat 32 (x % 2 ^ lo + (v % 2 ^ w) * 2 ^ lo + x / 2 ^ (lo + w) * 2 ^ (lo + w))

/-- Read a field of `w` bits from its position (R175). -/
def readField (w pos : Nat) (x : Word) : Nat := x.toNat / 2 ^ posBit w pos % 2 ^ w

/-- A narrowing conversion of one lane: the result is inserted in VD. -/
def narrowLane (w : Nat) (fn : BitVec 5) (f : Rnd → Word → CvtRes) (src old : Word) : Word × NumFlags :=
  let r := f (fnRnd fn) src
  (insertField w (fnPos fn) old r.code, r.flags)

/-- A widening conversion of one lane into a whole word. -/
def widenLane (w : Nat) (fn : BitVec 5) (f : Rnd → Nat → Word) (src _old : Word) : Word × NumFlags :=
  (f (fnRnd fn) (readField w (fnPos fn) src), {})

/-- RANGE24 into binary32 (R176 code 0x14): code / 4,096, exact. -/
def range24Val (c : Nat) : Word := rnRat32 false c 1 (-12)

/-- Bytes replaced in the words of a group's lanes, from group byte offset `off` (R184, R185): the lanes that change, numbered in the group. -/
def putBytes (lane : Nat → Word) (off : Nat) (bs : List Byte) : List (Nat × Word) :=
  let n := (off + bs.length + 3) / 4 - off / 4
  (List.range n).map (fun i =>
    let l := off / 4 + i
    let old := toBytes 4 (lane l).toNat
    let new := (old.zipIdx).map (fun p =>
      let b := 4 * l + p.2
      if off ≤ b then bs.getD (b - off) p.1 else p.1)
    (l, BitVec.ofNat 32 (ofBytes new)))

/-- The blocks of 32 sources of a group (R181). -/
def mxBlocks (src : List Word) : List (List Word) :=
  (List.range (src.length / 32)).map (fun b => (src.drop (32 * b)).take 32)

/-- The element string of a group and its flags (R183, R184, R926). -/
def mxString (el : MxElem) (r : Rnd) (src : List Word) : List Byte × NumFlags :=
  let blocks := (mxBlocks src).map (fun b => (mxScale el b, b))
  let codes := blocks.flatMap (fun p => p.2.map (mxElemCode el r p.1))
  (toBytes (codes.length * el.width / 8) (packBits el.width (codes.map (·.1))),
    { ovf := codes.any (·.2), mxn := blocks.any (fun p => p.1 == 255) })

/-- The scale string of a group and its flags (R185). -/
def mxScales (el : MxElem) (src : List Word) : List Byte × NumFlags :=
  let xs := (mxBlocks src).map (mxScale el)
  (xs.map (BitVec.ofNat 8), { mxn := xs.any (· == 255) })

/-- Strings per line, and POS values, of a format on a group of `n` lanes (R184). -/
def mxPerLine (el : MxElem) (n : Nat) : Nat :=
  if n = 256 then (if el.width = 4 then 2 else 1) else (if el.width = 4 then 4 else 2)
def mxPosOk (el : MxElem) (pos : Nat) : Bool := decide (pos < if el.width = 4 then 8 else 4)

/-- The group byte offset of a string (R184). -/
def mxOffset (el : MxElem) (n pos : Nat) : Nat :=
  let k := mxPerLine el n
  let line := if n = 256 then 256 else 128
  line * (pos / k) + n * el.width / 8 * (pos % k)

/-- The code and bit 5 of a CVT's VS2 field (R174). -/
def cvtCode (code : Nat) (bit5 : Bool) : Nat := code + (if bit5 then 32 else 0)

namespace State

/-- A lane conversion on every named unit of a word with that code: results on their way, and the flags of the unit (R187). -/
def cvtOp (s : State) (sel : Sel) (code vd vs1 fn : Nat) (f : Word → Word → Word × NumFlags) : State :=
  s.onSlot sel .vec (isCvt code vd vs1 fn) (fun _ s p =>
    let t := (s.tile p.1).settle s.clk.cycle
    let r := (lanesOf p.2).map (fun l => (l, f (t.reg vs1 l) (t.reg vd l)))
    let s1 := s.pushVec p.1 3 vd (r.map (fun x => (x.1, x.2.1)))
    s1.flagNum p.1 p.2 (r.foldl (fun a x => a.or x.2.2) {}))

/-- A block-form conversion on every named unit: `g` gives the bytes, their flags and their group offset, or nothing (R186). -/
def blockOp (s : State) (sel : Sel) (code vd vs1 fn : Nat) (g : List Word → Option (List Byte × NumFlags × Nat)) : State :=
  s.onSlot sel .vec (isCvt code vd vs1 fn) (fun _ s p =>
    let t := (s.tile p.1).settle s.clk.cycle
    let ls := lanesOf p.2
    match g (ls.map (t.reg vs1)) with
    | none => s
    | some (bs, fl, off) =>
      let base := ls.headD 0
      let lanes := (putBytes (fun l => t.reg vd (base + l)) off bs).map (fun x => (base + x.1, x.2))
      (s.pushVec p.1 3 vd lanes).flagNum p.1 p.2 fl)

/-- Codes 0x1A-0x1F: an element string, or with VS2 bit 5 the scale string (R184, R185). -/
def mxOp (s : State) (sel : Sel) (i : Nat) (vd vs1 : Nat) (scale : Bool) (fn : BitVec 5) : State :=
  let el := mxElem i
  s.blockOp sel (cvtCode (0x1A + i) scale) vd vs1 fn.toNat (fun src =>
    if scale then
      let r := mxScales el src
      some (r.1, r.2, src.length / 32 * fn.toNat)
    else if mxPosOk el (fnPos fn) then
      let r := mxString el (fnRnd fn) src
      some (r.1, r.2, mxOffset el src.length (fnPos fn))
    else none)

end State

/-! ### Meanings -/

/-- Code 0x00. -/
def execCvtBinary32ToBinary16 (sel : Sel) (vd vs1 : Fin 64) (sat : Bool) (fn : BitVec 5) (s : State) : Res :=
  .next (s.cvtOp sel (cvtCode 0x00 sat) vd vs1 fn.toNat (narrowLane 16 fn (fun r x => cvtFloat fBinary16 r sat x)))
/-- Code 0x01. -/
def execCvtBinary32ToBfloat16 (sel : Sel) (vd vs1 : Fin 64) (sat : Bool) (fn : BitVec 5) (s : State) : Res :=
  .next (s.cvtOp sel (cvtCode 0x01 sat) vd vs1 fn.toNat (narrowLane 16 fn (fun r x => cvtFloat fBfloat16 r sat x)))
/-- Code 0x02. -/
def execCvtBinary32ToFp8E4m3 (sel : Sel) (vd vs1 : Fin 64) (sat : Bool) (fn : BitVec 5) (s : State) : Res :=
  .next (s.cvtOp sel (cvtCode 0x02 sat) vd vs1 fn.toNat (narrowLane 8 fn (fun r x => cvtFloat fE4M3 r sat x)))
/-- Code 0x03. -/
def execCvtBinary32ToFp8E5m2 (sel : Sel) (vd vs1 : Fin 64) (sat : Bool) (fn : BitVec 5) (s : State) : Res :=
  .next (s.cvtOp sel (cvtCode 0x03 sat) vd vs1 fn.toNat (narrowLane 8 fn (fun r x => cvtFloat fE5M2 r sat x)))
/-- Code 0x04. -/
def execCvtBinary32ToInt32 (sel : Sel) (vd vs1 : Fin 64) (sat : Bool) (fn : BitVec 5) (s : State) : Res :=
  .next (s.cvtOp sel (cvtCode 0x04 sat) vd vs1 fn.toNat (narrowLane 32 fn (cvtInt 32 (-(2 ^ 31)) (2 ^ 31 - 1) 0)))
/-- Code 0x05. -/
def execCvtBinary32ToInt16 (sel : Sel) (vd vs1 : Fin 64) (sat : Bool) (fn : BitVec 5) (s : State) : Res :=
  .next (s.cvtOp sel (cvtCode 0x05 sat) vd vs1 fn.toNat (narrowLane 16 fn (cvtInt 16 (-32768) 32767 0)))
/-- Code 0x06. -/
def execCvtBinary32ToInt8 (sel : Sel) (vd vs1 : Fin 64) (sat : Bool) (fn : BitVec 5) (s : State) : Res :=
  .next (s.cvtOp sel (cvtCode 0x06 sat) vd vs1 fn.toNat (narrowLane 8 fn (cvtInt 8 (-128) 127 0)))
/-- Code 0x07. -/
def execCvtBinary32ToUint8 (sel : Sel) (vd vs1 : Fin 64) (sat : Bool) (fn : BitVec 5) (s : State) : Res :=
  .next (s.cvtOp sel (cvtCode 0x07 sat) vd vs1 fn.toNat (narrowLane 8 fn (cvtInt 8 0 255 0)))
/-- Code 0x08. -/
def execCvtBinary32ToInt4 (sel : Sel) (vd vs1 : Fin 64) (sat : Bool) (fn : BitVec 5) (s : State) : Res :=
  .next (s.cvtOp sel (cvtCode 0x08 sat) vd vs1 fn.toNat (narrowLane 4 fn (cvtInt 4 (-8) 7 0)))
/-- Code 0x09: on x × 4,096; bits 31:24 of VD keep their values (R159). -/
def execCvtBinary32ToRange24 (sel : Sel) (vd vs1 : Fin 64) (sat : Bool) (fn : BitVec 5) (s : State) : Res :=
  .next (s.cvtOp sel (cvtCode 0x09 sat) vd vs1 fn.toNat (narrowLane 24 fn (cvtInt 24 0 (2 ^ 24 - 1) 12)))
/-- Code 0x0A (R179). -/
def execCvtBinary32ToLogi8 (sel : Sel) (vd vs1 : Fin 64) (sat : Bool) (fn : BitVec 5) (s : State) : Res :=
  .next (s.cvtOp sel (cvtCode 0x0A sat) vd vs1 fn.toNat (narrowLane 8 fn (fun _ x => cvtLogi8 x)))
/-- Code 0x0B. -/
def execCvtInt32ToBinary32 (sel : Sel) (vd vs1 : Fin 64) (sat : Bool) (fn : BitVec 5) (s : State) : Res :=
  .next (s.cvtOp sel (cvtCode 0x0B sat) vd vs1 fn.toNat (fun src _ => (intTo32 (fnRnd fn) src.toInt, {})))
/-- Code 0x0C. -/
def execCvtBinary16ToBinary32 (sel : Sel) (vd vs1 : Fin 64) (sat : Bool) (fn : BitVec 5) (s : State) : Res :=
  .next (s.cvtOp sel (cvtCode 0x0C sat) vd vs1 fn.toNat (widenLane 16 fn (fun _ c => floatTo32 fBinary16 c)))
/-- Code 0x0D. -/
def execCvtBfloat16ToBinary32 (sel : Sel) (vd vs1 : Fin 64) (sat : Bool) (fn : BitVec 5) (s : State) : Res :=
  .next (s.cvtOp sel (cvtCode 0x0D sat) vd vs1 fn.toNat (widenLane 16 fn (fun _ c => floatTo32 fBfloat16 c)))
/-- Code 0x0E. -/
def execCvtFp8E4m3ToBinary32 (sel : Sel) (vd vs1 : Fin 64) (sat : Bool) (fn : BitVec 5) (s : State) : Res :=
  .next (s.cvtOp sel (cvtCode 0x0E sat) vd vs1 fn.toNat (widenLane 8 fn (fun _ c => floatTo32 fE4M3 c)))
/-- Code 0x0F. -/
def execCvtFp8E5m2ToBinary32 (sel : Sel) (vd vs1 : Fin 64) (sat : Bool) (fn : BitVec 5) (s : State) : Res :=
  .next (s.cvtOp sel (cvtCode 0x0F sat) vd vs1 fn.toNat (widenLane 8 fn (fun _ c => floatTo32 fE5M2 c)))
/-- Code 0x10. -/
def execCvtInt16ToBinary32 (sel : Sel) (vd vs1 : Fin 64) (sat : Bool) (fn : BitVec 5) (s : State) : Res :=
  .next (s.cvtOp sel (cvtCode 0x10 sat) vd vs1 fn.toNat (widenLane 16 fn (fun r c => intTo32 r (toSigned 16 c))))
/-- Code 0x11. -/
def execCvtInt8ToBinary32 (sel : Sel) (vd vs1 : Fin 64) (sat : Bool) (fn : BitVec 5) (s : State) : Res :=
  .next (s.cvtOp sel (cvtCode 0x11 sat) vd vs1 fn.toNat (widenLane 8 fn (fun r c => intTo32 r (toSigned 8 c))))
/-- Code 0x12. -/
def execCvtUint8ToBinary32 (sel : Sel) (vd vs1 : Fin 64) (sat : Bool) (fn : BitVec 5) (s : State) : Res :=
  .next (s.cvtOp sel (cvtCode 0x12 sat) vd vs1 fn.toNat (widenLane 8 fn (fun r c => intTo32 r c)))
/-- Code 0x13. -/
def execCvtInt4ToBinary32 (sel : Sel) (vd vs1 : Fin 64) (sat : Bool) (fn : BitVec 5) (s : State) : Res :=
  .next (s.cvtOp sel (cvtCode 0x13 sat) vd vs1 fn.toNat (widenLane 4 fn (fun r c => intTo32 r (toSigned 4 c))))
/-- Code 0x14. -/
def execCvtRange24ToBinary32 (sel : Sel) (vd vs1 : Fin 64) (sat : Bool) (fn : BitVec 5) (s : State) : Res :=
  .next (s.cvtOp sel (cvtCode 0x14 sat) vd vs1 fn.toNat (widenLane 24 fn (fun _ c => range24Val c)))
/-- Code 0x15. -/
def execCvtLogi8ToBinary32 (sel : Sel) (vd vs1 : Fin 64) (sat : Bool) (fn : BitVec 5) (s : State) : Res :=
  .next (s.cvtOp sel (cvtCode 0x15 sat) vd vs1 fn.toNat (widenLane 8 fn (fun _ c => logi8Val c)))
/-- Code 0x16. -/
def execCvtInt32ToInt8 (sel : Sel) (vd vs1 : Fin 64) (sat : Bool) (fn : BitVec 5) (s : State) : Res :=
  .next (s.cvtOp sel (cvtCode 0x16 sat) vd vs1 fn.toNat (narrowLane 8 fn (fun _ x => cvtClamp 8 (-128) 127 x)))
/-- Code 0x17. -/
def execCvtInt32ToUint8 (sel : Sel) (vd vs1 : Fin 64) (sat : Bool) (fn : BitVec 5) (s : State) : Res :=
  .next (s.cvtOp sel (cvtCode 0x17 sat) vd vs1 fn.toNat (narrowLane 8 fn (fun _ x => cvtClamp 8 0 255 x)))
/-- Code 0x18. -/
def execCvtInt32ToInt4 (sel : Sel) (vd vs1 : Fin 64) (sat : Bool) (fn : BitVec 5) (s : State) : Res :=
  .next (s.cvtOp sel (cvtCode 0x18 sat) vd vs1 fn.toNat (narrowLane 4 fn (fun _ x => cvtClamp 4 (-8) 7 x)))
/-- Code 0x19. -/
def execCvtInt32ToInt16 (sel : Sel) (vd vs1 : Fin 64) (sat : Bool) (fn : BitVec 5) (s : State) : Res :=
  .next (s.cvtOp sel (cvtCode 0x19 sat) vd vs1 fn.toNat (narrowLane 16 fn (fun _ x => cvtClamp 16 (-32768) 32767 x)))
/-- Code 0x1A; with VS2 bit 5 its scale string. -/
def execCvtBinary32ToMxfp8E4m3 (sel : Sel) (vd vs1 : Fin 64) (sat : Bool) (fn : BitVec 5) (s : State) : Res :=
  .next (s.mxOp sel 0 vd vs1 sat fn)
/-- Code 0x1B; with VS2 bit 5 its scale string. -/
def execCvtBinary32ToMxfp8E5m2 (sel : Sel) (vd vs1 : Fin 64) (sat : Bool) (fn : BitVec 5) (s : State) : Res :=
  .next (s.mxOp sel 1 vd vs1 sat fn)
/-- Code 0x1C; with VS2 bit 5 its scale string. -/
def execCvtBinary32ToMxfp6E3m2 (sel : Sel) (vd vs1 : Fin 64) (sat : Bool) (fn : BitVec 5) (s : State) : Res :=
  .next (s.mxOp sel 2 vd vs1 sat fn)
/-- Code 0x1D; with VS2 bit 5 its scale string. -/
def execCvtBinary32ToMxfp6E2m3 (sel : Sel) (vd vs1 : Fin 64) (sat : Bool) (fn : BitVec 5) (s : State) : Res :=
  .next (s.mxOp sel 3 vd vs1 sat fn)
/-- Code 0x1E; with VS2 bit 5 its scale string. -/
def execCvtBinary32ToMxfp4E2m1 (sel : Sel) (vd vs1 : Fin 64) (sat : Bool) (fn : BitVec 5) (s : State) : Res :=
  .next (s.mxOp sel 4 vd vs1 sat fn)
/-- Code 0x1F; with VS2 bit 5 its scale string. -/
def execCvtBinary32ToMxint8 (sel : Sel) (vd vs1 : Fin 64) (sat : Bool) (fn : BitVec 5) (s : State) : Res :=
  .next (s.mxOp sel 5 vd vs1 sat fn)
/-- VS2 bit 5 set, on code 0x1A + `code` (R185). -/
def execCvtMxScaleString (sel : Sel) (code : Fin 6) (vd vs1 : Fin 64) (fn : BitVec 5) (s : State) : Res :=
  .next (s.mxOp sel code vd vs1 true fn)

end Sys2Proof.Machine
end

