-- ==== Sys2Proof/Machine/Rings.lean ====
section
/-! DEFINITION. Doorbells, completion writes, interrupts, functions and ports (13 R567-R570, R597-R617; 17 R746-R751, R763-R771). -/

namespace Sys2Proof.Machine

/-- The number of a port. -/
def portNo : Port → Nat
  | .a => 0
  | .b => 1

namespace State

/-! ### Doorbells (R599-R604) -/

/-- Whether a doorbell write of a function reaches a ring: the package answers BAR2, and the ring's page is in the function's BAR2 (R576, R667). -/
def doorbellReaches (s : State) (p : Port) (fn q : Nat) : Bool :=
  s.started && !s.shk.headless && (s.port (portNo p)).st != .down && (fn == 0 || (q / 64 == fn && decide (fn ≤ s.host.vfs)))

/-- A doorbell write that is dropped: through the PF to an enabled VF's ring (R577), or to a ring whose ACTIVE is 0 (R603). -/
def doorbellDrops (s : State) (fn q : Nat) : Bool := s.owner q != fn || !s.ringActive q

/-- The core cycle, as doorbell writes compare it. -/
def cycleMark (s : State) : Nat × Nat := (s.clk.now, s.clk.sub)

/-- A write through port A in a cycle in which port B wrote the same register: it counts as the earlier one, so port B's value remains (R601). -/
def overtaken (s : State) (p : Port) (atB : Option (Nat × Nat)) : Bool := p == .a && atB == some s.cycleMark

/-- SQ_TAIL; `fault` says that the descriptor read it starts meets a DMA fault (R573, 0x0D05). -/
def doSqTail (s : State) (p : Port) (fn q : Nat) (w : Word) (fault : Bool) : State :=
  if !s.doorbellReaches p fn q then s
  else if s.doorbellDrops fn q then s.hifDrop
  else
    let v := w.toNat % 65536
    let r := s.ring q
    let late := s.overtaken p r.sqB
    let s1 := s.setRing q { r with sqReg := if late then r.sqReg else w, sqB := if p == .b then some s.cycleMark else r.sqB }
    if s.sqSize q ≤ v then s1.stopRing q 0x0D03
    else
      let s2 := s1.setRing q { s1.ring q with sqTail := if late then r.sqTail else v }
      if fault && s2.readsFrom q then s2.stopRing q 0x0D05 else s2

/-- Completions in a CQ that the host has not consumed. -/
def cqUsed (s : State) (q : Nat) : Nat := ((s.ring q).cqTail + s.cqSize q - (s.ring q).cqHead) % s.cqSize q

/-- CQ_HEAD; bit 31 is ARM (R602, R613). -/
def doCqHead (s : State) (p : Port) (fn q : Nat) (w : Word) : State :=
  if !s.doorbellReaches p fn q then s
  else if s.doorbellDrops fn q then s.hifDrop
  else
    let v := w.toNat % 65536
    let late := s.overtaken p (s.ring q).cqB
    let s1 := s.setRing q { s.ring q with
      cqReg := if late then (s.ring q).cqReg else w, cqB := if p == .b then some s.cycleMark else (s.ring q).cqB }
    let r := s1.ring q
    if s.cqSize q ≤ v ∨ (!late ∧ s.cqUsed q < (v + s.cqSize q - r.cqHead) % s.cqSize q) then s1.stopRing q 0x0D03
    else
      let s2 := s1.setRing q { r with cqHead := if late then r.cqHead else v, armed := r.armed || w.toNat / 2 ^ 31 == 1 }
      if w.toNat / 2 ^ 31 = 1 then s2.tryInterrupt q else s2

/-! ### Completion writes (R594, R597, R608, R609, R617) -/

/-- The host interface may write for a ring: its port has a link and its function is not in D3hot (17 R764, R771). -/
def mayWrite (s : State) (q : Nat) : Bool :=
  s.started && !s.host.d3.contains (s.owner q) && (s.port (s.ringPort q)).st != .down

/-- A port in L1 returns to L0 before it carries anything (17 R771). -/
def wakePort (s : State) (p : Nat) : State :=
  if (s.port p).st == .l1 then s.setPort p { s.port p with st := .l0 } else s

/-- The code with which a result write ends, 0 where it is made: a DMA fault (R617), a local address that no access may reach (06 R224, R919), or the image of an accepted last (02 R60). -/
def resultCode (s : State) (r : ResultWrite) (fault : Bool) : Nat :=
  if r.isLocal then
    let c := s.localCode r.addr r.bytes.length
    if c = 0 && !r.sent && s.meetsImage r.addr r.bytes.length then 0x0606 else c
  else if fault then 0x0D07 else 0

/-- Make a result write; a local one to HBM3E waits for open slots (06 R230). -/
def writeResult (s : State) (q : Nat) (r : ResultWrite) : State :=
  if r.isLocal then
    (match placeOf r.addr with
    | .hbm _ => s.queueOwn r.addr r.bytes
    | _ => s.store r.addr r.bytes)
  else s.emit (.hostWrite (s.ringPort q) r.addr r.bytes (s.bits (ringReg q + 0x10) 18 1 == 1))

/-- Write a completion at the CQ tail (R594), count it, and end its command. -/
def writeCompletion (s : State) (q : Nat) (c : Completion) : State :=
  let r := s.ring q
  let s1 := s.emit (.completion q r.cqTail (s.ring c.sq).sqHead r.phase c)
  let t := (r.cqTail + 1) % s.cqSize q
  let s2 := s1.setRing q { r with cqTail := t, phase := if t = 0 then !r.phase else r.phase, p := r.p + 1, waited := false }
  (s2.endCommand c.sq).tryInterrupt q

/-- A local result whose units still wait for open slots (06 R230). -/
def resultWaits (s : State) (d : Due) : Bool :=
  match d.result with
  | some r => r.isLocal && s.ownWaits r.addr r.bytes.length
  | none => false

/-- A due completion whose result write is under way. -/
def Due.begun (d : Due) : Due := { d with result := d.result.map (fun r => { r with sent := true }) }

/-- COMPLETION_POST: the oldest due completion of a CQ, when the CQ has space. Its result write goes first, and a local one is complete when its last unit is written (R287). -/
def doCompletionPost (s : State) (q : Nat) (fault : Bool) : State :=
  match (s.ring q).due with
  | [] => s
  | d :: rest =>
    if !s.mayWrite q || decide (s.cqSize q ≤ s.cqUsed q + 1) then s
    else
      let s0 := s.wakePort (s.ringPort q)
      let code := match d.result with
        | some r => s.resultCode r fault
        | none => 0
      let s1 := match d.result with
        | some r => if code = 0 && !r.sent then s0.writeResult q r else s0
        | none => s0
      if code = 0 && s1.resultWaits d then s1.setRing q { s1.ring q with due := Due.begun d :: rest }
      else
        let s2 := s1.setRing q { s1.ring q with due := rest }
        let s3 := (if code = 0x601 then s2.record 0x0601 else s2).writeCompletion q (if code = 0 then d.comp else { d.comp with status := code })
        match d.frees with
        | some i => s3.freeCtx i
        | none => s3

/-- CQ_WAIT_TIMEOUT: 0x0D06 once for the wait (R598). -/
def doCqWaitTimeout (s : State) (q : Nat) : State :=
  let r := s.ring q
  if !r.due.isEmpty && decide (s.cqSize q ≤ s.cqUsed q + 1) && !r.waited then
    (s.setRing q { r with waited := true }).record 0x0D06 {} q
  else s

/-- INTERRUPT_MODERATION_TIMEOUT: the oldest completion counted in P has waited MOD_TIME (R612). -/
def doModerationTimeout (s : State) (q : Nat) : State :=
  if s.bits (ringReg q + 0x18) 0 16 ≠ 0 ∧ 0 < (s.ring q).p then
    (s.setRing q { s.ring q with expired := true }).tryInterrupt q
  else s

/-- MSIX_UNMASK (R614). -/
def doMsixUnmask (s : State) (fn v : Nat) : State :=
  if (fn = 0 ∧ v < 2048) ∨ (1 ≤ fn ∧ fn ≤ s.host.vfs ∧ v < 64) then
    let m := s.host.msix.get {} (2048 * fn + v)
    let s1 := { s with host := { s.host with msix := s.host.msix.put (2048 * fn + v) { masked := false, pend := false } } }
    if m.pend then s1.emit (.msix fn v) else s1
  else s

/-! ### Resets of functions and ports (17 R746-R751) -/

/-- Ring set-up words of the rings that `f` selects return to their cold values, with their pending copies. -/
def coldRings (s : State) (f : Nat → Bool) : State :=
  let hit := fun (o : Nat) => decide (hifBase + 0x10000 ≤ o ∧ o < hifBase + 0x50000) && f ((o - hifBase - 0x10000) / 64)
  { s with
    regs := s.regs.filter (fun p => !hit p.1)
    pend := s.pend.filter (fun p => !hit p.off) }

/-- What R747 does with one context: freed at once, or left to run on and be freed at its boundary. -/
def resetCtx (s : State) (c : CtxInfo) : State :=
  match c.phase with
  | .bound => s.modCtx c.idx (fun c => { c with silent := true })
  | .done => s.modCtx c.idx (fun c => { c with silent := true })
  | _ => (s.unqueue c.idx).freeCtx c.idx

/-- End without completion every command that `f` selects by its SQ or its CQ (R747, R748). -/
def dropCommands (s : State) (f : Nat → Bool) : State :=
  let both := fun (a b : Nat) => f a || f b
  let ctxs := s.ctx.live.filter (fun c => both c.sq (s.ctxField c.idx 4 2))
  let s1 := ctxs.foldl resetCtx s
  let jobs := s1.host.copies.filter (fun j => both j.sq j.cq)
  let s2 := jobs.foldl (fun (s : State) j => s.dropUnits j.job) s1
  let ended := (ctxs.filter (fun c => c.phase != .final)).map (fun c => c.sq) ++ jobs.map (fun j => j.sq) ++
    (s2.sync.waits.filter (fun w => both w.sq w.cq)).map (fun w => w.sq) ++
    (s2.host.marks.filter (fun m => both m.sq m.cq)).map (fun m => m.sq) ++
    (s2.ctx.msPend.filter (fun m => both m.sq m.cq && !m.mute)).map (fun m => m.sq) ++
    s2.host.rings.flatMap (fun p => (p.2.due.filter (fun d => both d.comp.sq p.1)).map (fun d => d.comp.sq))
  let crit := fun (c : Crit) =>
    match c.src with
    | .ring q _ => if both q (if dCq c.d < 4096 then dCq c.d else q) then { c with mute := true } else c
    | .mctp => c
  let s3 := { s2 with
    host := { s2.host with
      copies := s2.host.copies.filter (fun j => !both j.sq j.cq)
      marks := s2.host.marks.filter (fun m => !both m.sq m.cq)
      rings := s2.host.rings.map (fun p => (p.1, { p.2 with due := p.2.due.filter (fun d => !both d.comp.sq p.1) })) }
    sync := { s2.sync with waits := s2.sync.waits.filter (fun w => !both w.sq w.cq) }
    ctx := { s2.ctx with msPend := s2.ctx.msPend.map (fun m => if both m.sq m.cq then { m with mute := true } else m) }
    cmd := { s2.cmd with
      queue := s2.cmd.queue.map crit, work := s2.cmd.work.map crit, current := s2.cmd.current.map crit,
      marking := s2.cmd.marking.map crit }
    shk := { s2.shk with gate := s2.shk.gate.filterMap (fun g =>
      match g with
      | .crit c => some (.crit (crit c))
      | .msLoad m => if both m.sq m.cq then some (.msLoad { m with mute := true }) else some g
      | .synSet sq _ cq _ _ _ => if both sq cq then none else some g
      | .message _ _ => some g
      | .flash _ => some g) } }
  let s4 := ended.foldl endCommand s3
  ((ctxs.map (fun c => c.sq)).eraseDups).foldl promote s4

/-- Make the rings that `f` selects inactive: set-up and doorbells cold, their commands ended (R746-R748). -/
def resetRings (s : State) (f : Nat → Bool) : State :=
  let s1 := (s.dropCommands f).coldRings f
  { s1 with host := { s1.host with rings := s1.host.rings.filter (fun p => !f p.1) } }

/-- MSI-X tables of the functions that `f` selects return to their cold values. -/
def coldMsix (s : State) (f : Nat → Bool) : State :=
  let hit := fun (o : Nat) =>
    (decide (hifBase + 0x80000 ≤ o ∧ o < hifBase + 0x88000) && f 0) ||
    (decide (0x4000000 ≤ o) && f ((o - 0x4000000) / 0x1000))
  { s with
    host := { s.host with msix := s.host.msix.filter (fun p => !f (p.1 / 2048)) }
    regs := s.regs.filter (fun p => !hit p.1) }

/-- Free the locks that the host holds and `f` selects (18 R814). -/
def freeHostLocks (s : State) (f : Lock → Bool) : State :=
  { s with mgt := { s.mgt with locks := s.mgt.locks.map (fun p =>
      if p.2.holder == some 4 && f p.2 then (p.1, { p.2 with holder := none, told := false }) else p) } }

/-- Reset a function: its rings, its MSI-X table, its power state (R746). -/
def resetFn (s : State) (f : Nat) : State :=
  let s1 := s.resetRings (fun q => s.owner q == f)
  let s2 := s1.coldMsix (fun g => g == f)
  { s2 with host := { s2.host with d3 := s2.host.d3.filter (fun g => g != f) } }

/-- Disable VFs: each is reset, and its rings fall to the PF (R575, R749). -/
def clearVfs (s : State) : State :=
  let s1 := ((List.range 64).filter (fun f => decide (1 ≤ f ∧ f ≤ s.host.vfs))).foldl resetFn s
  { s1 with host := { s1.host with vfs := 0 } }

/-- Return the VF window table to its cold values (R749). -/
def coldWindows (s : State) : State :=
  { s with regs := s.regs.filter (fun p => !decide (hifBase + 0x1000 ≤ p.1 ∧ p.1 < hifBase + 0x1800)) }

/-- A function exists and can be reset: the PF once the package answers, a VF while enabled. -/
def fnExists (s : State) (f : Nat) : Bool :=
  (match s.boot.phase with
   | .heldReset => false
   | .shankFailed => false
   | _ => true) && decide (f ≤ s.host.vfs)

/-- FLR (R746-R750): journalled as a RESET of kind 2 with the function in SRC (14 R647). -/
def doFlr (s : State) (f : Nat) : State :=
  if !s.fnExists f then s
  else
    let s1 := s.resetFn f
    let s2 := if f = 0 then (s1.clearVfs.coldWindows).freeHostLocks (fun _ => true) else s1
    s2.journalReset 2 0 f

/-- VF_ENABLE through the control port (R569): NumVFs with VF Enable set, 0 clears it; NumVFs stands while VF Enable is 1. -/
def doVfEnable (s : State) (p : Port) (n : Nat) : State :=
  if (p == .b) != s.controlB || !s.fnExists 0 || s.boot.phase == .sole then s
  else if n = 0 then s.clearVfs
  else if s.host.vfs = 0 then { s with host := { s.host with vfs := n } }
  else s

/-- PERST_ASSERT: only the port is reset, and the rings whose PORT it is (R751); on the control port the SR-IOV capability returns to its cold values with the configuration space. -/
def doPerstAssert (s : State) (p : Port) : State :=
  let n := portNo p
  let sel := fun (q : Nat) => s.ringPort q == n
  let hadActive := (List.range 4096).any (fun q => sel q && s.ringActive q)
  let s1 := s.setPort n { st := .down, reset := true }
  if s.started then
    let s2 := (s1.resetRings sel).freeHostLocks (fun l => l.port == n)
    let s3 := if (p == .b) == s.controlB then s2.clearVfs else s2
    if hadActive then s3.record 0x1105 {} n else s3
  else s1

/-- A port's link may train: port A once the package answers, port B once stage 1 has passed and outside sole mode (15 R667, R678, R701). -/
def portAllowed (s : State) (p : Port) : Bool :=
  match s.boot.phase, p with
  | .heldReset, _ => false
  | .shankFailed, _ => false
  | .sole, .b => false
  | _, .a => true
  | _, .b => s.boot.portB

/-- PERST_RELEASE: the port trains when it may (R570, R751). -/
def doPerstRelease (s : State) (p : Port) : State :=
  let r := s.port (portNo p)
  if r.reset then s.setPort (portNo p) { st := if s.portAllowed p then .l0 else .down, reset := false } else s

/-- D3HOT_ENTRY (17 R764). -/
def doD3Entry (s : State) (f : Nat) : State :=
  if !s.fnExists f || s.host.d3.contains f then s
  else
    let s1 := { s with host := { s.host with d3 := s.host.d3 ++ [f] } }
    if (List.range 4096).any (fun q => s.owner q == f && s.ringActive q) then s1.record 0x1107 {} f else s1

/-- D3HOT_EXIT: the waiting work resumes in order (17 R764). -/
def doD3Exit (s : State) (f : Nat) : State :=
  let s1 := { s with host := { s.host with d3 := s.host.d3.filter (fun g => g != f) } }
  if s.host.d3.contains f then
    ((List.range 4096).filter (fun q => s.owner q == f)).foldl tryInterrupt s1
  else s

/-- L1_ENTRY and L1_EXIT (17 R770, R771). -/
def doL1Entry (s : State) (p : Port) : State :=
  let r := s.port (portNo p)
  if r.st == .l0 then s.setPort (portNo p) { r with st := .l1 } else s
def doL1Exit (s : State) (p : Port) : State := s.wakePort (portNo p)

/-- PTM_DIALOGUE: while PTM_EN is 1, on a port in L0 (R571, 20 R862). -/
def doPtm (s : State) (p : Port) (v : DWord) : State :=
  if s.bits hifBase 0 1 = 1 ∧ (s.port (portNo p)).st = .l0 ∧ s.started then
    s.setDword (hifBase + 0x40 + 8 * portNo p) v.toNat
  else s

end State

/-! ### Meanings -/

/-- SQ_TAIL (R604). -/
def execSqTail (port : Port) (fn : Fin 64) (ring : Fin 4096) (value : Word) (fault : Bool) (s : State) : Res :=
  .next (s.doSqTail port fn ring value fault)
/-- CQ_HEAD (R613). -/
def execCqHead (port : Port) (fn : Fin 64) (ring : Fin 4096) (value : Word) (s : State) : Res :=
  .next (s.doCqHead port fn ring value)
/-- COMPLETION_POST (R597). -/
def execCompletionPost (ring : Fin 4096) (fault : Bool) (s : State) : Res := .next (s.doCompletionPost ring fault)
/-- CQ_WAIT_TIMEOUT (R598). -/
def execCqWaitTimeout (ring : Fin 4096) (s : State) : Res := .next (s.doCqWaitTimeout ring)
/-- INTERRUPT_MODERATION_TIMEOUT (R612). -/
def execInterruptModerationTimeout (ring : Fin 4096) (s : State) : Res := .next (s.doModerationTimeout ring)
/-- MSIX_UNMASK (R614). -/
def execMsixUnmask (fn : Fin 64) (vector : Fin 4096) (s : State) : Res := .next (s.doMsixUnmask fn vector)
/-- VF_ENABLE (R569). -/
def execVfEnable (port : Port) (n : Fin 64) (s : State) : Res := .next (s.doVfEnable port n)
/-- FLR (17 R746). -/
def execFlr (fn : Fin 64) (s : State) : Res := .next (s.doFlr fn)
/-- PERST_ASSERT (17 R751). -/
def execPerstAssert (port : Port) (s : State) : Res := .next (s.doPerstAssert port)
/-- PERST_RELEASE (17 R751). -/
def execPerstRelease (port : Port) (s : State) : Res := .next (s.doPerstRelease port)
/-- D3HOT_ENTRY (17 R764). -/
def execD3hotEntry (fn : Fin 64) (s : State) : Res := .next (s.doD3Entry fn)
/-- D3HOT_EXIT (17 R764). -/
def execD3hotExit (fn : Fin 64) (s : State) : Res := .next (s.doD3Exit fn)
/-- L1_ENTRY (17 R770). -/
def execL1Entry (port : Port) (s : State) : Res := .next (s.doL1Entry port)
/-- L1_EXIT (17 R771). -/
def execL1Exit (port : Port) (s : State) : Res := .next (s.doL1Exit port)
/-- PTM_DIALOGUE (20 R862). -/
def execPtmDialogue (port : Port) (offset : DWord) (s : State) : Res := .next (s.doPtm port offset)

end Sys2Proof.Machine
end

