-- ==== Sys2Proof/Machine/Starts.lean ====
section
/-! DEFINITION. A start: straps and identity, the five stages, their reports, failed starts and sole mode (01 R19-R25; 15 R655-R704; 06 R254-R257; 08 R314-R316, R345; 18 R815, R821-R827). -/

namespace Sys2Proof.Machine

/-! ### Numbers of the package's parts -/

/-- The islands of the four dies, and those of the chiplets (01, Clock islands). -/
def dieIslands : List Nat := List.range 176
def chipIslands : List Nat := (List.range 48).map (fun i => 176 + i)

/-- The islands that run from the release of reset: every shank, and port A's host interface (15 R666, R667). -/
def firstIslands : List Nat := [42, 43, 86, 130, 174]

/-- The resident region of stack H2n: the last 64 MiB of its group 3 (06 R223). -/
def residentAddr (n : Nat) : Nat := stackAddr (2 * n) + 0x8FC000000
def residentLen : Nat := 0x4000000

/-- The bank of a row, the key of `Hbm.rowUsed`, by the row's address divided by 2,048. -/
def rowBank (r : Nat) : Nat :=
  let d := hbmDecode (2048 * r)
  (d.chan * 3 + d.sid) * 16 + d.bg * 4 + d.bank

/-- The strap value that eight equal samples give (01 R19). -/
def agreed (l : List (BitVec 2)) : Option Nat :=
  match l with
  | [] => none
  | v :: t => if t.all (fun x => x == v) then some v.toNat else none

/-- The core clock and power limit of a VARIANT, as the fuses hold them (15, The fuse map). -/
def variantRow (v : Nat) : Option (Nat × Nat) :=
  match v with
  | 0 => some (750, 1500)
  | 1 => some (600, 1300)
  | 2 => some (450, 1050)
  | _ => none

/-- The location of a firmware slot and of a chiplet (15 R662). -/
def slotLoc (b : Bool) : Loc := { kind := 7, unit := b2n b }
def chipLoc (y : Nat) : Loc := { kind := 2, unit := y }

/-- The code, location and DETAIL of a failed check. -/
structure Fail where
  code : Nat
  loc : Loc := {}
deriving DecidableEq, Repr

/-- SBR_TEST_b (20, SBR test). -/
def testReg (b : Nat) : Nat := sbrBase + 0x400 + 0x10 * b

namespace State

/-! ### Reports (R661-R665) -/

/-- The stage runs its fast path: a warm start, and the stage's retention records check (R660). -/
def fastStage (s : State) (n : Nat) : Bool := s.boot.warm && !s.boot.coldForm.contains n

/-- The report of a stage (R662). -/
def stageReport (s : State) (n result code : Nat) (loc : Loc) (detail : Nat) : Report :=
  { stage := n, result := result, code := code, notes := s.boot.cur.notes, warm := s.boot.warm, attempt := s.boot.record.fails - 1,
    start := s.boot.cur.start, finish := s.clk.now, bootSeq := s.boot.record.seq, loc := loc, detail := detail }

/-- A stage passes: its code and its report (R657, R661, R662). -/
def passStage (s : State) (n detail : Nat) : State :=
  let result := if !s.boot.warm then 0 else if s.boot.coldForm.contains n then 3 else 2
  let rep := s.stageReport n result 0 {} detail
  ({ s with boot := { s.boot with reports := s.boot.reports.put n rep } }).recordFatal (0xF20 + n)

/-- A failed start puts TRIAL firmware back (R673). -/
def revertTrial (b : Boot) : Boot :=
  if b.record.trial then { b with record := { b.record with sel := b.record.prev, trial := false }, trialFailed := true } else b

/-! ### What a failed start resets (R699, R701) -/

/-- PKG_DIE_IDENT while the dies are held in reset: the strap values and the faults that were found stand, a confirmed neighbourhood does not (01 R21, R25; notes/assumptions/35). -/
def heldIdent (t : Tbl Ident) : Tbl Ident := t.map (fun p => (p.1, if p.2.st = 3 then p.2 else { rot := p.2.rot, st := p.2.st.min 1 }))

/-- Every die except the P0 shank is held in reset. The P0 shank keeps time, the event log, the registers of its own blocks, the flash and the keys; the fuse-backed state and the environment stand. -/
def softReset (s : State) (p : Phase) : State :=
  let z := State.reset
  { z with
    clk := { z.clk with now := s.clk.now, sub := s.clk.sub }
    regs := s.regs.filter (fun r => decide (r.1 < hifBase) || decide (bootBase ≤ r.1 ∧ r.1 < memBase) || decide (mgtBase ≤ r.1))
    hbm := { z.hbm with rowUsed := s.hbm.rowUsed, laneUsed := s.hbm.laneUsed }
    cmd := { z.cmd with keys := s.cmd.keys, keyrec := s.cmd.keyrec, spent := s.cmd.spent }
    host := { z.host with portA := s.host.portA, portB := { st := .down, reset := s.host.portB.reset } }
    opt := { z.opt with
      base := s.opt.base.foldl (fun (t : Tbl Baseline) p => t.set {} p.1 { p.2 with use := 0, due := false }) []
      tables := s.opt.tables, temps := s.opt.temps, permit := s.opt.permit }
    fuse := s.fuse
    boot := { s.boot with phase := p, islands := firstIslands, rowmap := [], retention := false, portB := false, coldForm := [], ident := heldIdent s.boot.ident }
    shk := { z.shk with lastCode := s.shk.lastCode, awlHalt := s.shk.awlHalt }
    flash := s.flash, nor := s.nor
    mgt := { s.mgt with dark := .awake, warmDue := false }
    freeNext := s.freeNext, out := s.out, pending := s.pending }

/-- Sole mode: the boot ROM of the port-A shank serves; SHANK_ROLE of its die is sole (R700, R701; 01 R24). -/
def enterSole (s : State) : State :=
  let s1 := s.softReset .sole
  ((match s.boot.straps.getD 0 none with
    | some v => s1.setRole v 3
    | none => s1.setRole 0 3)).recordFatal 0x0F0C

/-- A start fails at stage `n`: the report is copied into the boot record, TRIAL goes back, and the package waits to retry or enters sole mode (R665, R673, R698-R700). The code is already recorded. -/
def failStart (s : State) (n code : Nat) (loc : Loc) (detail : Nat) : State :=
  let rep := s.stageReport n 1 code loc detail
  let b := { s.boot with
    reports := s.boot.reports.put n rep
    record := { s.boot.record with failed := (rep :: s.boot.record.failed).take 3, lastCode := code } }
  let s1 := State.storeBoot { s with boot := revertTrial b } (revertTrial b).record
  if 3 ≤ s.boot.record.fails then s1.enterSole else s1.softReset .waitRetry

/-- DETAIL of stage 1 (R663): the identity words, the locked islands of each die, the mesh bridges, the standby. -/
def detail1 (s : State) (unlocked : List Nat) (joined : Bool) : Nat :=
  ofBytes ((List.range 4).flatMap (fun n => toBytes 4 (s.identWord n).toNat) ++
    (List.range 4).flatMap (fun n => toBytes 8 (maskOf (fun k => !unlocked.contains (44 * n + k)) 44)) ++
    (List.range 4).flatMap (fun b => toBytes 1 (s.bridge b).code) ++ toBytes 1 (b2n joined))

/-- DETAIL of stage 3 (R663). -/
def detail3 (s : State) : Nat :=
  ofBytes (toBytes 16 (maskOf s.linkUp 128) ++ (List.range 4).flatMap (fun y => toBytes 1 (s.opt.base.get {} y).use) ++
    (List.range 4).flatMap (fun y => toBytes 1 (s.retiredCount y)) ++
    (List.range 4).flatMap (fun y => toBytes 1 ((List.range 68).filter (fun k => (s.chOf (68 * y + k)).spare == .bus)).length))

/-- What DETAIL holds of a stage that ends at an event from outside its steps: what stands then (R663). -/
def detailNow (s : State) (n : Nat) : Nat :=
  if n = 1 then s.detail1 ((List.range 176).filter (fun k => !s.boot.islands.contains k)) (s.shk.standby == .inStep)
  else if n = 3 then s.detail3 else 0

/-- Record a stage's failure code and fail the start. -/
def failStage (s : State) (n : Nat) (f : Fail) (detail : Nat := 0) : State :=
  (s.recordFatal f.code f.loc).failStart n f.code f.loc (if detail = 0 then s.detailNow n else detail)

/-! ### Identity (01 R19-R25) -/

/-- PKG_DIE_IDENT after the straps are sampled: an unstable die is described by the entry of its place. -/
def sampledIdent (straps : List (Option Nat)) : Tbl Ident :=
  (List.range 4).foldl (fun (t : Tbl Ident) p =>
    match (straps.getD p none) with
    | none => t.put p { st := 3, fault := 0x101 }
    | some v => if (t.find v).isSome then t else t.put v { rot := v, st := 1 }) []

/-- The straps of the four dies are sampled (R19). -/
def sampleStraps (s : State) (i : Stage0In) : State :=
  let straps := (List.range 4).map (fun p => agreed (i.straps.getD p []))
  let s1 := { s with boot := { s.boot with straps := straps, ident := sampledIdent straps } }
  ((List.range 4).filter (fun p => (straps.getD p none).isNone)).foldl (fun (s : State) p => s.recordFatal 0x0101 (dieLoc p)) s1

/-- The positions that a die's neighbours at native E and S report; none from a die whose straps are unstable. -/
def neighbours (s : State) (p : Nat) : Option Nat × Option Nat :=
  (s.boot.straps.getD ((p + 1) % 4) none, s.boot.straps.getD ((p + 3) % 4) none)

/-- What the die at a place records in the exchange: 0x0102 for neighbours other than those of its position (R22), 0x0103 for a position received twice or equal to its own (R23). -/
def idCodes (s : State) (p v : Nat) : List Nat :=
  let n := s.neighbours p
  (if n.1 = some ((v + 1) % 4) ∧ n.2 = some ((v + 3) % 4) then [] else [0x102]) ++
    (if n.1 = some v ∨ n.2 = some v ∨ n.1 = n.2 ∧ n.1 ≠ none then [0x103] else [])

/-- ID_FAULT of that die: the last code it records (notes/assumptions/35). -/
def idFault (s : State) (p v : Nat) : Nat := (s.idCodes p v).getLast?.getD 0

/-- The entry of a die after the exchange (R25). -/
def idEntry (s : State) (p v : Nat) : Ident :=
  let f := s.idFault p v
  let n := s.neighbours p
  if f = 0 then
    { rot := v, mirror := v % 2 == 1, next := n.1.getD 0, prev := n.2.getD 0, yz := v, host := v % 2 == 0, st := 2, role := if v = 0 then 1 else 0 }
  else { rot := v, st := 3, fault := f }

/-- The codes of the identity check in order: of each die at its place, then the positions that no die claims (R22, R23). -/
def identityFails (s : State) : List Fail :=
  let straps := s.boot.straps
  let own := (List.range 4).flatMap (fun p => match straps.getD p none with
    | some v => (s.idCodes p v).map (fun c => { code := c, loc := dieLoc v : Fail })
    | none => [])
  let free := (List.range 4).filter (fun v => !straps.contains (some v))
  own ++ free.map (fun v => { code := 0x104, loc := dieLoc v : Fail })

/-- PKG_DIE_IDENT after the exchange. -/
def exchangedIdent (s : State) : Tbl Ident :=
  let claimed := (List.range 4).foldl (fun (t : Tbl Ident) p =>
    match s.boot.straps.getD p none with
    | none => t.put p { st := 3, fault := 0x101 }
    | some v => if (t.find v).isSome then t else t.put v (s.idEntry p v)) []
  (List.range 4).foldl (fun (t : Tbl Ident) v => if (t.find v).isSome then t else t.put v { st := 3, fault := 0x104 }) claimed

/-! ### Stage 0 (R666-R673, R692-R697; 14 R632, R638; 18 R815, R826) -/

/-- State of a slot in the stage 0 DETAIL: 0 valid, 1 erase-in-progress, 2 signature fails, 3 digest fails, 4 blank or no header (R663). -/
def slotCode (s : State) (b : Bool) : Nat :=
  let x := s.fslot b
  if slotField x 0 4 = 0x5A434657 ∧ x.state = 0xA5A5#32 then 1
  else if !slotHeader x then 4
  else match (Config.slotVerdict x.bytes s.fuse.rootPk).val with
    | 0 => 0
    | 1 => 2
    | _ => 3

/-- DETAIL of stage 0 (R663). -/
def detail0 (s : State) : Nat :=
  ofBytes (toBytes 1 (b2n s.boot.slotB) ++ toBytes 1 (s.slotCode false) ++ toBytes 1 (s.slotCode true) ++ toBytes 5 0 ++
    toBytes 8 (slotField s.flash.slotA 0x10 8) ++ toBytes 8 (slotField s.flash.slotB 0x10 8) ++ toBytes 8 0 ++
    toBytes 4 s.fuse.rev ++ toBytes 1 s.fuse.variant)

/-- The keys at a cold start: each counter at its mark, the newest one in the key record (18 R819); with a record that does not open, every slot is empty, and K0 holds the transport key while it may (14 R632, R638). -/
def coldKeys (s : State) (opens : Bool) : State :=
  let t : KeySlot := { key := s.fuse.transport, st := .active, rights := 0x3F }
  let kept := if opens then s.cmd.keys.map (fun p => (p.1, { p.2 with
      mark := newestMark s.nor.marks p.1, counter := newestMark s.nor.marks p.1, fails := 0, run := 0, st := if p.2.st = .locked then .active else p.2.st })) else []
  let keys := if !s.fuse.spent && (Tbl.get kept {} 0).st == .empty then Tbl.put kept 0 { t with mark := (Tbl.get kept {} 0).mark, counter := (Tbl.get kept {} 0).mark } else kept
  { s with cmd := { s.cmd with keys := keys, keyrec := opens, spent := s.fuse.spent } }

/-- The flash at stage 0: a suspended erase is abandoned, an update session is over, a device without readable SFDP tables is read only, and writes that waited are lost with the erase (18 R815, R825, R826). -/
def flashStart (s : State) (i : Stage0In) : State :=
  let s1 := { s with
    flash := { s.flash with st := .idle, session := none, stalled := false, buf := [], readOnly := !i.sfdpReadable }
    nor := { s.nor with suspends := i.suspendable, suspended := false, storeWaits := false, waits := [], told := false } }
  let s2 := if s.nor.suspended then s1.record 0x1207 else s1
  if i.sfdpReadable then s2 else s2.record 0x120C

/-- BOOT_FAILS and BOOT_SEQ rise in the boot record; where it cannot be written retention SRAM carries them (R671, R672). -/
def countStart (s : State) (i : Stage0In) : State :=
  let r := { s.boot.record with fails := s.boot.record.fails + 1, seq := s.boot.record.seq + 1 }
  if i.bootRecordFails && !s.flash.readOnly then
    ({ s with boot := { s.boot with record := r, carried := some (r.fails, r.seq) } }).record 0x0F09
  else s.storeBoot r

/-- The fuse checks of stage 0: a group whose CRC fails, but for one PKG copy, and the variant (R668, R695, R696). -/
def fuseFail (s : State) (i : Stage0In) : Option Fail :=
  match i.fuseFail with
  | d :: _ => some { code := 0x0F05, loc := dieLoc d }
  | [] =>
    if i.pkgFail0 && i.pkgFail2 then some { code := 0x0F05, loc := dieLoc 0 }
    else if s.fuse.varcopy.any (fun v => v != s.fuse.variant) || variantRow s.fuse.variant != some (s.fuse.watts, s.fuse.mhz) then
      some { code := 0x0F06 }
    else none

/-- A stage begins; a retention record that fails its CRC is noted (R655, R660). -/
def beginStage (s : State) (n : Fin 5) : State :=
  let s1 := { s with boot := { s.boot with phase := .stage n, cur := { start := s.clk.now, notes := 0 } } }
  if s.boot.warm && s.boot.coldForm.contains n.val then s1.record 0x0F0D else s1

/-- The firmware slot is chosen (R671). -/
def chooseSlot (s : State) : Option State :=
  let sel := s.boot.record.sel
  if s.slotCode sel = 0 then some { s with boot := { s.boot with slotB := sel } }
  else if s.slotCode (!sel) = 0 then
    some (State.record { s with boot := { s.boot with slotB := !sel, fallback := true } } 0x0F03 (slotLoc sel))
  else none

/-- Stage 1 begins: the mesh bridges train unless they are down until the next cold start (R675; 08 R314, R346). -/
def enterStage1 (s : State) : State :=
  (List.range 4).foldl (fun (s : State) b => if s.bridge b == BridgeState.down then s else s.setBridge b .training) (s.beginStage 1)

/-- Stage 0 begins: the start's kind, the flash, the boot record, and in a cold start the key records (R666-R671). -/
def openStage0 (s : State) (i : Stage0In) (warm : Bool) : State :=
  let b := { s.boot with
    warm := warm, fallback := false, reports := [], coldForm := if warm then (i.badRecords.map (fun n => n.val)).eraseDups else [],
    islands := if warm then s.boot.islands else firstIslands }
  let s1 := (({ s with boot := b, cmd := { s.cmd with sole := [], soleNext := 0 } }).beginStage 0).flashStart i
  let s2 := { s1 with boot := { s1.boot with record := s1.readBoot } }
  if warm then s2 else s2.coldKeys i.keyRecordOpens

/-- A trial start that failed is recorded, once (R671). -/
def noteTrial (s : State) : State :=
  if s.boot.trialFailed then ({ s with boot := { s.boot with trialFailed := false } }).record 0x0F04 (slotLoc s.boot.record.sel) else s

/-- The PKG fuse group: P2's copy is used, with 0x0F05, where the CRC of P0's fails (R695). -/
def notePkgFail (s : State) (fails : Bool) : State :=
  let s1 := { s with fuse := { s.fuse with usedP2 := fails } }
  if fails then s1.record 0x0F05 (dieLoc 0) else s1

/-- The end of stage 0: self-tests, fuses, the firmware slot (R671-R673). -/
def closeStage0 (s : State) (i : Stage0In) : State :=
  match i.romFail with
  | d :: _ => s.failStage 0 { code := 0x0F01, loc := dieLoc d }
  | [] =>
    match s.fuseFail i with
    | some f => s.failStage 0 f
    | none =>
      let s1 := s.notePkgFail i.pkgFail0
      match s1.chooseSlot with
      | none => s1.failStage 0 { code := 0x0F02, loc := slotLoc s1.boot.record.sel } s1.detail0
      | some s2 => (s2.passStage 0 s2.detail0).enterStage1

/-- Stage 0 once the port-A shank has passed its self-test, to its end (R666-R673). -/
def runStage0 (s : State) (i : Stage0In) (warm : Bool) : State :=
  let s1 := s.openStage0 i warm
  if 3 ≤ s1.boot.record.fails then s1.enterSole else (s1.countStart i).noteTrial.closeStage0 i

/-- The shank ROM self-test of the port-A die decides whether anything else runs (R666, R673 section). -/
def stage0 (s : State) (i : Stage0In) (warm : Bool) : State :=
  if i.romFail.contains 0 then
    ({ s with
      boot := { s.boot with phase := .shankFailed, islands := [] }
      host := { s.host with portA := { st := .down, reset := s.host.portA.reset }, portB := { st := .down, reset := s.host.portB.reset } } }).recordFatal 0x0F01 (dieLoc 0)
  else s.runStage0 i warm

/-- A cold start: port A leaves detect, then stage 0 (R667, R699). -/
def coldStart (s : State) (i : Stage0In) : State :=
  let a := s.host.portA
  ({ s with boot := { s.boot with ident := heldIdent s.boot.ident }, host := { s.host with portA := if a.reset || a.st != PortState.down then a else { a with st := .l0 } } }).stage0 i false

/-- A cold start after the release of the package's reset: the straps and the SMBus address are sampled (01 R19; 17 R739; 18 R776). -/
def releaseStart (s : State) (i : Stage0In) : State :=
  if s.boot.phase = .heldReset ∧ !s.mgt.resetLow ∧ !s.mgt.railLow then
    let s1 := { s with mgt := { s.mgt with smbAddr := 0x58 + Config.smbStrap.toNat } }
    (s1.sampleStraps i).coldStart i
  else s

/-! ### Stage 1 (R674-R678) -/

/-- The failures that end stage 1 before its bridges: reference clock, islands, straps and identity (R674, R675; 01 R19-R24, R43). -/
def stage1Fail (i : Stage1In) : Option Fail :=
  if i.refclkBad then some { code := 0x0F08 }
  else match i.unlocked.filter (fun k => decide (k.val < 176)) with
    | k :: _ => some { code := 0x0106, loc := dieLoc (k.val / 44) }
    | [] => none

/-- The end of stage 1 once identity and bridges stand: the firmware on P1 to P3, the standby, port B (R676-R678). -/
def finishStage1 (s : State) (i : Stage1In) : State :=
  match i.digestBad with
  | d :: _ => s.failStage 1 { code := 0x0F07, loc := dieLoc d } (s.detail1 [] false)
  | [] =>
    let s1 := { s with
      boot := { s.boot with islands := (s.boot.islands ++ dieIslands).eraseDups, portB := true }
      host := { s.host with portB := if s.host.portB.reset then s.host.portB else { s.host.portB with st := .l0 } }
      shk := { s.shk with standby := .resync, lostSince := s.clk.now } }
    let s2 := if i.standbyJoined then s1.standbyJoins else s1
    s2.passStage 1 (s2.detail1 [] i.standbyJoined)

/-- A test mode or a run of a bridge: while one stands in stage 1, the start is held there (R352, R353; notes/assumptions/65). -/
def testHolds (s : State) : Bool :=
  s.boot.phase == .stage 1 && (List.range 8).any (fun b => s.bits (testReg b) 0 3 != 0 || s.bits (testReg b) 8 1 == 1)

/-- Whether the mesh bridges have trained, or are down until a cold start (08 R314, R346). -/
def meshReady (s : State) : Bool := (List.range 4).all (fun b => s.bridge b == .active || s.bridge b == .down)

/-! ### Stage 2 (R679-R682; 06 R254-R257; 17 R742) -/

/-- Repair one row: a spare row of its bank, its bytes 0; none when the bank has no spare left (06 R254). -/
def repairRow (s : State) (r : Nat) : Option State :=
  let k := rowBank r
  let n := s.hbm.rowUsed.get 0 k
  if 4 ≤ n then none
  else some { s with
    mem := s.mem.clear (2048 * r) 2048
    memErr := s.memErr.filter (fun e => !decide (64 * r ≤ e.1 ∧ e.1 < 64 * r + 64))
    hbm := { s.hbm with rowUsed := s.hbm.rowUsed.set 0 k (n + 1) } }

/-- Repair rows in order, until one has no spare row left: that row, or the state with every row repaired. -/
def repairRows (s : State) : List Nat → Nat ⊕ State
  | [] => .inr s
  | r :: rest =>
    match s.repairRow r with
    | none => .inl r
    | some s1 => repairRows s1 rest

/-- DETAIL of stage 2 (R663): rows and lanes repaired per stack, and the retention histogram. -/
def detail2 (rows : List Nat) (repaired : List (Fin 8 × Nat)) (i : Stage2In) (cold : Bool) : Nat :=
  let lanes := fun h => ((repaired.filter (fun p => p.1.val == h)).map (fun p => p.2)).foldl (fun (a b : Nat) => a + b) 0
  let hist := fun h k => if cold then min 0xFFFF (i.retention.filter (fun p => decide (2048 * p.1 / 0x900000000 = h) && p.2.val == k)).length else 0
  ofBytes ((List.range 8).flatMap (fun h => toBytes 2 (rows.filter (fun r => decide (2048 * r / 0x900000000 = h))).length) ++
    (List.range 8).flatMap (fun h => toBytes 1 (lanes h)) ++
    (List.range 8).flatMap (fun h => (List.range 7).flatMap (fun k => toBytes 2 (hist h k))))

/-- The resident microcode of the firmware in use, as its region holds it (R681; notes/assumptions/8). -/
def microcode (s : State) : List Byte := (Config.resident (s.fslot s.boot.slotB).bytes).take residentLen

/-- The resident region of stack H2n is filled from the verified image (R681, R682). -/
def fillResident (s : State) (n : Nat) : State :=
  let s1 := s.zeroRange (residentAddr n) residentLen
  { s1 with mem := s1.mem.setBytes (residentAddr n) s.microcode }

/-- The records of one quarter of the context table, FREE again (R682; 17 R772; 07 R265). -/
def clearRecords (s : State) (n : Nat) : State := s.zeroRange (s.dword (ctxBase + 0x100 + 8 * n)) 67108864

/-- The end of stage 2 after its tests and repairs: in its cold form every byte is 0 and the journal begins at JSEQ 0; in both the context records are FREE; the RESET entry of the start, and the resident regions (R681, R682, 17 R742). -/
def finishStage2 (s : State) (cold : Bool) : State :=
  let s1 := if cold then { s with mem := [], memErr := [], cmd := { s.cmd with jnlNext := 0, jnlAck := 0 } } else (List.range 4).foldl clearRecords s.flushOwn
  let s2 := { s1 with hbm := { s1.hbm with groupOut := [], chans := [], rowCe := [], repairs := [], known := true } }
  let s3 := if s.boot.warm then s2.journalReset 1 0x1104 else s2.journalReset 0 0
  (List.range 4).foldl fillResident s3

/-- The lanes that step 1 repaired (06 R254, step 1). -/
def repairLanes (s : State) (l : List (Fin 8 × Nat)) : State :=
  { s with hbm := { s.hbm with laneUsed := l.foldl (fun (t : Tbl Nat) p => t.upd 0 p.1.val (fun n => min 64 (n + p.2))) s.hbm.laneUsed } }

/-- The lanes that step 1 repairs: on every stack in the cold form, else on those with a group out of service (06 R257). -/
def stage2Lanes (s : State) (i : Stage2In) (cold : Bool) : List (Fin 8 × Nat) :=
  i.lanesRepaired.filter (fun p => cold || s.hbm.groupOut.any (fun g => g / 4 == p.1.val))

/-- The rows that step 5 repairs: in the cold form those that failed step 2, step 4, or retention at a pause of 256 ms or less, and those of the pending-repair list (06 R254, R256, R257). -/
def stage2Rows (s : State) (i : Stage2In) (cold : Bool) : List Nat :=
  let tested := if cold then i.badRows ++ (i.retention.filter (fun p => decide (p.2.val ≤ 2))).map (fun p => p.1) else []
  (tested ++ s.hbm.repairs).eraseDups.filter (fun r => decide (r < 8 * 0x900000000 / 2048))

/-! ### Stage 3 (R683, R684; 09 R377, R381, R403) -/

/-- The highest version of a chiplet whose CRC checks. -/
def baseVersion (b : Baseline) : Option Nat := ((List.range (b.high + 1)).reverse).find? (fun v => !b.bad.contains v)

/-- Load a chiplet's baseline: 0x0904 for each version that fails; a version other than the last one in use clears the corrections (09 R377, R381). -/
def loadBaseline (s : State) (y : Nat) : State :=
  let b := s.opt.base.get {} y
  let v := (baseVersion b).getD 0
  let bad := ((List.range (b.high + 1)).reverse).filter (fun w => b.bad.contains w && decide (v < w ∨ (baseVersion b).isNone))
  let s1 := bad.foldl (fun (s : State) _ => s.record 0x0904 (chipLoc y)) s
  let clear := v != b.use || s.boot.coldForm.contains 3
  { s1 with opt := { s1.opt with
      base := s1.opt.base.set {} y { b with use := v, due := if clear then false else b.due }
      rings := if clear then
          s1.opt.rings.foldl (fun (t : Tbl RingH) p => if p.1 / 1088 = y then t.set {} p.1 { p.2 with corr := 0 } else t) s1.opt.rings
        else s1.opt.rings } }

/-- Stage 3 begins: chiplet islands, die-to-Yilzar bridges, baseline tables, laser enable (R683). A chiplet with no usable version fails the stage. -/
def enterStage3 (s : State) : State :=
  let s1 := s.beginStage 3
  let s2 := { s1 with boot := { s1.boot with islands := (s1.boot.islands ++ chipIslands).eraseDups } }
  let s3 := (List.range 4).foldl (fun (s : State) y => s.setBridge (4 + y) .training) s2
  let s4 := (List.range 4).foldl loadBaseline s3
  match (List.range 4).find? (fun y => (baseVersion (s.opt.base.get {} y)).isNone) with
  | some y => s4.failStart 3 0x0904 (chipLoc y) s4.detail3
  | none => s4.beginEnable

/-- A link's part in the end of stage 3: not enabled, ACTIVE, 10 s in DETECT, or held out (R684). -/
def linkSettled (s : State) (l : Nat) : Bool :=
  let r := s.lnk l
  !s.lnEnabled l || r.st == .active || (r.st == .detect && (r.duty || r.held))

/-- STAGE_3 ends: bridges active, lasers lit, every link settled (R684). -/
def doStage3 (s : State) : State :=
  if s.boot.phase = .stage 3 ∧ (List.range 4).all (fun y => s.bridge (4 + y) == .active) ∧ s.opt.lit ∧ (List.range 128).all s.linkSettled then
    (s.passStage 3 s.detail3).beginStage 4
  else s

/-- STAGE_2 (R679-R682). -/
def doStage2 (s : State) (i : Stage2In) : State :=
  if s.boot.phase ≠ .stage 2 then s
  else
    let cold := !s.fastStage 2
    let tested := fun (c : Fin 128) => cold || s.hbm.groupOut.contains (c.val / 4)
    let rows := s.stage2Rows i cold
    let lanes := s.stage2Lanes i cold
    let d := detail2 rows lanes i cold
    if i.selfTestBad || i.sramBad then s.failStage 2 { code := 0x0F0B } d
    else match i.phyFail.filter tested with
      | some c => s.failStage 2 { code := 0x0608, loc := chanLoc c } d
      | none =>
        let s1 := s.repairLanes lanes
        match s1.repairRows rows with
        | .inl r => s1.failStage 2 { code := 0x0607, loc := hbmLoc (2048 * r) } d
        | .inr s2 => ((s2.finishStage2 cold).passStage 2 d).enterStage3

/-- STAGE_1: a clock, identity or firmware failure fails the stage; else it ends once the mesh bridges have trained (R674-R678). -/
def doStage1 (s : State) (i : Stage1In) : State :=
  if s.boot.phase ≠ .stage 1 ∨ s.testHolds then s
  else match stage1Fail i with
    | some f => s.failStage 1 f (s.detail1 (i.unlocked.map (fun k => k.val)) false)
    | none =>
      let fails := s.identityFails
      let s1 := { s with boot := { s.boot with ident := s.exchangedIdent } }
      let unstable := s.boot.straps.contains none
      if unstable then
        let s2 := fails.foldl (fun (s : State) f => s.recordFatal f.code f.loc) s1
        s2.failStart 1 0x0101 (dieLoc ((List.range 4).find? (fun p => (s.boot.straps.getD p none).isNone) |>.getD 0)) (s2.detail1 [] false)
      else match fails with
        | f :: _ =>
          let s2 := fails.foldl (fun (s : State) f => s.recordFatal f.code f.loc) s1
          s2.failStart 1 f.code f.loc (s2.detail1 [] false)
        | [] => if s1.meshReady then
            let s2 := s1.finishStage1 i
            if s2.boot.phase = .stage 1 then s2.beginStage 2 else s2
          else s

/-! ### Stage 4 (R685-R690; 01 R31, R44) -/

/-- The rows of a die with a failing tile. -/
def failedRows (i : Stage4In) (n : Nat) : List Nat :=
  (List.range 9).filter (fun r => i.failing.any (fun f => f.1.val == n && f.2.1.val == r))

/-- The lowest failing tile of a die outside row `f`, row by row. -/
def firstFailing (i : Stage4In) (n : Nat) (f : Option Nat) : Loc :=
  let t := ((List.range 36).filter (fun k => some (k / 4) != f && i.failing.any (fun x => x.1.val == n && x.2.1.val == k / 4 && x.2.2.val == k % 4)))
  match t with
  | k :: _ => { kind := 6, unit := n, a := k / 4, b := k % 4 }
  | [] => dieLoc n

/-- The bypassed row of a die, or 0x0307 (R687): the row, its source, and whether 0x0F0A is due. -/
def chooseRow (s : State) (i : Stage4In) (n : Nat) : Option (RowMap × Bool) :=
  let bad := failedRows i n
  match s.fuse.rowSpare.find n with
  | some f => if bad.all (fun r => r == f) then some ({ row := f, src := 0 }, false) else none
  | none =>
    match bad with
    | [] => some ({ row := 8, src := 2 }, false)
    | [x] => some ({ row := x, src := 1 }, true)
    | _ => none

/-- The map of every die in the cold form, with 0x0F0A for rows that the self-test chose (R687, R688). -/
def mapRows (s : State) (i : Stage4In) : List Nat → State → Option State
  | [], t => some t
  | n :: l, t =>
    match s.chooseRow i n with
    | none => none
    | some (m, note) =>
      let t1 := { t with boot := { t.boot with rowmap := t.boot.rowmap.put n m } }
      s.mapRows i l (if note then t1.record 0x0F0A (firstFailing i n none) else t1)

/-- The rows of every die: in the cold form chosen again, else the map of retention SRAM. -/
def stage4Rows (s : State) (i : Stage4In) (cold : Bool) : Option State :=
  if cold then s.mapRows i (List.range 4) s else some s

/-- The islands of a bypassed row (01 R44). -/
def rowIslands (n r : Nat) : List Nat := (List.range 4).map (fun c => 44 * n + 4 * r + c)

/-- Rows that run, by 9·die + physical row. -/
def rowRuns (s : State) (k : Nat) : Bool := decide (k < 36) && k % 9 != (s.boot.rowmap.get { row := 8 } (k / 9)).row

/-- DETAIL of stage 4 (R663). -/
def detail4 (s : State) (i : Stage4In) (cold : Bool) (bad : List Nat) : Nat :=
  ofBytes ((List.range 4).flatMap (fun n =>
      let m := s.boot.rowmap.get {} n
      toBytes 1 (m.row + 16 * m.src)) ++
    (List.range 4).flatMap (fun n => toBytes 8 (if cold then maskOf (fun k => i.failing.any (fun x => x.1.val == n && x.2.1.val == k / 4 && x.2.2.val == k % 4)) 36 else 0)) ++
    toBytes 8 (maskOf (fun k => s.rowRuns k && !bad.contains k) 36) ++ toBytes 1 (s.bits (fabBase + 0x38) 0 5))

/-- What a sequencer of a die fetches: the first 64 KiB of its resident region (03 R136, R137). -/
def fetchMicrocode (s : State) (n : Nat) : List Byte := s.peek (residentAddr n) 65536

/-- The region of a die holds what the manifest's digest of the microcode says; the manifest of the firmware in use was checked at stage 0 (03 R137; R670). -/
def digestChecks (s : State) (n : Nat) : Bool := sha256 (s.peek (residentAddr n) s.microcode.length) == sha256 s.microcode

/-- The logical rows whose sequencers find a digest mismatch: those of a region that does not hold the microcode, and those whose fetch the hardware garbles. -/
def microcodeFails (s : State) (l : List (Fin 32)) : List Nat :=
  (List.range 32).filter (fun r => l.any (fun x => x.val == r) || !s.digestChecks (r / 8))

/-- After the map is set: the spared rows' islands stop, sequencers fetch their microcode, synchronisation starts from 0 (R688, R690). -/
def finishStage4 (s : State) : State :=
  let gone := (List.range 4).flatMap (fun n => rowIslands n (s.boot.rowmap.get { row := 8 } n).row)
  { s with
    boot := { s.boot with islands := s.boot.islands.filter (fun k => !gone.contains k), retention := true }
    seqs := (List.range 32).foldl (fun (t : Tbl RowSeq) r => t.put r { microcode := s.fetchMicrocode (r / 8) }) []
    sync := {}
    regs := s.regs.filter (fun p => !decide (ctxBase + 0x44000 ≤ p.1 ∧ p.1 < ctxBase + 0x44200)) }

/-- STAGE_4: the self-test and the row map, or the map of retention SRAM, then microcode and synchronisation objects; its report stands until START_PASSED (R685-R690). -/
def doStage4 (s : State) (i : Stage4In) : State :=
  if s.boot.phase ≠ .stage 4 ∨ (s.boot.reports.find 4).isSome then s
  else
    let cold := !s.fastStage 4
    match s.stage4Rows i cold with
    | none =>
      let n := ((List.range 4).find? (fun n => (s.chooseRow i n).isNone)).getD 0
      s.failStage 4 { code := 0x0307, loc := firstFailing i n (s.fuse.rowSpare.find n) } (s.detail4 i cold [])
    | some s1 =>
      let bad := (s1.microcodeFails i.microcodeBad).map (fun r => 9 * (r / 8) + s1.physRow r)
      match bad with
      | k :: _ => s1.failStage 4 { code := 0x0301, loc := { kind := 6, unit := k / 9, a := k % 9, b := 0xFFFF } } (s1.detail4 i cold bad)
      | [] =>
        let s2 := s1.finishStage4
        s2.passStage 4 (s2.detail4 i cold [])

/-! ### The end of a start, and its failures (R656-R659, R677, R698-R703; 18 R827) -/

/-- An erase that a reset cut short runs again from sector 383 (18 R827); an update that ended sets UPD_STATE to idle. -/
def resumeErase (s : State) : State :=
  let r := s.boot.record
  let other := !s.boot.slotB
  let marked := slotField (s.fslot other) 0 4 == 0x5A434657 && (s.fslot other).state == 0xA5A5#32
  let slot := if r.updState = .erasing then r.updSlot else other
  if (r.updState = .erasing ∨ marked) ∧ !s.flash.readOnly then
    let s1 := s.setUpd slot .erasing
    let s2 := { s1 with flash := { s1.flash with st := .erasing, slot := slot, sector := 383, session := none, stalled := false } }
    s2.takeFlash.record 0x1208 (slotLoc slot)
  else if r.updState = .erased ∧ (s.fslot r.updSlot).state = 0xFFFFA5A5#32 then
    s.storeBoot { r with updState := .idle }
  else s

/-- START_PASSED: BOOT_FAILS and TRIAL clear, epoch 0 begins (R658, R690, R691; 02 R64, R65). -/
def doStartPassed (s : State) : State :=
  if s.boot.phase = .stage 4 ∧ ((s.boot.reports.find 4).map (fun r => r.result != 1)) = some true then
    let s1 := { s with
      boot := { s.boot with phase := .started, coldForm := [] }
      clk := { now := s.clk.now, sub := s.clk.sub } }
    (s1.storeBoot { s.boot.record with fails := 0, trial := false }).setTiming.resumeErase
  else s

/-- STAGE_WATCHDOG_EXPIRY (R656). -/
def doStageWatchdog (s : State) : State :=
  match s.boot.phase with
  | .stage n => if (s.boot.reports.find n.val).isSome then s else s.failStage n { code := 0x0F10 + n.val }
  | _ => s

/-- FAILED_START_RETRY (R699). -/
def doRetryStart (s : State) (i : Stage0In) : State := if s.boot.phase = .waitRetry then s.coldStart i else s

/-- STANDBY_JOIN_TIMEOUT (R677). -/
def doJoinTimeout (s : State) : State :=
  let waits := match s.boot.phase with
    | .stage n => decide (1 ≤ n.val)
    | .started => true
    | _ => false
  if waits && !s.shk.headless && (s.shk.standby == .none || s.shk.standby == .resync) then s.record 0x0F0E (dieLoc s.standbyPos) else s

/-- BOOT_FAILS clears in the boot record; behind an erase that cannot be suspended, which the start abandons, retention SRAM carries it (R672, R703). -/
def clearFails (s : State) : State :=
  let r := { s.boot.record with fails := 0 }
  if s.eraseRuns && !s.nor.suspends then { s with boot := { s.boot with record := r, carried := some (0, r.seq) } } else s.storeBoot r

/-- Sole mode ends with a cold start; BOOT_FAILS clears (R703). -/
def doRetry (s : State) (i : Stage0In) : State := if s.boot.phase = .sole then s.clearFails.coldStart i else s

/-- LASER_PERMIT_TIMEOUT: stage 3 fails where the sequence still waits (09 R403). -/
def doPermitTimeout (s : State) : State :=
  if s.boot.phase = .stage 3 ∧ s.opt.enable = .waiting then s.failStage 3 { code := 0x0903 } else s

end State

/-! ### Meanings -/

/-- STAGE_1 (R675). -/
def execStage1 (i : Stage1In) (s : State) : Res := .next (s.doStage1 i)
/-- STAGE_2 (R256). -/
def execStage2 (i : Stage2In) (s : State) : Res := .next (s.doStage2 i)
/-- STAGE_3 (R684). -/
def execStage3 (s : State) : Res := .next s.doStage3
/-- STAGE_4 (R687). -/
def execStage4 (i : Stage4In) (s : State) : Res := .next (s.doStage4 i)
/-- START_PASSED (R658). -/
def execStartPassed (s : State) : Res := .next s.doStartPassed
/-- STAGE_WATCHDOG_EXPIRY (R656). -/
def execStageWatchdogExpiry (s : State) : Res := .next s.doStageWatchdog
/-- FAILED_START_RETRY (R699). -/
def execFailedStartRetry (i : Stage0In) (s : State) : Res := .next (s.doRetryStart i)
/-- STANDBY_JOIN_TIMEOUT (R677). -/
def execStandbyJoinTimeout (s : State) : Res := .next s.doJoinTimeout
/-- RETRY (R703). -/
def execRetry (i : Stage0In) (s : State) : Res := .next (s.doRetry i)
/-- LASER_PERMIT_TIMEOUT (09 R403). -/
def execLaserPermitTimeout (s : State) : Res := .next s.doPermitTimeout

end Sys2Proof.Machine
end

