-- ==== Sys2Proof/Machine/Training.lean ====
section
/-! DEFINITION. Bridge training, the INIT exchange and the bridge test modes (08 R314-R316, R332, R345, R346, R352-R355; 20 R868-R870). -/

namespace Sys2Proof.Machine

/-- The code and the place of a training that failed (08 R314, R315); none when it passed. -/
def trainFail (b : Nat) (e : TrainEnd) : Option Fail :=
  let at' := fun (dir : Bool) (slice wire : Nat) => ({ kind := 4, unit := b + 8 * b2n dir, a := slice, b := wire } : Loc)
  match e with
  | .passed => none
  | .noClock d sl => some { code := 0x0801, loc := at' d sl 37 }
  | .noDeskew d sl w => some { code := 0x0802, loc := at' d sl w }
  | .wireError d sl w => some { code := 0x0803, loc := at' d sl w }
  | .latency => some { code := 0x0804, loc := at' false 0 0 }
  | .initFailed => some { code := 0x0809, loc := at' false 0 0 }

/-- The word and shift of a checker count (20 R870). -/
def countReg (b sl w : Nat) : Nat := let o := 2 * (38 * sl + w); sbrBase + 0x100000 + 0x8000 * b + (o - o % 4)
def countShift (sl w : Nat) : Nat := 16 * ((38 * sl + w) % 2)

/-- The slices that a bridge has: 384 on Mn, with the feed slice on M0 and M1, 256 on Wn (01, 20 R870). -/
def sliceExists (b sl : Nat) : Bool := if 4 ≤ b then decide (sl < 256) else decide (sl < 384) || (decide (b < 2) && sl == 384)

/-- Bits of SBR_TEST_b that an awl write reaches: MODE, PAT and DIR (20, SBR test). -/
def testMask : Word := 0x277#32

/-- `n` steps of a PRBS generator with taps `a` and `b` from a state that is not 0, and its output (R354; the polynomials of PRBS-7 and PRBS-15 and the generators' starts are not in the spec: notes/assumptions/65). -/
def testPrbsState (a b st : Nat) : Nat → Nat
  | 0 => st
  | n + 1 =>
    let x := testPrbsState a b st n
    (2 * x + b2n (x.testBit (a - 1) != x.testBit (b - 1))) % 2 ^ a
def testPrbs (a b seed n : Nat) : Bool := (testPrbsState a b (if seed % 2 ^ a = 0 then 1 else seed % 2 ^ a) (n + 1)).testBit 0

/-- Bit `n` that a test pattern puts on a wire (R354): PRBS-7, PRBS-15, PRBS-31, walking one then zero, crosstalk, 1010, the user word. -/
def testBit (pat user seed w n : Nat) : Bool :=
  match pat with
  | 0 => testPrbs 7 6 seed n
  | 1 => testPrbs 15 14 seed n
  | 2 => testPrbs 31 28 seed n
  | 3 => if n % 76 < 38 then n % 76 == w else n % 76 - 38 != w
  | 4 => n / 2 % 38 != w && n % 2 == 1
  | 5 => n % 2 == 0
  | _ => user.testBit (n % 64)

namespace State

/-! ### Training -/

/-- A bridge's training results are kept in retention SRAM (R316). -/
def keepTraining (s : State) (b : Nat) : State :=
  { s with br := { s.br with trained := if s.br.trained.contains b then s.br.trained else s.br.trained ++ [b] } }

/-- A mesh bridge that trained carries lines (R314). -/
def meshTrained (s : State) (b : Nat) : State :=
  (({ s with br := { s.br with due := s.br.due.filter (fun x => x != b) } }).keepTraining b).setBridge b .active

/-- A warm start finds the bridge's training results: it restores the delays and runs no deskew sweep and no wire check (R316, 15 R660). -/
def restoresDelays (s : State) (b : Nat) : Bool :=
  !s.started && s.boot.warm && s.br.trained.contains b && !s.boot.coldForm.contains (if b < 4 then 1 else 3)

/-- A step of the training sequence that a bridge does not run has no outcome. -/
def skipsStep (s : State) (b : Nat) (e : TrainEnd) : Bool :=
  s.restoresDelays b && (match e with
    | .noDeskew _ _ _ => true
    | .wireError _ _ _ => true
    | _ => false)

/-- A mesh bridge that failed its retrain stays down until the next cold start; its port islands stop (R346, R347). -/
def meshFailed (s : State) (b : Nat) (f : Fail) : State :=
  let s0 := ((s.record 0x0803 f.loc).record 0x080C { kind := 4, unit := b }).setBridge b .down
  let s1 := { s0 with br := { s0.br with due := s0.br.due.filter (fun x => x != b) } }
  { s1 with boot := { s1.boot with islands := s1.boot.islands.filter (fun k => !(meshIslands b).contains k) } }

/-- A try of the INIT exchange of Wy: the die sends its index, the fused variant and its credits (R345). -/
def sendInit (s : State) (b n : Nat) : State :=
  ({ s with br := { s.br with initTries := s.br.initTries.set 0 b n } }).emit (.init (b - 4) s.fuse.variant initAdv)

/-- The INIT exchange of Wy begins: its first try (R345). -/
def beginInit (s : State) (b : Nat) : State := s.sendInit b 1

/-- A bridge's training ended: in its stage, or at run time for a mesh bridge (R314, R316, R346). -/
def doBridge (s : State) (b : Nat) (e : TrainEnd) : State :=
  if s.bridge b ≠ .training ∨ s.skipsStep b e ∨ s.testHolds then s
  else match s.boot.phase, decide (b < 4), trainFail b e with
    | .stage 1, true, none => s.meshTrained b
    | .stage 1, true, some f => s.failStage 1 f
    | .stage 3, false, none => s.beginInit b
    | .stage 3, false, some f => s.failStage 3 f
    | .started, true, none => s.meshTrained b
    | .started, true, some f => s.meshFailed b f
    | _, _, _ => s

/-- BRIDGE_TRAINING of a bridge, or of one channel of a Wn (R342). -/
def doTraining (s : State) (b : Nat) (chan : Option (Fin 32)) (e : TrainEnd) : State :=
  match chan with
  | some c => if 4 ≤ b ∧ s.started then s.chanTrained (b - 4) c.val (e == .passed) else s
  | none => s.doBridge b e

/-- Whether Wy waits for its INIT_ACK. -/
def initOpen (s : State) (y : Nat) : Bool :=
  s.boot.phase == .stage 3 && s.bridge (4 + y) == .training && decide (0 < s.br.initTries.get 0 (4 + y))

/-- INIT_ACK: every channel starts with the credits that the two ends advertised; the fuse revision of the chiplet is read, and its training results are kept (R316, R332, R345). -/
def doInitAck (s : State) (y : Nat) (rev : Word) (adv : List (Nat × Nat)) : State :=
  if s.initOpen y then
    let s1 := (((List.range 32).foldl (fun (s : State) c => s.chanStart adv y c) s).keepTraining (4 + y)).setBridge (4 + y) .active
    { s1 with
      br := { s1.br with initTries := s1.br.initTries.set 0 (4 + y) 0 }
      fuse := { s1.fuse with yzRev := s1.fuse.yzRev.set 0 y rev.toNat } }
  else s

/-- INIT_TIMEOUT: the third try without an answer fails stage 3 (R345). -/
def doInitTimeout (s : State) (y : Nat) : State :=
  if s.initOpen y then
    let n := s.br.initTries.get 0 (4 + y)
    if n < 3 then s.sendInit (4 + y) (n + 1)
    else s.failStage 3 { code := 0x0809, loc := { kind := 4, unit := 4 + y } }
  else s

/-! ### Test modes (R352-R355) -/

/-- A package held at the start of stage 1, before a mesh bridge has trained, with no resident last (R352). -/
def testOpen (s : State) : Bool :=
  s.boot.phase == .stage 1 && s.cmd.lasts.isEmpty && (List.range 4).all (fun b => s.bridge b != .active)

/-- RUN of SBR_TEST_b. -/
def testRuns (s : State) (b : Nat) : Bool := s.bits (testReg b) 8 1 == 1

/-- A checker count of a receiving direction: that of DIR 1 stands outside BAR0, which shows one direction at a time (R355, 20 R870). -/
def countAt (b : Nat) (dir : Bool) (sl w : Nat) : Nat := (if dir && decide (b < 4) then 0x8000000 else 0) + countReg b sl w

/-- RUN goes to 1: every checker count of the bridge and ERR clear (20 R869). -/
def testStart (s : State) (b : Nat) : State :=
  if s.testOpen && !s.testRuns b then
    let lo := countReg b 0 0
    let s1 := { s with
      regs := s.regs.filter (fun p => !decide (lo ≤ p.1 % 0x8000000 ∧ p.1 % 0x8000000 < lo + 0x8000))
      br := { s.br with testEnd := s.br.testEnd.filter (fun x => x != b) } }
    s1.setWord (testReg b) (s1.word (testReg b) &&& 0xFFFEFFFF#32 ||| 0x100#32)
  else s

/-- Mismatches on one wire add to its count, up to 2^16 − 1 (R355). -/
def addCount (s : State) (b : Nat) (dir : Bool) (sl w n : Nat) : State :=
  let o := countAt b dir sl w
  let c := s.bits o (countShift sl w) 16
  s.setWord o (BitVec.ofNat 32 ((s.word o).toNat + (min (c + n) 0xFFFF - c) * 2 ^ countShift sl w))

/-- A checker compares in modes 1 to 4; mode 0 is normal operation, and no other mode is named (R353). -/
def testCompares (s : State) (b : Nat) : Bool := decide (1 ≤ s.bits (testReg b) 0 3 ∧ s.bits (testReg b) 0 3 ≤ 4)

/-- The mismatches of the bits that a wire's checker received in a run against the pattern that SBR_TEST_b selects (R354, R355). -/
def mismatches (s : State) (b sl w : Nat) (received : List Bool) : Nat :=
  let pat := s.bits (testReg b) 4 3
  if s.testCompares b && decide (pat < 7) then
    ((received.zipIdx).filter (fun x => x.1 != testBit pat (s.dword (testReg b + 8)) (Config.testSeed b sl w) w x.2)).length
  else 0

/-- RUN goes to 0: the run's mismatches are counted; with any, ERR is 1 and 0x080B is recorded (R355, 20 R869). -/
def testStop (s : State) (b : Nat) (received : List (Bool × Fin 385 × Fin 38 × List Bool)) : State :=
  if s.testRuns b || s.br.testEnd.contains b then
    let hits := ((received.filter (fun e => sliceExists b e.2.1)).map (fun e => (e.1, e.2.1.val, e.2.2.1.val, s.mismatches b e.2.1 e.2.2.1 e.2.2.2))).filter
      (fun e => decide (0 < e.2.2.2))
    let s0 := { s with br := { s.br with testEnd := s.br.testEnd.filter (fun x => x != b) } }
    let s1 := hits.foldl (fun (s : State) e => s.addCount b e.1 e.2.1 e.2.2.1 e.2.2.2) s0
    let w := s1.word (testReg b) &&& 0xFFFFFEFF#32
    match hits with
    | [] => s1.setWord (testReg b) w
    | e :: _ =>
      (s1.setWord (testReg b) (w ||| 0x10000#32)).record 0x080B
        { kind := 4, unit := b + (if e.1 && decide (b < 4) then 8 else 0), a := if e.2.1 = 384 then 0xFFFF else e.2.1, b := e.2.2.1 }
  else s

/-- A register write sets RUN to 0: generators and checkers stop, and SBR_TEST_RUN_STOP brings what the checkers found (20 R869; notes/assumptions/65). -/
def testHalt (s : State) (b : Nat) : State :=
  { s with br := { s.br with testEnd := s.br.testEnd ++ [b] } }.setWord (testReg b) (s.word (testReg b) &&& 0xFFFFFEFF#32)

/-- MODE, PAT and DIR are written, unless the test runs (20 R869). -/
def testMode (s : State) (b : Nat) (w : Word) : State :=
  if s.testRuns b then s
  else s.setWord (testReg b) (s.word (testReg b) &&& ~~~testMask ||| w &&& testMask)

/-- AWL_TEST: answered done, or refused outside R352 with no change. -/
def doAwlTest (s : State) (b : Nat) (w : Word) : State :=
  if s.testOpen then (s.testMode b w).emit (.awl 0 0 0) else s.emit (.awl 2 0 0)

end State

/-! ### Meanings -/

/-- BRIDGE_TRAINING (R314). -/
def execBridgeTraining (b : Fin 8) (chan : Option (Fin 32)) (e : TrainEnd) (s : State) : Res := .next (s.doTraining b chan e)
/-- INIT_ACK (R345). -/
def execInitAck (y : Fin 4) (reply : InitReply) (s : State) : Res :=
  .next (s.doInitAck y reply.rev (reply.adv.map (fun p => (p.1.val, p.2.val))))
/-- INIT_TIMEOUT (R345). -/
def execInitTimeout (y : Fin 4) (s : State) : Res := .next (s.doInitTimeout y)
/-- SBR_TEST_RUN_START (20 R869). -/
def execSbrTestRunStart (b : Fin 8) (s : State) : Res := .next (s.testStart b)
/-- SBR_TEST_RUN_STOP (20 R869). -/
def execSbrTestRunStop (b : Fin 8) (received : List (Bool × Fin 385 × Fin 38 × List Bool)) (s : State) : Res := .next (s.testStop b received)
/-- AWL_TEST (R352). -/
def execAwlTest (b : Fin 8) (mode : Word) (s : State) : Res := .next (s.doAwlTest b mode)

end Sys2Proof.Machine
end

