-- ==== Sys2Proof/Machine/Lifecycle.lean ====
section
/-! DEFINITION. Cold and warm resets, dark-idle, temperatures, rails and clock islands (01 R42, R43; 17 R736-R745, R757, R766-R772; 21 R885, R889-R892). -/

namespace Sys2Proof.Machine

/-- The location of an island's event: its die or its chiplet. -/
def islandLoc (i : Nat) : Loc := if i < 176 then dieLoc' (i / 44) else chipLoc ((i - 176) / 12)
where
  /-- The location of a die. -/
  dieLoc' (n : Nat) : Loc := { kind := 1, unit := n }

/-- Register words that a warm reset returns to their cold values (17 R772): PKG_POWER_CTL, ring set-up and MSI-X tables, FB_CTL_k and SYN_OVF, TIL_ROW_MODE, SFU_CTL and SFU_EPS, and the flags of the tiles. -/
def warmCold (o : Nat) : Bool :=
  o == 0x210 ||
  decide (hifBase + 0x10000 ≤ o ∧ o < hifBase + 0x50000) || decide (hifBase + 0x80000 ≤ o ∧ o < hifBase + 0x88000) || decide (0x4000000 ≤ o) ||
  decide (ctxBase + 0x1000 ≤ o ∧ o < ctxBase + 0x1400) || decide (ctxBase + 0x44000 ≤ o ∧ o < ctxBase + 0x44200) ||
  (decide (tilBase 0 ≤ o ∧ o < mgtBase) && (let k := o % 0x40000; k == 0x10 || (decide (0x10000 ≤ k) && k % 0x400 != 8)))

/-- The islands that stop in dark-idle: tiles and sequencers, HBM3E controllers, bridge ports, lane digital (17 R767). -/
def darkIsland (i : Nat) : Bool :=
  if i < 176 then decide (i % 44 < 36) || decide (37 ≤ i % 44 ∧ i % 44 ≤ 41)
  else decide ((i - 176) % 12 < 4) || (i - 176) % 12 == 9

/-- The islands that run on through a warm reset: the port-A shank and both host interfaces (17 R744). -/
def warmIsland (i : Nat) : Bool := i == 42 || i == 43 || i == 131

namespace State

/-! ### Cold reset (17 R741, R772; 15 R659, R698) -/

/-- The package as a cold reset leaves it: State.reset, with what fuses, flash, the stacks' repair fuses and the environment hold. A start that it interrupts has failed. -/
def doColdReset (s : State) : State :=
  let z := State.reset
  let interrupted := match s.boot.phase with
    | .stage _ => !s.mgt.warmDue
    | _ => false
  let b : Boot := { record := s.boot.record, trialFailed := s.boot.trialFailed, carried := s.boot.carried }
  let b1 := if interrupted then revertTrial b else b
  let nor := { s.nor with storeWaits := false, waits := [] }
  { z with
    fuse := { s.fuse with usedP2 := false }
    boot := b1
    nor := if interrupted && !s.flash.readOnly then { nor with boot := nor.boot.write bootBytes b1.record } else nor
    hbm := { z.hbm with rowUsed := s.hbm.rowUsed, laneUsed := s.hbm.laneUsed }
    cmd := { z.cmd with keys := s.cmd.keys }
    host := { z.host with
      portA := { st := .down, reset := s.host.portA.reset }
      portB := { st := .down, reset := s.host.portB.reset } }
    opt := { z.opt with
      base := s.opt.base.foldl (fun (t : Tbl Baseline) p => t.set {} p.1 { p.2 with use := 0, due := false }) []
      tables := s.opt.tables, temps := s.opt.temps, permit := s.opt.permit }
    flash := { slotA := s.flash.slotA, slotB := s.flash.slotB }
    mgt := { z.mgt with
      health := s.mgt.health, dieTemps := s.mgt.dieTemps, yzTemps := s.mgt.yzTemps, stackTemps := s.mgt.stackTemps, railLow := s.mgt.railLow }
    freeNext := s.freeNext, out := s.out, pending := s.pending }

/-- RAIL_UNDERVOLTAGE: power is lost too, so counts that only retention SRAM carried are lost (21 R885; 15 R672). -/
def doRailLow (s : State) : State :=
  let s1 := s.doColdReset
  let s2 := { s1 with boot := { s1.boot with carried := none }, nor := { s1.nor with suspended := false } }
  { s2 with
    boot := { s2.boot with record := s2.readBoot }
    mgt := { s1.mgt with railLow := true, resetLow := s.mgt.resetLow } }

/-- RESET_N_RELEASE (17 R739). -/
def doResetRelease (s : State) (i : Stage0In) : State :=
  if s.mgt.resetLow then State.releaseStart { s with mgt := { s.mgt with resetLow := false } } i else s

/-- RAIL_RECOVERY (21 R885). -/
def doRailRecovery (s : State) (i : Stage0In) : State :=
  if s.mgt.railLow then State.releaseStart { s with mgt := { s.mgt with railLow := false } } i else s

/-! ### Warm reset (17 R743-R745, R772; 15 R659) -/

/-- Whether a warm reset may be requested now: after stage 4 of the current start (15 R659). -/
def warmAllowed (s : State) : Bool := s.started && !s.shk.headless

/-- A warm reset is requested: 0x1104, and it begins (17 R743). -/
def requestWarm (s : State) : State :=
  if s.mgt.warmDue then s else State.record { s with mgt := { s.mgt with warmDue := true } } 0x1104

/-- Whether the package's registers answer while it is not started: a start, a wait or sole mode (15 R667, R701). -/
def bringUp (s : State) : Bool :=
  match s.boot.phase with
  | .stage _ => true
  | .sole => true
  | .waitRetry => true
  | _ => false

/-- PKG_RESET_CTL written through the PF; every value but 0x0000_5752 is ignored; before stage 4 has passed it is refused with 0x0F0F (17 R743, 15 R659, 20 R908). MCTP has its own message. -/
def doPkgReset (s : State) (src : Src) (fn : Nat) (v : Word) : State :=
  if fn ≠ 0 ∨ src = .mctp ∨ v ≠ 0x5752#32 then s
  else if s.warmAllowed then s.requestWarm
  else if s.bringUp then (s.record 0x0F0F).hifDrop
  else s

/-- A ring's CHECK that waited for its mark is dropped with its ring; the mark that was being stored stands (17 R744; 18 Worked case 18.1). -/
def storeMark (s : State) : State :=
  match s.cmd.marking with
  | none => s
  | some c => (s.setKey (dKslot c.d) { s.key (dKslot c.d) with mark := markFor c }).programMark (dKslot c.d) (markFor c)

/-- The optics through a warm reset: corrections, dead primaries and the tables stand; all else is dark (17 R772). -/
def warmOptics (o : Optics) : Optics :=
  { channels := o.channels.foldl (fun (t : Tbl Channel) (p : Nat × Channel) =>
      t.set {} p.1 { primary := if p.2.primary = .dead then .dead else .dark, spare := if p.2.spare = .dead then .dead else .dark }) []
    rings := o.rings.foldl (fun (t : Tbl RingH) (p : Nat × RingH) => t.set {} p.1 { corr := p.2.corr }) []
    base := o.base, tables := o.tables, temps := o.temps, permit := o.permit }

/-- A warm reset drops the rings, the MSI-X tables and every context (17 R744). -/
def warmDropped (s : State) : State :=
  let s1 := ((s.storeMark.resetRings (fun _ => true)).coldMsix (fun _ => true)).bump 0x228
  (s1.ctx.live.map (fun c => c.idx)).foldl freeCtx s1

/-- What the survival table keeps of `s`, and of the ports, the clock, the optics and the update engine as they were in `b`; the rest is at its cold value (17 R772). -/
def warmKept (s b : State) : State :=
  let z := State.reset
  let hbm := fun (a : Nat) => decide (a < 8 * 0x900000000)
  let ports := fun (p : PortRec) => if p.st == .l1 then { p with st := PortState.l0 } else p
  { z with
    clk := { z.clk with now := b.clk.now, sub := b.clk.sub }
    regs := s.regs.filter (fun p => !warmCold p.1)
    mem := s.mem.filter (fun p => hbm p.1)
    memErr := s.memErr.filter (fun p => hbm (32 * p.1))
    hbm := { s.hbm with chans := [] }
    cmd := { s.cmd with queue := [], marking := none, lasts := s.cmd.lasts.filter (fun p => p.2.st == .validating) }
    host := { z.host with portA := ports b.host.portA, portB := ports b.host.portB, vfs := b.host.vfs, d3 := b.host.d3, copyNext := b.host.copyNext }
    br := { z.br with st := b.br.st.filter (fun p => decide (p.1 < 4) && p.2 == .down), feedOk := b.br.feedOk, trained := b.br.trained.filter (fun x => !b.br.due.contains x) }
    opt := warmOptics b.opt
    fab := { z.fab with adopt := b.joined }
    fuse := s.fuse
    boot := { s.boot with
      phase := .stage 0, warm := true, reports := [], cur := { start := b.clk.now }, portB := true
      ident := s.boot.ident.map (fun p => (p.1, { p.2 with role := if p.1 = 0 then 1 else 0 })) }
    shk := { z.shk with lastCode := b.shk.lastCode }
    flash := { b.flash with session := none, stalled := false, st := .idle }
    nor := s.nor
    mgt := { s.mgt with assembling := false, answers := [], locks := [], replace := 0#7, replaceLow := false, replaceForced := false, lanesLow := none, dark := .awake }
    freeNext := s.freeNext, out := s.out, pending := s.pending }

/-- WARM_RESET_SEQUENCE: what the survival table returns to its cold value, at once (17 R744, R772). -/
def doWarmSequence (s : State) : State :=
  if !(s.mgt.warmDue && s.started) then s else s.warmDropped.flushOwn.warmKept s

/-- WARM_RESET_SELF_REFRESH (17 R744). -/
def doWarmSelfRefresh (s : State) : State :=
  if s.mgt.warmDue && s.boot.phase == .stage 0 then
    { s with boot := { s.boot with islands := s.boot.islands.filter warmIsland } }
  else s

/-- WARM_STAGE_0_START (17 R744): a warm start from the retention records. -/
def doWarmStage0 (s : State) (i : Stage0In) : State :=
  if s.mgt.warmDue && s.boot.phase == .stage 0 then
    State.stage0 { s with mgt := { s.mgt with warmDue := false }, boot := { s.boot with islands := firstIslands ++ [131] } } i true
  else s

/-! ### Dark-idle (17 R767-R769) -/

/-- DARK_IDLE_SELF_REFRESH: 100 µs after entry. -/
def doDarkIdle (s : State) : State :=
  if s.mgt.dark = .entered then
    { s with mgt := { s.mgt with dark := .idle }, boot := { s.boot with islands := s.boot.islands.filter (fun i => !darkIsland i) } }
  else s

/-- An island that may start again: not of a spared row, of a controller out of service, or at a bridge that is down. -/
def mayRun (s : State) (i : Nat) : Bool :=
  let n := i / 44
  let row := decide (i < 176 ∧ i % 44 < 36) && i % 44 / 4 == (s.boot.rowmap.get { row := 8 } n).row
  let ctl := s.hbm.groupOut.any (fun g => i == hbmIsland (g / 4))
  let port := (List.range 4).any (fun b => s.bridge b == .down && (meshIslands b).contains i)
  !row && !ctl && !port

/-- DARK_EXIT_TILE_START: islands start, scratch, accumulators, vector registers and statistics are 0, sequencers fetch their microcode; a row whose digest fails stays stopped with 0x0301 (17 R769, R772; 05 R212). -/
def doDarkTiles (s : State) (bad : List (Fin 32)) : State :=
  if s.mgt.dark ≠ .leaving then s
  else
    let badRows := s.microcodeFails bad
    let stopped := badRows.flatMap (fun r => rowIslands (r / 8) (s.physRow r))
    let back := ((dieIslands ++ chipIslands).filter (fun i => darkIsland i && s.mayRun i)).filter (fun i => !stopped.contains i)
    let s0 := s.zeroRange (scratchAddr 0) (scratchAddr 128 - scratchAddr 0)
    let s1 := { s0 with
      mgt := { s.mgt with dark := .tiles }
      boot := { s.boot with islands := ((s.boot.islands.filter (fun i => !stopped.contains i)) ++ back).eraseDups }
      tiles := []
      seqs := (List.range 32).foldl (fun (t : Tbl RowSeq) r => t.put r { microcode := if badRows.contains r then [] else s.fetchMicrocode (r / 8) }) [] }
    badRows.foldl (fun (s : State) r => s.record 0x0301 { kind := 6, unit := r / 8, a := s.physRow r, b := 0xFFFF }) s1

/-- DARK_EXIT_SQ_RESUME (17 R769). -/
def doDarkResume (s : State) : State :=
  if s.mgt.dark = .tiles then { s with mgt := { s.mgt with dark := .awake } } else s

/-! ### Temperatures (21 R890, R891; 02 R80) and islands (01 R42, R43) -/

/-- Readings that passed a limit since the last ones. -/
def tripped (limit : Int) (old : Tbl Int) (now : List Int) : List Nat :=
  (List.range now.length).filter (fun k => decide (old.get 0 k ≤ limit) && decide (limit < now.getD k 0))

/-- Readings as a table; a list that is too short leaves the rest as they are. -/
def readings (old : Tbl Int) (now : List Int) (n : Nat) : Tbl Int :=
  (List.range (min n now.length)).foldl (fun (t : Tbl Int) k => t.set 0 k (now.getD k 0)) old

/-- TEMPERATURE_READ: each die, chiplet or stack that passes its limit records 0x1101 and aborts the epoch. -/
def doTemperature (s : State) (dies chips hbms : List Int) : State :=
  let d := tripped dieTrip s.mgt.dieTemps (dies.take 4)
  let y := tripped dieTrip s.mgt.yzTemps (chips.take 4)
  let h := (tripped stackTrip s.mgt.stackTemps (hbms.take 8)).map (fun k => k / 2)
  let s1 := { s with mgt := { s.mgt with
    dieTemps := readings s.mgt.dieTemps dies 4, yzTemps := readings s.mgt.yzTemps chips 4, stackTemps := readings s.mgt.stackTemps hbms 8 } }
  if s.boot.phase = .heldReset then s1
  else (d ++ y ++ h).foldl (fun (s : State) n => s.abortWith 0x1101 (dieLoc n)) s1

/-- CROSSING_DEADLINE_MISS: the crossing into an island that runs (R42). -/
def doCrossing (s : State) (i : Nat) : State :=
  if s.boot.islands.contains i then s.abortWith 0x0105 (islandLoc i) else s

/-- ISLAND_LOCK_LOSS: the island stops (R43). -/
def doLockLoss (s : State) (i : Nat) : State :=
  if s.boot.islands.contains i then
    State.abortWith { s with boot := { s.boot with islands := s.boot.islands.filter (fun k => k != i) } } 0x0106 (islandLoc i)
  else s

end State

/-! ### Meanings -/

/-- COLD_RESET (17 R741). -/
def execColdReset (s : State) : Res := .next s.doColdReset
/-- RESET_N_RELEASE (17 R739). -/
def execResetNRelease (i : Stage0In) (s : State) : Res := .next (s.doResetRelease i)
/-- PKG_RESET_CTL (17 R743). -/
def execPkgResetCtl (src : Src) (fn : Fin 64) (value : Word) (s : State) : Res := .next (s.doPkgReset src fn value)
/-- WARM_RESET_SEQUENCE (17 R744). -/
def execWarmResetSequence (s : State) : Res := .next s.doWarmSequence
/-- WARM_RESET_SELF_REFRESH (17 R744). -/
def execWarmResetSelfRefresh (s : State) : Res := .next s.doWarmSelfRefresh
/-- WARM_STAGE_0_START (17 R744). -/
def execWarmStage0Start (i : Stage0In) (s : State) : Res := .next (s.doWarmStage0 i)
/-- DARK_IDLE_SELF_REFRESH (17 R767). -/
def execDarkIdleSelfRefresh (s : State) : Res := .next s.doDarkIdle
/-- DARK_EXIT_TILE_START (17 R769). -/
def execDarkExitTileStart (microcodeBad : List (Fin 32)) (s : State) : Res := .next (s.doDarkTiles microcodeBad)
/-- DARK_EXIT_SQ_RESUME (17 R769). -/
def execDarkExitSqResume (s : State) : Res := .next s.doDarkResume
/-- TEMPERATURE_READ (21 R891). -/
def execTemperatureRead (dies chips hbms : List Int) (s : State) : Res := .next (s.doTemperature dies chips hbms)
/-- THERMAL_SHUTDOWN (21 R892). -/
def execThermalShutdown (s : State) : Res := .next s.doColdReset
/-- RAIL_UNDERVOLTAGE (21 R885). -/
def execRailUndervoltage (s : State) : Res := .next s.doRailLow
/-- RAIL_RECOVERY (21 R885). -/
def execRailRecovery (i : Stage0In) (s : State) : Res := .next (s.doRailRecovery i)
/-- CROSSING_DEADLINE_MISS (01 R42). -/
def execCrossingDeadlineMiss (island : Fin 224) (s : State) : Res := .next (s.doCrossing island)
/-- ISLAND_LOCK_LOSS (01 R43). -/
def execIslandLockLoss (island : Fin 224) (s : State) : Res := .next (s.doLockLoss island)

end Sys2Proof.Machine
end

