-- ==== Sys2Proof/Machine/Flash.lean ====
section
/-! DEFINITION. Locks, the update engine and the flash slots (18 R811-R814, R820-R827). -/

namespace Sys2Proof.Machine

/-- The holder code of an agent (R811). -/
def agentCode : LockAgent → Nat
  | .shank n => n
  | .host _ => 4
  | .awl => 5

/-- The bytes of a 4 KiB slot header but STATE (R820). -/
def headerBytes : List Nat := (List.range 4096).filter (fun o => decide (o < 8 ∨ 12 ≤ o))

/-- NOR programming clears bits and sets none (R788). -/
def programByte (x : FSlot) (o : Nat) (b : Byte) : FSlot := { x with bytes := x.bytes.upd 0xFF#8 o (fun a => a &&& b) }

/-- Program bytes from an offset upward. -/
def programBytes (x : FSlot) (o : Nat) : List Byte → FSlot
  | [] => x
  | b :: rest => programBytes (programByte x o b) (o + 1) rest

/-- A slot with one 64 KiB sector erased; sector 0 holds the header (R823). -/
def eraseSector (x : FSlot) (k : Nat) : FSlot :=
  { state := if k = 0 then 0xFFFFFFFF#32 else x.state
    bytes := x.bytes.filter (fun p => decide (p.1 / 65536 ≠ k)) }

namespace State

/-! ### Locks (R811-R814) -/

/-- An agent can act: a shank whose pair runs, the host through a port with a link, the awl while power is present. -/
def agentActs (s : State) (a : LockAgent) : Bool :=
  match a with
  | .shank n => s.shanksRun && s.pair n == .running && !s.awlHalted n
  | .host p =>
    (match s.boot.phase with
     | .heldReset => false
     | .shankFailed => false
     | _ => true) && (s.port (portNo p)).st != .down
  | .awl => true

/-- A read of MGT_LOCK_k by an agent: it takes a free lock; 0x1204 once per hold of a halted holder. -/
def lockRead (s : State) (a : LockAgent) (k : Nat) : State × Word :=
  let l := s.lock k
  let v := s.lockWord k
  match l.holder with
  | none =>
    let port := match a with
      | .host p => portNo p
      | _ => 0
    (s.setLock k { l with holder := some (agentCode a), told := false, halted := 0, port := port }, v)
  | some _ =>
    if 1000000 ≤ s.lockHalted l ∧ !l.told then ((s.setLock k { l with told := true }).record 0x1204 {} k, v) else (s, v)

/-- A write of MGT_LOCK_k: 0 by the holder frees it, all else is ignored. -/
def lockWrite (s : State) (a : LockAgent) (k : Nat) (w : Word) : State :=
  let l := s.lock k
  if w = 0#32 ∧ l.holder = some (agentCode a) then s.setLock k { l with holder := none, told := false, halted := 0 } else s

/-- LOCK_FORCE: 0x1205; the former holder's next access is refused (R812). -/
def lockForce (s : State) (k : Nat) : State :=
  let l := s.lock k
  match l.holder with
  | none => s
  | some h => (s.setLock k { l with holder := none, told := false, halted := 0, refuse := some h }).record 0x1205 {} k

/-- MGT_LOCK_READ: the value that the agent reads. -/
def doLockRead (s : State) (a : LockAgent) (k : Nat) : State :=
  if s.agentActs a then
    let r := s.lockRead a k
    r.1.emit (.lockRead (agentCode a) k r.2.toNat)
  else s

/-- MGT_LOCK_WRITE. -/
def doLockWrite (s : State) (a : LockAgent) (k : Nat) (w : Word) : State := if s.agentActs a then s.lockWrite a k w else s

/-! ### The update engine (R821-R827) -/

/-- Replace a firmware slot. -/
def setFslot (s : State) (b : Bool) (x : FSlot) : State :=
  if b then { s with flash := { s.flash with slotB := x } } else { s with flash := { s.flash with slotA := x } }

/-- The running slot: none in sole mode, which runs from the boot ROM (R821; 15 R701). -/
def runsSlot (s : State) (b : Bool) : Bool := s.boot.phase != .sole && s.boot.slotB == b

/-- The inactive slot: neither running nor named by BOOT_SEL, and none while TRIAL is 1 (R821). -/
def inactiveSlot (s : State) (b : Bool) : Bool := !s.boot.record.trial && s.boot.record.sel != b && !s.runsSlot b

/-- MGT_FLASH_STATUS's latest code. -/
def flashCode (s : State) (code : Nat) : State := { s with flash := { s.flash with code := code } }

/-- The erase of a slot begins at sector 383, its header marked first (R823). -/
def beginErase (s : State) (b : Bool) (session : Option Bool) : State :=
  let s1 := (s.setUpd b .erasing).takeFlash
  let x := s1.fslot b
  let s2 := if slotField x 0 4 = 0x5A434657 then s1.setFslot b { x with state := x.state &&& 0xA5A5#32 } else s1
  { s2 with flash := { s2.flash with st := .erasing, slot := b, sector := 383, session := session, stalled := false } }

/-- FLASH_BEGIN of a slot, from MCTP or through BAR0: its status (R785, R812, R815, R821, R822). -/
def flashBegin (s : State) (mctp b : Bool) : State × Nat :=
  let mine := s.flash.slot == b && (s.flash.session.isSome || s.flash.st == .erasing)
  if s.flash.session.isSome && s.flash.slot != b then (s, 1)
  else if s.flash.readOnly then (s.flashCode 0x120C, 0x120C)
  else if s.engineRefused then (s.refuseEngine, 0x1205)
  else if !s.inactiveSlot b then ((s.flashCode 0x120B).record 0x120B (slotLoc b), 0x120B)
  else if !s.flashFree then (s, 1)
  else if mine then ({ s with flash := { s.flash with session := some mctp } }, 0)
  else (s.beginErase b (some mctp), 0)

/-- A session of the interface is in progress. -/
def inSession (s : State) (mctp : Bool) : Bool := s.flash.session == some mctp

/-- FLASH_WRITE: data for the ERASED slot, from offset 4 KiB to its end (R824). -/
def flashWrite (s : State) (mctp : Bool) (o : Nat) (bs : List Byte) : State × Nat :=
  let b := s.flash.slot
  if s.flash.session == some (!mctp) then (s, 1)
  else if s.engineRefused then (s.refuseEngine, 0x1205)
  else if !s.flashFree then (s, 1)
  else if !s.inSession mctp || s.flash.st != .erased || s.boot.record.updState != .erased || decide (o < 4096) ||
      decide (25165824 < o + bs.length) then (s, Config.flashRefusal.toNat)
  else if !s.inactiveSlot b then ((s.flashCode 0x120B).record 0x120B (slotLoc b), 0x120B)
  else (s.setFslot b (programBytes (s.fslot b) o bs), 0)

/-- The slot with the buffered header programmed into it. -/
def withHeader (s : State) (x : FSlot) : FSlot :=
  headerBytes.foldl (fun (x : FSlot) o => programByte x o (s.flash.buf.get 0#8 o)) x

/-- The image's manifest and signature verify, with the header from the buffer (R824, 15 R670). -/
def imageVerifies (s : State) (x : FSlot) : Bool :=
  slotField x 0 4 == 0x5A434657 && slotField x 4 4 == 1 && Config.slotVerdict x.bytes s.fuse.rootPk == 0

/-- FLASH_END: verify, then program the header as the last write (R824); for a slot already complete it repeats the verify (R788). -/
def flashEnd (s : State) (mctp b : Bool) : State × Nat :=
  if s.flash.session == some (!mctp) then (s, 1)
  else if s.engineRefused then (s.refuseEngine, 0x1205)
  else if !s.flashFree then (s, 1)
  else if s.flash.session.isNone && s.flash.slot == b && slotHeader (s.fslot b) then
    (s, if s.slotValid b then 0 else 0x120A)
  else if !s.inSession mctp || s.flash.slot != b || !(s.flash.st == .erased || s.flash.st == .failed) ||
      s.boot.record.updState != .erased then (s, Config.flashRefusal.toNat)
  else if !s.inactiveSlot b then ((s.flashCode 0x120B).record 0x120B (slotLoc b), 0x120B)
  else
    let x := s.withHeader (s.fslot b)
    if s.imageVerifies x then
      let s1 := (s.setFslot b { x with state := x.state &&& 0xFFFFA5A5#32 }).setUpd b .idle
      let s2 := s1.freeFlash
      ({ s2 with flash := { s2.flash with st := .idle, session := none } }, 0)
    else ((({ s with flash := { s.flash with st := .failed } }).flashCode 0x120A).record 0x120A (slotLoc b), 0x120A)

/-- The writes that waited for an erase follow it (R825). -/
def flushRecs (s : State) : State := s.nor.waits.foldl programRec { s with nor := { s.nor with waits := [] } }

/-- FLASH_SECTOR_ERASE_DONE: the sector in flight is erased, unless its erase is suspended; records and a store that waited for it are written before the next instruction, which also waits for a halted active pair (R813, R823, R825). -/
def doSectorDone (s : State) : State :=
  if s.flash.st != .erasing || s.flash.stalled || s.nor.suspended || !s.shanksRun then s
  else
    let s1 := (s.setFslot s.flash.slot (eraseSector (s.fslot s.flash.slot) s.flash.sector)).flushRecs
    if s1.activeHalted || s1.nor.storeWaits then { s1 with flash := { s1.flash with stalled := true }, nor := { s1.nor with storeWaits := false } } else s1.nextSector

/-! ### MGT_FLASH_CMD (R822) -/

/-- The words of MGT_FLASH_BUF as bytes. -/
def flashBuf (s : State) (n : Nat) : List Byte := (List.range n).map (fun i => s.flash.buf.get 0#8 i)

/-- The host's next access to the flash is refused once, after LOCK_FORCE took its lock (R812). -/
def hostRefused (s : State) : Bool := (s.lock 0).refuse == some 4

/-- An operation written to MGT_FLASH_CMD; one that is not carried out counts as refused (20 R908). -/
def flashCommand (s : State) (w : Word) : State :=
  if s.hostRefused then ((s.setLock 0 { s.lock 0 with refuse := none }).flashCode 0x1205).hifDrop
  else
    let n := w.toNat
    let b := n / 16 % 2 == 1
    let len := n / 65536
    let r : State × Nat :=
      match n % 16 with
      | 1 => s.flashBegin false b
      | 2 => if len ≤ 4096 then s.flashWrite false (s.word (mgtBase + 0x5008)).toNat (s.flashBuf len) else (s, 1)
      | 3 => s.flashEnd false b
      | _ => (s, 0)
    if r.2 = 0 then r.1 else r.1.hifDrop

/-- The write reaches MGT_FLASH_CMD: the PF, through a port with a link or the awl, and a shank that serves it; a WO register is no target of an MCTP REG_WRITE (R784). -/
def flashCmdReaches (s : State) (src : Src) (fn : Nat) : Bool :=
  fn == 0 && s.shanksRun &&
    (match src with
     | .portA => s.host.portA.st != .down
     | .portB => s.host.portB.st != .down
     | .mctp => false
     | .awl => true)

/-- MGT_FLASH_CMD with operation `op`; it waits in an input gate that holds, and stalls its source where that is full (16 R718, 18 R808). -/
def doFlashCmd (s : State) (src : Src) (fn op : Nat) (w : Word) : State :=
  if s.flashCmdReaches src fn && w.toNat % 16 == op && !s.gateFull then
    (if s.gateHolds then s.holdInput (.flash w) else s.flashCommand w)
  else s

end State

/-! ### Meanings -/

/-- MGT_LOCK_READ (R811). -/
def execMgtLockRead (agent : LockAgent) (lock : Fin 16) (s : State) : Res := .next (s.doLockRead agent lock)
/-- MGT_LOCK_WRITE (R811). -/
def execMgtLockWrite (agent : LockAgent) (lock : Fin 16) (value : Word) (s : State) : Res := .next (s.doLockWrite agent lock value)
/-- MGT_FLASH_CMD BEGIN (R823). -/
def execMgtFlashCmdBegin (src : Src) (fn : Fin 64) (value : Word) (s : State) : Res := .next (s.doFlashCmd src fn 1 value)
/-- MGT_FLASH_CMD WRITE (R824). -/
def execMgtFlashCmdWrite (src : Src) (fn : Fin 64) (value : Word) (s : State) : Res := .next (s.doFlashCmd src fn 2 value)
/-- MGT_FLASH_CMD END (R824). -/
def execMgtFlashCmdEnd (src : Src) (fn : Fin 64) (value : Word) (s : State) : Res := .next (s.doFlashCmd src fn 3 value)
/-- FLASH_SECTOR_ERASE_DONE (R823). -/
def execFlashSectorEraseDone (s : State) : Res := .next s.doSectorDone

end Sys2Proof.Machine
end

