-- ==== Sys2Proof/Machine/Image.lean ====
section
/-! DEFINITION. A last's image as it stands in memory: header, section table, row programs, timetables, slot table, and the layout rules of 0x0201 (02 R53, R54, R62; 03 The SEQ section; 06 R233, R234; 08 R325). The LNK, CLAIM and SET sections come decoded (notes/assumptions/7). -/

namespace Sys2Proof.Machine

/-! ### Header and section table (R53, R54) -/

/-- SECT_COUNT. -/
def Area.sectCount (x : Area) : Nat := x.nat 0x34 2

/-- TYPE, OFFSET and LENGTH of every section table entry. -/
def Area.sects (x : Area) : List (Nat × Nat × Nat) :=
  (List.range x.sectCount).map (fun i => (x.nat (0x100 + 16 * i) 2, x.nat (0x108 + 16 * i) 4, x.nat (0x10C + 16 * i) 4))

/-- A section, if the image has it. -/
def Area.sect (x : Area) (t : Nat) : Option Area := (x.sects.find? (fun e => e.1 == t)).map (fun e => x.sub e.2.1 e.2.2)

/-- A section, empty where the image has none. -/
def Area.sectOr (x : Area) (t : Nat) : Area := (x.sect t).getD (x.sub 0 0)

/-- MAGIC, FORMAT, reserved fields and the section table. DESIGN CHOICE: a section whose OFFSET lies inside the header or the section table breaks the layout as one outside the image does (notes/assumptions/58). -/
def Area.headOk (x : Area) : Bool :=
  x.holds 0 0x100 && x.nat 0 4 == 0x4C535434 && x.nat 4 2 == 1 && x.zero 0x36 10 && x.zero 0x60 160 &&
    decide (1 ≤ x.sectCount ∧ x.sectCount ≤ 7) && x.holds 0x100 (16 * x.sectCount) &&
    (List.range x.sectCount).all (fun i => x.zero (0x102 + 16 * i) 6) &&
    x.sects.all (fun e => decide (1 ≤ e.1 ∧ e.1 ≤ 7) && decide (0x100 + 16 * x.sectCount ≤ e.2.1) && x.holds e.2.1 e.2.2) &&
    decide (x.sects.map (fun e => e.1)).Nodup

/-- The sections whose layout the spec leaves out, as far as the image has them. -/
def Area.decoded (x : Area) (d : Sections) : Sections :=
  { streams := if (x.sect 4).isSome then d.streams else []
    groups := if (x.sect 4).isSome then d.groups else []
    claims := if (x.sect 6).isSome then d.claims else ⟨[], [], [], [], []⟩
    sets := if (x.sect 7).isSome then d.sets else [] }

/-- SHA-256 over the image with IMAGE_DIGEST read as zero. -/
def Area.digest (x : Area) : List Byte :=
  sha256 (x.mem.bytes x.base 0x40 ++ List.replicate 32 0#8 ++ x.mem.bytes (x.base + 0x60) (x.len - 0x60))

/-! ### The SEQ section (03) -/

/-- The rows of a ROW_MASK. -/
def maskRows (mask : Nat) : List Nat := (List.range 32).filter (fun r => mask.testBit r)

/-- The header of every claimed row. -/
def Area.seqEnts (x : Area) (mask : Nat) : List SeqEnt :=
  let q := x.sectOr 1
  ((maskRows mask).zipIdx).map (fun p =>
    { row := q.nat (16 * p.2) 1, period := q.nat (16 * p.2 + 4) 4, addr := q.base + q.nat (16 * p.2 + 8) 4, len := q.nat (16 * p.2 + 0xC) 4 })

/-- The SEQ section's layout: one entry per claimed row, in order (R54). -/
def Area.seqOk (x : Area) (mask : Nat) : Bool :=
  let q := x.sectOr 1
  let n := (maskRows mask).length
  (n == 0 || (x.sect 1).isSome) && q.holds 0 (16 * n) &&
    ((maskRows mask).zipIdx).all (fun p =>
      let o := q.nat (16 * p.2 + 8) 4
      let l := q.nat (16 * p.2 + 0xC) 4
      let k := q.nat (16 * p.2 + 4) 4
      q.nat (16 * p.2) 1 == p.1 && q.zero (16 * p.2 + 1) 3 && decide (1 ≤ k ∧ k ≤ 4096) && o % 4096 == 0 && decide (16 * n ≤ o) &&
        l % 4096 == 0 && decide (0 < l ∧ l ≤ 16777216) && q.holds o l && decide (4 * k ≤ l))

/-! ### The MEM and BRG sections (06 R233, 08 R325) -/

/-- The headers of a section whose header area runs up to the lowest OFFSET that any header names; none where it does not end there. -/
def Area.headers (x : Area) : Nat → Nat → Nat → Option (List TabEnt)
  | 0, _, _ => none
  | fuel + 1, i, e =>
    if 16 * i = e then some []
    else if e < 16 * (i + 1) then none
    else
      let o := x.nat (16 * i + 8) 4
      (Area.headers x fuel (i + 1) (min e o)).map (fun l =>
        { key := x.nat (16 * i) 1 + 256 * x.nat (16 * i + 1) 3, period := x.nat (16 * i + 4) 4, addr := x.base + o, len := x.nat (16 * i + 0xC) 4 } :: l)

/-- The headers of section `t`. -/
def Area.tabs (x : Area) (t : Nat) : Option (List TabEnt) :=
  match x.sect t with
  | some q => q.headers 257 0 q.len
  | none => some []

/-- A list rises in `f`. DESIGN CHOICE: an ascending list holds no two entries of one value (notes/assumptions/59). -/
def rising (f : Nat → Nat) : List Nat → Bool
  | a :: b :: l => decide (f a < f b) && rising f (b :: l)
  | _ => true

/-- A header's table lies in its section, aligned, its start table in the table. -/
def Area.tabFits (x : Area) (t : TabEnt) : Bool :=
  decide (1 ≤ t.period ∧ t.period ≤ 4096) && (t.addr - x.base) % 8 == 0 && x.holds (t.addr - x.base) t.len && decide (4 * t.period ≤ t.len)

/-- A MEM entry's fields (06, the entry table; R234). -/
def memEntryOk (w : Nat) : Bool :=
  decide (memCmd w ≤ 3) && decide (eb w 29 2 ≤ 2) && decide (eb w 35 15 ≤ 24575) && decide (eb w 50 5 + eb w 55 5 ≤ 31) && eb w 60 4 == 0

/-- A BRG entry's fields (08, the entry table). -/
def brgEntryOk (w : Nat) : Bool := brgKind w == 1 && eb w 46 18 == 0

/-- The END entry of the list that starts at entry offset `o`. -/
def tabEnd (kind : Nat → Nat) (x : Area) : Nat → Nat → Nat
  | 0, _ => 0
  | fuel + 1, o => if kind (x.nat o 8) = 0 then x.nat o 8 else tabEnd kind x fuel (o + 8)

/-- The END entry of entry list `k` of a table that has one. -/
def tabEnds (kind : Nat → Nat) (m : Mem) (t : TabEnt) (k : Nat) : Nat :=
  let x : Area := { mem := m, base := t.addr, len := t.len }
  tabEnd kind x (t.len / 8 + 1) (tabEntries t + 8 * x.nat (4 * k) 4)

/-- Every list of a table has its END, its bits from `res` on zero, rises, and has legal entries. -/
def listsOk (kind : Nat → Nat) (res : Nat) (ok : Nat → Bool) (order : List Nat → Bool) (m : Mem) (t : TabEnt) : Bool :=
  (List.range t.period).all (fun k =>
    match tabLists kind m t k with
    | some l => l.all ok && order l && decide (tabEnds kind m t k < 2 ^ res)
    | none => false)

/-- Within each lane the entries of a BRG list rise in FIRST (08 R325). -/
def lanesRise (l : List Nat) : Bool :=
  (List.range 32).all (fun n => rising (fun w => eb w 0 27) (l.filter (fun w => eb w 41 5 == n)))

/-- The channel groups that ranges touch. -/
def groupsOf (hbm : List (Nat × Nat)) : List Nat :=
  (List.range 32).filter (fun g => hbm.any (fun r => meets r.1 r.2 (groupBase g) 0x240000000))

/-- The MEM section: exactly one header for each channel of every claimed group, ascending (R233). -/
def Area.memOk (x : Area) (hbm : List (Nat × Nat)) : Bool :=
  match x.tabs 2 with
  | none => false
  | some ts =>
    (ts.map (fun t => t.key)) == (groupsOf hbm).flatMap (fun g => (List.range 4).map (fun k => 4 * g + k)) &&
      ts.all (fun t => (x.sectOr 2).tabFits t && listsOk memCmd 60 memEntryOk (rising (fun w => eb w 0 26)) x.mem t)

/-- The BRG section: at most one header for each direction, ascending (R325). -/
def Area.brgOk (x : Area) : Bool :=
  match x.tabs 3 with
  | none => false
  | some ts =>
    rising id (ts.map (fun t => t.key)) &&
      ts.all (fun t => decide (t.key < 16) && (x.sectOr 3).tabFits t && listsOk brgKind 46 brgEntryOk lanesRise x.mem t)

/-! ### The SLOT section (02, Serving slots) -/

/-- The slot entries. -/
def Area.slotEnts (x : Area) : List SlotEnt :=
  let q := x.sectOr 5
  (List.range (q.len / 16)).map (fun i =>
    let w := q.nat (16 * i) 16
    { ms := eb w 0 10, die := eb w 10 2, tile := eb w 12 5, qtr := eb w 17 2, cap := eb w 19 13, period := eb w 32 16,
      offset := eb w 48 16, bindAddr := eb w 64 32 })

/-- Its layout. -/
def Area.slotOk (x : Area) : Bool :=
  let q := x.sectOr 5
  q.len % 16 == 0 && (List.range (q.len / 16)).all (fun i => q.zero (16 * i + 12) 4)

/-- HBM ranges are aligned to and multiples of 2 MiB, inside HBM3E (R54). -/
def rangeForm (r : Nat × Nat) : Bool :=
  r.1 % 2097152 == 0 && r.2 % 2097152 == 0 && decide (0 < r.2) && decide (r.1 + r.2 ≤ 8 * 0x900000000)

/-- An image that keeps its own layout (0x0201). -/
def Area.layoutOk (x : Area) (d : Sections) : Bool :=
  x.headOk && x.seqOk (x.nat 0x14 4) && x.memOk d.claims.hbm && x.brgOk && x.slotOk && d.claims.hbm.all rangeForm

end Sys2Proof.Machine
end

