-- ==== Sys2Proof/Machine/Sfu.lean ====
section
/-! DEFINITION. The special-function units: requests, grants, results and the row statistics (05). -/

namespace Sys2Proof.Machine

/-- Latency from grant of an SFU operation, in bounds mode and in CZ3-compatible mode (05 R196). -/
def sfuLatency (bounds : Bool) (op : SfuOp) : Nat :=
  let p := fun (b c : Nat) => if bounds then b else c
  match op with
  | .fn .exp => p 8 14
  | .fn .exp2 => p 8 10
  | .fn .log => p 8 14
  | .fn .log2 => p 8 10
  | .fn .recip => p 8 10
  | .fn .rsqrt => p 8 10
  | .fn .sqrt => p 8 14
  | .fn .sigmoid => p 12 28
  | .fn .tanh => p 12 36
  | .fn .gelu => p 14 36
  | .fn .softplus => p 14 32
  | .fn .sin => p 12 18
  | .fn .cos => p 12 18
  | .clr => 2
  | .smx => p 12 20
  | .wel => 10
  | .getm => 2
  | .gets => 2
  | .getmean => 2
  | .getvar => 6
  | .expm => p 10 16
  | .rstd => p 12 16
  | .unlisted => 0

/-- Latency of ST_RED from receipt (05 R196): a 256-lane group, or a quarter's 64 lanes. -/
def redLatency (bounds : Bool) (u : Nat) : Nat :=
  if u = 4 then (if bounds then 52 else 68) else (if bounds then 40 else 52)

/-- Whether an operation is a statistics operation (05 R217). -/
def SfuOp.isStat : SfuOp → Bool
  | .fn _ => false
  | .unlisted => false
  | _ => true

/-- The FN codes of R196, and whether an SFU word with a code asks for a grant: every code but ST_RED's. -/
def fnListed (fn : Nat) : Bool := decide (fn ≤ 0x0C) || decide (0x10 ≤ fn ∧ fn ≤ 0x19)

/-- What an operation leaves in the lane's state (05 R198, R211-R214). -/
def SfuOp.state (op : SfuOp) (bounds : Bool) (x : Word) (st : Stat) : Stat :=
  match op with
  | .clr => {}
  | .smx => statSmx bounds st x
  | .wel => statWel st x
  | _ => st

/-- What an operation writes to VD, if it writes (05 R196-R199, R219). -/
def SfuOp.value (op : SfuOp) (bounds : Bool) (eps x : Word) (st : Stat) : Option Word :=
  match op with
  | .fn f => some (sfuFn bounds f x)
  | .clr => none
  | .smx => none
  | .wel => none
  | .getm => some st.m
  | .gets => some st.s
  | .getmean => some st.mu
  | .getvar => some (statVar st)
  | .expm => some (statExpm bounds st x)
  | .rstd => some (statRstd bounds eps st)
  | .unlisted => none

namespace State

/-- The SFU mode of a tile: bounds mode where SFU_CTL.MODE is 1 (05). -/
def sfuBounds (s : State) (t : Nat) : Bool := s.bits (tileReg t + 0x10) 0 1 == 1

/-- A request to every lane of a unit, with VS1 as it stands (05 R190); a lane whose request still waits is 0x0501. The spec does not say what becomes of the second request: the waiting requests stay and the new word's are dropped on every lane of the unit (notes/assumptions/24). -/
def request (s : State) (op : SfuOp) (vd vs1 : Nat) (p : Nat × Nat) : State :=
  let t := s.tile p.1
  let y := t.settle s.clk.cycle
  let ls := lanesOf p.2
  if ls.any (fun l => (t.sfuWait.find l).isSome) then s.unitAbort p.1 p.2 0x0501
  else s.setTile p.1 { t with sfuWait := ls.foldl (fun w l => w.put l { op := op, vd := vd, x := y.reg vs1 l }) t.sfuWait }

/-- An SFU word with code `fn` and the given fields: a request to every lane that it names (05 R190, R193). -/
def sfuOp (s : State) (sel : Sel) (fn : Nat) (l : List (Nat × Nat × Nat)) (op : SfuOp) (vd vs1 : Nat) : State :=
  s.onSlot sel .vec (isSfu fn l) (fun _ s p => s.request op vd vs1 p)

/-- The VEC slot of a word that R133 does not list does nothing; an SFU word whose FN is not listed takes its grants and writes nothing (R134, 05 R197). -/
def doNop (s : State) (sel : Sel) : State :=
  s.onSlot sel .vec (fun w => isSfu (eb w 88 5) [] w && !fnListed (eb w 88 5)) (fun _ s p => s.request .unlisted 0 0 p)

/-- SFU_GRANT: the lane of the SFU whose turn this cycle is, if it waits (05 R191, R192, R211, R217). -/
def doGrant (s : State) (t sfu : Nat) : State :=
  let lane := 8 * sfu + s.clk.cycle % 8
  let x := s.tile t
  match x.sfuWait.find lane with
  | none => s
  | some r =>
    let u := s.unitOf t (lane / 64)
    let x1 := { x with sfuWait := x.sfuWait.del lane }
    if r.op.isStat && (x.red.find u).isSome then (s.setTile t x1).unitAbort t u 0x0502
    else
      let b := s.sfuBounds t
      let st := x.stats.get {} lane
      let x2 := { x1 with stats := x.stats.set {} lane (r.op.state b r.x st) }
      match r.op.value b (s.word (tileReg t + 0x14)) r.x st with
      | none => s.setTile t x2
      | some v =>
        s.setTile t { x2 with sfuRes := x2.sfuRes ++ [{ due := s.clk.cycle + sfuLatency b r.op, lane := lane, vd := r.vd, value := v }] }

/-- SFU_RESULT_WRITE: the least due SFU result of a tile is written, behind the vector results that are due with it (05 R192, R194). -/
def doSfuWrite (s : State) (t : Nat) : State :=
  let x := s.tile t
  match takeDue SfuRes.due s.clk.cycle x.sfuRes with
  | some (r, rest) => s.setTile t (({ x with sfuRes := rest }.settleVec r.due).setReg r.vd r.lane r.value)
  | none => s

/-- ST_RED at every named group (05 R217): its statistics are held until it completes. -/
def doRed (s : State) (sel : Sel) : State :=
  s.onSlot sel .vec (isSfu 0x13 []) (fun _ s p =>
    let x := s.tile p.1
    s.setTile p.1 { x with red := x.red.put p.2 (s.clk.cycle + redLatency (s.sfuBounds p.1) p.2) })

/-- ST_RED_DONE: every lane of the group holds the total (05 R215, R216). -/
def doRedDone (s : State) (t q : Nat) : State :=
  let u := s.unitOf t q
  let x := s.tile t
  match x.red.find u with
  | none => s
  | some due =>
    if due ≤ s.clk.cycle then
      let ls := lanesOf u
      let tot := statTree (s.sfuBounds t) (if u = 4 then 8 else 6) (ls.map (x.stats.get {}))
      s.setTile t { x with red := x.red.del u, stats := ls.foldl (fun m l => m.set {} l tot) x.stats }
    else s

end State

/-! ### Meanings -/

/-- VOP 0x00 and codes not listed (03 R134), and FN codes not listed (05 R197). -/
def execNop (sel : Sel) (s : State) : Res := .next (s.doNop sel)
/-- The lane whose grant cycle this is (05 R191). -/
def execSfuGrant (tile : Fin 128) (sfu : Fin 32) (s : State) : Res := .next (s.doGrant tile sfu)
/-- A result is written to VD (05 R192). -/
def execSfuResultWrite (tile : Fin 128) (s : State) : Res := .next (s.doSfuWrite tile)
/-- FN 0x00. -/
def execExp (sel : Sel) (vd vs1 : Fin 64) (s : State) : Res :=
  .next (s.sfuOp sel 0x00 [(70, 6, vd), (76, 6, vs1)] (.fn .exp) vd vs1)
/-- FN 0x01. -/
def execExp2 (sel : Sel) (vd vs1 : Fin 64) (s : State) : Res :=
  .next (s.sfuOp sel 0x01 [(70, 6, vd), (76, 6, vs1)] (.fn .exp2) vd vs1)
/-- FN 0x02. -/
def execLog (sel : Sel) (vd vs1 : Fin 64) (s : State) : Res :=
  .next (s.sfuOp sel 0x02 [(70, 6, vd), (76, 6, vs1)] (.fn .log) vd vs1)
/-- FN 0x03. -/
def execLog2 (sel : Sel) (vd vs1 : Fin 64) (s : State) : Res :=
  .next (s.sfuOp sel 0x03 [(70, 6, vd), (76, 6, vs1)] (.fn .log2) vd vs1)
/-- FN 0x04. -/
def execRecip (sel : Sel) (vd vs1 : Fin 64) (s : State) : Res :=
  .next (s.sfuOp sel 0x04 [(70, 6, vd), (76, 6, vs1)] (.fn .recip) vd vs1)
/-- FN 0x05. -/
def execRsqrt (sel : Sel) (vd vs1 : Fin 64) (s : State) : Res :=
  .next (s.sfuOp sel 0x05 [(70, 6, vd), (76, 6, vs1)] (.fn .rsqrt) vd vs1)
/-- FN 0x06. -/
def execSqrt (sel : Sel) (vd vs1 : Fin 64) (s : State) : Res :=
  .next (s.sfuOp sel 0x06 [(70, 6, vd), (76, 6, vs1)] (.fn .sqrt) vd vs1)
/-- FN 0x07. -/
def execSigmoid (sel : Sel) (vd vs1 : Fin 64) (s : State) : Res :=
  .next (s.sfuOp sel 0x07 [(70, 6, vd), (76, 6, vs1)] (.fn .sigmoid) vd vs1)
/-- FN 0x08. -/
def execTanh (sel : Sel) (vd vs1 : Fin 64) (s : State) : Res :=
  .next (s.sfuOp sel 0x08 [(70, 6, vd), (76, 6, vs1)] (.fn .tanh) vd vs1)
/-- FN 0x09. -/
def execGelu (sel : Sel) (vd vs1 : Fin 64) (s : State) : Res :=
  .next (s.sfuOp sel 0x09 [(70, 6, vd), (76, 6, vs1)] (.fn .gelu) vd vs1)
/-- FN 0x0A. -/
def execSoftplus (sel : Sel) (vd vs1 : Fin 64) (s : State) : Res :=
  .next (s.sfuOp sel 0x0A [(70, 6, vd), (76, 6, vs1)] (.fn .softplus) vd vs1)
/-- FN 0x0B. -/
def execSin (sel : Sel) (vd vs1 : Fin 64) (s : State) : Res :=
  .next (s.sfuOp sel 0x0B [(70, 6, vd), (76, 6, vs1)] (.fn .sin) vd vs1)
/-- FN 0x0C. -/
def execCos (sel : Sel) (vd vs1 : Fin 64) (s : State) : Res :=
  .next (s.sfuOp sel 0x0C [(70, 6, vd), (76, 6, vs1)] (.fn .cos) vd vs1)
/-- FN 0x10. -/
def execStClr (sel : Sel) (s : State) : Res :=
  .next (s.sfuOp sel 0x10 [] .clr 0 0)
/-- FN 0x11 (05 R213). -/
def execStSmx (sel : Sel) (vs1 : Fin 64) (s : State) : Res :=
  .next (s.sfuOp sel 0x11 [(76, 6, vs1)] .smx 0 vs1)
/-- FN 0x12 (05 R214). -/
def execStWel (sel : Sel) (vs1 : Fin 64) (s : State) : Res :=
  .next (s.sfuOp sel 0x12 [(76, 6, vs1)] .wel 0 vs1)
/-- FN 0x13 (05 R215, R217). -/
def execStRed (sel : Sel) (s : State) : Res := .next (s.doRed sel)
/-- An ST_RED completes (05 R217). -/
def execStRedDone (tile : Fin 128) (q : Fin 4) (s : State) : Res := .next (s.doRedDone tile q)
/-- FN 0x14 (05 R219). -/
def execStGetm (sel : Sel) (vd : Fin 64) (s : State) : Res :=
  .next (s.sfuOp sel 0x14 [(70, 6, vd)] .getm vd 0)
/-- FN 0x15 (05 R219). -/
def execStGets (sel : Sel) (vd : Fin 64) (s : State) : Res :=
  .next (s.sfuOp sel 0x15 [(70, 6, vd)] .gets vd 0)
/-- FN 0x16 (05 R219). -/
def execStGetmean (sel : Sel) (vd : Fin 64) (s : State) : Res :=
  .next (s.sfuOp sel 0x16 [(70, 6, vd)] .getmean vd 0)
/-- FN 0x17 (05 R219). -/
def execStGetvar (sel : Sel) (vd : Fin 64) (s : State) : Res :=
  .next (s.sfuOp sel 0x17 [(70, 6, vd)] .getvar vd 0)
/-- FN 0x18 (05 R219). -/
def execStExpm (sel : Sel) (vd vs1 : Fin 64) (s : State) : Res :=
  .next (s.sfuOp sel 0x18 [(70, 6, vd), (76, 6, vs1)] .expm vd vs1)
/-- FN 0x19 (05 R219). -/
def execStRstd (sel : Sel) (vd : Fin 64) (s : State) : Res :=
  .next (s.sfuOp sel 0x19 [(70, 6, vd)] .rstd vd 0)

end Sys2Proof.Machine
end

