-- ==== Sys2Proof/Machine/Walk.lean ====
section
/-! DEFINITION. The validator's walk of a row program: the words an epoch program issues and when (03 R141, R142, R911, R920), and the timing rules of the tiles they reach (0x0208: 02 R91; 03 R119, R120, R129, R135, R152, R912, R913, R918; 05 R193, R217). -/

namespace Sys2Proof.Machine

/-! ### Issue -/

/-- A word as it issues: its cycle, its bits, its byte offset in the row program, and the sequencer registers that its slots see. -/
structure Issue where
  cyc : Nat
  w : Nat
  pos : Nat
  n : Nat
  a : Nat
  acc : Nat
  /-- The slot entry of the binding in force (R143). -/
  bound : Option Nat
deriving DecidableEq, Repr

/-- The fields of a sequencer word (03, word layout). -/
def Issue.tmask (i : Issue) : Nat := eb i.w 12 4
def Issue.ctl (i : Issue) : Nat := eb i.w 16 4
def Issue.arg (i : Issue) : Nat := eb i.w 20 12
def Issue.arr (i : Issue) : Nat := eb i.w 32 4
def Issue.qmask (i : Issue) : Nat := eb i.w 36 4
def Issue.fmt (i : Issue) : Nat := eb i.w 40 4
def Issue.addr (i : Issue) : Nat := eb i.w 44 14
def Issue.accOp (i : Issue) : Nat := eb i.w 58 2
def Issue.vop (i : Issue) : Nat := eb i.w 64 6
def Issue.vd (i : Issue) : Nat := eb i.w 70 6
def Issue.vs1 (i : Issue) : Nat := eb i.w 76 6
def Issue.vs2 (i : Issue) : Nat := eb i.w 82 6
def Issue.fn (i : Issue) : Nat := eb i.w 88 5
def Issue.mov (i : Issue) : Nat := eb i.w 96 4
def Issue.vreg (i : Issue) : Nat := eb i.w 100 6
def Issue.maddr (i : Issue) : Nat := eb i.w 106 14
def Issue.len (i : Issue) : Nat := eb i.w 120 8

/-- The cycle at which a word's slots reach the tiles (R145). -/
def Issue.at (i : Issue) : Nat := i.cyc + 3

/-- The units that a word's slots name in a tile, in the row's mode (R918). -/
def Issue.units (i : Issue) (serving : Bool) : List Nat :=
  if serving then (List.range 4).filter (fun q => i.qmask.testBit q) else [4]

/-- The columns it names. -/
def Issue.cols (i : Issue) : List Nat := (List.range 4).filter (fun c => i.tmask.testBit c)

/-- The sequencer's registers in the walk. -/
structure Pc where
  t : Nat
  pos : Nat
  n : Nat := 1
  a : Nat := 0
  acc : Nat := 0
  loops : List (Nat × Nat) := []
  bound : Option Nat := none

/-- The words that an epoch program issues, and whether it keeps the sequencer's rules: within its program, HALT before N − 16, ACCBASE at most 511, LOOPs matched and at most 4 deep. -/
def walk (x : Area) (last : Nat) : Nat → Pc → List Issue × Bool
  | 0, _ => ([], false)
  | fuel + 1, p =>
    if !x.holds (16 * p.pos) 16 then ([], false)
    else
      let w := x.nat (16 * p.pos) 16
      let i : Issue := { cyc := p.t + eb w 0 12, w := w, pos := 16 * p.pos, n := p.n, a := p.a, acc := p.acc, bound := p.bound }
      let on := fun (q : Pc) =>
        let r := walk x last fuel { q with t := i.cyc + 1 }
        (i :: r.1, r.2)
      let next := { p with pos := p.pos + 1 }
      if last ≤ i.cyc then ([], false)
      else match i.ctl with
        | 0x1 => on { next with n := i.arg + 1 }
        | 0x2 => on { next with a := 2 ^ 12 * (p.a / 2 ^ 12) + i.arg }
        | 0x3 => on { next with a := 2 ^ 24 * (p.a / 2 ^ 24) + 2 ^ 12 * i.arg + p.a % 2 ^ 12 }
        | 0x4 => on { next with a := 2 ^ 24 * i.arg + p.a % 2 ^ 24 }
        | 0x5 => if 511 < i.arg then ([i], false) else on { next with acc := i.arg }
        | 0x6 => if 4 ≤ p.loops.length then ([i], false) else on { next with loops := (p.pos + 1, i.arg) :: p.loops }
        | 0x7 =>
          match p.loops with
          | [] => ([i], false)
          | (q, left) :: rest =>
            if left = 0 then on { next with loops := rest } else on { p with pos := q, loops := (q, left - 1) :: rest }
        | 0x9 => on { next with bound := some i.arg }
        | 0xF => ([i], true)
        | _ => on next

/-- Epoch program `k` of a row program, in epochs of `n` cycles (R141). -/
def epochProgram (m : Mem) (e : SeqEnt) (k n : Nat) : List Issue × Bool :=
  let x : Area := { mem := m, base := e.addr, len := e.len }
  walk x (n - 16) n { t := 16, pos := x.nat (4 * k) 4 }

/-! ### A tile under a program -/

/-- A stream in the walk: its unit, first vector's cycle, count, ACCBASE, ACC and format. -/
structure Strm where
  unit : Nat
  start : Nat
  n : Nat
  acc : Nat
  op : Nat
  fmt : Nat
  /-- The format of the west stream whose vectors it takes (R912). -/
  feed : Option Nat := none
deriving DecidableEq, Repr

/-- A FILL in the walk: its unit, scratch range in the unit's region, and when its last unit lands. -/
structure FillSpan where
  unit : Nat
  lo : Nat
  hi : Nat
  done : Nat
deriving DecidableEq, Repr

/-- What the walk holds of a tile: when registers are readable, when the V port is free, when the next SFU word may come, statistics groups, weight blocks, streams, swaps, staging halves, FILLs; and whether every rule held. -/
structure Hz where
  regs : Tbl Nat := []
  vport : Nat := 0
  sfu : Nat := 0
  stat : Tbl Nat := []
  red : Tbl Nat := []
  shadow : Tbl (Nat × Nat) := []
  active : Tbl Nat := []
  streams : List Strm := []
  swap : Tbl Nat := []
  half : Tbl Nat := []
  fills : List FillSpan := []
  ok : Bool := true

/-- A rule of the walk. -/
def Hz.need (h : Hz) (b : Bool) : Hz := { h with ok := h.ok && b }

/-- A vector register of a unit is readable at a cycle. -/
def Hz.readable (h : Hz) (u r t : Nat) : Bool := decide (h.regs.get 0 (64 * u + r) ≤ t)

/-- A register is written at a cycle, by N − 16. -/
def Hz.write (h : Hz) (last u r t : Nat) : Hz := { h.need (decide (t ≤ last)) with regs := h.regs.set 0 (64 * u + r) t }

/-- A unit is inside a SWAP: array operations and LDACC wait for its cycle 2,048 (R151). -/
def Hz.swapping (h : Hz) (u t : Nat) : Bool :=
  match h.swap.find u with
  | some c => decide (t < c + 2048)
  | none => false

/-- The last row of a bank (R129). -/
def bankLast (u : Nat) : Nat := if u = 4 then 511 else 255

/-- LOADW: its block is for the next stream of the unit to start, a queued one where one waits, and is complete by then (R118, R119). -/
def Hz.loadw (h : Hz) (last u t : Nat) (i : Issue) : Hz :=
  let e := t + loadCycles i.fmt
  let h1 := h.need (!h.swapping u t && decide (e ≤ last))
  match h1.streams.find? (fun s => s.unit == u && decide (t ≤ s.start)) with
  | some s => { h1.need (decide (e ≤ s.start) && (match s.feed with | some f => fmtPairs f i.fmt | none => true)) with active := h1.active.put u i.fmt }
  | none => { h1 with shadow := h1.shadow.put u (e, i.fmt) }

/-- The stream of a unit that ends last. -/
def Hz.latest (h : Hz) (u : Nat) : Nat := (h.streams.filter (fun s => s.unit == u)).foldl (fun m s => max m (s.start + s.n)) 0

/-- STREAM or STREAMW: it starts at `c`, behind at most one queued stream, with its block loaded and its rows in the bank (R119, R120, R129). -/
def Hz.begin (h : Hz) (last u t c : Nat) (i : Issue) (feed : Option Nat := none) : Hz :=
  let queued := h.streams.any (fun s => s.unit == u && decide (t < s.start))
  let loaded := match h.shadow.find u with
    | some p => decide (p.1 ≤ c)
    | none => true
  let act := match h.shadow.find u with
    | some p => h.active.put u p.2
    | none => h.active
  let ok := !h.swapping u t && !queued && loaded && decide (i.acc + i.n ≤ bankLast u + 1) && decide (c + i.n - 1 + passLatency u ≤ last)
  { h.need ok with
    active := act, shadow := h.shadow.del u, streams := ⟨u, c, i.n, i.acc, i.accOp, i.fmt, feed⟩ :: h.streams }

/-- STREAMW takes the west neighbour's stream that starts 4 cc before it (R912). -/
def Hz.streamw (h : Hz) (west : List Strm) (last u t : Nat) (i : Issue) : Hz :=
  let e := max t (h.latest u)
  let cands := west.filter (fun s => s.unit == u && decide (e ≤ s.start + 4))
  match cands.foldl (fun (m : Option Strm) s => match m with | some x => if s.start < x.start then some s else some x | none => some s) none with
  | none => h.need false
  | some x =>
    let block := match h.shadow.find u with
      | some p => some p.2
      | none => h.active.find u
    let pairs := match block with
      | some f => fmtPairs x.fmt f
      | none => true
    (h.begin last u t (x.start + 4) i (some x.fmt)).need (decide (i.n ≤ x.n) && pairs)

/-- Latency of a lane operation (R133), and the registers it reads beside VS1 and VS2 as the word's layout has them. -/
def vopLatency (vop : Nat) : Option Nat :=
  match vop with
  | 0x01 => some 4 | 0x02 => some 4 | 0x03 => some 4 | 0x04 => some 2 | 0x05 => some 2 | 0x06 => some 2 | 0x07 => some 3
  | 0x08 => some 2 | 0x09 => some 2 | 0x0A => some 2 | 0x0B => some 2 | 0x0C => some 2 | 0x0D => some 3
  | _ => none

/-- The SFU operation of a FN code (05 R196); 0x13 is ST_RED. -/
def sfuCode (fn : Nat) : Option SfuOp :=
  match fn with
  | 0x10 => some .clr | 0x11 => some .smx | 0x12 => some .wel | 0x14 => some .getm | 0x15 => some .gets | 0x16 => some .getmean
  | 0x17 => some .getvar | 0x18 => some .expm | 0x19 => some .rstd
  | n => ([SfuFn.exp, .exp2, .log, .log2, .recip, .rsqrt, .sqrt, .sigmoid, .tanh, .gelu, .softplus, .sin, .cos].find? (fun f => f.code == n)).map SfuOp.fn

/-- An SFU word at one unit: granted by cycle t + 7, retired by N − 16 (05 R190-R197, R217). DESIGN CHOICE: a ST_RED waits for the grants of the statistics operations before it, which are over at receipt + 8, and not for their latencies (notes/assumptions/60). -/
def Hz.sfuWord (h : Hz) (bounds : Bool) (last u t : Nat) (i : Issue) : Hz :=
  if i.fn = 0x13 then
    let e := t + redLatency bounds u
    { h.need (decide (h.red.get 0 u ≤ t) && decide (h.stat.get 0 u ≤ t) && decide (e ≤ last)) with red := h.red.set 0 u e }
  else match sfuCode i.fn with
    | none => h.need (decide (t + 7 ≤ last))
    | some op =>
      let h1 := if op.isStat then { h.need (decide (h.red.get 0 u ≤ t)) with stat := h.stat.set 0 u (t + 8) } else h
      let reads := match op with
        | .fn _ => true
        | .smx => true
        | .wel => true
        | .expm => true
        | _ => false
      let h2 := h1.need ((!reads || h1.readable u i.vs1 t) && decide (t + 7 + sfuLatency bounds op ≤ last))
      match op with
      | .clr => h2
      | .smx => h2
      | .wel => h2
      | _ => h2.write last u i.vd (t + 7 + sfuLatency bounds op)

/-- A stream's sums of a bank row land after a cycle. -/
def landsAfter (s : Strm) (u row t : Nat) : Bool :=
  s.unit == u && decide (s.acc ≤ row ∧ row < s.acc + s.n) && (s.op == 1 || s.op == 2) && decide (t < s.start + (row - s.acc) + passLatency u)

/-- The VEC slot at one unit. -/
def Hz.vec (h : Hz) (bounds : Bool) (last u t : Nat) (i : Issue) : Hz :=
  if i.vop = 0x18 then h.sfuWord bounds last u t i
  else if i.vop = 0x10 then
    let row := i.acc + i.vs1
    (h.need (!h.swapping u t && decide (row ≤ bankLast u) && !h.streams.any (fun s => landsAfter s u row t))).write last u i.vd (t + 3)
  else match vopLatency i.vop with
    | none => h
    | some l =>
      let two := i.vop != 0x0D
      let three := i.vop == 0x03 || i.vop == 0x0C || i.vop == 0x0D
      (h.need (h.readable u i.vs1 t && (!two || h.readable u i.vs2 t) && (!three || h.readable u i.vd t))).write last u i.vd (t + l)

/-- A range of a quarter's region meets a staging half (R148). -/
def onHalf (half lo hi : Nat) : Bool := decide (lo < 0x40000 * (half + 1) ∧ 0x40000 * half < hi)

/-- A FILL or SPILL meets the active half of a quarter, or either in the first 16 cc of a SWAP (R151). -/
def Hz.onActive (h : Hz) (u t lo hi : Nat) : Bool :=
  decide (u < 4) &&
    (onHalf (h.half.get 0 u) lo hi ||
      (match h.swap.find u with
       | some c => decide (t < c + 16) && onHalf (1 - h.half.get 0 u) lo hi
       | none => false))

/-- When a context move of `n` bytes that arrives at `t` has used its last window (07 R285). -/
def ctxEnds (u t n : Nat) : Nat := if n = 0 then t else ctxWindow u (t + 6) (ceilDiv n 256 - 1) + 127

/-- IN_MAX and OUT_LEN of the slot entry that a word is bound to. -/
def ctxSizes (sizes : List (Nat × Nat)) (i : Issue) : Nat × Nat :=
  match i.bound with
  | some k => sizes.getD k (0, 0)
  | none => (0, 0)

/-- The MOV slot at one unit; `done` is when a FILL's last unit lands, or a SPILL's last unit is written; `sizes` are IN_MAX and OUT_LEN by slot entry. -/
def Hz.mov (h : Hz) (sizes : List (Nat × Nat)) (last u t done : Nat) (i : Issue) : Hz :=
  match i.mov with
  | 1 =>
    (List.range (i.len + 1)).foldl (fun (h : Hz) j => h.write last u (i.vreg + j) (t + j + 2)) (h.need (decide (i.vreg + i.len ≤ 63)))
  | 2 =>
    (h.need (decide (i.vreg + i.len ≤ 63) && decide (t + i.len + 1 ≤ last))).need
      ((List.range (i.len + 1)).all (fun j => h.readable u (i.vreg + j) (t + j)))
  | 3 =>
    let lo := 256 * i.maddr
    let hi := lo + 1024 * (i.len + 1)
    { h.need (!h.onActive u t lo hi && decide (done ≤ last)) with fills := ⟨u, lo, hi, done⟩ :: h.fills }
  | 4 =>
    let lo := 256 * i.maddr
    h.need (!h.onActive u t lo (lo + 1024 * (i.len + 1)) && decide (done ≤ last))
  | 5 => h.need (decide (ctxEnds u t (ctxSizes sizes i).1 + 6 ≤ last))
  | 6 => h.need (decide (ctxEnds u t (ctxSizes sizes i).2 ≤ last))
  | _ => h

/-- SWAP at a tile's quarter, whose streams have retired (R150-R152). -/
def Hz.swapWord (h : Hz) (serving : Bool) (last t : Nat) (i : Issue) : Hz :=
  let q := i.arg / 1024 % 4
  let other := 1 - h.half.get 0 q
  let busy := h.streams.any (fun s => s.unit == q && decide (t < s.start + s.n + passLatency q))
  let filling := h.fills.any (fun f => f.unit == q && decide (t < f.done) && onHalf other f.lo f.hi)
  { h.need (serving && !busy && !filling && !h.swapping q t && decide (t + 2048 ≤ last)) with
    swap := h.swap.put q t, half := h.half.set 0 q other, shadow := h.shadow.del q, active := h.active.del q }

/-- One word at a tile. -/
def Hz.word (serving bounds : Bool) (sizes : List (Nat × Nat)) (last : Nat) (west : List Strm) (col : Nat) (done : Issue → Nat → Nat) (h : Hz) (i : Issue) : Hz :=
  if !i.tmask.testBit col then h
  else
    let t := i.at
    let us := i.units serving
    let sfu := i.vop == 0x18
    let vmove := i.mov == 1 || i.mov == 2
    let h1 := if sfu then { h.need (decide (h.sfu ≤ t)) with sfu := t + 8 } else h
    let h2 := if vmove then { h1.need (decide (h1.vport ≤ t)) with vport := t + i.len + 1 } else h1
    let h3 := us.foldl (fun (h : Hz) u =>
      let a := match i.arr with
        | 1 => h.loadw last u t i
        | 2 => h.begin last u t (max t (h.latest u)) i
        | 3 => if col = 0 then h.begin last u t (max t (h.latest u)) i else h.streamw west last u t i
        | _ => h
      (a.vec bounds last u t i).mov sizes last u t (done i u) i) h2
    if i.ctl = 0xB then h3.swapWord serving last t i else h3

/-- A word's own form in its row's mode (R918): BIND, NEXTCTX, CTXIN and CTXOUT in serving mode only, the last two under a binding, CTXOUT at one tile and quarter. -/
def Issue.formOk (i : Issue) (serving : Bool) : Bool :=
  let ctx := i.mov == 5 || i.mov == 6
  (serving || !(i.ctl == 0x9 || i.ctl == 0xA || ctx)) && (!ctx || i.bound.isSome) &&
    (i.mov != 6 || (i.cols.length == 1 && (i.units serving).length == 1))

/-- A row in one epoch offset: its header, mode, SFU modes, and the words its epoch program issues. -/
structure RowRun where
  ent : SeqEnt
  serving : Bool
  bounds : List Bool
  issues : List Issue
  ok : Bool
  /-- IN_MAX and OUT_LEN of the last's slot entries, in order. -/
  sizes : List (Nat × Nat) := []

/-- The four tiles of a row under its program, west to east, from their staging halves; `done` gives when the move of a word at a column and unit ends. -/
def RowRun.tiles (r : RowRun) (last : Nat) (half : Tbl Nat) (done : Issue → Nat → Nat → Nat) : List Hz :=
  (List.range 4).foldl (fun (l : List Hz) c =>
    let west := match l.getLast? with
      | some h => h.streams
      | none => []
    let h0 : Hz := { half := ((List.range 4).filterMap (fun q => (half.find (4 * c + q)).map (fun v => (q, v)))) }
    l ++ [r.issues.foldl (Hz.word r.serving (r.bounds.getD c true) r.sizes last west c (fun i u => done i c u)) h0]) []

/-- The staging halves that the row leaves. -/
def halvesAfter (l : List Hz) : Tbl Nat :=
  (l.zipIdx).flatMap (fun p => p.1.half.map (fun e => (4 * p.2 + e.1, e.2)))

end Sys2Proof.Machine
end

