-- ==== Sys2Proof/Machine/Timetable.lean ====
section
/-! DEFINITION. Timetables under the validator: slot grids, the pairing of HBM3E requests with runs, DRAM timing, die-buffer moves, stitch slots and reduce groups (02 R71, R90, R97; 06 R221, R234-R236, R248, R249, R915, R916; 08 R318, R327, R328; 09 R408-R412; 11 R469, R470). -/

namespace Sys2Proof.Machine

/-- A relation holds between every element and every later one. -/
def later {α : Type} (f : α → α → Bool) : List α → Bool
  | [] => true
  | a :: l => l.all (f a) && later f l

/-- Two runs of a bank or of a unit keep their distances (R236). -/
def runsApart (v : Nat) (a b : MRun) : Bool :=
  let t := dramT v
  let sameBank := a.bankNo == b.bankNo
  let order := decide (slotIdx (dataGrid v) a.cyc + a.n ≤ slotIdx (dataGrid v) b.cyc)
  let units := (List.range a.n).all (fun i => (List.range b.n).all (fun j =>
    a.addr.col + i != b.addr.col + j || decide (a.slot v i + t.wtr ≤ b.slot v j)))
  order && (!sameBank || decide (a.cyc + t.rc ≤ b.cyc)) &&
    (!(sameBank && a.addr.row == b.addr.row && !a.rd && b.rd) || units)

/-- At most four ACTs in tFAW (R221 table). -/
def fawOk (v : Nat) (l : List MRun) : Bool :=
  (l.zip (l.drop 4)).all (fun p => decide (p.1.cyc + (dramT v).faw ≤ p.2.cyc))

/-- A run keeps clear of a refresh of its bank. The spec gives no time for the precharge after a run's last unit (R235): a refresh may come in any later cycle (notes/assumptions/61). -/
def clearOfRef (v : Nat) (r : MRun) (f : Nat × Nat) : Bool :=
  r.bankNo != f.1 || decide (r.slot v (r.n - 1) < f.2) || decide (f.2 + (dramT v).rfc + (dramT v).lead ≤ r.cyc)

/-- Every bank of every SID is refreshed in time: in the list, and up to the first refresh of the next epoch's list. -/
def refreshOk (v n : Nat) (l next : List Nat) : Bool :=
  (List.range 48).all (fun b =>
    let cs := ((memRefs l).filter (fun f => f.1 == b)).map (fun f => f.2)
    let first := (((memRefs next).filter (fun f => f.1 == b)).map (fun f => f.2)).head?
    match first with
    | none => false
    | some f => (cs.zip ((cs ++ [n + f]).drop 1)).all (fun p => decide (p.2 ≤ p.1 + (dramT v).refi)) && !cs.isEmpty)

/-- A MEM list against the timing parameters, with the next epoch's (R234-R236), in epochs of `n` cycles. -/
def memTiming (v n chan : Nat) (l next : List Nat) : Bool :=
  let rs := memRuns chan l
  rs.all (fun r => r.slot v 0 == r.cyc && decide ((dramT v).lead ≤ r.cyc) && decide (r.slot v (r.n - 1) ≤ n - 16)) &&
    later (runsApart v) rs && fawOk v rs && rs.all (fun r => (memRefs l).all (clearOfRef v r)) && refreshOk v n l next &&
    (memRefs l).all (fun f => decide (16 ≤ f.2 ∧ f.2 ≤ n - 16) &&
      (memRuns chan next).all (fun r => r.bankNo != f.1 || decide (f.2 + (dramT v).rfc + (dramT v).lead ≤ n + r.cyc)))

/-! ### Requests and their runs (R915, R916) -/

/-- What a request is for: the MOV of a word at a column and unit, or the PAGE of a word. -/
structure ReqId where
  row : Nat
  cyc : Nat
  col : Nat
  unit : Nat
  page : Bool
deriving DecidableEq, Repr

/-- A scheduled request: its word, kind, first address, units, die. -/
structure Req where
  id : ReqId
  rd : Bool
  addr : Nat
  units : Nat

/-- The die and the order of a request among those of one cycle (R915). -/
def Req.die (q : Req) : Nat := q.id.row / 8
def Req.who (q : Req) : Nat := 8 * State.tileOf q.id.row q.id.col + (if q.id.page then 0 else q.id.unit)

/-- Some FILL or SPILL of a row program names die-buffer lines of die `n` at or above an offset (07 R268, 20 R866), in epochs of `len` cycles. -/
def seqUses (m : Mem) (len n lo : Nat) (e : SeqEnt) : Bool :=
  (List.range e.period).any (fun k => (epochProgram m e k len).1.any (fun i =>
    (i.mov == 3 || i.mov == 4) && i.tmask != 0 &&
      (match placeOf (1024 * i.a) with
       | .dbuf d => d == n && decide (lo < 1024 * i.a % 67108864 + 1024 * (i.len + 1))
       | _ => false)))

/-- When a request reaches the controller of a die (06, Non-uniform access). -/
def Req.arrives (q : Req) (home : Nat) : Nat := (if q.id.page then q.id.cyc else q.id.cyc + 3) + 16 + State.pathAdd q.die home

/-- The moves of a word: column, unit, read, package address, bytes. -/
def movesOf (serving : Bool) (i : Issue) : List (Nat × Nat × Bool × Nat × Nat) :=
  if i.mov = 3 ∨ i.mov = 4 then
    i.cols.flatMap (fun c => (i.units serving).map (fun u => (c, u, i.mov == 3, 1024 * i.a, 1024 * (i.len + 1))))
  else []

/-- The requests of a row in an epoch. -/
def rowReqs (r : RowRun) : List Req :=
  r.issues.flatMap (fun i =>
    ((movesOf r.serving i).filterMap (fun m =>
      match placeOf m.2.2.2.1 with
      | .hbm _ => some ⟨⟨r.ent.row, i.cyc, m.1, m.2.1, false⟩, m.2.2.1, m.2.2.2.1, m.2.2.2.2 / 64⟩
      | _ => none)) ++
    (if i.ctl = 0x8 then [⟨⟨r.ent.row, i.cyc, 0, 0, true⟩, true, r.ent.addr + 4096 * i.arg, 64⟩] else []))

/-- Requests in order of arrival at a die's controllers. -/
def sortReqs (home : Nat) (l : List Req) : List Req :=
  l.mergeSort (fun a b => decide (a.arrives home < b.arrives home ∨ (a.arrives home = b.arrives home ∧ a.who ≤ b.who)))

/-- The units that a channel carries of the requests, in order. -/
def chanUnits (chan : Nat) (l : List Req) : List (Req × Nat) :=
  (sortReqs (chan / 32) l).flatMap (fun q =>
    ((List.range q.units).map (fun k => q.addr + 64 * k)).filterMap (fun a => if (hbmDecode a).chan = chan then some (q, a) else none))

/-- The units that a channel's runs move, in order: the run and the unit's number. -/
def runUnits (l : List MRun) : List (MRun × Nat) := l.flatMap (fun r => (List.range r.n).map (fun u => (r, u)))

/-- A unit and the run that serves it agree: place, direction, and arrival by the run's ACT cycle (R915). -/
def serves (v chan : Nat) (p : (Req × Nat) × (MRun × Nat)) : Bool :=
  let d := hbmDecode p.1.2
  let r := p.2.1
  d == { r.addr with col := r.addr.col + p.2.2 } && p.1.1.rd == r.rd && decide (p.1.1.arrives (chan / 32) + (dramT v).lead ≤ r.cyc)

/-- Every request of a channel has its runs, and every run its request. -/
def paired (v chan : Nat) (reqs : List Req) (l : List Nat) : Bool :=
  let us := chanUnits chan reqs
  let rs := runUnits (memRuns chan l)
  us.length == rs.length && (us.zip rs).all (serves v chan)

/-- When each unit of a channel's requests is done: landed in scratch or in the page slot, or written in the DRAM (R916). -/
def unitEnds (v chan : Nat) (reqs : List Req) (l : List Nat) : List (ReqId × Nat) :=
  ((chanUnits chan reqs).zip (runUnits (memRuns chan l))).map (fun p =>
    (p.1.1.id, p.2.1.slot v p.2.2 + (if p.1.1.rd then 20 + State.pathAdd p.1.1.die (chan / 32) else 0)))

/-- Where and when the units of the FILLs of a channel land: row, column, array unit and cycle (R916). -/
def landings (v chan : Nat) (reqs : List Req) (l : List Nat) : List (Nat × Nat × Nat × Nat) :=
  ((chanUnits chan reqs).zip (runUnits (memRuns chan l))).filterMap (fun p =>
    if p.1.1.rd && !p.1.1.id.page then
      some (p.1.1.id.row, p.1.1.id.col, p.1.1.id.unit, p.2.1.slot v p.2.2 + 20 + State.pathAdd p.1.1.die (chan / 32))
    else none)

/-- FILLs from HBM3E deliver at most 256 B/cc into a tile and 64 B/cc into a quarter (R244). -/
def rateOk (l : List (Nat × Nat × Nat × Nat)) : Bool :=
  l.all (fun a =>
    let here := l.filter (fun b => b.1 == a.1 && b.2.1 == a.2.1 && b.2.2.2 == a.2.2.2)
    decide (here.length ≤ 4) && (a.2.2.1 == 4 || decide ((here.filter (fun b => b.2.2.1 == a.2.2.1)).length ≤ 1)))

/-- The bridge directions that data crosses from die `a` to die `b`, as BRG headers number them (08 R317, R325; 06 R240). -/
def meshHops (a b : Nat) : List Nat :=
  match (b + 4 - a) % 4 with
  | 0 => []
  | 1 => [a % 4]
  | 2 => [a % 4, (a + 1) % 4]
  | _ => [8 + b % 4]

/-- The units of a channel that cross bridges: the directions, and the first cycle at which the first of them can take the unit. A unit passes the two crossings of 6 cc at its ends, and 8 cc of its 20 are left (R238, R239; 02 R68). -/
def crossings (v chan : Nat) (reqs : List Req) (l : List Nat) : List (List Nat × Nat) :=
  ((chanUnits chan reqs).zip (runUnits (memRuns chan l))).filterMap (fun p =>
    let home := chan / 32
    let me := p.1.1.die
    let c := p.2.1.slot v p.2.2
    if home = me then none
    else if p.1.1.rd then some (meshHops home me, c + 6)
    else some (meshHops me home, c - (14 + State.pathAdd me home)))

/-- The latest end of a request. -/
def endOf (l : List (ReqId × Nat)) (id : ReqId) : Nat := (l.filter (fun p => p.1 == id)).foldl (fun m p => max m p.2) 0

/-! ### Die-buffer moves (R248, R249) -/

/-- When a die-buffer move of a word ends, at a column and unit. -/
def dbufEnd (row col unit : Nat) (rd : Bool) (off bytes t : Nat) : Nat :=
  (List.range (bytes / 256)).foldl (fun m k => max m (lineMove unit (portSlot row col rd) (t + 6) (off / 256) k + (if rd then 6 else 0))) 0

/-! ### An epoch of a last -/

/-- An epoch offset of a last: its rows, and each claimed channel with its entry list and the next epoch's. -/
structure EpochRun where
  off : Nat
  rows : List RowRun
  chans : List (Nat × List Nat × List Nat)

/-- The requests of an epoch. -/
def EpochRun.reqs (e : EpochRun) : List Req := e.rows.flatMap rowReqs

/-- The ends of its requests. -/
def EpochRun.ends (e : EpochRun) (v : Nat) : List (ReqId × Nat) := e.chans.flatMap (fun c => unitEnds v c.1 e.reqs c.2.1)

/-- The channels keep R234-R236, R244 and R915, and no request goes to another channel (notes/assumptions/62). -/
def EpochRun.memOk (e : EpochRun) (v n : Nat) : Bool :=
  e.chans.all (fun c => memTiming v n c.1 c.2.1 c.2.2 && paired v c.1 e.reqs c.2.1) &&
    rateOk (e.chans.flatMap (fun c => landings v c.1 e.reqs c.2.1))

/-- When the move of a word at a column and unit ends. -/
def moveEnd (ends : List (ReqId × Nat)) (row : Nat) (i : Issue) (col unit : Nat) : Nat :=
  match placeOf (1024 * i.a) with
  | .hbm _ => endOf ends ⟨row, i.cyc, col, unit, false⟩
  | .dbuf _ => dbufEnd row col unit (i.mov == 3) (1024 * i.a % 67108864) (1024 * (i.len + 1)) i.at
  | _ => 0

/-- What a row carries from epoch to epoch in the walk: the pages of its slots, and its staging halves. -/
structure RowCarry where
  pages : Tbl Nat := []
  half : Tbl Nat := []
  /-- The row's mode in the epoch before, if there was one. -/
  mode : Option Bool := none

/-- The page rules of R140 and R914 over a program: the pages at cycle 0, every word's page fetched when it issues, every fetch over by N − 16 (02 R91). -/
def pagesOk (ends : List (ReqId × Nat)) (last row k : Nat) (pages : Tbl Nat) (l : List Issue) : Bool × Tbl Nat :=
  let start : Tbl (Nat × Nat) := pages.map (fun p => (p.1, (p.2, 0)))
  let has := fun (t : Tbl (Nat × Nat)) (b c : Nat) =>
    match t.find (b / 4096 % 32) with
    | some g => g.1 == b / 4096 && decide (g.2 ≤ c)
    | none => false
  let first := match l with
    | [] => true
    | i :: _ => has start i.pos 0
  let r := l.foldl (fun (a : Bool × Tbl (Nat × Nat)) i =>
    (a.1 && has a.2 i.pos i.cyc && (i.ctl != 0x8 || decide (endOf ends ⟨row, i.cyc, 0, 0, true⟩ ≤ last)),
     if i.ctl = 0x8 then a.2.put (i.arg % 32) (i.arg, endOf ends ⟨row, i.cyc, 0, 0, true⟩) else a.2)) (has start (4 * k) 0 && first, start)
  (r.1, r.2.map (fun p => (p.1, p.2.1)))

/-- The rows of an epoch under their timing rules, and what they carry on; a change of mode returns every staging pointer to half A (03 R147; 0x0208). -/
def EpochRun.rowsOk (e : EpochRun) (v n : Nat) (carry : List RowCarry) : Bool × List RowCarry :=
  let ends := e.ends v
  let rs := (e.rows.zip carry).map (fun p =>
    let r := p.1
    let hs := r.tiles (n - 16) (if p.2.mode.getD r.serving = r.serving then p.2.half else []) (moveEnd ends r.ent.row)
    let pg := pagesOk ends (n - 16) r.ent.row (e.off % r.ent.period) p.2.pages r.issues
    (r.ok && pg.1 && hs.all (fun h => h.ok) && r.issues.all (fun i => i.formOk r.serving), (⟨pg.2, halvesAfter hs, some r.serving⟩ : RowCarry)))
  (rs.all (fun p => p.1), rs.map (fun p => p.2))

/-- Every epoch in order (0x0208). -/
def epochsOk (v n : Nat) : List EpochRun → List RowCarry → Bool
  | [], _ => true
  | e :: l, c =>
    let r := e.rowsOk v n c
    e.memOk v n && r.1 && epochsOk v n l r.2

/-! ### BRG lists (08) -/

/-- A reservation: lane, first slot, count. -/
def brgRuns (l : List Nat) : List (Nat × Nat × Nat) := l.map (fun w => (eb w 41 5, eb w 0 27, eb w 29 12 + 1))

/-- The grid of a bridge direction. -/
def brgGrid (v key : Nat) : Nat × Nat := if key % 8 < 4 then meshGrid v else wnGrid v

/-- A reservation's lane and slots (R328). -/
def brgRunOk (v n key : Nat) (r : Nat × Nat × Nat) : Bool :=
  (decide (4 ≤ key % 8) || decide (r.1 ≤ 11)) && decide (slotCycle (brgGrid v key) (r.2.1 + r.2.2 - 1) < n - 16)

/-- Slot `i` of lane `n` is reserved. -/
def slotHeld (l : List (Nat × Nat × Nat)) (n i : Nat) : Bool := l.any (fun r => r.1 == n && decide (r.2.1 ≤ i ∧ i < r.2.1 + r.2.2))

/-- The reserved slots of a mesh direction with cycles `c` to `c` + 8: lane and cycle. -/
def slotsFrom (v : Nat) (l : List (Nat × Nat × Nat)) (c : Nat) : List (Nat × Nat) :=
  let g := meshGrid v
  (List.range 20).flatMap (fun k =>
    let i := slotIdx g c + k
    if slotCycle g i ≤ c + 8 then ((List.range 12).filter (fun n => slotHeld l n i)).map (fun n => (n, slotCycle g i)) else [])

/-- A slot of lane `n` with cycle `c` is reserved. -/
def slotAt (v : Nat) (l : List (Nat × Nat × Nat)) (n c : Nat) : Bool :=
  let g := meshGrid v
  (List.range 3).any (fun k => slotCycle g (slotIdx g c + k) == c && slotHeld l n (slotIdx g c + k))

/-- Two reservations meet (R327). -/
def brgMeet (a b : Nat × Nat × Nat) : Bool := a.1 == b.1 && decide (a.2.1 < b.2.1 + b.2.2 ∧ b.2.1 < a.2.1 + a.2.2)

/-! ### LNK lists -/

/-- Slots of the stitches of a list. -/
def stitchIdx (v : Nat) (l : List StitchSlot) : List Nat := l.map (fun x => slotIdx (stitchGrid v) x.cycle)

/-- Every 48 consecutive stitch slots hold a free one (11 R470). -/
def freeIn48 (v : Nat) (l : List StitchSlot) : Bool :=
  let idx := stitchIdx v l
  idx.all (fun i => (List.range 48).any (fun k => !idx.contains (i + k)))

/-- The stitches of a list lie on the grid, each on a slot of its own, from cycle 16 to N − 16 (02 R71, R91). -/
def onGrid (v n : Nat) (l : List StitchSlot) : Bool :=
  l.all (fun x => slotCycle (stitchGrid v) (slotIdx (stitchGrid v) x.cycle) == x.cycle && decide (16 ≤ x.cycle ∧ x.cycle ≤ n - 16)) &&
    decide (stitchIdx v l).Nodup

/-- S_L ≥ r_L × R_L + G with check point `c` in epochs of `n` cycles (02 R97). -/
def slackOk (n c : Nat) (x : StreamSpec) (l : List StitchSlot) : Bool :=
  l.isEmpty ||
    decide (l.foldl (fun m e => max m e.cycle) 0 + x.fL + x.rL.val * (2 * x.fL + 600) + (n + 4999) / 5000 ≤ c)

/-- 1 in 16 stitch slots stays free (0x0211). -/
def sixteenthFree (v n : Nat) (l : List StitchSlot) : Bool :=
  let total := slotIdx (stitchGrid v) n
  decide (total + 16 * l.length ≤ 16 * total)

/-- The lines that a stitch leaves in its link's region: one, none as an operand of another link's result, or the lines of a result (09 R411; 08 R344). -/
def landLines (gs : List GroupSpec) (l : Nat) (e : StitchSlot) : Nat :=
  if e.group = 0 then 1
  else match gs.find? (fun g => g.group.val == e.group && g.block.val == l / 8) with
    | some g => if State.groupLow g = l then State.groupFlits g else 0
    | none => 1

/-- The bytes of a region that a stream's stitches and results land in. -/
def regionSpan (gs : List GroupSpec) (x : StreamSpec) : Nat :=
  256 * (x.lists.flatMap (fun l => l)).foldl (fun (m : Nat) (e : StitchSlot) =>
    if landLines gs x.link.val e = 0 then m else max m (e.line + landLines gs x.link.val e)) 0

/-- A reduce group's entry: its number, members, ports and format (09 R408, 12 R562). -/
def groupForm (g : GroupSpec) : Bool :=
  decide (1 ≤ g.group.val) && decide (1 ≤ g.nlink.val) && decide (g.order.length = g.nlink.val + 1) && decide g.order.Nodup

/-- A group in an epoch: every member's count is SETS, at most 64 sets are incomplete at nominal landing (09 R409, R412). -/
def groupEpoch (ss : List StreamSpec) (g : GroupSpec) (j : Nat) : Bool :=
  let mem : List (Option StreamSpec) := (State.groupMembers g).map (fun l => ss.find? (fun x => x.link.val == l && !x.send))
  let lands : List (List Nat) := mem.map (fun (x : Option StreamSpec) => match x with
    | some x => ((streamList x 0 j).filter (fun (e : StitchSlot) => e.group == g.group.val)).map (fun (e : StitchSlot) => e.cycle + x.fL)
    | none => [])
  let sets : List (Nat × Nat) := (List.range g.sets).map (fun k =>
    let cs := lands.map (fun l => l.getD k 0)
    (cs.foldl min (cs.headD 0), cs.foldl max 0))
  mem.all (fun x => x.isSome) && lands.all (fun l => l.length == g.sets) &&
    sets.all (fun a => decide ((sets.filter (fun b => decide (b.1 ≤ a.1 ∧ a.1 < b.2))).length ≤ 64))

/-- The result flits that cross a link's channel in an epoch (09 R411; 08 R344). -/
def groupSlots (gs : List GroupSpec) (l : Nat) : Nat :=
  (gs.filter (fun g => State.groupLow g == l)).foldl (fun k g => k + g.sets * State.groupFlits g) 0

/-- The result flits and plain stitches of a link's channel fit its grid in an epoch (09 R412, 08 R318, R344). -/
def channelFits (v n : Nat) (ss : List StreamSpec) (gs : List GroupSpec) (l j : Nat) : Bool :=
  let plain := match ss.find? (fun x => x.link.val == l && !x.send) with
    | some x => ((streamList x 0 j).filter (fun e => e.group == 0)).length
    | none => 0
  decide (plain + groupSlots gs l ≤ slotIdx (wnGrid v) n)

end Sys2Proof.Machine
end

