-- ==== Sys2Proof/Machine/RegWrite.lean ====
section
/-! DEFINITION. Register accesses: the register map, the access codes, the fields of every register that software writes, and reads with a side effect (20; 02 R82-R89, R104; 12 R524-R526; 13 R577-R582; 14 R651; 17 R743, R766; 18 R800). -/

namespace Sys2Proof.Machine

/-! ### The register map (20, Register index, and the register tables of 01-18) -/

/-- Registers that repeat: first offset in the block, how many, their stride, and their width in bytes; 0 for a window of records, reached with 4 B or 8 B. -/
structure RegRow where
  first : Nat
  count : Nat
  stride : Nat
  width : Nat

def pkgRows : List RegRow :=
  [⟨0x8, 1, 8, 8⟩, ⟨0x100, 4, 0x10, 4⟩, ⟨0x200, 1, 4, 4⟩, ⟨0x210, 1, 4, 4⟩, ⟨0x218, 1, 8, 8⟩, ⟨0x220, 1, 4, 4⟩, ⟨0x228, 2, 4, 4⟩,
   ⟨0x230, 1, 8, 8⟩, ⟨0x240, 1, 4, 4⟩, ⟨0x248, 1, 8, 8⟩, ⟨0x250, 1, 4, 4⟩, ⟨0x258, 2, 8, 8⟩]
def hifRows : List RegRow :=
  [⟨0, 1, 4, 4⟩, ⟨0x10, 2, 8, 4⟩, ⟨0x20, 1, 4, 4⟩, ⟨0x40, 2, 8, 8⟩,
   ⟨0x1020, 63, 0x20, 8⟩, ⟨0x1028, 63, 0x20, 4⟩, ⟨0x102C, 63, 0x20, 4⟩, ⟨0x1030, 63, 0x20, 4⟩, ⟨0x1034, 63, 0x20, 4⟩, ⟨0x1038, 63, 0x20, 4⟩, ⟨0x103C, 63, 0x20, 4⟩,
   ⟨0x10000, 4096, 0x40, 8⟩, ⟨0x10008, 4096, 0x40, 8⟩, ⟨0x10010, 4096, 0x40, 4⟩, ⟨0x10014, 4096, 0x40, 4⟩, ⟨0x10018, 4096, 0x40, 4⟩,
   ⟨0x1001C, 4096, 0x40, 4⟩, ⟨0x10020, 4096, 0x40, 4⟩, ⟨0x10028, 4096, 0x40, 8⟩,
   ⟨0x80000, 8192, 4, 0⟩, ⟨0x90000, 64, 4, 0⟩]
def cmdRows : List RegRow :=
  [⟨0x10, 1, 4, 4⟩, ⟨0x100, 8, 0x20, 4⟩, ⟨0x108, 8, 0x20, 8⟩, ⟨0x110, 8, 0x20, 8⟩, ⟨0x118, 8, 0x20, 4⟩,
   ⟨0x1000, 16, 0x40, 8⟩, ⟨0x1008, 16, 0x40, 8⟩, ⟨0x1010, 16, 0x40, 8⟩, ⟨0x1018, 16, 0x40, 4⟩, ⟨0x101C, 16, 0x40, 4⟩, ⟨0x1020, 16, 0x40, 8⟩,
   ⟨0x80000, 3, 8, 8⟩, ⟨0x80018, 1, 4, 4⟩]
def ctxRows : List RegRow :=
  [⟨0x100, 4, 8, 8⟩, ⟨0x120, 4, 4, 4⟩, ⟨0x1000, 256, 4, 4⟩, ⟨0x10000, 1024, 4, 4⟩,
   ⟨0x20000, 4, 0x40, 8⟩, ⟨0x20008, 4, 0x40, 4⟩, ⟨0x2000C, 4, 0x40, 4⟩, ⟨0x20010, 4, 0x40, 4⟩,
   ⟨0x40000, 4096, 4, 4⟩, ⟨0x44000, 128, 4, 4⟩, ⟨0x50000, 512, 8, 8⟩]
def bootRows : List RegRow :=
  [⟨0x10, 1, 4, 4⟩, ⟨0x18, 1, 8, 8⟩, ⟨0x20, 1, 4, 4⟩, ⟨0x100, 4, 4, 4⟩, ⟨0x200, 1, 8, 8⟩, ⟨0x208, 1, 4, 4⟩, ⟨0x220, 12, 4, 0⟩, ⟨0x260, 16, 4, 0⟩,
   ⟨0x2A0, 4, 4, 4⟩, ⟨0x1000, 320, 4, 0⟩, ⟨0x1800, 192, 4, 0⟩, ⟨0x4000, 1024, 4, 0⟩,
   ⟨0x8000, 1, 4, 4⟩, ⟨0x8008, 1, 4, 4⟩, ⟨0x8010, 1, 8, 8⟩, ⟨0x8018, 1, 4, 4⟩, ⟨0x8020, 1, 8, 8⟩]
def memRows : List RegRow := [⟨0x100, 8, 0x10, 4⟩, ⟨0x1000, 128, 4, 4⟩]
def sbrRows : List RegRow :=
  [⟨0x100, 8, 0x10, 4⟩, ⟨0x144, 4, 0x10, 4⟩, ⟨0x200, 8, 4, 4⟩, ⟨0x400, 8, 0x10, 4⟩, ⟨0x408, 8, 0x10, 8⟩, ⟨0x1000, 256, 4, 4⟩, ⟨0x2000, 128, 4, 4⟩,
   ⟨0x100000, 65536, 4, 0⟩]
def yzRows : List RegRow :=
  [⟨0x10, 1, 4, 4⟩, ⟨0x100, 4, 8, 8⟩, ⟨0x200, 1, 4, 4⟩, ⟨0x208, 1, 8, 8⟩, ⟨0x210, 1, 4, 4⟩, ⟨0x218, 1, 4, 4⟩, ⟨0x220, 1, 8, 8⟩, ⟨0x228, 3, 4, 4⟩,
   ⟨0x20000, 32, 0x1000, 4⟩, ⟨0x20008, 32, 0x1000, 8⟩, ⟨0x20010, 32, 0x1000, 4⟩, ⟨0x20020, 32, 0x1000, 4⟩, ⟨0x20024, 32, 0x1000, 4⟩,
   ⟨0x20028, 32, 0x1000, 4⟩, ⟨0x2002C, 32, 0x1000, 4⟩, ⟨0x20030, 32, 0x1000, 8⟩] ++
  (List.range 17).map (fun k => ⟨0x20100 + 4 * k, 32, 0x1000, 4⟩) ++ (List.range 17).map (fun k => ⟨0x20180 + 4 * k, 32, 0x1000, 4⟩) ++
  [⟨0x40000, 32, 0x1000, 4⟩] ++ (List.range 3).map (fun k => ⟨0x40008 + 4 * k, 32, 0x1000, 4⟩) ++
  (List.range 12).map (fun k => ⟨0x40020 + 4 * k, 32, 0x1000, 4⟩) ++ (List.range 4).map (fun k => ⟨0x40080 + 4 * k, 32, 0x1000, 4⟩)
def fabRows : List RegRow :=
  [⟨0x10, 10, 4, 4⟩, ⟨0x38, 1, 8, 8⟩, ⟨0x100, 1, 4, 4⟩, ⟨0x108, 2, 8, 8⟩, ⟨0x118, 5, 4, 4⟩]
def tilRows : List RegRow :=
  [⟨0x10, 1, 4, 4⟩, ⟨0x10000, 32, 0x400, 4⟩, ⟨0x10004, 32, 0x400, 4⟩, ⟨0x10008, 32, 0x400, 4⟩, ⟨0x10010, 32, 0x400, 4⟩, ⟨0x10014, 32, 0x400, 4⟩]
def mgtRows : List RegRow :=
  [⟨0x100, 64, 4, 0⟩, ⟨0x3000, 2, 8, 8⟩, ⟨0x3010, 2, 4, 4⟩, ⟨0x3100, 3, 4, 4⟩, ⟨0x4000, 16, 4, 4⟩, ⟨0x5000, 1, 4, 4⟩, ⟨0x5008, 1, 4, 4⟩, ⟨0x5010, 1, 4, 4⟩,
   ⟨0x6000, 1024, 4, 0⟩, ⟨0x10100, 3, 4, 4⟩, ⟨0x10110, 1, 8, 8⟩, ⟨0x10118, 1, 4, 4⟩, ⟨0x100000, 262144, 4, 0⟩]

/-- The registers of an offset's block, and where the block, or its instance, starts. -/
def blockRows (off : Nat) : List RegRow × Nat :=
  if off < hifBase then (pkgRows, 0)
  else if off < cmdBase then (hifRows, hifBase)
  else if off < ctxBase then (cmdRows, cmdBase)
  else if off < bootBase then (ctxRows, ctxBase)
  else if off < memBase then (bootRows, bootBase)
  else if off < sbrBase then (memRows, memBase)
  else if off < 0x800000 then (sbrRows, sbrBase)
  else if off < fabBase then (yzRows, off - off % 0x100000)
  else if off < 0xD00000 then (fabRows, fabBase)
  else if off < mgtBase then (tilRows, off - off % 0x40000)
  else (mgtRows, mgtBase)

/-- The register that holds the 32-bit word at an offset: where it starts, and its width; none where no chapter names one (R846). -/
def regAt (off : Nat) : Option (Nat × Nat) :=
  let b := blockRows off
  let o := off - b.2
  (b.1.find? (fun r => decide (r.first ≤ o ∧ (o - r.first) / r.stride < r.count ∧ (o - r.first) % r.stride < max r.width 4))).map
    (fun r => (b.2 + r.first + (o - r.first) / r.stride * r.stride, r.width))

/-- Some byte of an access belongs to a register. -/
def named (off size : Nat) : Bool :=
  (List.range ((off + size - 1) / 4 - off / 4 + 1)).any (fun i => (regAt (4 * (off / 4 + i))).isSome)

/-- An access of the right size and alignment (R844). -/
def fits (off size : Nat) : Bool :=
  (size == 4 || size == 8) && off % size == 0 &&
    (match regAt off with
     | some (_, w) => !(size == 8 && w == 4)
     | none => false)

/-- A write in progress: the state, whether part of it was dropped or refused, and its first code (R908). -/
structure Wr where
  s : State
  drop : Bool := false
  code : Nat := 0

namespace State

/-! ### Who reaches what (R667, R701, R849; 13 R574; 16, Takeover) -/

/-- The block of an offset answers. -/
def blockAnswers (s : State) (off : Nat) : Bool :=
  let core := decide (off < hifBase) || decide (mgtBase ≤ off)
  match s.boot.phase with
  | .heldReset => false
  | .shankFailed => false
  | .headless => core
  | .started => true
  | _ => core || decide (bootBase ≤ off ∧ off < memBase)

/-- MCTP messages are served: a shank runs and its input gate is open (18 R774, R808; 16 R718). -/
def mctpServes (s : State) : Bool := s.shanksRun && !s.gateHolds

/-- An access from a source reaches the registers of a function. -/
def regReach (s : State) (src : Src) (fn : Nat) : Bool :=
  (match s.boot.phase with
   | .heldReset => false
   | .shankFailed => false
   | _ => true) &&
  (match src with
   | .portA => s.host.portA.st != .down && (fn == 0 || (s.started && decide (fn ≤ s.host.vfs)))
   | .portB => s.host.portB.st != .down && (fn == 0 || (s.started && decide (fn ≤ s.host.vfs)))
   | .mctp => fn == 0 && s.mctpServes
   | .awl => fn == 0)

/-! ### Fields (R845, R847, R850) -/

/-- A part of a write is dropped without a code, or refused with one. -/
def dropW (w : Wr) : Wr := { w with drop := true }
def refuseW (w : Wr) (code : Nat) : Wr := { w with drop := true, code := if w.code = 0 then code else w.code }

/-- An RW field takes its value at once. -/
def putRw (w : Wr) (off : Nat) (mask v : Word) : Wr := { w with s := w.s.setWord off (mergeBits (w.s.word off) mask v) }

/-- A W1C field clears where the value is 1 and the device did not set the bit in the same cycle (R845). -/
def putW1c (w : Wr) (off : Nat) (mask v : Word) : Wr := { w with s := w.s.clearBits off (v &&& mask) }

/-- An RW-E field arms its pending copy, unless its value is equal or its epoch's latch has passed (R850, R853; 02 R85). -/
def putRwe (w : Wr) (off : Nat) (mask v : Word) (e : Nat) : Wr :=
  if !w.s.wouldArm off mask v then w
  else if e ≤ w.s.latchedEpoch then refuseW w 0x0220
  else { w with s := w.s.arm off mask v e }

/-- A last-owned field: 0x0222 where a resident last claims it, else dropped (R857). -/
def putOwned (w : Wr) (off : Nat) (mask v : Word) (claimed : Bool) : Wr :=
  if !w.s.wouldArm off mask v then w else if claimed then refuseW w 0x0222 else dropW w

/-- An RW field whose change is allowed only where `ok` holds (13 R578, R582). -/
def putIf (w : Wr) (off : Nat) (mask v : Word) (ok : Bool) : Wr :=
  if (v &&& mask) = (w.s.word off &&& mask) then w else if ok then putRw w off mask v else dropW w

/-- The epoch that a newly armed copy names (R851). -/
def epochFor (s : State) (src : Src) (m : Option Nat) (off : Nat) : Nat :=
  if hifBase + 0x10000 ≤ off ∧ off < hifBase + 0x50000 then s.dword (ringReg ((off - hifBase - 0x10000) / 0x40) + 0x28)
  else if off = 0x210 then s.dword 0x218
  else match m with
    | some e => e
    | none => (s.banks.get {} (bankOf src)).pendEpoch

/-- Change a writer's bank (R852). -/
def setBank (s : State) (src : Src) (f : Bank → Bank) : State := { s with banks := s.banks.upd {} (bankOf src) f }

/-- The value of a 64-bit register after a write of one of its halves, or of all of it. -/
def newDword (cur off start size v : Nat) : Nat :=
  if size = 8 then v
  else if off = start then 2 ^ 32 * (cur / 2 ^ 32) + v % 2 ^ 32
  else 2 ^ 32 * (v % 2 ^ 32) + cur % 2 ^ 32

/-! ### Registers of the host interface (13) -/

/-- ACTIVE and the pending ENABLE are both 0 (13 R582). -/
def ringIdle (s : State) (q : Nat) : Bool :=
  let off := ringReg q + 0x10
  !s.ringActive q && (s.pendsAt off).all (fun p => !(p.mask.getLsbD 16 && p.value.getLsbD 16))

/-- SQ_LOG or CQ_LOG, 6 to 16 (13, ring set-up). -/
def putLog (w : Wr) (off : Nat) (mask v : Word) (lo : Nat) (ok : Bool) : Wr :=
  let n := v.toNat / 2 ^ lo % 32
  putIf w off mask v (ok && decide (6 ≤ n ∧ n ≤ 16))

/-- A word of a ring's set-up. -/
def putRing (w : Wr) (q o : Nat) (v : Word) (e : Nat) : Wr :=
  let off := ringReg q + o
  let ok := w.s.ringIdle q
  match o with
  | 0 => putIf w off 0xFFFFF000#32 v ok
  | 4 => putIf w off 0xFFFFFFFF#32 v ok
  | 8 => putIf w off 0xFFFFF000#32 v ok
  | 12 => putIf w off 0xFFFFFFFF#32 v ok
  | 0x10 =>
    let w1 := putLog (putLog w off 0x1F#32 v 0 ok) off 0x1F00#32 v 8 ok
    let w2 := putIf (putIf w1 off 0x20000#32 v ok) off 0x40000#32 v ok
    putRwe w2 off 0x10000#32 v e
  | 0x14 =>
    let w1 := putIf w off 0x7FF#32 v ok
    let w2 := putRw w1 off 0x8000#32 v
    let w3 := putRwe w2 off 0xFF0000#32 v e
    { w3 with s := w3.s.tryInterrupt q }
  | 0x18 => putRwe w off 0xFFFF#32 v e
  | 0x28 => putRw w off 0xFFFFFFFF#32 v
  | 0x2C => putRw w off 0xFFFFFFFF#32 v
  | _ => w

/-- A word of a VF's window entry, written while the VF is not enabled (13 R578). -/
def putWindow (w : Wr) (off : Nat) (v : Word) : Wr :=
  let o := off - hifBase - 0x1000
  let ok := decide (w.s.host.vfs < o / 0x20)
  let mask : Word :=
    match o % 0x20 with
    | 0 => 0xFFE00000#32
    | 4 => 0xFFFFFFFF#32
    | 8 => 0xFFFFFFFF#32
    | 12 => 0x1FFFFF#32
    | 0x10 => 0x3FFFFF#32
    | 0x14 => 0x7FFFFF#32
    | 0x18 => 0x1FFFFFF#32
    | _ => 0#32
  putIf w off mask v ok

/-- A word of an MSI-X table entry (13 R614): the address and data words, and the mask bit. -/
def putMsix (w : Wr) (off fn vector k : Nat) (v : Word) : Wr :=
  if k = 3 then
    if v.getLsbD 0 then
      let key := 2048 * fn + vector
      let m := w.s.host.msix.get {} key
      { w with s := { w.s with host := { w.s.host with msix := w.s.host.msix.set {} key { m with masked := true } } } }
    else { w with s := w.s.doMsixUnmask fn vector }
  else putRw w off 0xFFFFFFFF#32 v

/-! ### Acknowledgements (14 R651; 18 R800) -/

/-- JNL_ACK: dropped above JNL_NEXT − 1. -/
def putJnlAck (w : Wr) (v : Nat) : Wr :=
  if v = w.s.cmd.jnlAck then w
  else if w.s.cmd.jnlNext ≤ v then dropW w
  else { w with s := { w.s with cmd := { w.s.cmd with jnlAck := v } } }

/-- EVT_ACK: dropped above EVT_NEXT − 1. -/
def putEvtAck (w : Wr) (v : Nat) : Wr :=
  if v = w.s.mgt.evtAck then w
  else if w.s.mgt.evtNext ≤ v then dropW w
  else { w with s := { w.s with mgt := { w.s.mgt with evtAck := v } } }

/-! ### CTX_BASE_n, CTX_POOL_SIZE_n and the fabric (20 R863, R866; 12 R524-R526) -/

/-- The value a word reads once its pending copies are active. -/
def viewDword (s : State) (off : Nat) : Nat := (s.viewWord off).toNat + 2 ^ 32 * (s.viewWord (off + 4)).toNat

/-- A claimed range of a resident last. -/
def claimsRange (s : State) (a n : Nat) : Bool :=
  s.cmd.lasts.any (fun p => p.2.st == .running && p.2.sections.claims.hbm.any (fun r => meets r.1 r.2 a n))

/-- A new base that R863 drops. -/
def badBase (s : State) (n a : Nat) : Bool :=
  let len := 0x4000000
  !(decide (a / 0x900000000 = 2 * n ∨ a / 0x900000000 = 2 * n + 1) && groupOf a == groupOf (a + len - 1)) ||
    s.claimsRange a len || meetsJournal a len || meetsResident a len ||
    (List.range 4).any (fun k => k != n && (s.quarterBases k).any (fun b => meets a len b len))

/-- CTX_BASE_n: bits 45:21 are one field over both words (R854, R863). -/
def putBase (w : Wr) (n full e : Nat) : Wr :=
  let off := ctxBase + 0x100 + 8 * n
  let a := 2 ^ 21 * (full / 2 ^ 21 % 2 ^ 25)
  if a = w.s.viewDword off then w
  else if w.s.badBase n a then dropW w
  else if e ≤ w.s.latchedEpoch then refuseW w 0x0220
  else
    let hit := fun (p : Pend) => p.off == off || p.off == off + 4
    let s1 := if w.s.pend.any hit then w.s.bump 0x240 else w.s
    { w with s := { s1 with pend := s1.pend.filter (fun p => !hit p) ++
        [⟨off, 0xFFE00000#32, half 0 a, e, none⟩, ⟨off + 4, 0x3FFF#32, half 4 a, e, none⟩] } }

/-- A resident last uses die-buffer lines of a die at or above an offset: landing regions, and words (20 R866). -/
def bufferUsed (s : State) (n lo : Nat) : Bool :=
  s.cmd.lasts.any (fun p => p.2.st == .running &&
    (p.2.sections.streams.any (fun x => !x.send && x.link.val / 32 == n &&
      regionSpan p.2.sections.groups x != 0 &&
      decide (lo < x.regionEven + regionSpan p.2.sections.groups x ∨ lo < x.regionOdd + regionSpan p.2.sections.groups x)) ||
     p.2.seqs.any (fun e => seqUses s.mem s.epochN n lo e)))

/-- CTX_POOL_SIZE_n (R866). -/
def putPool (w : Wr) (n : Nat) (v : Word) (e : Nat) : Wr :=
  let off := ctxBase + 0x120 + 4 * n
  let k := v.toNat % 32
  if !w.s.wouldArm off 0x1F#32 v then w
  else if k = 0 ∨ 16 < k ∨ w.s.bufferUsed n (0x4000000 - 0x200000 * k) then dropW w
  else putRwe w off 0x1F#32 v e

/-- Some last is resident. -/
def anyResident (s : State) : Bool := s.cmd.lasts.any (fun p => p.2.st == .running)

/-- A last over several packages is resident in epoch `e` (12 R524). -/
def spansAt (s : State) (e : Nat) : Bool := s.cmd.lasts.any (fun p => decide (1 < p.2.pkgCount) && p.2.residentIn e)

/-- The fields of a FAB set-up word. -/
def fabMasks (o : Nat) : List Word :=
  if o = 0x10 then [1#32, 2#32, 4#32, 0xF00#32, 0x7F0000#32, 0x800000#32]
  else if o = 0x14 ∨ (0x20 ≤ o ∧ o < 0x30) then [0xFFFFFFFF#32]
  else if o = 0x18 ∨ o = 0x30 ∨ o = 0x34 then [0xFFFF#32]
  else if o = 0x1C then [0x1FFFF#32]
  else []

/-- A FAB set-up word but FAB_TIMING (12 R524, R525). -/
def putFab (w : Wr) (off : Nat) (v : Word) (e : Nat) : Wr :=
  let ms := fabMasks (off - fabBase)
  let joins := off == fabBase + 0x10 && v.getLsbD 0 && !(w.s.word off).getLsbD 0 && w.s.wouldArm off 1#32 v
  if !ms.any (fun m => w.s.wouldArm off m v) then w
  else if joins && w.s.anyResident then refuseW w 0x0C06
  else if w.s.spansAt e then refuseW w 0x0C07
  else ms.foldl (fun w m => putRwe w off m v e) w

/-- FAB_TIMING, both halves (12 R526). -/
def putTiming (w : Wr) (full e : Nat) : Wr :=
  let off := fabBase + 0x38
  let lo := half 0 full
  let hi := half 4 full
  let k := full % 32
  if !w.s.wouldArm off 0x1F#32 lo && !w.s.wouldArm (off + 4) 0xFFFFFFFF#32 hi then w
  else if w.s.anyResident then refuseW w 0x0C06
  else if k < 14 ∨ 26 < k ∨ 2 ^ k < 2 * (full / 2 ^ 32 % 2 ^ 32 + 64) then dropW w
  else putRwe (putRwe w off 0x1F#32 lo e) (off + 4) 0xFFFFFFFF#32 hi e

/-- A 64-bit register with RW-E fields: an 8 B write or a write of the high half arms it, a low half on its own is held (R854). -/
def putWide (w : Wr) (src : Src) (off start size v : Nat) (f : Wr → Nat → Wr) : Wr :=
  if size = 8 then f w v
  else if off = start then { w with s := w.s.setBank src (fun b => { b with low := some (start, BitVec.ofNat 32 v) }) }
  else
    match (w.s.banks.get {} (bankOf src)).low with
    | some (o, l) =>
      if o = start then f { w with s := w.s.setBank src (fun b => { b with low := none }) } (l.toNat + 2 ^ 32 * v)
      else f w ((w.s.viewWord start).toNat + 2 ^ 32 * v)
    | none => f w ((w.s.viewWord start).toNat + 2 ^ 32 * v)

/-! ### Tile settings (R857, R860; 05) -/

/-- A resident last claims a row. -/
def rowHeld (s : State) (r : Nat) : Bool := s.cmd.lasts.any (fun p => p.2.st == .running && p.2.rowMask.testBit r)

/-- A word of the TIL/SEQ/SFU block of die `n`, at offset `o`. -/
def putTil (w : Wr) (n o : Nat) (v : Word) : Wr :=
  let off := tilBase n + o
  if o = 0x10 then
    (List.range 8).foldl (fun w r => putOwned w off (BitVec.ofNat 32 (2 ^ r)) v (w.s.rowHeld (8 * n + r))) w
  else
    let row := 8 * n + (o - 0x10000) / 0x400 / 4
    match (o - 0x10000) % 0x400 with
    | 0 => putW1c w off 0xF#32 v
    | 4 => putW1c w off 0xFFFF#32 v
    | 0x10 => putOwned w off 1#32 v (w.s.rowHeld row)
    | 0x14 => putOwned w off 0xFFFFFFFF#32 v (w.s.rowHeld row)
    | _ => w

/-! ### The bridge tests (R868, R869) -/

/-- A word of SBR_TEST_b: only the awl writes it, where R352 allows. -/
def putTest (w : Wr) (src : Src) (off : Nat) (v : Word) : Wr :=
  let b := (off - sbrBase - 0x400) / 0x10
  let runs := w.s.testRuns b
  if src ≠ .awl ∨ !w.s.testOpen then dropW w
  else if off % 0x10 = 0 then
    let go := v.getLsbD 8
    let keep := runs && (v &&& testMask) != (w.s.word off &&& testMask)
    let s1 := w.s.testMode b v
    let s2 := if go && !runs then s1.testStart b else if !go && runs then s1.testHalt b else s1
    { w with s := s2, drop := w.drop || keep }
  else putIf w off 0xFFFFFFFF#32 v (!runs)

/-! ### Management (16, 18) -/

/-- The agent that a source's lock access acts for (18 R811). -/
def lockAgent : Src → LockAgent
  | .portA => .host .a
  | .portB => .host .b
  | _ => .awl

/-- A word of MGT_FLASH_BUF. -/
def putBuf (s : State) (o : Nat) (v : Word) : State :=
  { s with flash := { s.flash with buf := (List.range 4).foldl (fun (t : Tbl Byte) i => t.set 0#8 (o + i) (v.extractLsb' (8 * i) 8)) s.flash.buf } }

/-- RETRY of BOOT_SOLE_CTL: sole mode ends, BOOT_FAILS clears, and the cold start is due at once (15 R703; notes/assumptions/46). -/
def retryDue (s : State) : State :=
  if s.boot.phase = .sole then State.storeBoot { s with boot := { s.boot with phase := .waitRetry } } { s.boot.record with fails := 0 } else s

/-- A word of the CAL/MGT/DBG block. -/
def putMgt (w : Wr) (src : Src) (o : Nat) (v : Word) (e : Nat) : Wr :=
  let off := mgtBase + o
  if 0x4000 ≤ o ∧ o < 0x4040 then { w with s := w.s.lockWrite (lockAgent src) ((o - 0x4000) / 4) v }
  else if o = 0x5000 then { w with s := w.s.doFlashCmd src 0 (v.toNat % 16) v }
  else if o = 0x5008 then putRw w off 0xFFFFFFFF#32 v
  else if 0x6000 ≤ o ∧ o < 0x7000 then { w with s := w.s.putBuf (o - 0x6000) v }
  else if o = 0x10104 then putW1c w off 0x7F#32 v
  else if o = 0x10108 then putRwe w off 0x7F#32 v e
  else w

/-! ### One word, one register, one write -/

/-- A write of one 32-bit word of a register without 64-bit rules of its own; read-only words ignore it. -/
def putWord (w : Wr) (src : Src) (m : Option Nat) (off : Nat) (v : Word) : Wr :=
  let e := w.s.epochFor src m off
  if off = 0x200 then { w with s := w.s.doPkgReset src 0 v }
  else if off = 0x210 then putRwe w off 1#32 v e
  else if off = 0x218 ∨ off = 0x21C then putRw w off 0xFFFFFFFF#32 v
  else if off = 0x250 then { w with s := w.s.setBank src (fun b => { b with sel := v.toNat % 2 ^ 26 }) }
  else if off < hifBase then w
  else if off = hifBase then putRw w off 0xFF01#32 v
  else if off < hifBase + 0x1000 then w
  else if off < hifBase + 0x1800 then putWindow w off v
  else if off < hifBase + 0x50000 then
    let q := (off - hifBase - 0x10000) / 0x40
    putRing w q ((off - hifBase - 0x10000) % 0x40) v e
  else if off < hifBase + 0x88000 then putMsix w off 0 ((off - hifBase - 0x80000) / 16) (off % 16 / 4) v
  else if off < ctxBase then w
  else if off < bootBase then
    let o := off - ctxBase
    if 0x120 ≤ o ∧ o < 0x130 then putPool w ((o - 0x120) / 4) v e
    else if 0x1000 ≤ o ∧ o < 0x1400 then
      let c := w.s.barrierClaimed ((o - 0x1000) / 4)
      putOwned (putOwned w off 0xFFF#32 v c) off 0xFFF0000#32 v c
    else if 0x44000 ≤ o ∧ o < 0x44200 then putW1c w off 0xFFFFFFFF#32 v
    else w
  else if off = bootBase + 0x20 then (if v.getLsbD 0 then { w with s := w.s.retryDue } else w)
  else if off < sbrBase then w
  else if off < 0x800000 then
    (if sbrBase + 0x400 ≤ off ∧ off < sbrBase + 0x480 then putTest w src off v else w)
  else if off < fabBase then
    let o := off % 0x100000
    if o = 0x10 then putRwe (putRwe w off 1#32 v e) off 0xFF00#32 v e
    else if 0x20000 ≤ o ∧ o < 0x40000 ∧ o % 0x1000 = 0x10 then
      let w1 := putRwe w off 1#32 v e
      if v.toNat / 256 % 32 ≤ 16 then putRwe w1 off 0x1F00#32 v e
      else if w1.s.wouldArm off 0x1F00#32 v then dropW w1 else w1
    else if 0x40000 ≤ o ∧ o < 0x60000 ∧ o % 0x1000 = 0x10 then putRwe (putRwe w off 1#32 v e) off 2#32 v e
    else w
  else if off < 0xD00000 then putFab w off v e
  else if off < mgtBase then putTil w ((off - 0xD00000) / 0x40000) (off % 0x40000) v
  else putMgt w src (off - mgtBase) v e

/-- A write to the register that starts at `start`: 64-bit registers whose rules span both words, else word by word. -/
def putReg (w : Wr) (src : Src) (m : Option Nat) (start off size v : Nat) : Wr :=
  let e := w.s.epochFor src m start
  if start = 0x248 then
    { w with s := w.s.setBank src (fun b => { b with pendEpoch := newDword b.pendEpoch off start size v }) }
  else if start = cmdBase + 0x80010 then putJnlAck w (newDword w.s.cmd.jnlAck off start size v)
  else if start = mgtBase + 0x3008 then putEvtAck w (newDword w.s.mgt.evtAck off start size v)
  else if ctxBase + 0x100 ≤ start ∧ start < ctxBase + 0x120 then
    putWide w src off start size v (fun w x => putBase w ((start - ctxBase - 0x100) / 8) x e)
  else if start = fabBase + 0x38 then putWide w src off start size v (fun w x => putTiming w x e)
  else if size = 8 then
    putWord (putWord w src m off (half 0 v)) src m (off + 4) (half 4 v)
  else putWord w src m off (BitVec.ofNat 32 v)

/-- End a write: one count for what was dropped or refused, and the code recorded (R908). -/
def endWrite (w : Wr) (off : Nat) : State × Nat :=
  let s1 := if w.code = 0 then w.s else w.s.record w.code {} off
  (if w.drop then s1.hifDrop else s1, w.code)

/-- A ring that belongs to an enabled VF takes no set-up write through the PF (13 R577). -/
def ringForeign (s : State) (fn off : Nat) : Bool :=
  decide (hifBase + 0x10000 ≤ off ∧ off < hifBase + 0x50000) && s.owner ((off - hifBase - 0x10000) / 0x40) != fn

/-- A write of a chiplet's block travels as one LOCAL flit for each word, where the chiplet's bridge is active (08 R330, R331; notes/assumptions/64). -/
def localWrite (s : State) (off size v : Nat) : State :=
  let y := (off - 0x800000) / 0x100000
  if 0x800000 ≤ off ∧ off < fabBase ∧ s.bridge (4 + y) = .active then
    let s1 := s.addLocal y true (off % 0x100000) (v % 2 ^ 32)
    if size = 8 then s1.addLocal y true (off % 0x100000 + 4) (v / 2 ^ 32 % 2 ^ 32) else s1
  else s

/-- Registers whose writes of one cycle all act, whatever their order: write-1-to-clear and write-only words, the banked words and the locks (R845, R852; 18 R811). -/
def actsAlways (off : Nat) : Bool :=
  writeOnly off || decide (0x248 ≤ off ∧ off < 0x258) || decide (ctxBase + 0x44000 ≤ off ∧ off < ctxBase + 0x44200) ||
  (decide (tilBase 0 ≤ off ∧ off < mgtBase) && decide (0x10000 ≤ off % 0x40000 ∧ off % 0x400 < 8)) ||
  decide (mgtBase + 0x4000 ≤ off ∧ off < mgtBase + 0x4040) || off == mgtBase + 0x10104

/-- Another source has written this word in this cycle, and comes later in the order port A, port B, MCTP, awl: the value written now does not remain (R848). -/
def overtakenWrite (s : State) (src : Src) (off : Nat) : Bool :=
  !actsAlways off && decide (bankOf src < s.wrote.get 0 off)

/-- The words of a write, marked with their source's rank (R848). -/
def markWrite (s : State) (src : Src) (off size : Nat) : State :=
  { s with wrote := (List.range (size / 4)).foldl (fun (t : Tbl Nat) i => t.set 0 (off + 4 * i) (bankOf src)) s.wrote }

/-- A write at an offset of the PF's BAR0, for function `fn`: the state, and the code that refused it, 0 if none (R844-R849, R908). A register's later write of the same cycle by an earlier source changes nothing. -/
def writeReg (s : State) (src : Src) (fn : Nat) (m : Option Nat) (off size v : Nat) : State × Nat :=
  let test := src == .awl && decide (sbrBase + 0x400 ≤ off ∧ off < sbrBase + 0x480) && s.testOpen
  if !named off size then (s, 0)
  else if !(s.blockAnswers off || test) || !fits off size || s.ringForeign fn off then (s.hifDrop, 0)
  else match regAt off with
    | none => (s, 0)
    | some (start, width) =>
      if s.overtakenWrite src off then (s.localWrite off size v, 0)
      else
        let w := putReg { s := s.localWrite off size v } src m (if width = 0 then off else start) off size v
        endWrite (if w.drop then w else { w with s := w.s.markWrite src off size }) off

/-- A write through a VF's BAR0: its rings and its MSI-X table; all else is dropped (13 R574). -/
def writeVf (s : State) (src : Src) (fn off size v : Nat) : State :=
  if off < 0x1000 then (s.writeReg src fn none (ringReg (64 * fn) + off) size v).1
  else if off < 0x1400 then
    if (size = 4 ∨ size = 8) ∧ off % size = 0 then
      let put := fun (s : State) (o : Nat) (x : Word) =>
        (putMsix { s := s } (0x4000000 + 0x1000 * fn + (o - 0x1000)) fn ((o - 0x1000) / 16) (o % 16 / 4) x).s
      if size = 8 then put (put s off (half 0 v)) (off + 4) (half 4 v) else put s off (BitVec.ofNat 32 v)
    else s.hifDrop
  else s

/-- REGISTER_WRITE; a write through MCTP is a REG_WRITE message. -/
def doWrite (s : State) (src : Src) (fn off size v : Nat) : State :=
  if !s.regReach src fn || src == .mctp then s
  else if fn = 0 then (s.writeReg src 0 none off size v).1
  else s.writeVf src fn off size v

/-! ### Reads (R844-R846, R849; 19 R837) -/

/-- The `size` bytes at an offset as a read returns them, with no side effect: 0 for an access that R844 drops, and where no block answers. -/
def readReg (s : State) (src : Src) (off size : Nat) : Nat :=
  if !s.blockAnswers off || !fits off size then 0
  else if size = 8 then (s.readWord src off).toNat + 2 ^ 32 * (s.readWord src (off + 4)).toNat
  else (s.readWord src off).toNat

/-- A read of LK_SLACK_MIN resets it (02 R104). -/
def slackReset (s : State) (off : Nat) : State :=
  if 0x800000 ≤ off ∧ off < fabBase ∧ 0x40000 ≤ off % 0x100000 ∧ off % 0x100000 < 0x60000 ∧ off % 0x1000 = 0x44 then
    s.setWord off 0xFFFFFFFF#32
  else s

/-- LK_SLACK_MIN_READ: the value, then the reset, except through MCTP (02 R104, 18 R783, 19 R837). -/
def doSlackRead (s : State) (src : Src) (l : Nat) : State :=
  if !s.regReach src 0 then s
  else
    let off := lkReg l + 0x44
    let s1 := s.emit (.read src (s.readReg src off 4))
    if src = .mctp || !s.blockAnswers off then s1 else s1.slackReset off

end State

/-! ### Meanings -/

/-- REGISTER_WRITE (R845). -/
def execRegisterWrite (src : Src) (fn : Fin 64) (off : Nat) (size : Nat) (value : DWord) (s : State) : Res :=
  .next (s.doWrite src fn off size value.toNat)
/-- JNL_ACK (14 R651). -/
def execJnlAck (src : Src) (fn : Fin 64) (value : DWord) (s : State) : Res :=
  .next (if fn.val = 0 then s.doWrite src 0 (cmdBase + 0x80010) 8 value.toNat else s)
/-- EVT_ACK (18 R800). -/
def execEvtAck (src : Src) (fn : Fin 64) (value : DWord) (s : State) : Res :=
  .next (if fn.val = 0 then s.doWrite src 0 (mgtBase + 0x3008) 8 value.toNat else s)
/-- LK_SLACK_MIN_READ (02 R104). -/
def execLkSlackMinRead (src : Src) (link : Fin 128) (s : State) : Res := .next (s.doSlackRead src link)

end Sys2Proof.Machine
end

