-- ==== Sys2Proof/Machine/Manage.lean ====
section
/-! DEFINITION. MCTP control, vendor and PLDM messages, the sensors and the event writer (18 R776-R801). A message's operand is its request data behind the header and the command code; an answer is a status or completion code with its data (notes/assumptions/47). -/

namespace Sys2Proof.Machine

/-- A little-endian field of a message. -/
def msgField (b : List Byte) (o n : Nat) : Nat := ofBytes ((b.drop o).take n)

/-- PLDM sensor kinds (R790): 10 to 12 are state sensors, the others numeric. -/
def stateSensor (k : Nat) : Bool := decide (10 ≤ k ∧ k ≤ 12)

/-- The bits of a PLDM command bitfield. -/
def commandBits (cs : List Nat) : List Byte := toBytes 32 (maskOf (fun c => cs.contains c) 256)

/-- What a register of the map is to a REG_WRITE: WO registers and locks are refused (R784). -/
def regWriteRefused (off : Nat) : Bool := State.writeOnly off || decide (mgtBase + 0x4000 ≤ off ∧ off < mgtBase + 0x4040)

namespace State

/-- The update engine's state, as MGT_FLASH_STATUS shows it. -/
def engineState (s : State) : List Byte := toBytes 4 (s.mgtWord 0x5010).toNat

/-! ### Transport (R779-R782, R788) -/

/-- SCL_TIMEOUT. -/
def doSclTimeout (s : State) : State :=
  match s.boot.phase with
  | .heldReset => s
  | _ => ({ s with mgt := { s.mgt with assembling := false } }).record 0x1201

/-- MCTP_ANSWER_RETRY: the answer at the head is sent, or loses an arbitration (R788). -/
def doAnswer (s : State) (lost : Bool) : State :=
  match s.mgt.answers with
  | [] => s
  | a :: rest =>
    let pop := { s with mgt := { s.mgt with answers := rest } }
    if !lost then pop.emit (.mctp a.status a.bytes)
    else if 8 ≤ a.losses + 1 ∨ a.start + 100000000 ≤ s.clk.now then pop.record 0x1203
    else { s with mgt := { s.mgt with answers := { a with losses := a.losses + 1 } :: rest } }

/-! ### MCTP control (R780, R781) -/

/-- SET_ENDPOINT_ID: operation and EID; the EID of every binding (R780). -/
def doSetEid (s : State) (b : List Byte) : State :=
  let op := msgField b 0 1 % 4
  let eid := msgField b 1 1
  if op = 3 then s.answer 0 [0#8, BitVec.ofNat 8 s.mgt.eid, 0#8]
  else if op = 2 ∨ eid < 8 ∨ eid = 255 then s.answer 2 []
  else ({ s with mgt := { s.mgt with eid := eid } }).answer 0 [0#8, BitVec.ofNat 8 eid, 0#8]

/-- GET_MCTP_VERSION_SUPPORT of a message type. -/
def doVersions (s : State) (b : List Byte) : State :=
  let t := msgField b 0 1
  if t = 0xFF ∨ t = 0 ∨ t = 1 ∨ t = 0x7F then s.answer 0 (Config.mctpVersions t) else s.answer 0x80 []

/-- GET_VENDOR_DEFINED_MESSAGE_SUPPORT: one vendor set. -/
def doVendorSupport (s : State) (b : List Byte) : State :=
  if msgField b 0 1 = 0 then
    s.answer 0 ([0xFF#8, 1#8] ++ beBytes 4 Config.enterprise.toNat ++ beBytes 2 Config.vendorVersion.toNat)
  else s.answer 2 []

/-! ### Vendor messages (R782-R785) -/

/-- GET_STATUS. -/
def doGetStatus (s : State) : State :=
  s.answer 0 (toBytes 4 s.bootStatus.toNat ++ toBytes 4 s.shkWord.toNat ++ toBytes 4 s.mgt.replace.toNat ++ toBytes 8 s.clk.epoch)

/-- REG_READ: offset and count; it never has a side effect (R783). -/
def doRegRead (s : State) (b : List Byte) : State :=
  let n := msgField b 4 1
  if b.length = 5 ∧ 1 ≤ n ∧ n ≤ 64 then
    s.answer 0 ((List.range n).flatMap (fun i => toBytes 4 (s.readReg .mctp (msgField b 0 4 + 4 * i) 4)))
  else s.answer Config.badRequest.toNat []

/-- REG_WRITE: offset, value and PEND_EPOCH (R784; 20 R851, R908). -/
def doRegWrite (s : State) (b : List Byte) : State :=
  let off := msgField b 0 4
  if b.length ≠ 16 then s.answer Config.badRequest.toNat []
  else if regWriteRefused off then s.hifDrop.answer 0x0D02 []
  else
    let r := s.writeReg .mctp 0 (some (msgField b 8 8)) off 4 (msgField b 4 4)
    r.1.answer r.2 []

/-- EVT_READ: the records of `n` sequence numbers that the log holds. -/
def doEvtRead (s : State) (b : List Byte) : State :=
  let e := msgField b 0 8
  let n := msgField b 8 1
  if b.length = 9 ∧ 1 ≤ n ∧ n ≤ 14 then
    s.answer 0 ((List.range n).flatMap (fun i =>
      match s.mgt.evtLog.find ((e + i) % 16384) with
      | some r => if r.eseq = e + i then r.bytes else []
      | none => []))
  else s.answer Config.badRequest.toNat []

/-- A CRITICAL request is busy: before stage 4 outside sole mode, in dark-idle, while the queue or the gate is full (R785; 16 R718). -/
def criticalBusy (s : State) : Bool :=
  !(s.started || s.boot.phase == .sole) || s.mgt.dark == .entered || s.mgt.dark == .idle ||
    (if s.gateHolds then decide (256 ≤ s.shk.gate.length) else decide (64 ≤ s.cmd.queue.length))

/-- CRITICAL: the descriptor and the parameter block. -/
def doCriticalMsg (s : State) (b : List Byte) : State :=
  if s.criticalBusy then s.answer 1 []
  else if b.length ≠ 192 then s.answer Config.badRequest.toNat []
  else s.enterCrit { src := .mctp, d := BitVec.ofNat 512 (msgField b 0 64), param := some (BitVec.ofNat 1024 (msgField b 64 128)) }

/-- WARM_RESET: the status is sent before the reset begins (R782; 15 R659). -/
def doWarmMsg (s : State) (b : List Byte) : State :=
  if b.length ≠ 4 ∨ msgField b 0 4 ≠ 0x5752 then s.answer Config.badRequest.toNat []
  else if s.warmAllowed then (s.emit (.mctp 0 [])).requestWarm
  else (s.record 0x0F0F).answer 0x0F0F []

/-- FLASH_BEGIN of a slot. -/
def doFlashBegin (s : State) (b : List Byte) : State :=
  if b.length = 1 ∧ msgField b 0 1 < 2 then
    let r := s.flashBegin true (msgField b 0 1 == 1)
    r.1.answer r.2 r.1.engineState
  else s.answer Config.badRequest.toNat []

/-- FLASH_WRITE: slot offset and 1 to 512 B. -/
def doFlashWrite (s : State) (b : List Byte) : State :=
  if 5 ≤ b.length ∧ b.length ≤ 516 then
    let r := s.flashWrite true (msgField b 0 4) (b.drop 4)
    r.1.answer r.2 []
  else s.answer Config.badRequest.toNat []

/-- FLASH_END of a slot. -/
def doFlashEnd (s : State) (b : List Byte) : State :=
  if b.length = 1 ∧ msgField b 0 1 < 2 then
    let r := s.flashEnd true (msgField b 0 1 == 1)
    r.1.answer r.2 []
  else s.answer Config.badRequest.toNat []

/-- FLASH_STATUS, busy while BAR0 holds the session (R785). -/
def doFlashStatus (s : State) : State :=
  if s.flash.session = some false then s.answer 1 [] else s.answer 0 s.engineState

/-- SOLE_RETRY: the status, then the cold start; ignored outside sole mode (R788; 15 R703). -/
def doSoleRetry (s : State) (i : Stage0In) : State :=
  if s.boot.phase = .sole then (s.emit (.mctp 0 [])).doRetry i else s

/-! ### PLDM (R789-R791) -/

/-- GetPLDMVersion of a type. -/
def doPldmVersion (s : State) (b : List Byte) : State :=
  let t := msgField b 5 1
  if t = 0 ∨ t = 2 then s.answer 0 (toBytes 4 0 ++ [5#8] ++ Config.pldmVersions t) else s.answer 0x83 []

/-- GetPLDMCommands of a type. -/
def doPldmCommands (s : State) (b : List Byte) : State :=
  match msgField b 0 1 with
  | 0 => s.answer 0 (commandBits [2, 3, 4, 5])
  | 2 => s.answer 0 (commandBits [0x11, 0x21, 0x50, 0x51])
  | _ => s.answer 0x83 []

/-- Lasers on spare in a chiplet. -/
def sparesOn (s : State) (y : Nat) : Nat := ((List.range 68).filter (fun k => (s.chOf (68 * y + k)).spare == .bus)).length

/-- The hottest link sensor of a chiplet, in 0.1 °C. -/
def linkTemp (s : State) (y : Nat) : Int :=
  (List.range 32).foldl (fun (m : Int) p => max m (s.opt.temps.get 0 (32 * y + p))) (s.opt.temps.get 0 (32 * y))

/-- The reading of sensor `k` at a refresh (R790); temperatures in 0.1 °C. -/
def sensorNow (s : State) (watts k : Nat) : Int :=
  if k ≤ 4 then 10 * s.mgt.dieTemps.get 0 (k - 1)
  else if k ≤ 8 then s.linkTemp (k - 5)
  else if k = 9 then watts
  else if k = 10 then (if s.mgt.replaceLow then 2 else 1)
  else if k = 11 then (s.shk.standby.code : Int) + 1
  else if k = 12 then (s.boot.phase.code : Int) + 1
  else if k ≤ 16 then (s.word (yzBase (k - 13) + 0x200)).toNat
  else if k ≤ 20 then ((s.clk.now - s.dword (yzBase (k - 17) + 0x208)) / 1000000000 : Nat)
  else if k ≤ 24 then (s.opt.base.get {} (k - 21)).high
  else if k ≤ 28 then s.sparesOn (k - 25)
  else if k ≤ 36 then s.leftPct (k - 29)
  else (s.word (fabBase + 0x100)).toNat

/-- SENSOR_REFRESH: every sensor. -/
def doSensors (s : State) (watts : Nat) : State :=
  if s.shanksRun then
    let t := (List.range 37).foldl (fun (t : Tbl Int) i => t.set 0 (i + 1) (s.sensorNow watts (i + 1))) s.mgt.sensors
    { s with mgt := { s.mgt with sensors := t } }
  else s

/-- A stage of the current start has passed. -/
def stagePassed (s : State) (n : Nat) : Bool := s.started || ((s.boot.reports.find n).map (fun r => r.result != 1)).getD false

/-- A sensor reports: 13 to 37 not in sole mode, nor before the stage that produces their reading (R791). -/
def sensorUp (s : State) (k : Nat) : Bool :=
  decide (k ≤ 12) ||
    (s.boot.phase != .sole && s.stagePassed (if k ≤ 28 then 3 else if k ≤ 36 then 2 else 4))

/-- GetSensorReading: operational state 0 enabled, 2 unavailable, and the reading of a numeric sensor. -/
def doSensorReading (s : State) (b : List Byte) : State :=
  let k := msgField b 0 2
  if k = 0 ∨ 37 < k ∨ stateSensor k then s.answer 0x80 []
  else if s.sensorUp k then s.answer 0 ([0#8] ++ toBytes 4 (BitVec.ofInt 32 (s.mgt.sensors.get 0 k)).toNat)
  else s.answer 0 [2#8]

/-- GetStateSensorReadings: the present state. -/
def doStateReading (s : State) (b : List Byte) : State :=
  let k := msgField b 0 2
  if stateSensor k then s.answer 0 [0#8, BitVec.ofInt 8 (s.mgt.sensors.get 0 k)] else s.answer 0x80 []

/-! ### Messages and the input gate (16 R718-R720; 18 R774, R808) -/

/-- What a message does once the package partition takes it. -/
def serve (s : State) (k : MsgKind) (b : List Byte) : State :=
  match k with
  | .setEid => s.doSetEid b
  | .getEid => s.answer 0 [BitVec.ofNat 8 s.mgt.eid, 0#8, 0#8]
  | .getUuid => s.answer 0 Config.uuid
  | .getVersions => s.doVersions b
  | .getTypes => s.answer 0 [2#8, 1#8, 0x7F#8]
  | .getVendor => s.doVendorSupport b
  | .getStatus => s.doGetStatus
  | .regRead => s.doRegRead b
  | .regWrite => s.doRegWrite b
  | .evtRead => s.doEvtRead b
  | .warmReset => s.doWarmMsg b
  | .flashBegin => s.doFlashBegin b
  | .flashWrite => s.doFlashWrite b
  | .flashEnd => s.doFlashEnd b
  | .flashStatus => s.doFlashStatus
  | .soleRetry i => s.doSoleRetry i
  | .getTid => s.answer 0 [Config.tid]
  | .pldmVersion => s.doPldmVersion b
  | .pldmTypes => s.answer 0 (toBytes 8 5)
  | .pldmCommands => s.doPldmCommands b
  | .pdrInfo => s.answer 0 Config.pdrInfo
  | .pdr => s.answer (Config.pdr b).1.toNat (Config.pdr b).2
  | .sensorReading => s.doSensorReading b
  | .stateReading => s.doStateReading b

/-- An MCTP message: answered with 0x0F01 where the port-A shank has failed (18 R774; 15 R673), served, or held in the input gate, which stalls its source when full (16 R718). -/
def message (s : State) (k : MsgKind) (b : List Byte) : State :=
  if s.boot.phase = .shankFailed then s.answer 0x0F01 []
  else if s.mctpServes then s.serve k b
  else if s.shanksRun && !s.gateFull then s.holdInput (.message k b)
  else s

/-- A CRITICAL message: a full input gate answers it busy (16 R718). -/
def criticalMsg (s : State) (b : List Byte) : State :=
  if s.boot.phase = .shankFailed then s.answer 0x0F01 []
  else if s.shanksRun then s.doCriticalMsg b
  else s

/-- An input that the gate held goes on (16 R718, R719). -/
def releaseInput (s : State) (g : GateIn) : State :=
  match g with
  | .crit c => s.enterCrit c
  | .msLoad m => s.acceptMsLoad m
  | .synSet sq cid cq obj value quiet => s.acceptSynSet sq cid cq obj value quiet
  | .message k b => s.serve k b
  | .flash w => s.flashCommand w

/-- NEW_ACTIVE_FIRST_OUTPUT: the RESET entry of kind 4 with the cause, and the held inputs in order (16 R718, R719; 14 R647). -/
def doFirstOutput (s : State) : State :=
  match s.shk.promoted with
  | none => s
  | some c =>
    let held := s.shk.gate
    let s1 := { s with shk := { s.shk with promoted := none, gate := [] } }.journalReset 4 c
    held.foldl releaseInput s1

/-! ### The event writer (R797-R800) -/

/-- EVENT_RECORD_WRITE: the oldest staged event becomes a record. -/
def doEventWrite (s : State) : State :=
  match s.mgt.staging with
  | [] => s
  | e :: rest =>
    let n := s.mgt.evtNext
    let log := s.mgt.evtLog.put (n % 16384) ⟨n, e, s.mgt.pendingLost⟩
    let s1 := { s with mgt := { s.mgt with staging := rest, evtNext := n + 1, pendingLost := 0, evtLog := log } }
    if s.mgt.evtAck + 16384 < n then s1.bump (mgtBase + 0x3010) else s1

end State

/-! ### Meanings -/

/-- SCL_TIMEOUT (R779). -/
def execSclTimeout (s : State) : Res := .next s.doSclTimeout
/-- MCTP_MESSAGE_TIMEOUT (R782): the message under assembly is discarded. -/
def execMctpMessageTimeout (s : State) : Res := .next { s with mgt := { s.mgt with assembling := false } }
/-- MCTP_ANSWER_RETRY (R788). -/
def execMctpAnswerRetry (lost : Bool) (s : State) : Res := .next (s.doAnswer lost)
/-- SET_ENDPOINT_ID (R780). -/
def execSetEndpointId (body : List Byte) (s : State) : Res := .next (s.message .setEid body)
/-- GET_ENDPOINT_ID (R781): the EID, a simple endpoint, no medium-specific data. -/
def execGetEndpointId (body : List Byte) (s : State) : Res := .next (s.message .getEid body)
/-- GET_ENDPOINT_UUID (R781). -/
def execGetEndpointUuid (body : List Byte) (s : State) : Res := .next (s.message .getUuid body)
/-- GET_MCTP_VERSION_SUPPORT (R781). -/
def execGetMctpVersionSupport (body : List Byte) (s : State) : Res := .next (s.message .getVersions body)
/-- GET_MESSAGE_TYPE_SUPPORT (R781): the types beside MCTP control. -/
def execGetMessageTypeSupport (body : List Byte) (s : State) : Res := .next (s.message .getTypes body)
/-- GET_VENDOR_DEFINED_MESSAGE_SUPPORT (R781). -/
def execGetVendorDefinedMessageSupport (body : List Byte) (s : State) : Res := .next (s.message .getVendor body)
/-- GET_STATUS (R782). -/
def execGetStatus (body : List Byte) (s : State) : Res := .next (s.message .getStatus body)
/-- REG_READ (R783). -/
def execRegRead (body : List Byte) (s : State) : Res := .next (s.message .regRead body)
/-- REG_WRITE (R784). -/
def execRegWrite (body : List Byte) (s : State) : Res := .next (s.message .regWrite body)
/-- EVT_READ (R782). -/
def execEvtRead (body : List Byte) (s : State) : Res := .next (s.message .evtRead body)
/-- CRITICAL (R785). -/
def execCritical (body : List Byte) (s : State) : Res := .next (s.criticalMsg body)
/-- WARM_RESET (17 R743). -/
def execWarmReset (body : List Byte) (s : State) : Res := .next (s.message .warmReset body)
/-- FLASH_BEGIN (R823). -/
def execFlashBegin (body : List Byte) (s : State) : Res := .next (s.message .flashBegin body)
/-- FLASH_WRITE (R824). -/
def execFlashWrite (body : List Byte) (s : State) : Res := .next (s.message .flashWrite body)
/-- FLASH_END (R824). -/
def execFlashEnd (body : List Byte) (s : State) : Res := .next (s.message .flashEnd body)
/-- FLASH_STATUS (R782). -/
def execFlashStatus (body : List Byte) (s : State) : Res := .next (s.message .flashStatus body)
/-- SOLE_RETRY (15 R703). -/
def execSoleRetry (body : List Byte) (i : Stage0In) (s : State) : Res := .next (s.message (.soleRetry i) body)
/-- GETTID (R789). -/
def execGettid (body : List Byte) (s : State) : Res := .next (s.message .getTid body)
/-- GETPLDMVERSION (R789). -/
def execGetpldmversion (body : List Byte) (s : State) : Res := .next (s.message .pldmVersion body)
/-- GETPLDMTYPES (R789): types 0 and 2. -/
def execGetpldmtypes (body : List Byte) (s : State) : Res := .next (s.message .pldmTypes body)
/-- GETPLDMCOMMANDS (R789). -/
def execGetpldmcommands (body : List Byte) (s : State) : Res := .next (s.message .pldmCommands body)
/-- GETPDRREPOSITORYINFO (R789). -/
def execGetpdrrepositoryinfo (body : List Byte) (s : State) : Res := .next (s.message .pdrInfo body)
/-- GETPDR (R789). -/
def execGetpdr (body : List Byte) (s : State) : Res := .next (s.message .pdr body)
/-- GETSENSORREADING (R790). -/
def execGetsensorreading (body : List Byte) (s : State) : Res := .next (s.message .sensorReading body)
/-- GETSTATESENSORREADINGS (R790). -/
def execGetstatesensorreadings (body : List Byte) (s : State) : Res := .next (s.message .stateReading body)
/-- SENSOR_REFRESH (R790). -/
def execSensorRefresh (watts : Nat) (s : State) : Res := .next (s.doSensors watts)
/-- NEW_ACTIVE_FIRST_OUTPUT (16 R720). -/
def execNewActiveFirstOutput (s : State) : Res := .next s.doFirstOutput
/-- EVENT_RECORD_WRITE (R797). -/
def execEventRecordWrite (s : State) : Res := .next s.doEventWrite

end Sys2Proof.Machine
end

