-- ==== Sys2Proof/Machine/Debug.lean ====
section
/-! DEFINITION. The awl: its TAP instructions and the operations of AWL_CMD (18 R802-R810, R812). An answer is a status, its code and the data read (R803). -/

namespace Sys2Proof.Machine

namespace State

/-- AWL_CMD is the TAP instruction, and an answer comes (R802, R803). The awl is available while power is present. -/
def awl (s : State) (work : State → State) : State :=
  if s.mgt.railLow then s else work { s with mgt := { s.mgt with tap := .awlCmd } }

/-- The answer of an operation. -/
def awlDone (s : State) (value : Nat) : State := s.emit (.awl 0 0 value)
def awlRefused (s : State) (code : Nat) : State := s.emit (.awl 2 code 0)
def awlError (s : State) (code : Nat) : State := s.emit (.awl 3 code 0)

/-- A SIZE of R803. -/
def awlSize (n : Nat) : Bool := n == 1 || n == 2 || n == 4 || n == 8

/-- The bytes of registers at an offset, as PEEK sees them: any SIZE, no side effect (R804). -/
def peekReg (s : State) (a n : Nat) : Nat :=
  ofBytes ((List.range n).map (fun i =>
    if s.blockAnswers (a + i) then (s.readWord .awl ((a + i) / 4 * 4)).extractLsb' (8 * ((a + i) % 4)) 8 else 0#8))

/-- A read or write of a die's shank core space (R803, R806); the spec gives no contents of it. -/
def awlCore (s : State) (n a : Nat) (read : Bool) : State :=
  if Config.keySpace n a then s.awlRefused 0x1209
  else if read then { s with freeNext := s.freeNext + 1 }.awlDone (Config.coreValue s.freeNext).toNat
  else s.awlDone 0

/-- AWL_PEEK (R804). -/
def doAwlPeek (s : State) (sp : AwlSpace) (a n : Nat) : State :=
  if awlSize n then
    match sp with
    | .bar0 => s.awlDone (s.peekReg a n)
    | .memory =>
      if !mapped a n then s.awlError 0x0601
      else if s.rangeOut a n then s.awlError 0x0609
      else s.awlDone (ofBytes (s.ownBytes a n))
    | .core d => s.awlCore d a true
  else s.awlError 0

/-- A read of the PF's BAR0 as the PF makes it (R805; 20 R844). -/
def awlReadReg (s : State) (a n : Nat) : State :=
  if named a n && s.blockAnswers a && !fits a n then s.hifDrop.awlDone 0
  else if mgtBase + 0x4000 ≤ a ∧ a < mgtBase + 0x4040 ∧ s.blockAnswers a then
    let r := s.lockRead .awl ((a - mgtBase - 0x4000) / 4)
    r.1.awlDone r.2.toNat
  else
    let v := s.readReg .awl a n
    (if s.blockAnswers a then s.slackReset a else s).awlDone v

/-- AWL_READ (R805). -/
def doAwlRead (s : State) (sp : AwlSpace) (a n : Nat) : State :=
  if awlSize n then
    match sp with
    | .bar0 => s.awlReadReg a n
    | .memory =>
      if !s.started then s.awlRefused 0
      else
        let c := s.accessCode 0 a n false
        if c ≠ 0 then (s.recordAccess c).awlRefused c
        else (s.touch a n).awlDone (ofBytes (s.ownBytes a n))
    | .core d => s.awlCore d a true
  else s.awlError 0

/-- AWL_WRITE (R805). -/
def doAwlWrite (s : State) (sp : AwlSpace) (a : Nat) (bs : List Byte) : State :=
  if awlSize bs.length then
    match sp with
    | .bar0 =>
      let r := s.writeReg .awl 0 none a bs.length (ofBytes bs)
      if r.2 = 0 then r.1.awlDone 0 else r.1.awlRefused r.2
    | .memory =>
      if !s.started then s.awlRefused 0
      else
        let c := s.accessCode 0 a bs.length true
        if c ≠ 0 then (s.recordAccess c).awlRefused c
        else (match placeOf a with
          | .hbm _ => s.queueOwn a bs
          | _ => s.store a bs).awlDone 0
    | .core d => s.awlCore d a false
  else s.awlError 0

/-- A pair is halted; the standby leaves lockstep at once (R807, R809). -/
def haltPair (s : State) (n : Nat) : State :=
  let s1 := { s with shk := { s.shk with awlHalt := s.shk.awlHalt.put n s.clk.now } }
  if n = s.standbyPos ∧ s.shk.standby = .inStep then (s1.record 0x1206 (dieLoc n)).loseStandby else s1

/-- AWL_HALT (R807). -/
def doAwlHalt (s : State) (n : Nat) : State :=
  if s.shanksRun && s.pair n == .running && !s.awlHalted n then (s.haltPair n).awlDone 0 else s.awlError 0

/-- The locks that a resumed shank holds keep what its halts came to (R811). -/
def lockHalts (s : State) (n d : Nat) : State :=
  { s with mgt := { s.mgt with locks := s.mgt.locks.map (fun p => if p.2.holder = some n then (p.1, { p.2 with halted := p.2.halted + d }) else p) } }

/-- What waited for the active pair goes on: journal entries, held inputs, keyed checks, accepted work, the update engine (R808, R810, R813). -/
def resumeActive (s : State) (d : Nat) : State :=
  let s1 := (s.record 0x120D (dieLoc s.activePos) d).flushJournal
  let s2 := if s1.gateHolds then s1
    else s1.shk.gate.foldl releaseInput { s1 with shk := { s1.shk with gate := [] } }
  let s3 := s2.runChecks.startWork
  if s3.flash.stalled && !s3.storing then s3.nextSector else s3

/-- A halt of `d` ns ends (R807-R810). -/
def resumePair (s : State) (n d : Nat) : State :=
  let s1 := { s with shk := { s.shk with awlHalt := s.shk.awlHalt.del n } }.lockHalts n d
  let s2 := if n = s.activePos then s1.resumeActive d else s1
  s2.startTraining (fun c => c / 32 == n && !s2.groupClaimed (c / 4))

/-- AWL_RESUME (R807). -/
def doAwlResume (s : State) (n : Nat) : State :=
  match s.shk.awlHalt.find n with
  | some t => (s.resumePair n (s.clk.now - t)).awlDone 0
  | none => s.awlError 0

/-- AWL_STEP: one instruction of a halted pair (R807). -/
def doAwlStep (s : State) (n : Nat) : State := if s.awlHalted n then s.awlDone 0 else s.awlError 0

/-- A TAP instruction other than AWL_CMD (R802). -/
def setTap (s : State) (t : Tap) : State := if s.mgt.railLow then s else { s with mgt := { s.mgt with tap := t } }

end State

/-! ### Meanings -/

/-- BYPASS (R802). -/
def execBypass (s : State) : Res := .next (s.setTap .bypass)
/-- IDCODE (R802): the identification code is read. -/
def execIdcode (s : State) : Res :=
  .next (if s.mgt.railLow then s else (s.setTap .idcode).emit (.read .awl Config.awlId.toNat))
/-- SAMPLE/PRELOAD (R802). -/
def execSamplePreload (s : State) : Res := .next (s.setTap .sample)
/-- EXTEST (R802). -/
def execExtest (s : State) : Res := .next (s.setTap .extest)
/-- AWL_PEEK (R804). -/
def execAwlPeek (space : AwlSpace) (addr : Nat) (len : Nat) (s : State) : Res := .next (s.awl (fun s => s.doAwlPeek space addr len))
/-- AWL_READ (R805). -/
def execAwlRead (space : AwlSpace) (addr : Nat) (len : Nat) (s : State) : Res := .next (s.awl (fun s => s.doAwlRead space addr len))
/-- AWL_WRITE (R805). -/
def execAwlWrite (space : AwlSpace) (addr : Nat) (bytes : List Byte) (s : State) : Res :=
  .next (s.awl (fun s => s.doAwlWrite space addr bytes))
/-- AWL_HALT (R807). -/
def execAwlHalt (die : Fin 4) (s : State) : Res := .next (s.awl (fun s => s.doAwlHalt die))
/-- AWL_RESUME (R808). -/
def execAwlResume (die : Fin 4) (s : State) : Res := .next (s.awl (fun s => s.doAwlResume die))
/-- AWL_STEP (R807). -/
def execAwlStep (die : Fin 4) (s : State) : Res := .next (s.awl (fun s => s.doAwlStep die))
/-- LOCK_FORCE (R812). -/
def execLockForce (lock : Fin 16) (s : State) : Res := .next (s.awl (fun s => (s.lockForce lock).awlDone 0))

end Sys2Proof.Machine
end

