-- ==== Sys2Proof/Machine/Validate.lean ====
section
/-! DEFINITION. LAST_VALIDATION_DONE: the checks of 02 R62 in table order, the first failure's code (R55), and what acceptance and rejection leave (02 R57-R61, R88, R105-R108, R917, R924). -/

namespace Sys2Proof.Machine

/-- A load at the end of its validation: the machine, the command, the image, and the last as its entry holds it with its sections. -/
structure Load where
  s : State
  c : Crit
  x : Area
  d : Sections
  l : Last

namespace Load

/-! ### Helpers -/

/-- The image as a list of bytes. -/
def bytes (v : Load) : List Byte := v.x.mem.bytes v.x.base v.x.len

/-- A header field of the image (R53). -/
def h (v : Load) (o n : Nat) : Nat := v.x.nat o n

/-- N of the image's EPOCH_K. -/
def n (v : Load) : Nat := 2 ^ v.l.ek

/-- Where a residency that begins at `start` and ends before `stop` meets the new last's (R917). -/
def inRun (v : Load) (e : Nat) : Bool := decide (v.l.start ≤ e) && (v.l.run == 0 || decide (e < v.l.start + v.l.run))

/-- The boundary at which another last leaves, this load's REPLACE and REPLACE_ALL included (R917). -/
def endOf (v : Load) (p : Last) : Option Nat :=
  let y := p.leaves
  if v.l.replaceAll || v.l.replaces == some p.id then
    some (match y with | some y => min y v.l.start | none => v.l.start)
  else y

/-- Another last is resident in epoch `e`. -/
def resident (v : Load) (p : Last) (e : Nat) : Bool :=
  decide (p.start ≤ e) && (match v.endOf p with | some y => decide (e < y) | none => true)

/-- The first epoch that another last and the new one may share. -/
def firstShared (v : Load) (p : Last) : Nat := max p.start v.l.start

/-- The accepted lasts whose residency meets the new last's (R917). -/
def peers (v : Load) : List Last :=
  (v.s.cmd.lasts.filter (fun p => p.2.st != .validating && v.inRun (v.firstShared p.2) && v.resident p.2 (v.firstShared p.2))).map (fun p => p.2)

/-- The offset after which no SET write follows (R924). -/
def lastSet (v : Load) : Nat := v.l.sections.sets.foldl (fun m w => max m w.off) 0

/-- The epoch offsets of the run, up to `k`. -/
def offsets (v : Load) (k : Nat) : List Nat := List.range (if v.l.run = 0 then k else min v.l.run k)

/-- A register word as the last has set it by an epoch offset: the latest writes at or before it over the cold value (20 R858, R867). -/
def reg (v : Load) (off j : Nat) : Word :=
  ((v.l.sections.sets.filter (fun w => w.reg == off && decide (w.off ≤ j))).mergeSort (fun a b => decide (a.off ≤ b.off))).foldl
    (fun w x => State.mergeBits w x.mask x.value) (coldWord off)

/-- The mode of a row and the SFU mode of a tile at an epoch offset. -/
def serving (v : Load) (r j : Nat) : Bool := (v.reg (tilBase (r / 8) + 0x10) j).getLsbD (r % 8)
def bounds (v : Load) (t j : Nat) : Bool := (v.reg (tileReg t + 0x10) j).getLsbD 0

/-- The period after which rows, tables and streams repeat together. -/
def lcmAll (l : List Nat) : Nat := l.foldl (fun m k => Nat.lcm m (max 1 k)) 1
def period (v : Load) : Nat :=
  lcmAll (2 :: v.l.seqs.map (fun e => e.period) ++ v.l.mems.map (fun t => t.period) ++ v.l.brgs.map (fun t => t.period) ++
    v.l.sections.streams.map (fun x => x.lists.length))

/-- Every epoch offset whose state of programs, tables, streams and settings differs from an earlier one's, and one round more for what a round leaves. -/
def rounds (v : Load) : List Nat := v.offsets (v.lastSet + 2 * v.period)

/-- A row in the epoch at an offset. -/
def rowRun (v : Load) (j : Nat) (e : SeqEnt) : RowRun :=
  let p := epochProgram v.x.mem e (j % e.period) v.n
  { ent := e, serving := v.serving e.row j, bounds := (List.range 4).map (fun c => v.bounds (State.tileOf e.row c) j), issues := p.1, ok := p.2
    sizes := v.l.slots.map (fun x => ((v.s.slot x.ms).inMax, (v.s.slot x.ms).outLen)) }

/-- The epoch at an offset. -/
def epochRun (v : Load) (j : Nat) : EpochRun :=
  let lists := fun (t : TabEnt) (k : Nat) => (tabLists memCmd v.x.mem t (k % t.period)).getD []
  { off := j, rows := v.l.seqs.map (v.rowRun j), chans := v.l.mems.map (fun t => (t.key, lists t j, lists t (j + 1))) }

/-- The reservations of a bridge direction in an epoch. -/
def reserved (v : Load) (start : Nat) (t : TabEnt) (e : Nat) : List (Nat × Nat × Nat) :=
  brgRuns ((tabLists brgKind v.s.mem t ((e - start) % t.period)).getD [])

/-- The larger of a die's active and pending pools (07 R268). -/
def poolBytes (v : Load) (n : Nat) : Nat :=
  let off := ctxBase + 0x120 + 4 * n
  2097152 * max (v.s.bits off 0 5) ((v.s.viewWord off).toNat % 32)

/-- A die-buffer range lies in the buffer and below the pool. -/
def bufferOk (v : Load) (n o len : Nat) : Bool := decide (o + len + v.poolBytes n ≤ 67108864)

/-- Addresses `a` to `stop` lie in ranges, one behind the other. -/
def covered (hbm : List (Nat × Nat)) : Nat → Nat → Nat → Bool
  | 0, a, stop => decide (stop ≤ a)
  | fuel + 1, a, stop =>
    decide (stop ≤ a) ||
      (match hbm.find? (fun r => decide (r.1 ≤ a ∧ a < r.1 + r.2)) with
       | some r => covered hbm fuel (r.1 + r.2) stop
       | none => false)

/-- Every address of an HBM3E range lies in a CLAIM range (06 R228). -/
def claimed (v : Load) (a len : Nat) : Bool :=
  let hbm := v.l.sections.claims.hbm
  covered hbm hbm.length a (a + len)

/-- No mesh bridge of a path is down (08 R347). -/
def pathUp (v : Load) (a b : Nat) : Bool := (meshPath a b).all (fun k => v.s.bridge k != .down)

/-! ### 0x0201 to 0x0206 -/

/-- 0x0201; an image that does not stand in HBM3E in service has no MAGIC (notes/assumptions/49). -/
def layoutBad (v : Load) : Bool :=
  let held := match placeOf v.x.base, placeOf (v.x.base + v.x.len - 1) with
    | .hbm _, .hbm _ => !v.s.rangeOut v.x.base v.x.len
    | _, _ => false
  !held || !v.x.layoutOk v.d || Config.restBroken 0x0201#16 v.bytes

/-- 0x0202. -/
def digestBad (v : Load) : Bool :=
  v.h 0x28 8 != v.x.len || v.x.digest != toBytes 32 (v.h 0x40 32) || toBytes 32 (v.h 0x40 32) != toBytes 32 (pField v.c.p 0x28 32)

/-- 0x0204. -/
def timingBad (v : Load) : Bool := !decide (14 ≤ v.l.ek ∧ v.l.ek ≤ 26) || decide (v.n < 2 * (v.l.afab + 64))

/-- 0x0205. -/
def timingDiffers (v : Load) : Bool := v.peers.any (fun p => p.ek != v.l.ek || p.afab != v.l.afab)

/-- A claim of one resource by two lasts. -/
def claimsMeet (a b : Last) : Bool :=
  let x := a.sections.claims
  let y := b.sections.claims
  a.rowMask &&& b.rowMask != 0 || x.sync.any y.sync.contains || x.barriers.any y.barriers.contains ||
    x.modelSlots.any y.modelSlots.contains || x.links.any y.links.contains || (groupsOf x.hbm).any (groupsOf y.hbm).contains

/-- Reservations of one direction meet in an epoch that both lasts run in (08 R327). -/
def bridgesMeet (v : Load) (p : Last) : Bool :=
  v.l.brgs.any (fun t => p.brgs.any (fun u => t.key == u.key &&
    (List.range (Nat.lcm (max 1 t.period) (max 1 u.period))).any (fun k =>
      let e := v.firstShared p + k
      v.inRun e && v.resident p e &&
        (v.reserved v.l.start t e).any (fun a => (v.reserved p.start u e).any (brgMeet a)))))

/-- Claims of the image meet each other. -/
def ownMeet (v : Load) : Bool :=
  let x := v.l.sections.claims
  !(decide x.sync.Nodup && decide x.barriers.Nodup && decide x.modelSlots.Nodup && decide x.links.Nodup) ||
    !later (fun a b => !meets a.1 a.2 b.1 b.2) x.hbm ||
    v.l.brgs.any (fun t => (List.range t.period).any (fun k => !later (fun a b => !brgMeet a b) (v.reserved 0 t k)))

/-- ARRIVE_SY and DONE_SY of a barrier at an epoch offset (20 R867). -/
def barrierObjs (v : Load) (k j : Nat) : Nat × Nat :=
  let w := (v.reg (ctxBase + 0x1000 + 4 * k) j).toNat
  (w % 4096, w / 65536 % 4096)

/-- The claimed barriers with their objects, in every epoch. -/
def barrierStates (v : Load) : List (Nat × Nat) :=
  v.l.sections.claims.barriers.flatMap (fun k => (v.offsets (v.lastSet + 1)).map (fun j => v.barrierObjs k.val j))

/-- 0x0206. -/
def claimBad (v : Load) : Bool :=
  let x := v.l.sections.claims
  v.ownMeet || v.peers.any (fun p => claimsMeet v.l p || v.bridgesMeet p) ||
    x.hbm.any (fun r => v.s.meetsQuarter r.1 r.2 || State.meetsJournal r.1 r.2 || State.meetsResident r.1 r.2) ||
    x.modelSlots.any (fun m => v.s.ctx.msPend.any (fun p => p.ms == m.val)) ||
    v.barrierStates.any (fun o => o.1 == o.2)

/-! ### 0x0207 -/

/-- The islands that the rows, links, groups and bridges of a last need (01, Clock islands). -/
def needs (v : Load) : List Nat :=
  let rows := maskRows v.l.rowMask
  let links := v.l.sections.claims.links.map (fun l => l.val)
  rows.flatMap (fun r => (44 * (r / 8) + 36) :: (List.range 4).map (fun c => 44 * (r / 8) + 4 * v.s.physRow r + c)) ++
    links.flatMap (fun l =>
      let y := 176 + 12 * (l / 32)
      [44 * (l / 32) + 36, 44 * (l / 32) + 41, y + l % 32 / 8, y + 4 + l % 32 / 8, y + 9]) ++
    v.l.sections.groups.map (fun g => 184 + 12 * (g.block.val / 4)) ++
    v.l.brgs.flatMap (fun t => if t.key % 8 < 4 then meshIslands (t.key % 8) else [44 * (t.key % 8 - 4) + 41, 185 + 12 * (t.key % 8 - 4)])

/-- The controller islands of the claimed groups. The loss of a group stops a stack's controller island (06 R261) and shuts out only that group: an island counts as stopped here where no group of its stack was lost (notes/assumptions/52). -/
def stackStopped (v : Load) : Bool :=
  (groupsOf v.l.sections.claims.hbm).any (fun g =>
    !v.s.boot.islands.contains (hbmIsland (g / 4)) && !(List.range 4).any (fun k => v.s.outOfService (4 * (g / 4) + k)))

/-- Bridges and links: reservations over a bridge that is down or on a channel of an unclaimed link, and streams or groups of unclaimed links. -/
def linkUse (v : Load) : Bool :=
  let has := fun (l : Nat) => v.l.sections.claims.links.any (fun k => k.val == l)
  v.l.brgs.all (fun t =>
    let rs := (List.range t.period).flatMap (fun k => v.reserved 0 t k)
    if t.key % 8 < 4 then rs.isEmpty || v.s.bridge (t.key % 8) != .down else rs.all (fun r => has (32 * (t.key % 8 - 4) + r.1))) &&
    v.l.sections.streams.all (fun x => has x.link.val) &&
    v.l.sections.groups.all (fun g => (State.groupMembers g).all has)

/-- Landing regions and binding lists lie in their die buffers, outside the pools (07 R268). -/
def bufferUse (v : Load) : Bool :=
  v.l.sections.streams.all (fun x => x.send || regionSpan v.l.sections.groups x == 0 ||
    (v.bufferOk (x.link.val / 32) x.regionEven (regionSpan v.l.sections.groups x) && v.bufferOk (x.link.val / 32) x.regionOdd (regionSpan v.l.sections.groups x))) &&
    v.l.slots.all (fun e => v.bufferOk e.die e.bindAddr (4 + 4 * e.cap))

/-- Slot entries name claimed rows and model slots. -/
def slotUse (v : Load) : Bool :=
  v.l.slots.all (fun e => v.l.rowMask.testBit (8 * e.die + e.tile / 4) && v.l.sections.claims.modelSlots.any (fun m => m.val == e.ms))

/-- A FILL or SPILL names an address that its rules allow (06 R224, R225, R228, R243; 07 R268; 08 R347). -/
def moveUse (v : Load) (row : Nat) (fill : Bool) (a len : Nat) : Bool :=
  let n := row / 8
  match placeOf a, placeOf (a + len - 1) with
  | .hbm h, .hbm _ =>
    v.claimed a len && groupOf a == groupOf (a + len - 1) && v.pathUp n (h / 2) && (!fill || v.pathUp (h / 2) n)
  | .dbuf d, .dbuf e => d == n && e == n && v.bufferOk n (a % 67108864) len
  | _, _ => false

/-- One word uses only what the last claims and what its row's mode allows (R918). -/
def wordUse (v : Load) (r : RowRun) (i : Issue) : Bool :=
  let sync := fun (both : Bool) =>
    v.l.sections.claims.sync.any (fun k => k.val == i.arg) && v.pathUp (r.ent.row / 8) (i.arg / 1024) &&
      (!both || v.pathUp (i.arg / 1024) (r.ent.row / 8))
  let inRegion := !r.serving || ((i.arr == 0 || decide (3 < i.arr) || decide (i.addr < 4096)) &&
    (i.mov == 0 || decide (4 < i.mov) || decide (i.maddr < 4096)))
  inRegion && (movesOf r.serving i).all (fun m => v.moveUse r.ent.row m.2.2.1 m.2.2.2.1 m.2.2.2.2) &&
    (match i.ctl with
     | 0x8 => v.claimed (r.ent.addr + 4096 * i.arg) 4096 &&
       (match placeOf (r.ent.addr + 4096 * i.arg) with
        | .hbm h => v.pathUp (r.ent.row / 8) (h / 2) && v.pathUp (h / 2) (r.ent.row / 8)
        | _ => false)
     | 0xB => i.tmask == 0 || v.l.sections.claims.modelSlots.any (fun m => m.val == i.arg % 1024)
     | 0xC => sync false
     | 0xD => sync true
     | _ => true)

/-- The reservations of a bridge direction at an epoch offset; none where the image has no table for it. -/
def held (v : Load) (key j : Nat) : List (Nat × Nat × Nat) :=
  match v.l.brgs.find? (fun t => t.key == key) with
  | some t => v.reserved 0 t j
  | none => []

/-- The crossings of an epoch: directions and first cycle (08 R321). -/
def crossed (v : Load) (j : Nat) : List (List Nat × Nat) :=
  let e := v.epochRun j
  e.chans.flatMap (fun c => crossings v.s.fuse.variant c.1 e.reqs c.2.1)

/-- Every unit of HBM3E traffic that crosses a mesh bridge has a reserved slot that it can take, and the reserved slots of a direction, of four units each, hold the units that cross it (08 R321, R326; 06 R240; notes/assumptions/63). -/
def meshHeld (v : Load) (j : Nat) : Bool :=
  let k := v.s.fuse.variant
  let cs := v.crossed j
  cs.all (fun c => match c.1 with
    | d :: _ => !(slotsFrom k (v.held d j) c.2).isEmpty
    | [] => true) &&
    (List.range 16).all (fun d =>
      decide ((cs.filter (fun c => c.1.contains d)).length ≤ 4 * (v.held d j).foldl (fun m r => m + r.2.2) 0))

/-- A line that goes on to the diagonal die takes a slot of the same lane 34 cc later on the second bridge (08 R323). -/
def relayHeld (v : Load) (j : Nat) : Bool :=
  let k := v.s.fuse.variant
  (v.crossed j).all (fun c => match c.1 with
    | [d, f] => (slotsFrom k (v.held d j) c.2).any (fun x => slotAt k (v.held f j) x.1 (x.2 + 34))
    | _ => true)

/-- The Wn slots of the stitches: each one sent takes the latest slot of its channel at or before c − 101 (08 R339); those that land and the results of groups find as many reserved slots (R326). -/
def wnHeld (v : Load) (j : Nat) : Bool :=
  let k := v.s.fuse.variant
  let gs := v.l.sections.groups
  v.l.sections.streams.all (fun x =>
    let l := x.link.val
    let es := streamList x 0 j
    if x.send then
      let r := v.held (4 + l / 32) j
      es.all (fun e => decide (101 ≤ e.cycle) && slotHeld r (l % 32) (slotIdx (wnGrid k) (e.cycle - 100) - 1))
    else
      let r := (v.held (12 + l / 32) j).filter (fun q => q.1 == l % 32)
      decide ((es.filter (fun e => e.group == 0)).length + groupSlots gs l ≤ r.foldl (fun m q => m + q.2.2) 0))

/-- 0x0207. -/
def useBad (v : Load) : Bool :=
  (groupsOf v.l.sections.claims.hbm).any (fun g => v.s.outOfService g) || v.stackStopped || v.needs.any (fun i => !v.s.boot.islands.contains i) ||
    !v.linkUse || !v.bufferUse || !v.slotUse ||
    v.barrierStates.any (fun o => !(v.l.sections.claims.sync.any (fun k => k.val == o.1) && v.l.sections.claims.sync.any (fun k => k.val == o.2))) ||
    !v.rounds.all (fun j => v.l.seqs.all (fun e => (v.rowRun j e).issues.all (v.wordUse (v.rowRun j e))) && v.meshHeld j && v.wnHeld j) ||
    Config.restBroken 0x0207#16 v.bytes

/-! ### 0x0208 to 0x020B -/

/-- What each row has before its first epoch: the preloaded pages, every staging pointer at half A (03 R914, R147). -/
def carry0 (v : Load) : List RowCarry :=
  v.l.seqs.map (fun e => { pages := (List.range (min 32 (e.len / 4096))).map (fun p => (p, p)) })

/-- 0x0208. DESIGN CHOICE: two entries of one BLOCK and GROUP, which R408 shuts out without naming a code, are rejected with it (notes/assumptions/62). -/
def ruleBad (v : Load) : Bool :=
  let k := v.s.fuse.variant
  let ss := v.l.sections.streams
  let gs := v.l.sections.groups
  !epochsOk k v.n (v.rounds.map v.epochRun) v.carry0 ||
    !v.l.brgs.all (fun t => (List.range t.period).all (fun i => (v.reserved 0 t i).all (brgRunOk k v.n t.key))) ||
    !v.rounds.all v.relayHeld || !gs.all groupForm || !later (fun a b => a.block != b.block || a.group != b.group) gs || !v.rounds.all (fun j => gs.all (fun g => groupEpoch ss g j)) ||
    !v.rounds.all (fun j => v.l.sections.claims.links.all (fun l => channelFits k v.n ss gs l.val j)) ||
    !ss.all (fun x => x.lists.all (onGrid k v.n)) || Config.restBroken 0x0208#16 v.bytes

/-- 0x0209: slack, one F_L for both directions of a link, a free slot in every 48 (R97; 11 R469, R470). -/
def slackBad (v : Load) : Bool :=
  let k := v.s.fuse.variant
  let ss := v.l.sections.streams
  !ss.all (fun x => x.lists.all (fun l => slackOk v.n (v.n - v.l.afab - 64) x l && freeIn48 k l) &&
    ss.all (fun y => x.link != y.link || x.fL == y.fL))

/-- 0x020A. -/
def linkBad (v : Load) : Bool :=
  v.l.sections.claims.links.any (fun l => !v.s.linkUp l.val ||
    v.l.sections.streams.any (fun x => x.link == l && decide (x.fL < (v.s.lkk l.val).ml)))

/-- The regions of the streams: lines of 256 B, and no region of one parity, on the same die, meets one of the other (R75, R77). -/
def regionsOk (v : Load) : Bool :=
  let gs := v.l.sections.groups
  let ss := v.l.sections.streams.filter (fun x => !x.send)
  ss.all (fun x => x.regionEven % 256 == 0 && x.regionOdd % 256 == 0 &&
    ss.all (fun y => x.link.val / 32 != y.link.val / 32 || !meets x.regionEven (regionSpan gs x) y.regionOdd (regionSpan gs y)))

/-- A die-buffer move of a row at an epoch offset touches no region in which stitches land (R77), and none of its lines moves in the closing window from or to a binding list (R90; 06 R248). -/
def moveClear (v : Load) (j row : Nat) (i : Issue) (m : Nat × Nat × Bool × Nat × Nat) : Bool :=
  let a := m.2.2.2.1
  let len := m.2.2.2.2
  match placeOf a with
  | .dbuf d =>
    let o := a % 67108864
    v.l.sections.streams.all (fun x => x.send || x.link.val / 32 != d || (streamList x 0 j).isEmpty ||
      !meets o len (if (v.l.start + j) % 2 = 0 then x.regionEven else x.regionOdd) (regionSpan v.l.sections.groups x)) &&
      (List.range (len / 256)).all (fun k =>
        decide (lineMove m.2.1 (portSlot row m.1 m.2.2.1) (i.at + 6) (o / 256) k < v.n - 1024) ||
          v.l.slots.all (fun e => e.die != row / 8 || !meets (o + 256 * k) 256 e.bindAddr (4 + 4 * e.cap)))
  | _ => true

/-- 0x020B. -/
def windowBad (v : Load) : Bool :=
  v.l.sections.streams.any (fun x => (x.send && x.lists.any (fun l => l.any (fun e => decide (v.n - 1024 ≤ e.cycle))))) || !v.regionsOk ||
    !v.rounds.all (fun j => v.l.seqs.all (fun e =>
      let r := v.rowRun j e
      r.issues.all (fun i => (i.ctl != 0x9 || decide (i.cyc < v.n - 1024)) &&
        (movesOf r.serving i).all (v.moveClear j e.row i))))

/-! ### 0x020C to 0x0212 -/

/-- 0x020C (12 R522, R527, R546). -/
def fabricBad (v : Load) : Bool :=
  let c := v.l.sections.claims
  !decide (1 ≤ v.l.pkgCount ∧ v.l.pkgCount ≤ 65536) || decide (v.l.pkgCount ≤ v.l.rank) ||
    (decide (1 < v.l.pkgCount) &&
      !(v.s.joined && decide (v.l.pkgCount ≤ v.s.bits (fabBase + 0x1C) 0 17) &&
        v.l.sections.streams.all (fun x => v.s.capField x.link.val 0xC 4 == x.partner) &&
        c.barriers.all (fun k => (v.s.bits (fabBase + 0x30) 0 16).testBit (k.val / 16)))) ||
    (v.s.joined && (v.l.ek != v.s.bits (fabBase + 0x38) 0 5 || v.l.afab != (v.s.word (fabBase + 0x3C)).toNat)) ||
    c.links.any (fun l => (v.s.lkk l.val).tc3Only)

/-- 0x020D (R57, R58). -/
def lateBad (v : Load) : Bool := decide (v.l.start < v.c.accepted + 2) || decide (v.l.start ≤ v.s.latchedEpoch)

/-- Watts left for lasts, and the core clock in MHz (21 R876). -/
def wattsLeft (variant : Nat) : Nat := match variant with | 0 => 500 | 1 => 375 | _ => 250
def clockMhz (variant : Nat) : Nat := match variant with | 0 => 1500 | 1 => 1300 | _ => 1050

/-- 0x020F: at every epoch in which a last that shares it starts, the energies of the lasts resident are within the variant's (R917; 21 R876, R877). -/
def energyBad (v : Load) : Bool :=
  let k := v.s.fuse.variant
  (v.l.start :: v.peers.map v.firstShared).any (fun e =>
    v.inRun e &&
      decide (wattsLeft k * v.n < clockMhz k * ((v.peers.filter (fun p => v.resident p e)).foldl (fun m p => m + p.energy) v.l.energy)))

/-- The capacities of a die's entries open in an epoch (R106). -/
def capacity (l : Last) (die e : Nat) : Nat :=
  (l.slots.filter (fun x => x.die == die && (e - l.start) % x.period == x.offset)).foldl (fun m x => m + x.cap) 0

/-- The epochs in which the capacity sums can differ: up to the last change of residency, and one common period of all entries more. -/
def capEpochs (v : Load) : List Nat :=
  let turn := v.peers.foldl (fun m p => max m (max p.start ((v.endOf p).getD 0))) v.l.start
  let per := lcmAll ((v.l.slots ++ v.peers.flatMap (fun p => p.slots)).map (fun e => e.period))
  (v.offsets (turn - v.l.start + per)).map (fun j => v.l.start + j)

/-- A slot entry keeps R105 and its fields' ranges. -/
def entryOk (v : Load) (e : SlotEnt) : Bool :=
  decide (1 ≤ e.cap ∧ e.cap ≤ 4096) && decide (1 ≤ e.period) && decide (e.offset < e.period) && e.bindAddr % 64 == 0 &&
    (v.s.slot e.ms).loaded && (v.s.slot e.ms).home == e.die &&
    ((v.offsets (v.lastSet + 1 + e.period)).filter (fun j => j % e.period == e.offset)).all (fun j => v.serving (8 * e.die + e.tile / 4) j)

/-- 0x0210. -/
def slotBad (v : Load) : Bool :=
  !v.l.slots.all v.entryOk ||
    (List.range 4).any (fun d => v.capEpochs.any (fun e =>
      decide (8192 < (v.peers.filter (fun p => v.resident p e)).foldl (fun m p => m + capacity p d e) (capacity v.l d e)))) ||
    !v.rounds.all (fun j => v.l.seqs.all (fun q => (v.rowRun j q).issues.all (fun i => i.ctl != 0x9 ||
      (match v.l.slots[i.arg]? with
       | some e => 8 * e.die + e.tile / 4 == q.row
       | none => false))))

/-- 0x0211. -/
def sixteenthBad (v : Load) : Bool := !v.l.sections.streams.all (fun x => x.lists.all (sixteenthFree v.s.fuse.variant v.n))

/-- 0x0212. -/
def setBad (v : Load) : Bool :=
  v.l.sections.sets.any (fun w =>
    w.mask == 0#32 || (w.mask &&& ~~~(((ownedFields v.l).filter (fun f => f.1 == w.reg)).foldl (fun m f => m ||| f.2) 0#32)) != 0#32)

/-- The mesh bridges that the words of a row's programs cross (08 R346; 01 R35). -/
def wordRoutes (r : RowRun) (i : Issue) : List Nat :=
  let n := r.ent.row / 8
  let both := fun (d : Nat) => meshPath n d ++ meshPath d n
  (movesOf r.serving i).flatMap (fun m => match placeOf m.2.2.2.1 with
    | .hbm h => if m.2.2.1 then both (h / 2) else meshPath n (h / 2)
    | _ => []) ++
    (match i.ctl with
     | 0x8 => both (r.ent.addr / 0x1200000000)
     | 0xC => meshPath n (i.arg / 1024)
     | 0xD => both (i.arg / 1024)
     | _ => [])
def routes (v : Load) : List Nat :=
  (v.rounds.flatMap (fun j => v.l.seqs.flatMap (fun e => (v.rowRun j e).issues.flatMap (wordRoutes (v.rowRun j e))))).eraseDups

/-- The checks in the order of the rejection table; the first that fails gives the code, 0 where none does (R55). `held` tells whether the load took a CMD_LAST_r entry. -/
def verdict (v : Load) (held : Bool) : Nat :=
  if v.layoutBad then 0x0201
  else if v.digestBad then 0x0202
  else if v.h 6 1 != v.s.fuse.variant then 0x0203
  else if v.timingBad then 0x0204
  else if v.timingDiffers then 0x0205
  else if v.claimBad then 0x0206
  else if v.useBad then 0x0207
  else if v.ruleBad then 0x0208
  else if v.slackBad then 0x0209
  else if v.linkBad then 0x020A
  else if v.windowBad then 0x020B
  else if v.fabricBad then 0x020C
  else if v.lateBad then 0x020D
  else if !held then 0x020E
  else if v.energyBad then 0x020F
  else if v.slotBad then 0x0210
  else if v.sixteenthBad then 0x0211
  else if v.setBad then 0x0212
  else 0

end Load

namespace State

/-- The entry of the load in validation. -/
def loadEntry (s : State) (c : Crit) : Option (Nat × Last) := s.cmd.lasts.find? (fun p => p.2.st == .validating && p.2.jseq == c.jseq)

/-- The load as its validation sees it. -/
def loadOf (s : State) (c : Crit) (sections : Sections) : Load :=
  let x : Area := { mem := s.mem, base := pField c.p 0 8, len := pField c.p 8 8 }
  let l0 := match s.loadEntry c with
    | some p => p.2
    | none => s.newLast c c.jseq
  let d := x.decoded sections
  { s := s, c := c, x := x, d := sections
    l := { l0 with
      sections := d, slots := x.slotEnts, seqs := x.seqEnts l0.rowMask, mems := (x.tabs 2).getD [], brgs := (x.tabs 3).getD [] } }

/-- A row that another last of the package claims. -/
def claimedElsewhere (s : State) (r row : Nat) : Bool := s.cmd.lasts.any (fun p => p.1 != r && p.2.st != .validating && p.2.rowMask.testBit row)

/-- Acceptance of the last of entry `r`: staged, its free rows preloaded, its first settings armed, those it replaces named to leave (R60, R61, R82; 03 R914). -/
def stageLast (s : State) (r : Nat) (l : Last) : State :=
  let later := (l.seqs.filter (fun e => s.claimedElsewhere r e.row)).map (fun e => e.row)
  let l1 := { l with st := .staged, later := later }
  let s1 := s.modLast r (fun _ => l1)
  let s2 := (l1.seqs.filter (fun e => !s.claimedElsewhere r e.row)).foldl (fun (s : State) e => s.preloadRow e) s1
  let s3 := s2.armSets (r, l1)
  if l1.replaceAll || l1.replaces.isSome then s3.nameLeaving l1.replaceAll l1.replaces l1.start r else s3

/-- The verdict reaches the load's entry: the last is staged, or the entry goes (R58, R59). -/
def settleLoad (s : State) (e : Option (Nat × Last)) (v : Load) (code : Nat) : State :=
  match e with
  | some p => if code = 0 then s.stageLast p.1 { v.l with routes := v.routes } else { s with cmd := { s.cmd with lasts := s.cmd.lasts.del p.1 } }
  | none => s

/-- The work on a load ends with the verdict on its image, and the next one begins (R55-R62). -/
def endLoad (s : State) (c : Crit) (sections : Sections) : State :=
  let v := s.loadOf c sections
  let code := v.verdict (s.loadEntry c).isSome
  ((s.settleLoad (s.loadEntry c) v code).endWork code v.l.id).startWork

/-- LAST_VALIDATION_DONE: the verdict on the image; `sections` are the sections of it whose layout the spec leaves out. -/
def doValidationDone (s : State) (sections : Sections) : State :=
  match s.working 0x40 with
  | none => s
  | some c =>
    if namesImage c then s.endLoad c sections else s

end State

/-- LAST_VALIDATION_DONE (R55-R62). -/
def execLastValidationDone (sections : Sections) (s : State) : Res := .next (s.doValidationDone sections)

end Sys2Proof.Machine
end

