-- ==== Sys2Proof/Machine/Dispatch.lean ====
section
/-! DEFINITION. One arm per command: its meaning, or its name where it has none. -/

namespace Sys2Proof.Machine

def exec (i : Instr) (s : State) : Host.Outcome State Fault Refusal :=
  match i with
  | .coldReset => Sys2Proof.Machine.execColdReset s
  | .resetNRelease inp => Sys2Proof.Machine.execResetNRelease inp s
  | .stage1 inp => Sys2Proof.Machine.execStage1 inp s
  | .stage2 inp => Sys2Proof.Machine.execStage2 inp s
  | .stage3 => Sys2Proof.Machine.execStage3 s
  | .stage4 inp => Sys2Proof.Machine.execStage4 inp s
  | .startPassed => Sys2Proof.Machine.execStartPassed s
  | .stageWatchdogExpiry => Sys2Proof.Machine.execStageWatchdogExpiry s
  | .failedStartRetry inp => Sys2Proof.Machine.execFailedStartRetry inp s
  | .standbyJoinTimeout => Sys2Proof.Machine.execStandbyJoinTimeout s
  | .retry inp => Sys2Proof.Machine.execRetry inp s
  | .crossingDeadlineMiss island => Sys2Proof.Machine.execCrossingDeadlineMiss island s
  | .islandLockLoss island => Sys2Proof.Machine.execIslandLockLoss island s
  | .lastLoad ring d param => Sys2Proof.Machine.execLastLoad ring d param s
  | .lastValidationDone sections => Sys2Proof.Machine.execLastValidationDone sections s
  | .queueSnapshot => Sys2Proof.Machine.execQueueSnapshot s
  | .contextDeadlineExpiry idx => Sys2Proof.Machine.execContextDeadlineExpiry idx s
  | .pendingLatch => Sys2Proof.Machine.execPendingLatch s
  | .pagePreload row => Sys2Proof.Machine.execPagePreload row s
  | .checkPoint => Sys2Proof.Machine.execCheckPoint s
  | .boundaryStep flights => Sys2Proof.Machine.execBoundaryStep flights s
  | .seqProgramStart row => Sys2Proof.Machine.execSeqProgramStart row s
  | .ctlNop row => Sys2Proof.Machine.execCtlNop row s
  | .setn row arg => Sys2Proof.Machine.execSetn row arg s
  | .seta0 row arg => Sys2Proof.Machine.execSeta0 row arg s
  | .seta1 row arg => Sys2Proof.Machine.execSeta1 row arg s
  | .seta2 row arg => Sys2Proof.Machine.execSeta2 row arg s
  | .setacc row arg => Sys2Proof.Machine.execSetacc row arg s
  | .loop row arg => Sys2Proof.Machine.execLoop row arg s
  | .endloop row => Sys2Proof.Machine.execEndloop row s
  | .page row arg => Sys2Proof.Machine.execPage row arg s
  | .pageFetchDone row slot => Sys2Proof.Machine.execPageFetchDone row slot s
  | .bind row arg => Sys2Proof.Machine.execBind row arg s
  | .nextctx row => Sys2Proof.Machine.execNextctx row s
  | .swap row tmask arg => Sys2Proof.Machine.execSwap row tmask arg s
  | .swapDone tile q => Sys2Proof.Machine.execSwapDone tile q s
  | .semsig row arg => Sys2Proof.Machine.execSemsig row arg s
  | .semsigArrival obj => Sys2Proof.Machine.execSemsigArrival obj s
  | .semwait row arg => Sys2Proof.Machine.execSemwait row arg s
  | .semwaitArrival row obj => Sys2Proof.Machine.execSemwaitArrival row obj s
  | .semwaitResult row => Sys2Proof.Machine.execSemwaitResult row s
  | .halt row => Sys2Proof.Machine.execHalt row s
  | .loadw sel fmt addr => Sys2Proof.Machine.execLoadw sel fmt addr s
  | .stream sel fmt addr acc => Sys2Proof.Machine.execStream sel fmt addr acc s
  | .streamw sel fmt addr acc => Sys2Proof.Machine.execStreamw sel fmt addr acc s
  | .queuedStreamStart tile q => Sys2Proof.Machine.execQueuedStreamStart tile q s
  | .arrayPassResult tile q => Sys2Proof.Machine.execArrayPassResult tile q s
  | .vld sel vreg maddr len => Sys2Proof.Machine.execVld sel vreg maddr len s
  | .vst sel vreg maddr len => Sys2Proof.Machine.execVst sel vreg maddr len s
  | .fill sel maddr len => Sys2Proof.Machine.execFill sel maddr len s
  | .spill sel maddr len => Sys2Proof.Machine.execSpill sel maddr len s
  | .ctxin sel maddr => Sys2Proof.Machine.execCtxin sel maddr s
  | .ctxout sel maddr => Sys2Proof.Machine.execCtxout sel maddr s
  | .nop sel => Sys2Proof.Machine.execNop sel s
  | .fadd sel vd vs1 vs2 => Sys2Proof.Machine.execFadd sel vd vs1 vs2 s
  | .fmul sel vd vs1 vs2 => Sys2Proof.Machine.execFmul sel vd vs1 vs2 s
  | .fma sel vd vs1 vs2 => Sys2Proof.Machine.execFma sel vd vs1 vs2 s
  | .fmax sel vd vs1 vs2 => Sys2Proof.Machine.execFmax sel vd vs1 vs2 s
  | .fmin sel vd vs1 vs2 => Sys2Proof.Machine.execFmin sel vd vs1 vs2 s
  | .iadd sel vd vs1 vs2 => Sys2Proof.Machine.execIadd sel vd vs1 vs2 s
  | .imul sel vd vs1 vs2 => Sys2Proof.Machine.execImul sel vd vs1 vs2 s
  | .shift sel vd vs1 vs2 => Sys2Proof.Machine.execShift sel vd vs1 vs2 s
  | .and sel vd vs1 vs2 => Sys2Proof.Machine.execAnd sel vd vs1 vs2 s
  | .or sel vd vs1 vs2 => Sys2Proof.Machine.execOr sel vd vs1 vs2 s
  | .xor sel vd vs1 vs2 => Sys2Proof.Machine.execXor sel vd vs1 vs2 s
  | .sel sel vd vs1 vs2 => Sys2Proof.Machine.execSel sel vd vs1 vs2 s
  | .ldacc sel vd vs1 vs2 => Sys2Proof.Machine.execLdacc sel vd vs1 vs2 s
  | .vectorOpResult tile => Sys2Proof.Machine.execVectorOpResult tile s
  | .cvtBinary32ToBinary16 sel vd vs1 sat fn => Sys2Proof.Machine.execCvtBinary32ToBinary16 sel vd vs1 sat fn s
  | .cvtBinary32ToBfloat16 sel vd vs1 sat fn => Sys2Proof.Machine.execCvtBinary32ToBfloat16 sel vd vs1 sat fn s
  | .cvtBinary32ToFp8E4m3 sel vd vs1 sat fn => Sys2Proof.Machine.execCvtBinary32ToFp8E4m3 sel vd vs1 sat fn s
  | .cvtBinary32ToFp8E5m2 sel vd vs1 sat fn => Sys2Proof.Machine.execCvtBinary32ToFp8E5m2 sel vd vs1 sat fn s
  | .cvtBinary32ToInt32 sel vd vs1 sat fn => Sys2Proof.Machine.execCvtBinary32ToInt32 sel vd vs1 sat fn s
  | .cvtBinary32ToInt16 sel vd vs1 sat fn => Sys2Proof.Machine.execCvtBinary32ToInt16 sel vd vs1 sat fn s
  | .cvtBinary32ToInt8 sel vd vs1 sat fn => Sys2Proof.Machine.execCvtBinary32ToInt8 sel vd vs1 sat fn s
  | .cvtBinary32ToUint8 sel vd vs1 sat fn => Sys2Proof.Machine.execCvtBinary32ToUint8 sel vd vs1 sat fn s
  | .cvtBinary32ToInt4 sel vd vs1 sat fn => Sys2Proof.Machine.execCvtBinary32ToInt4 sel vd vs1 sat fn s
  | .cvtBinary32ToRange24 sel vd vs1 sat fn => Sys2Proof.Machine.execCvtBinary32ToRange24 sel vd vs1 sat fn s
  | .cvtBinary32ToLogi8 sel vd vs1 sat fn => Sys2Proof.Machine.execCvtBinary32ToLogi8 sel vd vs1 sat fn s
  | .cvtInt32ToBinary32 sel vd vs1 sat fn => Sys2Proof.Machine.execCvtInt32ToBinary32 sel vd vs1 sat fn s
  | .cvtBinary16ToBinary32 sel vd vs1 sat fn => Sys2Proof.Machine.execCvtBinary16ToBinary32 sel vd vs1 sat fn s
  | .cvtBfloat16ToBinary32 sel vd vs1 sat fn => Sys2Proof.Machine.execCvtBfloat16ToBinary32 sel vd vs1 sat fn s
  | .cvtFp8E4m3ToBinary32 sel vd vs1 sat fn => Sys2Proof.Machine.execCvtFp8E4m3ToBinary32 sel vd vs1 sat fn s
  | .cvtFp8E5m2ToBinary32 sel vd vs1 sat fn => Sys2Proof.Machine.execCvtFp8E5m2ToBinary32 sel vd vs1 sat fn s
  | .cvtInt16ToBinary32 sel vd vs1 sat fn => Sys2Proof.Machine.execCvtInt16ToBinary32 sel vd vs1 sat fn s
  | .cvtInt8ToBinary32 sel vd vs1 sat fn => Sys2Proof.Machine.execCvtInt8ToBinary32 sel vd vs1 sat fn s
  | .cvtUint8ToBinary32 sel vd vs1 sat fn => Sys2Proof.Machine.execCvtUint8ToBinary32 sel vd vs1 sat fn s
  | .cvtInt4ToBinary32 sel vd vs1 sat fn => Sys2Proof.Machine.execCvtInt4ToBinary32 sel vd vs1 sat fn s
  | .cvtRange24ToBinary32 sel vd vs1 sat fn => Sys2Proof.Machine.execCvtRange24ToBinary32 sel vd vs1 sat fn s
  | .cvtLogi8ToBinary32 sel vd vs1 sat fn => Sys2Proof.Machine.execCvtLogi8ToBinary32 sel vd vs1 sat fn s
  | .cvtInt32ToInt8 sel vd vs1 sat fn => Sys2Proof.Machine.execCvtInt32ToInt8 sel vd vs1 sat fn s
  | .cvtInt32ToUint8 sel vd vs1 sat fn => Sys2Proof.Machine.execCvtInt32ToUint8 sel vd vs1 sat fn s
  | .cvtInt32ToInt4 sel vd vs1 sat fn => Sys2Proof.Machine.execCvtInt32ToInt4 sel vd vs1 sat fn s
  | .cvtInt32ToInt16 sel vd vs1 sat fn => Sys2Proof.Machine.execCvtInt32ToInt16 sel vd vs1 sat fn s
  | .cvtBinary32ToMxfp8E4m3 sel vd vs1 sat fn => Sys2Proof.Machine.execCvtBinary32ToMxfp8E4m3 sel vd vs1 sat fn s
  | .cvtBinary32ToMxfp8E5m2 sel vd vs1 sat fn => Sys2Proof.Machine.execCvtBinary32ToMxfp8E5m2 sel vd vs1 sat fn s
  | .cvtBinary32ToMxfp6E3m2 sel vd vs1 sat fn => Sys2Proof.Machine.execCvtBinary32ToMxfp6E3m2 sel vd vs1 sat fn s
  | .cvtBinary32ToMxfp6E2m3 sel vd vs1 sat fn => Sys2Proof.Machine.execCvtBinary32ToMxfp6E2m3 sel vd vs1 sat fn s
  | .cvtBinary32ToMxfp4E2m1 sel vd vs1 sat fn => Sys2Proof.Machine.execCvtBinary32ToMxfp4E2m1 sel vd vs1 sat fn s
  | .cvtBinary32ToMxint8 sel vd vs1 sat fn => Sys2Proof.Machine.execCvtBinary32ToMxint8 sel vd vs1 sat fn s
  | .cvtMxScaleString sel code vd vs1 fn => Sys2Proof.Machine.execCvtMxScaleString sel code vd vs1 fn s
  | .sfuGrant tile sfu => Sys2Proof.Machine.execSfuGrant tile sfu s
  | .sfuResultWrite tile => Sys2Proof.Machine.execSfuResultWrite tile s
  | .exp sel vd vs1 => Sys2Proof.Machine.execExp sel vd vs1 s
  | .exp2 sel vd vs1 => Sys2Proof.Machine.execExp2 sel vd vs1 s
  | .log sel vd vs1 => Sys2Proof.Machine.execLog sel vd vs1 s
  | .log2 sel vd vs1 => Sys2Proof.Machine.execLog2 sel vd vs1 s
  | .recip sel vd vs1 => Sys2Proof.Machine.execRecip sel vd vs1 s
  | .rsqrt sel vd vs1 => Sys2Proof.Machine.execRsqrt sel vd vs1 s
  | .sqrt sel vd vs1 => Sys2Proof.Machine.execSqrt sel vd vs1 s
  | .sigmoid sel vd vs1 => Sys2Proof.Machine.execSigmoid sel vd vs1 s
  | .tanh sel vd vs1 => Sys2Proof.Machine.execTanh sel vd vs1 s
  | .gelu sel vd vs1 => Sys2Proof.Machine.execGelu sel vd vs1 s
  | .softplus sel vd vs1 => Sys2Proof.Machine.execSoftplus sel vd vs1 s
  | .sin sel vd vs1 => Sys2Proof.Machine.execSin sel vd vs1 s
  | .cos sel vd vs1 => Sys2Proof.Machine.execCos sel vd vs1 s
  | .stClr sel => Sys2Proof.Machine.execStClr sel s
  | .stSmx sel vs1 => Sys2Proof.Machine.execStSmx sel vs1 s
  | .stWel sel vs1 => Sys2Proof.Machine.execStWel sel vs1 s
  | .stRed sel => Sys2Proof.Machine.execStRed sel s
  | .stRedDone tile q => Sys2Proof.Machine.execStRedDone tile q s
  | .stGetm sel vd => Sys2Proof.Machine.execStGetm sel vd s
  | .stGets sel vd => Sys2Proof.Machine.execStGets sel vd s
  | .stGetmean sel vd => Sys2Proof.Machine.execStGetmean sel vd s
  | .stGetvar sel vd => Sys2Proof.Machine.execStGetvar sel vd s
  | .stExpm sel vd vs1 => Sys2Proof.Machine.execStExpm sel vd vs1 s
  | .stRstd sel vd => Sys2Proof.Machine.execStRstd sel vd s
  | .rdRun chan run => Sys2Proof.Machine.execRdRun chan run s
  | .wrRun chan run => Sys2Proof.Machine.execWrRun chan run s
  | .refpb chan sid bg bank => Sys2Proof.Machine.execRefpb chan sid bg bank s
  | .refreshTimer chan => Sys2Proof.Machine.execRefreshTimer chan s
  | .openSlotAccess chan => Sys2Proof.Machine.execOpenSlotAccess chan s
  | .channelRetrainDue chan => Sys2Proof.Machine.execChannelRetrainDue chan s
  | .channelRetrainDone chan ok => Sys2Proof.Machine.execChannelRetrainDone chan ok s
  | .ctxSubmit ring d => Sys2Proof.Machine.execCtxSubmit ring d s
  | .contextFetch die ring => Sys2Proof.Machine.execContextFetch die ring s
  | .stagingCopyDone idx data => Sys2Proof.Machine.execStagingCopyDone idx data s
  | .msLoad ring d => Sys2Proof.Machine.execMsLoad ring d s
  | .synSignal ring d => Sys2Proof.Machine.execSynSignal ring d s
  | .synSet ring d => Sys2Proof.Machine.execSynSet ring d s
  | .synWait ring d => Sys2Proof.Machine.execSynWait ring d s
  | .synWaitTimeout ring cid => Sys2Proof.Machine.execSynWaitTimeout ring cid s
  | .copy ring d data => Sys2Proof.Machine.execCopy ring d data s
  | .copyComplete ring cid fault => Sys2Proof.Machine.execCopyComplete ring cid fault s
  | .epochMark ring d => Sys2Proof.Machine.execEpochMark ring d s
  | .bridgeTraining b chan e => Sys2Proof.Machine.execBridgeTraining b chan e s
  | .initAck y reply => Sys2Proof.Machine.execInitAck y reply s
  | .initTimeout y => Sys2Proof.Machine.execInitTimeout y s
  | .meshLineReceive b dir errors => Sys2Proof.Machine.execMeshLineReceive b dir errors s
  | .meshRetrainDue b => Sys2Proof.Machine.execMeshRetrainDue b s
  | .stitchRelease link payload => Sys2Proof.Machine.execStitchRelease link payload s
  | .flitSlot y c toYz => Sys2Proof.Machine.execFlitSlot y c toYz s
  | .flitReceive y c toYz header payload => Sys2Proof.Machine.execFlitReceive y c toYz header payload s
  | .flitReplayTimeout y c toYz => Sys2Proof.Machine.execFlitReplayTimeout y c toYz s
  | .flitRetryExhausted y c toYz => Sys2Proof.Machine.execFlitRetryExhausted y c toYz s
  | .feedFailure slice => Sys2Proof.Machine.execFeedFailure slice s
  | .sbrTestRunStart b => Sys2Proof.Machine.execSbrTestRunStart b s
  | .sbrTestRunStop b received => Sys2Proof.Machine.execSbrTestRunStop b received s
  | .laserFailure l spare cause => Sys2Proof.Machine.execLaserFailure l spare cause s
  | .spareLaserQualified l => Sys2Proof.Machine.execSpareLaserQualified l s
  | .lanePrbsCheckDone link wave ok => Sys2Proof.Machine.execLanePrbsCheckDone link wave ok s
  | .primaryRetry l => Sys2Proof.Machine.execPrimaryRetry l s
  | .primaryRetryResult l ok => Sys2Proof.Machine.execPrimaryRetryResult l ok s
  | .biasRangeChange l spare => Sys2Proof.Machine.execBiasRangeChange l spare s
  | .heaterUpdate link temp => Sys2Proof.Machine.execHeaterUpdate link temp s
  | .detuneEstimateRefresh link est => Sys2Proof.Machine.execDetuneEstimateRefresh link est s
  | .guardBandExceeded link lane => Sys2Proof.Machine.execGuardBandExceeded link lane s
  | .gainRangeTimeout link lane => Sys2Proof.Machine.execGainRangeTimeout link lane s
  | .calTurn chip group => Sys2Proof.Machine.execCalTurn chip group s
  | .calibrateLane link lane e => Sys2Proof.Machine.execCalibrateLane link lane e s
  | .fuseBurn ring d param => Sys2Proof.Machine.execFuseBurn ring d param s
  | .fuseBurnDone ok stored => Sys2Proof.Machine.execFuseBurnDone ok stored s
  | .rxOverload link lane => Sys2Proof.Machine.execRxOverload link lane s
  | .overloadRetire link lane => Sys2Proof.Machine.execOverloadRetire link lane s
  | .overloadRecovery link lane => Sys2Proof.Machine.execOverloadRecovery link lane s
  | .laserPermitRise => Sys2Proof.Machine.execLaserPermitRise s
  | .laserPermitTimeout => Sys2Proof.Machine.execLaserPermitTimeout s
  | .laserPermitFall => Sys2Proof.Machine.execLaserPermitFall s
  | .laserOverride ring d param => Sys2Proof.Machine.execLaserOverride ring d param s
  | .openFibre link => Sys2Proof.Machine.execOpenFibre link s
  | .probeWindow link opens => Sys2Proof.Machine.execProbeWindow link opens s
  | .reduceResultReady y block engine => Sys2Proof.Machine.execReduceResultReady y block engine s
  | .toneFrameReceive link found => Sys2Proof.Machine.execToneFrameReceive link found s
  | .partnerWordLoss link => Sys2Proof.Machine.execPartnerWordLoss link s
  | .alignEntry link => Sys2Proof.Machine.execAlignEntry link s
  | .detectTimeout link => Sys2Proof.Machine.execDetectTimeout link s
  | .detectHoldExpiry link => Sys2Proof.Machine.execDetectHoldExpiry link s
  | .alignSecondPhase link sweeps => Sys2Proof.Machine.execAlignSecondPhase link sweeps s
  | .alignDone link sweeps => Sys2Proof.Machine.execAlignDone link sweeps s
  | .bitlockCheckWindow link locked => Sys2Proof.Machine.execBitlockCheckWindow link locked s
  | .bitlockDone link errored => Sys2Proof.Machine.execBitlockDone link errored s
  | .alignmentMarkerReceive link lane marker => Sys2Proof.Machine.execAlignmentMarkerReceive link lane marker s
  | .frameAttemptTimeout link => Sys2Proof.Machine.execFrameAttemptTimeout link s
  | .capabilityBlockReceive link block => Sys2Proof.Machine.execCapabilityBlockReceive link block s
  | .capxTimeout link => Sys2Proof.Machine.execCapxTimeout link s
  | .linkActive link flight => Sys2Proof.Machine.execLinkActive link flight s
  | .lossOfLock link lane cause => Sys2Proof.Machine.execLossOfLock link lane cause s
  | .rerouteIndexArrival link => Sys2Proof.Machine.execRerouteIndexArrival link s
  | .rowOpportunity link => Sys2Proof.Machine.execRowOpportunity link s
  | .rowReceive link payload side => Sys2Proof.Machine.execRowReceive link payload side s
  | .stitchLanding link => Sys2Proof.Machine.execStitchLanding link s
  | .controlRowTimer link => Sys2Proof.Machine.execControlRowTimer link s
  | .keepaliveSend link => Sys2Proof.Machine.execKeepaliveSend link s
  | .keepaliveTimeout link => Sys2Proof.Machine.execKeepaliveTimeout link s
  | .replayTimerExpiry link stream => Sys2Proof.Machine.execReplayTimerExpiry link stream s
  | .rejoin link epoch => Sys2Proof.Machine.execRejoin link epoch s
  | .rejoinAck link epoch => Sys2Proof.Machine.execRejoinAck link epoch s
  | .poll slot word data => Sys2Proof.Machine.execPoll slot word data s
  | .pollHi slot word data => Sys2Proof.Machine.execPollHi slot word data s
  | .laceRelease words => Sys2Proof.Machine.execLaceRelease words s
  | .releaseHi words => Sys2Proof.Machine.execReleaseHi words s
  | .laceIdle => Sys2Proof.Machine.execLaceIdle s
  | .syncMarkerSend => Sys2Proof.Machine.execSyncMarkerSend s
  | .syncMarker link m => Sys2Proof.Machine.execSyncMarker link m s
  | .readyMarker link m => Sys2Proof.Machine.execReadyMarker link m s
  | .releaseMarker link m => Sys2Proof.Machine.execReleaseMarker link m s
  | .fenceMarker link m => Sys2Proof.Machine.execFenceMarker link m s
  | .markerRepeat link => Sys2Proof.Machine.execMarkerRepeat link s
  | .fabricWatchdogExpiry => Sys2Proof.Machine.execFabricWatchdogExpiry s
  | .epochAbort => Sys2Proof.Machine.execEpochAbort s
  | .abortRestore => Sys2Proof.Machine.execAbortRestore s
  | .abortRecoveryDone => Sys2Proof.Machine.execAbortRecoveryDone s
  | .recoveryOvertime => Sys2Proof.Machine.execRecoveryOvertime s
  | .sqTail port fn ring value fault => Sys2Proof.Machine.execSqTail port fn ring value fault s
  | .cqHead port fn ring value => Sys2Proof.Machine.execCqHead port fn ring value s
  | .completionPost ring fault => Sys2Proof.Machine.execCompletionPost ring fault s
  | .cqWaitTimeout ring => Sys2Proof.Machine.execCqWaitTimeout ring s
  | .interruptModerationTimeout ring => Sys2Proof.Machine.execInterruptModerationTimeout ring s
  | .msixUnmask fn vector => Sys2Proof.Machine.execMsixUnmask fn vector s
  | .vfEnable port n => Sys2Proof.Machine.execVfEnable port n s
  | .flr fn => Sys2Proof.Machine.execFlr fn s
  | .perstAssert port => Sys2Proof.Machine.execPerstAssert port s
  | .d3hotEntry fn => Sys2Proof.Machine.execD3hotEntry fn s
  | .d3hotExit fn => Sys2Proof.Machine.execD3hotExit fn s
  | .l1Entry port => Sys2Proof.Machine.execL1Entry port s
  | .l1Exit port => Sys2Proof.Machine.execL1Exit port s
  | .ptmDialogue port offset => Sys2Proof.Machine.execPtmDialogue port offset s
  | .fwActivate ring d param => Sys2Proof.Machine.execFwActivate ring d param s
  | .fwActivateDone => Sys2Proof.Machine.execFwActivateDone s
  | .keyChange ring d param => Sys2Proof.Machine.execKeyChange ring d param s
  | .keyRecordStored => Sys2Proof.Machine.execKeyRecordStored s
  | .counterMarkStored ok => Sys2Proof.Machine.execCounterMarkStored ok s
  | .roleTransfer ring d param => Sys2Proof.Machine.execRoleTransfer ring d param s
  | .criticalWorkStart => Sys2Proof.Machine.execCriticalWorkStart s
  | .keySlotUnlock slot => Sys2Proof.Machine.execKeySlotUnlock slot s
  | .jnlAck src fn value => Sys2Proof.Machine.execJnlAck src fn value s
  | .pairMiscompare die => Sys2Proof.Machine.execPairMiscompare die s
  | .shankWatchdogExpiry die => Sys2Proof.Machine.execShankWatchdogExpiry die s
  | .takeover => Sys2Proof.Machine.execTakeover s
  | .newActiveFirstOutput => Sys2Proof.Machine.execNewActiveFirstOutput s
  | .resynchronisation ok => Sys2Proof.Machine.execResynchronisation ok s
  | .resyncRetry ok => Sys2Proof.Machine.execResyncRetry ok s
  | .calRecordRefresh => Sys2Proof.Machine.execCalRecordRefresh s
  | .replaceTriggerChange lanes => Sys2Proof.Machine.execReplaceTriggerChange lanes s
  | .pkgResetCtl src fn value => Sys2Proof.Machine.execPkgResetCtl src fn value s
  | .warmResetSequence => Sys2Proof.Machine.execWarmResetSequence s
  | .warmResetSelfRefresh => Sys2Proof.Machine.execWarmResetSelfRefresh s
  | .warmStage0Start inp => Sys2Proof.Machine.execWarmStage0Start inp s
  | .darkIdleSelfRefresh => Sys2Proof.Machine.execDarkIdleSelfRefresh s
  | .darkExitTileStart microcodeBad => Sys2Proof.Machine.execDarkExitTileStart microcodeBad s
  | .darkExitSqResume => Sys2Proof.Machine.execDarkExitSqResume s
  | .temperatureRead dies chips hbms => Sys2Proof.Machine.execTemperatureRead dies chips hbms s
  | .thermalShutdown => Sys2Proof.Machine.execThermalShutdown s
  | .railUndervoltage => Sys2Proof.Machine.execRailUndervoltage s
  | .railRecovery inp => Sys2Proof.Machine.execRailRecovery inp s
  | .sclTimeout => Sys2Proof.Machine.execSclTimeout s
  | .mctpMessageTimeout => Sys2Proof.Machine.execMctpMessageTimeout s
  | .mctpAnswerRetry lost => Sys2Proof.Machine.execMctpAnswerRetry lost s
  | .setEndpointId body => Sys2Proof.Machine.execSetEndpointId body s
  | .getEndpointId body => Sys2Proof.Machine.execGetEndpointId body s
  | .getEndpointUuid body => Sys2Proof.Machine.execGetEndpointUuid body s
  | .getMctpVersionSupport body => Sys2Proof.Machine.execGetMctpVersionSupport body s
  | .getMessageTypeSupport body => Sys2Proof.Machine.execGetMessageTypeSupport body s
  | .getVendorDefinedMessageSupport body => Sys2Proof.Machine.execGetVendorDefinedMessageSupport body s
  | .getStatus body => Sys2Proof.Machine.execGetStatus body s
  | .regRead body => Sys2Proof.Machine.execRegRead body s
  | .regWrite body => Sys2Proof.Machine.execRegWrite body s
  | .evtRead body => Sys2Proof.Machine.execEvtRead body s
  | .critical body => Sys2Proof.Machine.execCritical body s
  | .warmReset body => Sys2Proof.Machine.execWarmReset body s
  | .flashBegin body => Sys2Proof.Machine.execFlashBegin body s
  | .flashWrite body => Sys2Proof.Machine.execFlashWrite body s
  | .flashEnd body => Sys2Proof.Machine.execFlashEnd body s
  | .flashStatus body => Sys2Proof.Machine.execFlashStatus body s
  | .soleRetry body inp => Sys2Proof.Machine.execSoleRetry body inp s
  | .mgtFlashCmdBegin src fn value => Sys2Proof.Machine.execMgtFlashCmdBegin src fn value s
  | .mgtFlashCmdWrite src fn value => Sys2Proof.Machine.execMgtFlashCmdWrite src fn value s
  | .mgtFlashCmdEnd src fn value => Sys2Proof.Machine.execMgtFlashCmdEnd src fn value s
  | .flashSectorEraseDone => Sys2Proof.Machine.execFlashSectorEraseDone s
  | .gettid body => Sys2Proof.Machine.execGettid body s
  | .getpldmversion body => Sys2Proof.Machine.execGetpldmversion body s
  | .getpldmtypes body => Sys2Proof.Machine.execGetpldmtypes body s
  | .getpldmcommands body => Sys2Proof.Machine.execGetpldmcommands body s
  | .getpdrrepositoryinfo body => Sys2Proof.Machine.execGetpdrrepositoryinfo body s
  | .getpdr body => Sys2Proof.Machine.execGetpdr body s
  | .getsensorreading body => Sys2Proof.Machine.execGetsensorreading body s
  | .getstatesensorreadings body => Sys2Proof.Machine.execGetstatesensorreadings body s
  | .sensorRefresh watts => Sys2Proof.Machine.execSensorRefresh watts s
  | .eventRecordWrite => Sys2Proof.Machine.execEventRecordWrite s
  | .evtAck src fn value => Sys2Proof.Machine.execEvtAck src fn value s
  | .bypass => Sys2Proof.Machine.execBypass s
  | .idcode => Sys2Proof.Machine.execIdcode s
  | .samplePreload => Sys2Proof.Machine.execSamplePreload s
  | .extest => Sys2Proof.Machine.execExtest s
  | .awlPeek space addr len => Sys2Proof.Machine.execAwlPeek space addr len s
  | .awlRead space addr len => Sys2Proof.Machine.execAwlRead space addr len s
  | .awlWrite space addr bytes => Sys2Proof.Machine.execAwlWrite space addr bytes s
  | .awlHalt die => Sys2Proof.Machine.execAwlHalt die s
  | .awlResume die => Sys2Proof.Machine.execAwlResume die s
  | .awlStep die => Sys2Proof.Machine.execAwlStep die s
  | .lockForce lock => Sys2Proof.Machine.execLockForce lock s
  | .awlTest b mode => Sys2Proof.Machine.execAwlTest b mode s
  | .mgtLockRead agent lock => Sys2Proof.Machine.execMgtLockRead agent lock s
  | .mgtLockWrite agent lock value => Sys2Proof.Machine.execMgtLockWrite agent lock value s
  | .lkSlackMinRead src link => Sys2Proof.Machine.execLkSlackMinRead src link s
  | .registerWrite src fn off size value => Sys2Proof.Machine.execRegisterWrite src fn off size value s
  | .laserEnableDone => Sys2Proof.Machine.execLaserEnableDone s
  | .overloadClear link lane => Sys2Proof.Machine.execOverloadClear link lane s
  | .perstRelease port => Sys2Proof.Machine.execPerstRelease port s
  | .portAShankFailedReplace => Sys2Proof.Machine.execPortAShankFailedReplace s

end Sys2Proof.Machine
end

