-- ==== Sys2Proof/Machine/Upsets.lean ====
section
/-! DEFINITION. What a soft error of the hardware does: bad words, parity errors, bad packets (03 R128, 05, 06 R251-R253, 07, 09, 11 R503, 18 R782). The opcode table has no row for one, so a core cycle brings it (notes/assumptions/2). -/

namespace Sys2Proof.Machine

namespace State

/-- A context cache entry is bad: the context it holds completes with 0x0709 and the epoch aborts (07, Codes). -/
def cacheUpset (s : State) (idx : Nat) : State :=
  match s.ctxInfo idx with
  | some c => if c.cached && c.phase != .final then ((s.record 0x0709 { kind := 1, unit := ctxDie idx } idx).endCtx idx 0x709).trigger 0x0709 else s
  | none => s

/-- A replay entry is bad: the link goes down (11 R503). -/
def replayUpset (s : State) (l : Nat) : State :=
  let r := s.lkk l
  if s.linkUp l && !(r.kept.isEmpty && r.keptRr.isEmpty && r.keptPkt.isEmpty) then (s.record 0x0B08 (linkLoc l)).linkDown l else s

/-- A soft error strikes. -/
def struck (s : State) (u : Config.Upset) : State :=
  match u with
  | .word w d =>
    if placeOf (32 * w) = .unmapped then s else { s with memErr := s.memErr.put w (if d then WordErr.double else WordErr.single) }
  | .accumulator t => if s.started then s.abortWith 0x0305 (s.tileLoc t none) (tileDetail t) else s
  | .sfu t => if s.started then s.abortWith 0x0503 (s.tileLoc t none) (tileDetail t) else s
  | .cache idx => s.cacheUpset idx
  | .reduce y => if s.started then s.abortWith 0x090C { kind := 2, unit := y } else s
  | .replay l => s.replayUpset l
  | .packet => if s.shanksRun then (s.bump (mgtBase + 0x3108)).record 0x1202 else s

/-- A soft error, or none, as the next free value says (notes/assumptions/2). -/
def softError (s : State) : State :=
  match Config.upset s.freeNext with
  | none => { s with freeNext := s.freeNext + 1 }
  | some u => State.struck { s with freeNext := s.freeNext + 1 } u

/-- What an idle core cycle brings: the end of the cycle, the next one, the power loops of the lasers in it (09 R362), and a soft error or none. A package held in reset stands. -/
def idle (s : State) : State :=
  if s.boot.phase = .heldReset then s
  else s.endCycle.tick.powerLoops.softError

end State

end Sys2Proof.Machine
end

