-- ==== Sys2Proof/Safety.lean ====
section
/-! DEFINITION. What the claims about every command speak of: the canonical form of a state's memory and registers, the fused values, and frames by parts of the state. -/

namespace Sys2Proof.Machine

/-- Registers in their canonical form: offsets rising, no word listed at its cold value. -/
def regsWf (r : Tbl Word) : Bool := r.sorted && r.all (fun p => decide (p.2 ≠ coldWord p.1))

/-- Memory and registers are in their canonical form, so that equal contents are equal data. -/
def State.canonical (s : State) : Bool := s.mem.wf && regsWf s.regs

/-- The values that the factory fused and no command changes (15, The fuse map; 00 R3). -/
def Fuses.fixed (f : Fuses) : Nat × Nat × Nat × Nat × Nat × List Byte × List Byte :=
  (f.variant, f.watts, f.mhz, f.serial, f.rootPk, f.sealKey, f.transport)

/-- Everything but the tiles, the register words and the event log stands: what a word on a vector unit may change. -/
def State.sameButTiles (s t : State) : Prop :=
  t = { s with tiles := t.tiles, regs := t.regs }

/-- Only the row sequencers differ. -/
def State.sameButSeqs (s t : State) : Prop := t = { s with seqs := t.seqs }

end Sys2Proof.Machine
end

