-- ==== Sys2Proof/WellFormed.lean ====
section
/-! DEFINITION. Well-formed commands: the limits on operands that their types do not carry, each from the rule that gives the operand. A meaning is total on ill-formed commands too. -/

namespace Sys2Proof

/-- OPCODE of a descriptor is that of the row, or one that the opcode table of 13 R588 does not have (notes/assumptions/20). -/
def opcFits (d : BitVec 512) (opc : Nat) : Bool :=
  let o := (d.extractLsb' 0 8).toNat
  o == opc || !(decide (1 ≤ o ∧ o ≤ 7) || decide (0x40 ≤ o ∧ o ≤ 0x45))

/-- What stage 0 finds: four dies, each with eight strap samples (01 R19). -/
def Stage0In.wf (i : Stage0In) : Bool := i.straps.length == 4 && i.straps.all (fun l => l.length == 8)

/-- What stage 2 finds: rows inside the eight stacks, one first pause a row, and at most 64 repaired lanes a stack (06 R221, R254; 15 R663). -/
def Stage2In.wf (i : Stage2In) : Bool :=
  i.badRows.all (fun r => decide (r < 8 * 0x900000000 / 2048)) && i.lanesRepaired.all (fun p => decide (p.2 ≤ 64)) &&
    i.retention.all (fun p => decide (p.1 < 8 * 0x900000000 / 2048)) && decide ((i.retention.map (fun p => p.1)).Nodup)

/-- A command run stays in its row's 32 columns: COUNT is the number of units less one (06, MEM section). -/
def MemRun.wf (r : MemRun) : Bool := decide (r.col.val + r.count.val ≤ 31)

/-- A slice and a wire that a bridge of 385 slices and 38 wires has (08, 20 R870). -/
def TrainEnd.wf : TrainEnd → Bool
  | .noClock _ sl => decide (sl < 385)
  | .noDeskew _ sl w => decide (sl < 385 ∧ w < 38)
  | .wireError _ sl w => decide (sl < 385 ∧ w < 38)
  | _ => true

/-- Every operand is within its limits; rows not named have operands that their types hold. -/
def Instr.wf : Instr → Bool
  | .resetNRelease i => i.wf
  | .failedStartRetry i => i.wf
  | .retry i => i.wf
  | .warmStage0Start i => i.wf
  | .railRecovery i => i.wf
  | .soleRetry body i => decide (body.length ≤ 1024) && i.wf
  | .stage2 i => i.wf
  | .lastLoad _ d _ => opcFits d 0x40
  | .fwActivate _ d _ => opcFits d 0x41
  | .fuseBurn _ d _ => opcFits d 0x42
  | .keyChange _ d _ => opcFits d 0x43
  | .laserOverride _ d _ => opcFits d 0x44
  | .roleTransfer _ d _ => opcFits d 0x45
  | .ctxSubmit _ d => opcFits d 1
  | .msLoad _ d => opcFits d 2
  | .copy _ d _ => opcFits d 3
  | .synSignal _ d => opcFits d 4
  | .synSet _ d => opcFits d 5
  | .synWait _ d => opcFits d 6
  | .epochMark _ d => opcFits d 7
  | .boundaryStep flights => decide ((flights.map (fun p => p.1)).Nodup)
  | .rdRun _ r => r.wf
  | .wrRun _ r => r.wf
  | .bridgeTraining _ _ e => e.wf
  | .detuneEstimateRefresh _ est => decide ((est.map (fun p => p.1)).Nodup)
  | .alignSecondPhase _ sweeps => sweeps.length == 17 && decide ((sweeps.map (fun p => p.1)).Nodup)
  | .alignDone _ sweeps => sweeps.length == 17 && decide ((sweeps.map (fun p => p.1)).Nodup)
  | .laceRelease words => decide ((words.map (fun p => p.1)).Nodup)
  | .releaseHi words => decide ((words.map (fun p => p.1)).Nodup)
  | .temperatureRead d y h => d.length == 4 && y.length == 4 && h.length == 8
  | .setEndpointId b => decide (b.length ≤ 1024)
  | .getStatus b => decide (b.length ≤ 1024)
  | .regRead b => decide (b.length ≤ 1024)
  | .regWrite b => decide (b.length ≤ 1024)
  | .evtRead b => decide (b.length ≤ 1024)
  | .critical b => decide (b.length ≤ 1024)
  | .warmReset b => decide (b.length ≤ 1024)
  | .flashBegin b => decide (b.length ≤ 1024)
  | .flashWrite b => decide (b.length ≤ 1024)
  | .flashEnd b => decide (b.length ≤ 1024)
  | .flashStatus b => decide (b.length ≤ 1024)
  | .awlPeek _ a _ => decide (a < 2 ^ 64)
  | .awlRead _ a _ => decide (a < 2 ^ 64)
  | .awlWrite _ a _ => decide (a < 2 ^ 64)
  | .registerWrite _ _ off size value => decide (off < 2 ^ 26) && [1, 2, 4, 8].contains size && decide (value.toNat < 2 ^ (8 * size))
  | _ => true

end Sys2Proof
end

