-- ==== Sys2Proof/Certificates/Slice0/Obligations.lean ====
section
/-! DEFINITION. The statements for the provers. Those about one command say that exec answers a next state, under hypotheses on the state and the operands alone, what that state holds, and what it leaves as it was. -/

namespace Sys2Proof.Claims

open Sys2Proof.Machine

/-- The command answers a next state, of which `P` holds. -/
def Answers (c : Instr) (s : State) (P : State → Prop) : Prop := ∃ t, exec c s = .next t ∧ P t

/-- The command answers exactly this next state. -/
def Gives (c : Instr) (s t : State) : Prop := exec c s = .next t

/-! ### Frames of the parts of a package -/

/-- The sequencer of a row becomes `q`; every other sequencer and all else stand. -/
def SetsSeq (c : Instr) (s : State) (r : Nat) (q : RowSeq) : Prop :=
  Answers c s fun t => t = { s with seqs := t.seqs } ∧ t.seq r = q ∧ ∀ k, k ≠ r → t.seq k = s.seq k

/-- The sequencer of a row when its word `w` has issued: the position is behind the word, the next DELTA counts from the next cycle, and the word's slots are on their way to the tiles. -/
def passed (s : State) (r w : Nat) : RowSeq :=
  { s.seq r with
    pos := (s.seq r).pos + 1, since := s.clk.cycle + 1
    flight := (s.seq r).flight.filter (fun x => decide (s.clk.cycle ≤ x.due)) ++ [s.launch r w] }

/-- A slot of the word that reaches the tiles of a row in this cycle is spent where it has the masks and the slot that `m` describes; every other sequencer stands. -/
def Spent (s t : State) (sel : Sel) (k : Slot) (m : Nat → Bool) : Prop :=
  ∀ r, t.seq r =
    if r = sel.row ∧ (s.slotWord sel m).isSome = true then
      { s.seq r with flight := (s.seq r).flight.map (fun f => if f.due = s.clk.cycle then { f with w := k.clear f.w } else f) }
    else s.seq r

/-- The registers of a tile as an operation of this cycle reads them: every result that is due is there. -/
def regsNow (s : State) (k : Nat) : Tile := (s.tile k).settle s.clk.cycle

/-- The results that a word's units put on their way to VD: one a unit, with a value for each of its lanes. -/
def unitResults (s : State) (sel : Sel) (m : Nat → Bool) (lat vd : Nat) (f : Tile → Nat → Word) (k : Nat) : List VRes :=
  ((s.slotTargets sel m).filter (fun p => p.1 == k)).map (fun p =>
    { due := s.clk.cycle + lat, vd := vd, lanes := (lanesOf p.2).map (fun l => (l, f (regsNow s k) l)) })

/-- A lane operation in the vector slot that `m` describes: each unit that the arriving word names puts `f` of its lanes on its way to VD, due after `lat` cycles; tiles that it does not name, and everything else of those it does, stand. -/
def LaneOp (c : Instr) (sel : Sel) (m : Nat → Bool) (lat vd : Nat) (f : Tile → Nat → Word) : Prop :=
  ∀ s : State, Answers c s fun t =>
    t = { s with tiles := t.tiles, seqs := t.seqs } ∧ Spent s t sel .vec m ∧
    ∀ k, t.tile k = { s.tile k with vres := (s.tile k).vres ++ unitResults s sel m lat vd f k }

/-- A lane conversion: as a lane operation of 3 cycles, with the flags of its lanes; no flag is lost, and no other register changes. -/
def LaneCvt (c : Instr) (sel : Sel) (m : Nat → Bool) (vd vs1 : Nat) (f : Word → Word → Word × NumFlags) : Prop :=
  ∀ s : State, Answers c s fun t =>
    t = { s with tiles := t.tiles, seqs := t.seqs, regs := t.regs, setNow := t.setNow } ∧ Spent s t sel .vec m ∧
    (∀ k, t.tile k = { s.tile k with vres := (s.tile k).vres ++ unitResults s sel m 3 vd (fun x l => (f (x.reg vs1 l) (x.reg vd l)).1) k }) ∧
    (∀ off, s.word off &&& t.word off = s.word off) ∧
    (∀ off, (∀ p ∈ s.slotTargets sel m, off ≠ tileReg p.1 + 4) → t.word off = s.word off) ∧
    ∀ p ∈ s.slotTargets sel m, ∀ l ∈ lanesOf p.2,
      let w := BitVec.ofNat 32 ((f ((regsNow s p.1).reg vs1 l) ((regsNow s p.1).reg vd l)).2.bits * 2 ^ (4 * flagQuarter p.2))
      t.word (tileReg p.1 + 4) &&& w = w

/-- An SFU word: every lane that it names waits for its grant with VS1 as it stands, where none of them waited; all else stands. -/
def LaneRequest (c : Instr) (sel : Sel) (m : Nat → Bool) (op : SfuOp) (vd vs1 : Nat) : Prop :=
  ∀ s : State, (∀ p ∈ s.slotTargets sel m, ∀ l ∈ lanesOf p.2, (s.tile p.1).sfuWait.find l = none) → Answers c s fun t =>
    t = { s with tiles := t.tiles, seqs := t.seqs } ∧ Spent s t sel .vec m ∧
    ∀ k, t.tile k = { s.tile k with sfuWait := (t.tile k).sfuWait } ∧
      ∀ l, (t.tile k).sfuWait.find l =
        if (s.slotTargets sel m).any (fun p => p.1 == k && (lanesOf p.2).contains l) then some { op := op, vd := vd, x := (regsNow s k).reg vs1 l }
        else (s.tile k).sfuWait.find l

/-- A block conversion: each unit that the word names puts the bytes of its string into the words of VD that hold them, due after 3 cycles, and sets the flags; `g` gives the string, its flags and its byte offset in the group from the sources. -/
def BlockCvt (c : Instr) (sel : Sel) (m : Nat → Bool) (vd vs1 : Nat) (g : List Word → List Byte × NumFlags × Nat) : Prop :=
  ∀ s : State,
    let of := fun (p : Nat × Nat) => g ((lanesOf p.2).map ((regsNow s p.1).reg vs1))
    Answers c s fun t =>
      t = { s with tiles := t.tiles, seqs := t.seqs, regs := t.regs, setNow := t.setNow } ∧ Spent s t sel .vec m ∧
      (∀ k, t.tile k = { s.tile k with vres := (s.tile k).vres ++ ((s.slotTargets sel m).filter (fun p => p.1 == k)).map (fun p =>
        let base := (lanesOf p.2).headD 0
        { due := s.clk.cycle + 3, vd := vd
          lanes := (putBytes (fun l => (regsNow s k).reg vd (base + l)) (of p).2.2 (of p).1).map (fun x => (base + x.1, x.2)) }) }) ∧
      (∀ off, s.word off &&& t.word off = s.word off) ∧
      (∀ off, (∀ p ∈ s.slotTargets sel m, off ≠ tileReg p.1 + 4) → t.word off = s.word off) ∧
      ∀ p ∈ s.slotTargets sel m,
        let w := BitVec.ofNat 32 ((of p).2.1.bits * 2 ^ (4 * flagQuarter p.2))
        t.word (tileReg p.1 + 4) &&& w = w

/-- The element string of an MX format at POS, and the scale string at a block number (04, block forms). -/
def elemString (el : MxElem) (fn : BitVec 5) (src : List Word) : List Byte × NumFlags × Nat :=
  ((mxString el (fnRnd fn) src).1, (mxString el (fnRnd fn) src).2, mxOffset el src.length (fnPos fn))
def scaleString (el : MxElem) (fn : BitVec 5) (src : List Word) : List Byte × NumFlags × Nat :=
  ((mxScales el src).1, (mxScales el src).2, src.length / 32 * fn.toNat)

/-- Nothing happens in the tiles and channels by itself at the end of this cycle: no stream runs or is queued, no SWAP is in progress but on the quarters that `busy` names, no SPILL's bytes leave, and no word holds an error. -/
def Quiet (s : State) (busy : Nat → Nat → Bool := fun _ _ => false) : Prop :=
  s.memErr = [] ∧ (∀ k u, ((s.tile k).unit u).running = none ∧ ((s.tile k).unit u).queued = none) ∧
    (∀ k u, busy k u = false → ((s.tile k).unit u).swapAt = none) ∧ ∀ c, ∀ q ∈ (s.chan c).reqs, s.leavesNow c q = false

/-- The state behind the end of a cycle, but for what the parts of transfers did: these are the parts still to come. -/
def cycleEnd (s : State) (rest : List Job) : State := { s with work := rest, setNow := [], wrote := [] }

/-- The management state with one more event in its staging queue, stamped with the state's time and epoch. -/
def noted (s : State) (code : Nat) (loc : Loc) (detail : Nat) : Mgt :=
  { s.mgt with staging := State.insertEvent ⟨s.clk.now, s.clk.sub, s.clk.epoch, code, loc, detail⟩ s.mgt.staging }

end Sys2Proof.Claims

open Sys2Proof Sys2Proof.Machine Sys2Proof.Claims

/-! ### The queue and every command -/

/-- The command at the front of the queue runs with the queue's rest (the model's queue: notes/assumptions/1). -/
def Obligations.StepRunsTheFront : Prop :=
  ∀ (c : Instr) (r : List Instr) (s : State), s.pending = c :: r → step s = exec c { s with pending := r }

/-- With no command waiting, one core cycle ends and may bring a soft error (notes/assumptions/2). Its end carries out every part of a transfer whose cycle has come, and keeps time; then the clock moves on: time never runs back, and the epoch number stands; then the lasers' power loops run. A soft error makes a stored word bad, aborts the running epoch with its code (accumulator bank, SFU, reduce engine, a cached context, which completes with 0x0709), takes a link down (a replay entry, 0x0B08), or drops a packet (0x1202, MGT_SMB_DROP). -/
def Obligations.IdleStepIsACycle : Prop :=
  (∀ s : State, s.pending = [] → step s = .next s.idle) ∧
  (∀ s : State, s.boot.phase = .heldReset → s.idle = s) ∧
  (∀ s : State, s.boot.phase ≠ .heldReset → ∃ u : Option Config.Upset, s.idle =
    let v := s.endCycle.tick.powerLoops
    match u with
    | none => { v with freeNext := v.freeNext + 1 }
    | some x => ({ v with freeNext := v.freeNext + 1 } : State).struck x) ∧
  (∀ s : State, s.endCycle.clk = s.clk ∧ s.endCycle.pending = s.pending ∧ s.endCycle.boot.phase = s.boot.phase ∧
    s.endCycle.setNow = [] ∧ s.endCycle.wrote = [] ∧ ∀ j ∈ s.endCycle.work, s.clk.cycle < j.due) ∧
  (∀ s : State, s.work = [] → Quiet s → s.endCycle = cycleEnd s []) ∧
  (∀ s : State, s.tick = { s with clk := s.tick.clk } ∧ s.clk.now ≤ s.tick.clk.now ∧ s.tick.clk.epoch = s.clk.epoch ∧
    s.clk.cycle ≤ s.tick.clk.cycle ∧ s.tick.clk.cycle ≤ s.clk.cycle + 1) ∧
  (∀ s : State, s.powerLoops = { s with opt := s.powerLoops.opt }) ∧
  ∀ s : State,
    (∀ w d, placeOf (32 * w) ≠ .unmapped →
      s.struck (.word w d) = { s with memErr := s.memErr.put w (if d = true then WordErr.double else WordErr.single) }) ∧
    (s.started = true → s.mgt.staging.length < 64 → s.abort = none → s.clk.pauseFrom = none →
      let ab := fun (code : Nat) => some ({ epoch := s.clk.epoch, code := code, start := s.clk.now } : Abort)
      (∀ t, s.struck (.accumulator t) = { s with abort := ab 0x305, mgt := noted s 0x305 (s.tileLoc t none) (State.tileDetail t) } ∧
        s.struck (.sfu t) = { s with abort := ab 0x503, mgt := noted s 0x503 (s.tileLoc t none) (State.tileDetail t) }) ∧
      (∀ y, s.struck (.reduce y) = { s with abort := ab 0x90C, mgt := noted s 0x90C { kind := 2, unit := y } 0 }) ∧
      ∀ idx c, s.ctxInfo idx.val = some c → c.cached = true → c.phase ≠ .final → c.idx = idx.val →
        (s.struck (.cache idx)).abort = ab 0x709 ∧ ∀ k, (s.struck (.cache idx)).ctxInfo idx.val = some k → k.phase = .final) ∧
    (∀ l : Fin 128, s.linkUp l = true → (s.lkk l).kept ≠ [] → ((s.struck (.replay l)).lnk l).st ≠ .active) ∧
    (s.shanksRun = true → (s.word (mgtBase + 0x3108)).toNat < 0xFFFFFFFE →
      ((s.struck .packet).word (mgtBase + 0x3108)).toNat = (s.word (mgtBase + 0x3108)).toNat + 1)

/-- No command adds to or takes from the queue of those that wait. -/
def Obligations.CommandsLeaveTheQueue : Prop :=
  ∀ (c : Instr) (s t : State), exec c s = .next t → t.pending = s.pending

/-- Every step keeps memory and registers in their canonical form. -/
def Obligations.StepsKeepTheCanonicalForm : Prop :=
  ∀ s t : State, s.canonical = true → step s = .next t → t.canonical = true

/-- Every step keeps the fused values: variant, power limit, core clock, serial number and keys. -/
def Obligations.StepsKeepTheFuses : Prop :=
  ∀ s t : State, step s = .next t → t.fuse.fixed = s.fuse.fixed

/-- Every step adds to what the package has put out, and takes back nothing; free values are taken in order. -/
def Obligations.StepsOnlyAddToOutputs : Prop :=
  ∀ s t : State, step s = .next t → s.out <+: t.out ∧ s.freeNext ≤ t.freeNext

/-- Every command answers a next state: none stops. -/
def Obligations.EveryCommandAnswers : Prop :=
  ∀ (c : Instr) (s : State), ∃ t, exec c s = .next t

/-! ### Row sequencers -/

/-- The CTL operation of the word that issues in this cycle passes the position and sets its register: NOP (also code 0xE, which is none), SETN, SETA0, SETA1, SETA2, SETACC, LOOP, ENDLOOP, HALT; BIND and NEXTCTX do so in a serving row whose gate is open, and only pass the position in a training row or behind a closed gate. -/
def Obligations.CtlWords : Prop :=
  ∀ (s : State) (row : Fin 32) (arg : BitVec 12) (w : Nat), s.issuing row = some w →
    let q := passed s row w
    ((isCtl 0 w || isCtl 0xE w) = true → SetsSeq (.ctlNop row) s row q) ∧
    (isCtlArg 1 arg.toNat w = true → SetsSeq (.setn row arg) s row { q with n := arg.toNat + 1 }) ∧
    (isCtlArg 2 arg.toNat w = true → SetsSeq (.seta0 row arg) s row { q with a := 2 ^ 12 * (q.a / 2 ^ 12) + arg.toNat }) ∧
    (isCtlArg 3 arg.toNat w = true → SetsSeq (.seta1 row arg) s row { q with a := 2 ^ 24 * (q.a / 2 ^ 24) + 2 ^ 12 * arg.toNat + q.a % 2 ^ 12 }) ∧
    (isCtlArg 4 arg.toNat w = true → SetsSeq (.seta2 row arg) s row { q with a := 2 ^ 24 * arg.toNat + q.a % 2 ^ 24 }) ∧
    (isCtlArg 5 arg.toNat w = true → SetsSeq (.setacc row arg) s row { q with accbase := arg.toNat }) ∧
    (isCtl 0xF w = true → SetsSeq (.halt row) s row { q with running := false, gated := false }) ∧
    (isCtlArg 6 arg.toNat w = true → q.loops.length < 4 → SetsSeq (.loop row arg) s row { q with loops := (q.pos, arg.toNat) :: q.loops }) ∧
    (isCtl 7 w = true →
      (∀ p n rest, q.loops = (p, n + 1) :: rest → SetsSeq (.endloop row) s row { q with pos := p, loops := (p, n) :: rest }) ∧
      ∀ p rest, q.loops = (p, 0) :: rest → SetsSeq (.endloop row) s row { q with loops := rest }) ∧
    (s.serving row = true → q.gated = false →
      (isCtlArg 9 arg.toNat w = true →
        SetsSeq (.bind row arg) s row { q with bound := some (arg.toNat, (s.boundList row arg.toNat).length), ctxPos := 0 }) ∧
      (isCtl 0xA w = true → SetsSeq (.nextctx row) s row { q with ctxPos := q.ctxPos + 1 })) ∧
    (s.serving row = false ∨ q.gated = true →
      (isCtlArg 9 arg.toNat w = true → SetsSeq (.bind row arg) s row q) ∧ (isCtl 0xA w = true → SetsSeq (.nextctx row) s row q))

/-- The vector unit: each lane operation of the arriving word with its latency (NOP, FADD, FMUL, FMA, FMAX, FMIN, IADD, IMUL, SHIFT, AND, OR, XOR, SEL). A NOP stands for every word whose vector slot does nothing; an SFU word whose function is not listed makes requests that will write nothing. -/
def Obligations.VectorOperations : Prop :=
  ∀ (sel : Sel) (vd vs1 vs2 : Fin 64),
    let unlisted := fun (w : Nat) => isSfu (eb w 88 5) [] w && !fnListed (eb w 88 5)
    let vop := fun (op : Nat) => isVop op vd vs1 vs2
    (∀ s : State, s.slotWord sel unlisted = none → Gives (.nop sel) s s) ∧
    LaneRequest (.nop sel) sel unlisted .unlisted 0 0 ∧
    LaneOp (.fadd sel vd vs1 vs2) sel (vop 0x1) 4 vd (fun t l => fadd32 (t.reg vs1 l) (t.reg vs2 l)) ∧
    LaneOp (.fmul sel vd vs1 vs2) sel (vop 0x2) 4 vd (fun t l => fmul32 (t.reg vs1 l) (t.reg vs2 l)) ∧
    LaneOp (.fma sel vd vs1 vs2) sel (vop 0x3) 4 vd (fun t l => fma32 (t.reg vs1 l) (t.reg vs2 l) (t.reg vd l)) ∧
    LaneOp (.fmax sel vd vs1 vs2) sel (vop 0x4) 2 vd (fun t l => fmax32 (t.reg vs1 l) (t.reg vs2 l)) ∧
    LaneOp (.fmin sel vd vs1 vs2) sel (vop 0x5) 2 vd (fun t l => fmin32 (t.reg vs1 l) (t.reg vs2 l)) ∧
    LaneOp (.iadd sel vd vs1 vs2) sel (vop 0x6) 2 vd (fun t l => t.reg vs1 l + t.reg vs2 l) ∧
    LaneOp (.imul sel vd vs1 vs2) sel (vop 0x7) 3 vd (fun t l => t.reg vs1 l * t.reg vs2 l) ∧
    LaneOp (.shift sel vd vs1 vs2) sel (vop 0x8) 2 vd (fun t l => shiftLane (t.reg vs1 l) (t.reg vs2 l)) ∧
    LaneOp (.and sel vd vs1 vs2) sel (vop 0x9) 2 vd (fun t l => t.reg vs1 l &&& t.reg vs2 l) ∧
    LaneOp (.or sel vd vs1 vs2) sel (vop 0xA) 2 vd (fun t l => t.reg vs1 l ||| t.reg vs2 l) ∧
    LaneOp (.xor sel vd vs1 vs2) sel (vop 0xB) 2 vd (fun t l => t.reg vs1 l ^^^ t.reg vs2 l) ∧
    LaneOp (.sel sel vd vs1 vs2) sel (vop 0xC) 2 vd (fun t l => if t.reg vd l ≠ 0#32 then t.reg vs1 l else t.reg vs2 l)

/-- The special functions and the statistics words that go through the grant: a word makes a request of every lane that it names (EXP, EXP2, LOG, LOG2, RECIP, RSQRT, SQRT, SIGMOID, TANH, GELU, SOFTPLUS, SIN, COS, ST_CLR, ST_SMX, ST_WEL, ST_GETM, ST_GETS, ST_GETMEAN, ST_GETVAR, ST_EXPM, ST_RSTD); ST_RED holds each group that it names until its latency has passed. -/
def Obligations.SfuWords : Prop :=
  ∀ (sel : Sel) (vd vs1 : Fin 64),
    let d := (70, 6, vd.val)
    let a := (76, 6, vs1.val)
    let fn := fun (c : Nat) => isSfu c [d, a]
    LaneRequest (.exp sel vd vs1) sel (fn 0x0) (.fn .exp) vd vs1 ∧ LaneRequest (.exp2 sel vd vs1) sel (fn 0x1) (.fn .exp2) vd vs1 ∧
    LaneRequest (.log sel vd vs1) sel (fn 0x2) (.fn .log) vd vs1 ∧ LaneRequest (.log2 sel vd vs1) sel (fn 0x3) (.fn .log2) vd vs1 ∧
    LaneRequest (.recip sel vd vs1) sel (fn 0x4) (.fn .recip) vd vs1 ∧ LaneRequest (.rsqrt sel vd vs1) sel (fn 0x5) (.fn .rsqrt) vd vs1 ∧
    LaneRequest (.sqrt sel vd vs1) sel (fn 0x6) (.fn .sqrt) vd vs1 ∧ LaneRequest (.sigmoid sel vd vs1) sel (fn 0x7) (.fn .sigmoid) vd vs1 ∧
    LaneRequest (.tanh sel vd vs1) sel (fn 0x8) (.fn .tanh) vd vs1 ∧ LaneRequest (.gelu sel vd vs1) sel (fn 0x9) (.fn .gelu) vd vs1 ∧
    LaneRequest (.softplus sel vd vs1) sel (fn 0xA) (.fn .softplus) vd vs1 ∧ LaneRequest (.sin sel vd vs1) sel (fn 0xB) (.fn .sin) vd vs1 ∧
    LaneRequest (.cos sel vd vs1) sel (fn 0xC) (.fn .cos) vd vs1 ∧
    LaneRequest (.stClr sel) sel (isSfu 0x10 []) .clr 0 0 ∧ LaneRequest (.stSmx sel vs1) sel (isSfu 0x11 [a]) .smx 0 vs1 ∧
    LaneRequest (.stWel sel vs1) sel (isSfu 0x12 [a]) .wel 0 vs1 ∧
    LaneRequest (.stGetm sel vd) sel (isSfu 0x14 [d]) .getm vd 0 ∧ LaneRequest (.stGets sel vd) sel (isSfu 0x15 [d]) .gets vd 0 ∧
    LaneRequest (.stGetmean sel vd) sel (isSfu 0x16 [d]) .getmean vd 0 ∧ LaneRequest (.stGetvar sel vd) sel (isSfu 0x17 [d]) .getvar vd 0 ∧
    LaneRequest (.stExpm sel vd vs1) sel (fn 0x18) .expm vd vs1 ∧ LaneRequest (.stRstd sel vd) sel (isSfu 0x19 [d]) .rstd vd 0 ∧
    ∀ s, Answers (.stRed sel) s fun t => t = { s with tiles := t.tiles, seqs := t.seqs } ∧ Spent s t sel .vec (isSfu 0x13 []) ∧
      ∀ k, t.tile k = { s.tile k with red := (t.tile k).red } ∧
      ∀ u, (t.tile k).red.find u =
        if (k, u) ∈ s.slotTargets sel (isSfu 0x13 []) then some (s.clk.cycle + redLatency (s.sfuBounds k) u) else (s.tile k).red.find u

/-- The end of an operation of a tile: VECTOR_OP_RESULT and SFU_RESULT_WRITE write the least due result to VD, an SFU's behind the vector results that are due with it; SFU_GRANT takes the request of the lane whose turn it is, updates its statistics and sends what it writes; ST_RED_DONE gives every lane of the group the total. -/
def Obligations.TileResults : Prop :=
  ∀ (s : State) (k : Fin 128) (f : Fin 32) (q : Fin 4),
    (∀ r rest, takeDue VRes.due s.clk.cycle (s.tile k).vres = some (r, rest) →
      Gives (.vectorOpResult k) s (s.setTile k ({ s.tile k with vres := rest }.setRegs r.vd r.lanes))) ∧
    (∀ r rest, takeDue SfuRes.due s.clk.cycle (s.tile k).sfuRes = some (r, rest) →
      Gives (.sfuResultWrite k) s (s.setTile k (({ s.tile k with sfuRes := rest }.settleVec r.due).setReg r.vd r.lane r.value))) ∧
    (let lane := 8 * f.val + s.clk.cycle % 8
     let x := s.tile k
     let b := s.sfuBounds k
     let st := x.stats.get {} lane
     ∀ r, x.sfuWait.find lane = some r → (r.op.isStat = true → x.red.find (s.unitOf k (lane / 64)) = none) →
      Gives (.sfuGrant k f) s (s.setTile k { x with
        sfuWait := x.sfuWait.del lane, stats := x.stats.set {} lane (r.op.state b r.x st)
        sfuRes := x.sfuRes ++ (r.op.value b (s.word (tileReg k + 0x14)) r.x st).toList.map (fun v =>
          { due := s.clk.cycle + sfuLatency b r.op, lane := lane, vd := r.vd, value := v }) })) ∧
    (let u := s.unitOf k q
     let x := s.tile k
     let tot := statTree (s.sfuBounds k) (if u = 4 then 8 else 6) ((lanesOf u).map (x.stats.get {}))
     ∀ due, x.red.find u = some due → due ≤ s.clk.cycle →
      Gives (.stRedDone k q) s (s.setTile k { x with red := x.red.del u, stats := (lanesOf u).foldl (fun m l => m.set {} l tot) x.stats }))

/-- The lane conversions. From binary32 to floating-point and integer formats, RANGE24 and LOGI8, and between integers, each code inserted at its position of VD; into binary32, whole lanes with no flag. -/
def Obligations.LaneConversions : Prop :=
  ∀ (sel : Sel) (vd vs1 : Fin 64) (sat : Bool) (fn : BitVec 5),
    let m := fun (code : Nat) => isCvt (cvtCode code sat) vd vs1 fn.toNat
    LaneCvt (.cvtBinary32ToBinary16 sel vd vs1 sat fn) sel (m 0x00) vd vs1 (narrowLane 16 fn (fun r x => cvtFloat fBinary16 r sat x)) ∧
    LaneCvt (.cvtBinary32ToBfloat16 sel vd vs1 sat fn) sel (m 0x01) vd vs1 (narrowLane 16 fn (fun r x => cvtFloat fBfloat16 r sat x)) ∧
    LaneCvt (.cvtBinary32ToFp8E4m3 sel vd vs1 sat fn) sel (m 0x02) vd vs1 (narrowLane 8 fn (fun r x => cvtFloat fE4M3 r sat x)) ∧
    LaneCvt (.cvtBinary32ToFp8E5m2 sel vd vs1 sat fn) sel (m 0x03) vd vs1 (narrowLane 8 fn (fun r x => cvtFloat fE5M2 r sat x)) ∧
    LaneCvt (.cvtBinary32ToInt32 sel vd vs1 sat fn) sel (m 0x04) vd vs1 (narrowLane 32 fn (cvtInt 32 (-(2 ^ 31)) (2 ^ 31 - 1) 0)) ∧
    LaneCvt (.cvtBinary32ToInt16 sel vd vs1 sat fn) sel (m 0x05) vd vs1 (narrowLane 16 fn (cvtInt 16 (-32768) 32767 0)) ∧
    LaneCvt (.cvtBinary32ToInt8 sel vd vs1 sat fn) sel (m 0x06) vd vs1 (narrowLane 8 fn (cvtInt 8 (-128) 127 0)) ∧
    LaneCvt (.cvtBinary32ToUint8 sel vd vs1 sat fn) sel (m 0x07) vd vs1 (narrowLane 8 fn (cvtInt 8 0 255 0)) ∧
    LaneCvt (.cvtBinary32ToInt4 sel vd vs1 sat fn) sel (m 0x08) vd vs1 (narrowLane 4 fn (cvtInt 4 (-8) 7 0)) ∧
    LaneCvt (.cvtBinary32ToRange24 sel vd vs1 sat fn) sel (m 0x09) vd vs1 (narrowLane 24 fn (cvtInt 24 0 (2 ^ 24 - 1) 12)) ∧
    LaneCvt (.cvtBinary32ToLogi8 sel vd vs1 sat fn) sel (m 0x0A) vd vs1 (narrowLane 8 fn (fun _ x => cvtLogi8 x)) ∧
    LaneCvt (.cvtInt32ToInt8 sel vd vs1 sat fn) sel (m 0x16) vd vs1 (narrowLane 8 fn (fun _ x => cvtClamp 8 (-128) 127 x)) ∧
    LaneCvt (.cvtInt32ToUint8 sel vd vs1 sat fn) sel (m 0x17) vd vs1 (narrowLane 8 fn (fun _ x => cvtClamp 8 0 255 x)) ∧
    LaneCvt (.cvtInt32ToInt4 sel vd vs1 sat fn) sel (m 0x18) vd vs1 (narrowLane 4 fn (fun _ x => cvtClamp 4 (-8) 7 x)) ∧
    LaneCvt (.cvtInt32ToInt16 sel vd vs1 sat fn) sel (m 0x19) vd vs1 (narrowLane 16 fn (fun _ x => cvtClamp 16 (-32768) 32767 x)) ∧
    LaneCvt (.cvtInt32ToBinary32 sel vd vs1 sat fn) sel (m 0x0B) vd vs1 (fun a _ => (intTo32 (fnRnd fn) a.toInt, {})) ∧
    LaneCvt (.cvtBinary16ToBinary32 sel vd vs1 sat fn) sel (m 0x0C) vd vs1 (widenLane 16 fn (fun _ c => floatTo32 fBinary16 c)) ∧
    LaneCvt (.cvtBfloat16ToBinary32 sel vd vs1 sat fn) sel (m 0x0D) vd vs1 (widenLane 16 fn (fun _ c => floatTo32 fBfloat16 c)) ∧
    LaneCvt (.cvtFp8E4m3ToBinary32 sel vd vs1 sat fn) sel (m 0x0E) vd vs1 (widenLane 8 fn (fun _ c => floatTo32 fE4M3 c)) ∧
    LaneCvt (.cvtFp8E5m2ToBinary32 sel vd vs1 sat fn) sel (m 0x0F) vd vs1 (widenLane 8 fn (fun _ c => floatTo32 fE5M2 c)) ∧
    LaneCvt (.cvtInt16ToBinary32 sel vd vs1 sat fn) sel (m 0x10) vd vs1 (widenLane 16 fn (fun r c => intTo32 r (toSigned 16 c))) ∧
    LaneCvt (.cvtInt8ToBinary32 sel vd vs1 sat fn) sel (m 0x11) vd vs1 (widenLane 8 fn (fun r c => intTo32 r (toSigned 8 c))) ∧
    LaneCvt (.cvtUint8ToBinary32 sel vd vs1 sat fn) sel (m 0x12) vd vs1 (widenLane 8 fn (fun r c => intTo32 r c)) ∧
    LaneCvt (.cvtInt4ToBinary32 sel vd vs1 sat fn) sel (m 0x13) vd vs1 (widenLane 4 fn (fun r c => intTo32 r (toSigned 4 c))) ∧
    LaneCvt (.cvtRange24ToBinary32 sel vd vs1 sat fn) sel (m 0x14) vd vs1 (widenLane 24 fn (fun _ c => range24Val c)) ∧
    LaneCvt (.cvtLogi8ToBinary32 sel vd vs1 sat fn) sel (m 0x15) vd vs1 (widenLane 8 fn (fun _ c => logi8Val c))

/-- The block conversions to MX formats at every POS that holds the string, and the scale string of each format. -/
def Obligations.BlockConversions : Prop :=
  ∀ (sel : Sel) (vd vs1 : Fin 64) (fn : BitVec 5),
    let m := fun (i : Nat) (scale : Bool) => isCvt (cvtCode (0x1A + i) scale) vd vs1 fn.toNat
    (mxPosOk (mxElem 0) (fnPos fn) = true → BlockCvt (.cvtBinary32ToMxfp8E4m3 sel vd vs1 false fn) sel (m 0 false) vd vs1 (elemString (mxElem 0) fn)) ∧
    (mxPosOk (mxElem 1) (fnPos fn) = true → BlockCvt (.cvtBinary32ToMxfp8E5m2 sel vd vs1 false fn) sel (m 1 false) vd vs1 (elemString (mxElem 1) fn)) ∧
    (mxPosOk (mxElem 2) (fnPos fn) = true → BlockCvt (.cvtBinary32ToMxfp6E3m2 sel vd vs1 false fn) sel (m 2 false) vd vs1 (elemString (mxElem 2) fn)) ∧
    (mxPosOk (mxElem 3) (fnPos fn) = true → BlockCvt (.cvtBinary32ToMxfp6E2m3 sel vd vs1 false fn) sel (m 3 false) vd vs1 (elemString (mxElem 3) fn)) ∧
    (mxPosOk (mxElem 4) (fnPos fn) = true → BlockCvt (.cvtBinary32ToMxfp4E2m1 sel vd vs1 false fn) sel (m 4 false) vd vs1 (elemString (mxElem 4) fn)) ∧
    (mxPosOk (mxElem 5) (fnPos fn) = true → BlockCvt (.cvtBinary32ToMxint8 sel vd vs1 false fn) sel (m 5 false) vd vs1 (elemString (mxElem 5) fn)) ∧
    ∀ code : Fin 6, BlockCvt (.cvtMxScaleString sel code vd vs1 fn) sel (m code true) vd vs1 (scaleString (mxElem code) fn)

/-! ### The matrix array and the MOV slot -/

/-- LOADW fills the shadow registers of every unit that it names, outside a SWAP, complete after the cycles of its load; LDACC puts the accumulator entries of row ACCBASE + VS1 on their way to VD. -/
def Obligations.ArrayLoads : Prop :=
  (∀ (s : State) (sel : Sel) (fmt : BitVec 4) (addr : BitVec 14),
    let hits := s.slotTargets sel (isLoadw fmt.toNat addr.toNat)
    s.memErr = [] → (∀ p ∈ hits, s.inSwap p.1 p.2 = false ∧ ((s.tile p.1).unit p.2).queued = none) →
    Answers (.loadw sel fmt addr) s fun t => t = { s with tiles := t.tiles, seqs := t.seqs } ∧
      Spent s t sel .arr (isLoadw fmt.toNat addr.toNat) ∧
      ∀ k, t.tile k = { s.tile k with units := (t.tile k).units } ∧
        ∀ u, (t.tile k).unit u =
          if (k, u) ∈ hits then
            { (s.tile k).unit u with shadow := some (s.readBlock u fmt.toNat (State.slotAddr k u addr.toNat)), ready := s.clk.cycle + loadCycles fmt.toNat }
          else (s.tile k).unit u) ∧
  ∀ (s : State) (sel : Sel) (vd vs1 vs2 : Fin 64) (k u : Nat) (x : Flight),
    s.slotWord sel (isVop 0x10 vd vs1 vs2) = some x → s.unitsNamed sel = [(k, u)] → s.inSwap k u = false → (s.tile k).accErr = [] →
    let col := fun l => if u = 4 then l else l % 64 + 64 * (vs2.val % 2)
    Gives (.ldacc sel vd vs1 vs2) s ((s.spendSlot sel.row .vec).setTile k { s.tile k with
      vres := (s.tile k).vres ++ [{ due := s.clk.cycle + 3, vd := vd.val
                                    lanes := (lanesOf u).map (fun l => (l, (s.tile k).acc.get 0#32 (accIndex u (x.accbase + vs1) (col l)))) }] })

/-- STREAM, STREAMW and QUEUED_STREAM_START on one unit: with no stream running, the shadow block becomes active and the vectors begin, those of a west stream 4 cycles after its neighbour's, or wait for it; behind a running stream, one is queued, and it begins when the running one's last vector has entered. -/
def Obligations.ArrayStreams : Prop :=
  ∀ (s : State) (k u : Nat),
    let x := (s.tile k).unit u
    let begins := fun (st : AStream) (b : WBlock) (y : AUnit) =>
      { y with active := some b, shadow := none, running := some { st with weights := some b, waits := false, partly := false }, draining := State.drained x }
    let alone := k % 4 = 3 ∨ ∀ r, ((s.tile (k + 1)).unit u).running = some r → r.waits = false
    let took := fun (v : State) (y : AUnit) (t : State) =>
      (t.tile k).unit u = y ∧ (∀ j, j < k → t.tile j = s.tile j) ∧
      (alone → t = { v with tiles := t.tiles } ∧ (∀ j, j ≠ k → t.tile j = s.tile j) ∧
        t.tile k = { s.tile k with units := (t.tile k).units } ∧ ∀ i, i ≠ u → (t.tile k).unit i = (s.tile k).unit i)
    (∀ (sel : Sel) (fmt : BitVec 4) (addr : BitVec 14) (acc : BitVec 2) (west : Bool) (w : Flight),
      let c : Instr := if west = true then .streamw sel fmt addr acc else .stream sel fmt addr acc
      let st := { State.wordStream w fmt.toNat west acc.toNat with base := State.slotAddr k u addr.toNat }
      let st1 := s.streamStart k u st s.clk.cycle
      let v := s.spendSlot sel.row .arr
      s.slotWord sel (isStream (if west = true then 3 else 2) fmt.toNat addr.toNat acc.toNat) = some w → s.unitsNamed sel = [(k, u)] →
      s.inSwap k u = false → (arrayFmt fmt.toNat).isSome = true → x.queued = none →
      (∀ b, unitBusy x s.clk.cycle = false → st1.waits = false → x.shadow.or x.active = some b → fmtPairs fmt.toNat b.fmt = true →
        (x.shadow.isSome = true → x.ready ≤ st1.start) → Answers c s (took v (begins st1 b x))) ∧
      (unitBusy x s.clk.cycle = false → st1.waits = true →
        Gives c s (v.setTile k ((s.tile k).setUnit u { x with running := some st1, draining := State.drained x }))) ∧
      (unitBusy x s.clk.cycle = true → Gives c s (v.setTile k ((s.tile k).setUnit u { x with queued := some st })))) ∧
    ∀ (kk : Fin 128) (q : Fin 4) st b, kk.val = k → s.unitOf k q = u → x.queued = some st → unitBusy x s.clk.cycle = false →
      let e := match x.running with
        | some r => r.start + r.n
        | none => s.clk.cycle
      let st1 := s.streamStart k u st e
      st1.waits = false → x.shadow.or x.active = some b → fmtPairs st.fmt b.fmt = true → (x.shadow.isSome = true → x.ready ≤ st1.start) →
      Answers (.queuedStreamStart kk q) s (took s (begins st1 b { x with queued := none }))

/-- A pass result: the column sums of the next vector enter the accumulator bank, with the flags that they raise. -/
def Obligations.ArrayResults : Prop :=
  ∀ (s : State) (k : Fin 128) (q : Fin 4),
    let u := s.unitOf k q
    let x := (s.tile k).unit u
    ∀ st drains d b, State.nextPass x = some (st, drains) → st.waits = false → st.vecs[st.delivered]? = some d → st.weights = some b →
      st.start + st.delivered + passLatency u ≤ s.clk.cycle →
      let r := passSums u st b d
      let y := accRow (s.tile k) u (st.accbase + st.delivered) st.acc (intFmt st.fmt) r.1
      y.2.2 = false →
      let s1 := (s.setTile k (y.1.setUnit u (State.passDone x st drains))).flagNum k u r.2
      Gives (.arrayPassResult k q) s (if y.2.1 then s1.flagSat k u else s1)

/-- The MOV slot on one unit: VLD and VST between scratch and VREG upward, a register a cycle; FILL and SPILL between scratch and the own die's buffer, a line of 256 bytes in each of the row and column's slots, or HBM3E, by units at their channels. Each part reads what stands in its cycle and lands later; where a FILL and a VST write the same bytes in one cycle, the VST's remain. -/
def Obligations.ScratchMoves : Prop :=
  (∀ (s : State) (sel : Sel) (k u : Nat) (v : Fin 64) (a : BitVec 14) (len : BitVec 8) (w : Flight), s.unitsNamed sel = [(k, u)] →
    let sp := s.spendSlot sel.row .mov
    let at_ := State.slotAddr k u a.toNat
    let n := 1024 * (len.toNat + 1)
    let o := 1024 * w.a
    (s.slotWord sel (isVmove 1 v a.toNat len.toNat) = some w → Gives (.vld sel v a len) s (sp.addWork ((moveRegs v len.toNat).map (fun j =>
      { due := s.clk.cycle + j, work := .vld k u (v + j) (at_ + regBytes u * j) })))) ∧
    (s.slotWord sel (isVmove 2 v a.toNat len.toNat) = some w → Gives (.vst sel v a len) s (sp.addWork ((moveRegs v len.toNat).map (fun j =>
      { due := s.clk.cycle + j, work := .vst k u (v + j) (at_ + regBytes u * j) })))) ∧
    (s.hitsActive k u at_ n = false →
      (s.slotWord sel (isFill 3 a.toNat len.toNat) = some w →
        let f := sp.setTile k { s.tile k with fills := (s.tile k).fills ++ [{ unit := u, lo := at_, hi := at_ + n, left := n / 64 }] }
        (placeOf o = .dbuf (State.dieOf k) → Gives (.fill sel a len) s (f.addWork ((s.dbufLines k u (o % 67108864) n true).map (fun l =>
          { due := l.2, work := .lineIn k u (o + 256 * l.1) (at_ + 256 * l.1) 256 true })))) ∧
        ∀ h, placeOf o = .hbm h → Gives (.fill sel a len) s (f.sendUnits (.fill k u) o at_ (n / 64))) ∧
      (s.slotWord sel (isFill 4 a.toNat len.toNat) = some w →
        (placeOf o = .dbuf (State.dieOf k) → Gives (.spill sel a len) s (sp.addWork ((s.dbufLines k u (o % 67108864) n false).map (fun l =>
          { due := l.2 - 6, work := .lineOut (at_ + 256 * l.1) (o + 256 * l.1) 256 })))) ∧
        ∀ h, placeOf o = .hbm h → Gives (.spill sel a len) s (sp.sendUnits (.spill k) o at_ (n / 64))))) ∧
  ∀ (s : State) (d : Nat), Quiet s → d ≤ s.clk.cycle →
    (∀ k u v src, s.work = [⟨d, .vld k u v src⟩] → s.endCycle = cycleEnd (s.setTile k { s.tile k with
      vres := (s.tile k).vres ++ [{ due := s.clk.cycle + 2, vd := v, lanes := laneWords u (s.mem.bytes src (regBytes u)) }] }) []) ∧
    (∀ k u v dst, s.work = [⟨d, .vst k u v dst⟩] → s.endCycle = cycleEnd s [⟨s.clk.cycle + 1, .vWrite dst (laneBytes (regsNow s k) u v)⟩]) ∧
    (∀ k u src dst n fills, s.work = [⟨d, .lineIn k u src dst n fills⟩] →
      s.endCycle = cycleEnd s [⟨s.clk.cycle + 6, .fWrite k u dst (s.mem.bytes src n) fills⟩]) ∧
    (∀ src dst n, s.work = [⟨d, .lineOut src dst n⟩] → s.endCycle = cycleEnd s [⟨s.clk.cycle + 6, .bufWrite dst (s.mem.bytes src n)⟩]) ∧
    (∀ dst bs, s.work = [⟨d, .bufWrite dst bs⟩] → s.endCycle = cycleEnd { s with mem := s.mem.setBytes dst bs } []) ∧
    ∀ k u a b bs cs, (s.work = [⟨d, .fWrite k u a bs false⟩, ⟨d, .vWrite b cs⟩] ∨ s.work = [⟨d, .vWrite b cs⟩, ⟨d, .fWrite k u a bs false⟩]) →
      s.endCycle = cycleEnd { s with mem := (s.mem.setBytes a bs).setBytes b cs } []

/-! ### Sequencer events, HBM3E and synchronisation -/

/-- SEQ_PROGRAM_START, in cycle 16 and once an epoch, begins epoch program (e - START_EPOCH) mod P_ROW at the position that its start-table entry gives, with fresh registers; PAGE requests a page into slot p mod 32, unit by unit at the channels, and the page is usable only after PAGE_FETCH_DONE. -/
def Obligations.SequencerEvents : Prop :=
  ∀ (s : State) (row slot : Fin 32) (arg : BitVec 12),
    (∀ l e pos, s.inEpoch = true → s.notStopped = true → s.clk.cycle = 16 → (s.seq row).ran = false → s.lastOfRow row = some l → s.seqEnt row = some e →
      State.pageBytes (s.seq row) (4 * ((s.clk.epoch - l.2.start) % e.period)) 4 = some pos →
      SetsSeq (.seqProgramStart row) s row
        { s.seq row with running := true, pos := pos, since := 16, ran := true, flight := [], n := 1, a := 0, accbase := 0, loops := [], bound := none,
                         ctxPos := 0, gated := false }) ∧
    (∀ e w, s.issuing row = some w → isCtlArg 8 arg.toNat w = true → s.seqEnt row = some e → Answers (.page row arg) s fun t =>
      t = { s with seqs := t.seqs, hbm := t.hbm } ∧ (∀ k, k ≠ row.val → t.seq k = s.seq k) ∧
      t.seq row = { passed s row w with
        pages := (s.seq row).pages.put (arg.toNat % 32) { page := arg.toNat, usable := false, bytes := List.replicate 4096 0#8 } } ∧
      (∀ c, ∀ r ∈ (s.chan c).reqs, r ∈ (t.chan c).reqs) ∧
      ∀ i < 64,
        let a := e.addr + 4096 * arg.toNat + 64 * i
        let c := (hbmDecode a).chan
        { kind := .page row (arg.toNat % 32), addr := a, other := 64 * i
          arrives := s.clk.cycle + 16 + State.pathAdd (State.dieOf (State.tileOf row 0)) (c / 32) } ∈ (t.chan c).reqs) ∧
    ∀ g, (s.seq row).pages.find slot = some g → s.pageFetched row slot = true →
      SetsSeq (.pageFetchDone row slot) s row { s.seq row with pages := (s.seq row).pages.put slot { g with usable := true } }

/-- A SWAP word reaches the quarter of each tile that it names 3 cycles later; there the staging half becomes active. From cycle 16 of the swap on its constants enter 16 bytes a cycle, in cycle 272 its first block begins to load, in cycle 400 the block becomes active, and from then on 32 accumulator entries of the quarter a cycle become 0; the quarter is held until SWAP_DONE, 2,048 cycles after the arrival. -/
def Obligations.ModelSwap : Prop :=
  (∀ (s : State) (row : Fin 32) (tmask : BitVec 4) (arg : BitVec 12) (w : Nat),
    s.issuing row = some w → wordHas [(12, 4, tmask.toNat), (16, 4, 0xB), (20, 12, arg.toNat)] w = true → (s.seq row).gated = false →
    Gives (.swap row tmask arg) s { s.setSeq row (passed s row w) with
      work := s.work ++ (State.tilesOf row tmask).map (fun t =>
        { due := s.clk.cycle + 3, work := .swap t (arg.toNat / 1024 % 4) (arg.toNat % 1024) }) }) ∧
  (∀ (s : State) (d k q slot : Nat), Quiet s → d ≤ s.clk.cycle → s.work = [⟨d, .swap k q slot⟩] → s.swapOk k q = true →
    s.endCycle = cycleEnd (s.setTile k ((s.tile k).setUnit q
      { (s.tile k).unit q with halfB := !((s.tile k).unit q).halfB, swapAt := some s.clk.cycle, slot := slot })) []) ∧
  (∀ (s : State) (k q c n : Nat), Quiet s (fun j u => j == k && u == q) → s.work = [] → s.tiles.sorted = true → q < 4 →
    ((s.tile k).unit q).swapAt = some c → s.clk.cycle = c + n →
    let x := (s.tile k).unit q
    let a := State.stagingAddr k q x.halfB
    let t := s.endCycle
    let o := 16 * (n - 16)
    let f := (x.consts.headD 0#8).toNat % 16
    t = { s with tiles := t.tiles, setNow := [], wrote := [] } ∧ (∀ j, j ≠ k → t.tile j = s.tile j) ∧
    (t.tile k).unit q =
      (if 16 ≤ n ∧ n < 272 then { x with consts := x.consts.take o ++ s.mem.bytes (a + o) 16 ++ x.consts.drop (o + 16) }
       else if n = 272 then { x with shadow := some (s.readBlock q f (a + 4096)), ready := s.clk.cycle + loadCycles f }
       else if n = 400 then { x with active := x.shadow, shadow := none }
       else x) ∧
    ∀ i, (t.tile k).acc.get 0#32 i =
      if 400 ≤ n ∧ n < 1424 ∧ i / 65536 = q / 2 ∧ i % 256 / 128 = q % 2 ∧ (i / 256 % 256 * 128 + i % 128) / 32 = n - 400 then 0#32
      else (s.tile k).acc.get 0#32 i) ∧
  ∀ (s : State) (k : Fin 128) (u : Fin 4) c, ((s.tile k).unit u).swapAt = some c → c + 2048 ≤ s.clk.cycle →
    Gives (.swapDone k u) s (s.setTile k ((s.tile k).setUnit u { (s.tile k).unit u with swapAt := none }))

/-- SEMSIG and SEMWAIT send an increment and a wait, which take the cycles of the way to their object; a SEMSIG that arrives raises C; a SEMWAIT that arrives, no other one of its object being before it, takes one where the allowance is at least 1; a miss takes the cycles of the way back and closes the row's gate. -/
def Obligations.SynchronisationWords : Prop :=
  ∀ (s : State) (row : Fin 32) (arg : BitVec 12) (k : Fin 4096) (w : Nat),
    let sent : SemReq := { due := s.clk.cycle + State.semReach (row / 8) (arg.toNat / 1024), row := row, obj := arg.toNat }
    let pass := fun (u : State) => u.setSeq row (passed s row w)
    let wait := s.sync.semWaits.find? (fun x => (x.row == row.val && x.obj == k.val) && decide (x.due ≤ s.clk.cycle))
    let turn := fun (x : SemReq) => ∀ y ∈ s.sync.semWaits, y.obj = k → x.due ≤ y.due ∧ (y.due = x.due → x.row ≤ y.row)
    (s.issuing row = some w → (s.seq row).gated = false →
      (isCtlArg 0xC arg.toNat w = true → Gives (.semsig row arg) s (pass { s with sync := { s.sync with sigs := s.sync.sigs ++ [sent] } })) ∧
      (isCtlArg 0xD arg.toNat w = true → Gives (.semwait row arg) s (pass { s with sync := { s.sync with semWaits := s.sync.semWaits ++ [sent] } }))) ∧
    (∀ x, s.sync.sigs.find? (fun x => (x.obj == k.val) && decide (x.due ≤ s.clk.cycle)) = some x → (s.obj k).c + 1 ≤ 0xFFFFFFFF →
      Answers (.semsigArrival k) s fun t =>
      t = { s with sync := t.sync } ∧ t.sync.sigs = s.sync.sigs.erase x ∧ t.obj k = { s.obj k with c := (s.obj k).c + 1 } ∧
      ∀ j, j ≠ k.val → t.obj j = s.obj j) ∧
    (∀ x, wait = some x → turn x → 1 ≤ (s.obj k).allow → Answers (.semwaitArrival row k) s fun t =>
      t = { s with sync := t.sync } ∧ t.sync.semWaits = s.sync.semWaits.erase x ∧ t.sync.misses = s.sync.misses ∧
      (t.obj k).c = (s.obj k).c - 1 ∧ (t.obj k).allow = (s.obj k).allow - 1 ∧ ∀ j, j ≠ k.val → t.obj j = s.obj j) ∧
    (∀ x, wait = some x → turn x → (s.obj k).allow = 0 → Answers (.semwaitArrival row k) s fun t =>
      t = { s with sync := t.sync } ∧ t.sync.semWaits = s.sync.semWaits.erase x ∧
      t.sync.misses = s.sync.misses ++ [{ x with due := x.due + State.semReach (row / 8) (k / 1024) }] ∧ ∀ j, t.obj j = s.obj j) ∧
    (∀ x, s.sync.misses.find? (fun x => (x.row == row.val) && decide (x.due ≤ s.clk.cycle)) = some x → Answers (.semwaitResult row) s fun t =>
      t = { s with sync := t.sync, seqs := t.seqs } ∧ t.sync.misses = s.sync.misses.erase x ∧
      t.seq row = (if (s.seq row).running = true then { s.seq row with gated := true } else s.seq row) ∧ ∀ j, j ≠ row.val → t.seq j = s.seq j)

/-- RD_RUN and WR_RUN take an entry of the channel's list in its cycle; its units move on consecutive data slots. A data slot serves the request at the head of its channel: a RD one reads 64 bytes for a page slot or a tile, where they land after 20 cycles and the path, a WR one writes those of a SPILL, as they left scratch, to HBM3E; without the right request it aborts with 0x0602. REFPB of the list and the refresh timer hold the channel for 160 ns. -/
def Obligations.ChannelRuns : Prop :=
  (∀ (s : State) (c : Fin 128) (r : MemRun) (sid : Fin 3) (bg bank : Fin 4), s.outOfService (c / 4) = false →
    let h : HAddr := { chan := c, sid := r.sid, bg := r.bg, bank := r.bank, row := r.row, col := r.col }
    let g := dataGrid s.fuse.variant
    let fields := fun (cmd : Nat) => [(26, 3, cmd), (29, 2, r.sid.val), (31, 2, r.bg.val), (33, 2, r.bank.val), (35, 15, r.row.val), (50, 5, r.col.val), (55, 5, r.count.val)]
    let units := fun (rd : Bool) => (List.range (r.count + 1)).map (fun i =>
      ({ due := slotCycle g (slotIdx g s.clk.cycle + i), work := .unit c rd (hbmEncode { h with col := h.col + i }) (s.clk.cycle - s.actLead) } : Job))
    (s.entryNow c (fields 1) = true → Gives (.rdRun c r) s { s with work := s.work ++ units true }) ∧
    (s.entryNow c (fields 2) = true → Gives (.wrRun c r) s { s with work := s.work ++ units false }) ∧
    (s.entryNow c [(26, 3, 3), (29, 2, sid.val), (31, 2, bg.val), (33, 2, bank.val)] = true →
      Gives (.refpb c sid bg bank) s (s.setChan c { s.chan c with refreshUntil := s.clk.now + 160 }))) ∧
  ∀ (s : State) (d c a act : Nat) (q : HbmReq) (rest : List HbmReq), Quiet s → d ≤ s.clk.cycle → (s.chan c).reqs = q :: rest →
    let took := s.setChan c { s.chan c with reqs := rest }
    let at_ := s.clk.cycle + 20 + State.pathAdd (State.dieOf (State.reqTile q.kind)) (c / 32)
    (q.addr = a → q.arrives ≤ act → s.work = [⟨d, .unit c true a act⟩] →
      (∀ row slot, q.kind = .page row slot → s.endCycle = cycleEnd took [⟨at_, .pageWrite row slot q.other (s.mem.bytes a 64)⟩]) ∧
      ∀ k u, q.kind = .fill k u → s.endCycle = cycleEnd took [⟨at_, .fWrite k u q.other (s.mem.bytes a 64) true⟩]) ∧
    (q.addr = a → q.arrives ≤ act → s.work = [⟨d, .unit c false a act⟩] → ∀ k, q.kind = .spill k →
      s.endCycle = cycleEnd { took with mem := s.mem.setBytes a (q.data.getD (s.mem.bytes q.other 64)) } []) ∧
    (∀ rd, s.work = [⟨d, .unit c rd a act⟩] → (q.addr ≠ a ∨ act < q.arrives) → s.started = true → s.mgt.staging.length < 64 → s.abort = none →
      s.clk.pauseFrom = none →
      s.endCycle.abort = some { epoch := s.clk.epoch, code := 0x602, start := s.clk.now } ∧ s.endCycle.mgt = noted s 0x602 (chanLoc c) 0) ∧
    ∀ row k o bs g, s.work = [⟨d, .pageWrite row k o bs⟩] → (s.seq row).pages.find k = some g →
      s.endCycle = cycleEnd (s.setSeq row { s.seq row with
        pages := (s.seq row).pages.put k { g with bytes := g.bytes.take o ++ bs ++ g.bytes.drop (o + bs.length) } }) []

/-- Outside the schedule: the refresh timer of a pause, a channel's retraining from due to its end, and the oldest waiting unit in an open slot, of a COPY to the host or of the package's own writes. -/
def Obligations.ChannelUpkeep : Prop :=
  ∀ (s : State) (c : Fin 128), s.outOfService (c / 4) = false →
    (s.clk.pauseFrom.isSome = true → Gives (.refreshTimer c) s (s.setChan c { s.chan c with refreshUntil := s.clk.now + 160 })) ∧
    (s.started = true → (s.chan c).training = false → s.groupClaimed (c / 4) = false → s.awlHalted (c / 32) = false →
      Gives (.channelRetrainDue c) s (s.setChan c { s.chan c with due := false, training := true, attempts := 0 })) ∧
    (s.started = true → (s.chan c).training = false → s.groupClaimed (c / 4) = true →
      Gives (.channelRetrainDue c) s (s.setChan c { s.chan c with due := true })) ∧
    ((s.chan c).training = true →
      Gives (.channelRetrainDone c true) s (s.setChan c { s.chan c with training := false, attempts := 0 }) ∧
      ((s.chan c).attempts + 1 < 3 → Gives (.channelRetrainDone c false) s (s.setChan c { s.chan c with attempts := (s.chan c).attempts + 1 }))) ∧
    (s.openSlots c = true → s.memErr = [] →
      let served := fun rest => s.setChan c { s.chan c with queue := rest, used := some (s.clk.now, s.clk.sub) }
      (∀ a bs rest, (s.chan c).queue = .own a bs :: rest → s.gapKept c (64 * (a / 64)) true = true →
        Gives (.openSlotAccess c) s { served rest with mem := s.mem.setBytes a bs }) ∧
      ∀ job off rest j, (s.chan c).queue = .copy job off :: rest → s.host.copies.find? (fun k => k.job == job) = some j → j.toHost = true →
        s.host.d3.contains (s.owner j.sq) = false →
        let a := j.src + off
        let n := min (64 * (a / 64) + 64) (j.src + j.len) - a
        s.gapKept c (64 * (a / 64)) false = true → s.lateCode j a n = 0 → Answers (.openSlotAccess c) s fun t =>
          t = { s with hbm := (served rest).hbm, out := t.out
                       host := { s.host with copies := s.host.copies.map (fun (k : CopyJob) => if k.job == j.job then { k with moved := k.moved + n } else k) } } ∧
          t.out = s.out ++ [.hostWrite (s.ringPort j.sq) (j.dst + off) (s.mem.bytes a n) false])

/-! ### Rings and contexts -/

/-- A descriptor that passes the steps of R593: SQ_HEAD passes it, and the command of its row takes effect: CTX_SUBMIT posts the context, MS_LOAD waits for its boundary, SYN_SIGNAL raises C, SYN_SET sets it, SYN_WAIT and EPOCH_MARK wait, COPY becomes a job. -/
def Obligations.RingCommands : Prop :=
  ∀ (s : State) (q : Fin 4096) (d : BitVec 512), s.readsFrom q = true → s.fenceOpen q d = true → s.firstChecks q d = 0 →
    let s1 := s.takeDescriptor q
    (dOpc d = 1 → s1.submitCheck q d = 0 → Gives (.ctxSubmit q d) s (s1.post q d)) ∧
    (dOpc d = 2 → s1.msLoadCheck q d = 0 → s1.gateHolds = false → Gives (.msLoad q d) s (s1.acceptMsLoad (s1.msPendOf q d))) ∧
    (dOpc d = 4 → s1.vfObj (s1.owner q) (dField d 8 2) = true → s1.dieCut (s1.ringPort q) (dField d 8 2 / 1024) = false → (s1.obj (dField d 8 2)).c + dField d 0xC 4 ≤ 0xFFFFFFFF →
      Answers (.synSignal q d) s fun t =>
        (t.obj (dField d 8 2)).c = (s.obj (dField d 8 2)).c + dField d 0xC 4 ∧ ∀ j, j ≠ dField d 8 2 → t.obj j = s.obj j) ∧
    (dOpc d = 5 → s1.vfObj (s1.owner q) (dField d 8 2) = true → s1.claimsObj (dField d 8 2) = false →
      s1.dieCut (s1.ringPort q) (dField d 8 2 / 1024) = false → s1.gateHolds = false →
      Gives (.synSet q d) s (s1.acceptSynSet q (dCid d) (s1.cqFor q d) (dField d 8 2) (dField d 0xC 4) (dQuiet d))) ∧
    (dOpc d = 6 → s1.vfObj (s1.owner q) (dField d 8 2) = true → s1.dieCut (s1.ringPort q) (dField d 8 2 / 1024) = false → Answers (.synWait q d) s fun t =>
      t.sync.waits = s.sync.waits ++ [{ obj := dField d 8 2, value := dField d 0xC 4, left := dField d 0x10 4, sq := q, cid := dCid d, cq := s1.cqFor q d }] ∧
      t = { s1 with sync := t.sync }) ∧
    (dOpc d = 7 → s.clk.epoch < dField d 8 8 →
      Gives (.epochMark q d) s { s1 with host := { s1.host with marks := s1.host.marks ++ [⟨dField d 8 8, q, dCid d, s1.cqFor q d⟩] } }) ∧
    (dOpc d = 7 → dField d 8 8 ≤ s.clk.epoch → Gives (.epochMark q d) s (s1.complete q (dCid d) (s1.cqFor q d) 7 0)) ∧
    ∀ data, dOpc d = 3 → dField d 0x1C 1 = 1 → s1.vfHbm (s1.owner q) (dField d 8 8) (dField d 0x18 4) = true →
      s1.accessCode (s1.ringPort q) (dField d 8 8) (dField d 0x18 4) false = 0 → Answers (.copy q d data) s fun t =>
        ∃ j ∈ t.host.copies, j.job = s.host.copyNext ∧ j.sq = q ∧ j.cid = dCid d ∧ j.toHost = true ∧ j.src = dField d 8 8 ∧ j.dst = dField d 0x10 8 ∧
          j.len = dField d 0x18 4

/-- A descriptor that fails one of steps 1 to 4 of R593 is refused with the code of the first step that fails, in a completion of its CQ, and has no other effect; a full input gate stalls the rings of those that would wait in it (16 R718). -/
def Obligations.RefusedDescriptors : Prop :=
  ∀ (s : State) (q : Fin 4096) (d : BitVec 512), s.readsFrom q = true → s.fenceOpen q d = true → s.firstChecks q d ≠ 0 →
    let t := (s.takeDescriptor q).complete q (dCid d) ((s.takeDescriptor q).cqFor q d) (dOpc d) (s.firstChecks q d)
    (dOpc d = 1 ∨ knownOpc (dOpc d) = false → Gives (.ctxSubmit q d) s t) ∧
    (s.gateFull = false → dOpc d = 2 ∨ knownOpc (dOpc d) = false → Gives (.msLoad q d) s t) ∧
    (s.gateFull = true → Gives (.msLoad q d) s s ∧ Gives (.synSet q d) s s) ∧
    (∀ data, dOpc d = 3 ∨ knownOpc (dOpc d) = false → Gives (.copy q d data) s t) ∧
    (dOpc d = 4 ∨ knownOpc (dOpc d) = false → Gives (.synSignal q d) s t) ∧
    (s.gateFull = false → dOpc d = 5 ∨ knownOpc (dOpc d) = false → Gives (.synSet q d) s t) ∧
    (dOpc d = 6 ∨ knownOpc (dOpc d) = false → Gives (.synWait q d) s t) ∧
    (dOpc d = 7 ∨ knownOpc (dOpc d) = false → Gives (.epochMark q d) s t)

/-- What ends or moves on later: SYN_WAIT_TIMEOUT and COPY_COMPLETE complete their commands, a fetched context is STAGING with its two buffers, a staged one is copied, a queued one past its deadline ends with 0x0705. -/
def Obligations.CommandEnds : Prop :=
  ∀ (s : State) (q : Fin 4096) (cid : BitVec 16) (n : Fin 4) (i : Fin 4194304),
    (∀ w, s.sync.waits.find? (fun w => w.sq == q.val && w.cid == cid.toNat && w.left == 0 && w.sat.isNone) = some w →
      Gives (.synWaitTimeout q cid) s ({ s with sync := { s.sync with waits := s.sync.waits.erase w } }.complete w.sq w.cid w.cq 6 0x070C)) ∧
    (∀ j, s.host.copies.find? (fun j => j.sq == q.val && j.cid == cid.toNat) = some j →
      (j.moved = j.len → Gives (.copyComplete q cid false) s (s.endCopy j 0)) ∧
      Gives (.copyComplete q cid true) s (s.endCopy j (if j.toHost then 0x0D07 else 0x0D09))) ∧
    (∀ c a b, s.started = true → s.mgt.dark ≠ .idle → s.nextPosted n q = some c → s.cacheUsed n < 16384 →
      s.rangeTrains (s.recAddr c.idx) 64 = false →
      s.allocate n (roundUp (s.slot (s.ctxField c.idx 2 2)).inMax 32768) (roundUp (s.slot (s.ctxField c.idx 2 2)).outLen 32768) = some (a, b) →
      Gives (.contextFetch n q) s
        (s.stageCtx c.idx a b (roundUp (s.slot (s.ctxField c.idx 2 2)).inMax 32768) (roundUp (s.slot (s.ctxField c.idx 2 2)).outLen 32768))) ∧
    (∀ c bs, s.ctxInfo i = some c → c.phase = .staging → s.localIn i = false → bs.length = s.ctxField i 0x20 4 →
      Gives (.stagingCopyDone i (some bs)) s (((s.poke (dbufAddr (ctxDie i) + c.inOff) bs).setPhase i .copied).promote c.sq)) ∧
    ∀ c, s.ctxInfo i = some c → c.phase = .queued → s.snapTime = true → s.clk.latched = false → s.ctxField i 0x28 8 < s.clk.epoch + 1 →
      Gives (.contextDeadlineExpiry i) s (s.endCtx i 0x705)

/-- Doorbells, completion writes and interrupts. Of two writes of one doorbell in a cycle, that through port B remains. -/
def Obligations.DoorbellsAndCompletions : Prop :=
  ∀ (s : State) (p : Port) (fn : Fin 64) (q : Fin 4096) (w : Word),
    (s.doorbellReaches p fn q = true → s.doorbellDrops fn q = false → w.toNat % 65536 < s.sqSize q → Answers (.sqTail p fn q w false) s fun t =>
      t = { s with host := t.host } ∧ (∀ j, j ≠ q.val → t.ring j = s.ring j) ∧
      t.ring q = if s.overtaken p (s.ring q).sqB = true then s.ring q
        else { s.ring q with sqReg := w, sqTail := w.toNat % 65536, sqB := if p = .b then some s.cycleMark else (s.ring q).sqB }) ∧
    (s.doorbellReaches p fn q = true → s.doorbellDrops fn q = true → Gives (.sqTail p fn q w false) s s.hifDrop ∧ Gives (.cqHead p fn q w) s s.hifDrop) ∧
    (s.doorbellReaches p fn q = true → s.doorbellDrops fn q = false → w.toNat % 65536 < s.cqSize q →
      (w.toNat % 65536 + s.cqSize q - (s.ring q).cqHead) % s.cqSize q ≤ s.cqUsed q → w.toNat / 2 ^ 31 = 0 → Answers (.cqHead p fn q w) s fun t =>
      t = { s with host := t.host } ∧ (∀ j, j ≠ q.val → t.ring j = s.ring j) ∧
      t.ring q = if s.overtaken p (s.ring q).cqB = true then s.ring q
        else { s.ring q with cqReg := w, cqHead := w.toNat % 65536, cqB := if p = .b then some s.cycleMark else (s.ring q).cqB }) ∧
    (∀ d rest, (s.ring q).due = d :: rest → s.mayWrite q = true → s.cqUsed q + 1 < s.cqSize q → (s.port (s.ringPort q)).st ≠ .l1 →
      d.result = none → d.frees = none →
      Gives (.completionPost q false) s ((s.setRing q { s.ring q with due := rest }).writeCompletion q d.comp)) ∧
    ((s.ring q).due ≠ [] → s.cqSize q ≤ s.cqUsed q + 1 → (s.ring q).waited = false →
      Gives (.cqWaitTimeout q) s ((s.setRing q { s.ring q with waited := true }).record 0x0D06 {} q)) ∧
    ((s.ring q).waited = true → Gives (.cqWaitTimeout q) s s) ∧
    (s.bits (ringReg q + 0x18) 0 16 ≠ 0 → 0 < (s.ring q).p →
      Gives (.interruptModerationTimeout q) s ((s.setRing q { s.ring q with expired := true }).tryInterrupt q)) ∧
    (q.val < 2048 → (s.host.msix.get {} q.val).pend = true → Answers (.msixUnmask 0 q) s fun t =>
      t.host.msix.find q = some { masked := false, pend := false } ∧ t.out = s.out ++ [.msix 0 q] ∧ t = { s with host := t.host, out := t.out })

/-- Functions and ports: VF Enable, FLR of a VF, D3hot, L1, PERST and the PTM dialogue. -/
def Obligations.FunctionsAndPorts : Prop :=
  ∀ (s : State) (p : Port) (n : Fin 64) (v : DWord), s.started = true →
    ((p == .b) = s.controlB → n.val ≠ 0 → s.host.vfs = 0 → Gives (.vfEnable p n) s { s with host := { s.host with vfs := n } }) ∧
    (n.val ≠ 0 → n.val ≤ s.host.vfs → Gives (.flr n) s ((s.resetFn n).journalReset 2 0 n)) ∧
    (n.val ≤ s.host.vfs → n.val ∉ s.host.d3 → (∀ q < 4096, s.owner q = n → s.ringActive q = false) →
      Gives (.d3hotEntry n) s { s with host := { s.host with d3 := s.host.d3 ++ [n.val] } }) ∧
    (n.val ∈ s.host.d3 → Answers (.d3hotExit n) s fun t => n.val ∉ t.host.d3) ∧
    ((s.port (portNo p)).st = .l0 → Gives (.l1Entry p) s (s.setPort (portNo p) { s.port (portNo p) with st := .l1 })) ∧
    ((s.port (portNo p)).st = .l1 → Gives (.l1Exit p) s (s.setPort (portNo p) { s.port (portNo p) with st := .l0 })) ∧
    (Answers (.perstAssert p) s fun t => t.port (portNo p) = { st := .down, reset := true }) ∧
    ((s.port (portNo p)).reset = true → s.portAllowed p = true → Gives (.perstRelease p) s (s.setPort (portNo p) { st := .l0, reset := false })) ∧
    (s.bits hifBase 0 1 = 1 → (s.port (portNo p)).st = .l0 → Gives (.ptmDialogue p v) s (s.setDword (hifBase + 0x40 + 8 * portNo p) v.toNat))

/-! ### The epoch boundary and aborts -/

/-- CTXIN brings the context's input into scratch and CTXOUT its OUT_LEN result bytes into its result buffer, a line of 256 bytes in each slot of the quarter's windows; with the end of the last window the context is DONE. -/
def Obligations.ContextMoves : Prop :=
  (∀ (s : State) (sel : Sel) (a : BitVec 14) (c : CtxInfo) (k u : Nat) (w : Flight), s.unitsNamed sel = [(k, u)] → s.wordCtx sel w = some c →
    let sp := s.spendSlot sel.row .mov
    let buf := dbufAddr (ctxDie c.idx)
    let at_ := State.slotAddr k u a.toNat
    let n := min (s.slot (s.ctxField c.idx 2 2)).outLen c.outLen
    let ends := if n = 0 then s.clk.cycle else ctxWindow u (s.clk.cycle + 6) (ceilDiv n 256 - 1) + 127
    (s.slotWord sel (isCtxMove 5 a.toNat) = some w → Gives (.ctxin sel a) s (sp.addWork ((s.ctxLines k u c.inOff (s.ctxField c.idx 0x20 4) true).map (fun l =>
      { due := l.2.2, work := .lineIn k u (buf + c.inOff + 256 * l.1) (at_ + 256 * l.1) l.2.1 false })))) ∧
    (s.slotWord sel (isCtxMove 6 a.toNat) = some w → c.phase = .bound ∨ c.phase = .done →
      Gives (.ctxout sel a) s (sp.addWork ((s.ctxLines k u c.outOff n false).map (fun l =>
        { due := l.2.2 - 6, work := .lineOut (at_ + 256 * l.1) (buf + c.outOff + 256 * l.1) l.2.1 }) ++ [{ due := ends, work := .ctxDone c.idx }])))) ∧
  ∀ (s : State) (d idx : Nat) (c : CtxInfo), Quiet s → d ≤ s.clk.cycle → s.work = [⟨d, .ctxDone idx⟩] → s.ctxInfo idx = some c →
    let t := s.endCycle
    t = { s with work := [], setNow := [], wrote := [], ctx := t.ctx, hbm := t.hbm, mem := t.mem } ∧
    (c.phase = .bound → t.ctxInfo idx = some { c with phase := .done } ∧
      (∀ h, placeOf (s.recAddr idx) = .hbm h → s.rangeOut (s.recAddr idx) 1 = false → t.ctxField idx 0 1 = 5)) ∧
    (c.phase ≠ .bound → t.ctx = s.ctx ∧ t.hbm = s.hbm ∧ t.mem = s.mem) ∧ ∀ j, j ≠ idx → t.ctxInfo j = s.ctxInfo j

/-- Before a boundary: QUEUE_SNAPSHOT takes queues, allowances and satisfied waits, PENDING_LATCH binds the entries of the coming epoch, PAGE_PRELOAD fills a row's page slots, and CHECK_POINT reports ready where everything has landed. -/
def Obligations.BeforeTheBoundary : Prop :=
  ∀ (s : State) (row : Fin 32), s.started = true →
    (s.snapTime = true → s.clk.snapped = false →
      (∀ c ∈ s.ctx.live, c.phase = .queued → s.clk.epoch + 1 ≤ s.ctxField c.idx 0x28 8) →
      Gives .queueSnapshot s { s with
        clk := { s.clk with snapped := true }
        ctx := { s.ctx with snap := s.ctx.queues }
        sync := { s.sync with objs := s.sync.objs.map (fun p => (p.1, { p.2 with allowNext := p.2.c })), waits := s.sync.waits.map s.satisfy } }) ∧
    (s.abort = none → s.epochN ≤ s.clk.cycle + 512 → s.clk.snapped = true → s.clk.latched = false →
      (∀ p ∈ s.cmd.lasts, p.2.st = .validating → p.2.start ≠ s.clk.epoch + 1) →
      (∀ l, (s.lnk l).txMove = none ∧ (s.lkk l).proposed = none) →
      let u := s.fillSlots s.ctx.snap (s.clk.epoch + 1)
      Gives .pendingLatch s { u with clk := { u.clk with latched := true, preload := u.rowsToPreload (s.clk.epoch + 1) } }) ∧
    (∀ p e, row.val ∈ s.clk.preload → s.epochN ≤ s.clk.cycle + 16 →
      s.cmd.lasts.find? (fun p => p.2.st == .staged && p.2.start == s.clk.epoch + 1 && p.2.later.contains row.val) = some p → p.2.seqs.find? (fun e => e.row == row.val) = some e →
      Answers (.pagePreload row) s fun t =>
        t = { s with seqs := t.seqs, clk := { s.clk with preload := s.clk.preload.filter (fun x => x != row.val) } } ∧
        (∀ r, r ≠ row.val → t.seq r = s.seq r) ∧
        ∀ i < min 32 (e.len / 4096), s.rangeOut (e.addr + 4096 * i) 4096 = false → (t.seq row).pages.find i = some { page := i, usable := true, bytes := s.mem.bytes (e.addr + 4096 * i) 4096 }) ∧
    (s.abort = none → s.checkC ≤ s.clk.cycle → s.clk.checked = false → s.claimedBarriers = [] → s.allLanded = true →
      s.joined = false → s.clk.release = none →
      Gives .checkPoint s { s with clk := { s.clk with
        checked := true, ready := true, late := false, release := some { epoch := s.clk.epoch + 1, complete := bitsSet s.arrivals }, settle := 64 } }) ∧
    (s.abort = none → s.checkC ≤ s.clk.cycle → s.clk.checked = false → s.claimedBarriers = [] → s.allLanded = false →
      Answers .checkPoint s fun t => t = { s with regs := t.regs, clk := { s.clk with checked := true } } ∧
        ∀ l, (∃ p ∈ s.lk, p.1 = l) → (s.lkk l).landed < s.owed l → t.word (lkReg l + 0x44) = 0#32)

/-- At BOUNDARY_STEP the package enters the epoch of the release at cycle 0, with no sequencer running and nothing latched for the one after; at FABRIC_WATCHDOG_EXPIRY, once FAB_WD.MS have passed since cycle N, it does so without a release, with STOP set and the next epoch number adopted. -/
def Obligations.EnteringAnEpoch : Prop :=
  ∀ (s : State) (flights : List (Fin 128 × Nat)), s.boundaryOpen = true →
    let entered := fun (t : State) (x : Nat) => t.clk.epoch = x ∧ t.clk.cycle = 0 ∧ t.clk.now = s.clk.now ∧ t.clk.snapped = false ∧
      t.clk.latched = false ∧ t.clk.checked = false ∧ t.clk.ready = false ∧ t.clk.release = none ∧ t.clk.pauseFrom = none ∧
      ∀ r, (t.seq r).running = false
    (∀ r, s.clk.release = some r → Answers (.boundaryStep flights) s fun t => entered t r.epoch ∧ t.fab.stopped = false) ∧
    (s.clk.release = none → s.waitedOut = true → Answers .fabricWatchdogExpiry s fun t => entered t s.nextEpoch ∧ t.fab.stopped = true ∧ t.fab.adopt = true)

/-- Two triggers of an epoch abort, and the limit of its recovery: a missed crossing deadline records 0x0105 and an island that loses its clock 0x0106, and stops; each aborts the running epoch; a recovery that has lasted more than 30 ms records 0x1102 once and goes on. -/
def Obligations.AbortTriggers : Prop :=
  ∀ (s : State) (i : Fin 224), s.started = true → s.mgt.staging.length < 64 →
    let ab := fun (code : Nat) => some ({ epoch := s.clk.epoch, code := code, start := s.clk.now } : Abort)
    (i.val ∈ s.boot.islands → s.abort = none → s.clk.pauseFrom = none →
      Gives (.crossingDeadlineMiss i) s { s with abort := ab 0x105, mgt := noted s 0x105 (islandLoc i) 0 } ∧
      Gives (.islandLockLoss i) s { s with
        abort := ab 0x106, mgt := noted s 0x106 (islandLoc i) 0, boot := { s.boot with islands := s.boot.islands.filter (fun k => k != i.val) } }) ∧
    ∀ a, s.abort = some a → a.recovered = false →
      (a.overtime = false → a.start + 30000000 < s.clk.now → Gives .recoveryOvertime s { s with abort := some { a with overtime := true }, mgt := noted s 0x1102 {} 0 }) ∧
      (a.overtime = true → Gives .recoveryOvertime s s)

/-- The recovery from an epoch abort: EPOCH_ABORT stops the epoch and counts it, ABORT_RESTORE drops what was in flight, clears the statistics and puts claimed objects back, ABORT_RECOVERY_DONE reports the epoch before as ready, so that the epoch runs again. What the abort drops beyond the named state is the model's reading (notes/assumptions/37). -/
def Obligations.AbortRecovery : Prop :=
  ∀ (s : State) (a : Abort), s.started = true → s.abort = some a →
    (a.taken = false → Answers .epochAbort s fun t =>
      t.abort = some { a with taken := true } ∧ t.abortRun = (a.epoch, if s.abortRun.1 = a.epoch then s.abortRun.2 + 1 else 1) ∧
      t.clk = { s.clk with ready := false, late := false, release := none } ∧
      t.word 0x220 = (s.word 0x220 &&& 0xFFFF#32 ||| BitVec.ofNat 32 (65536 * a.code)) ∧
      t.tiles = s.tiles ∧ t.seqs = s.seqs ∧ t.mem = s.mem ∧ t.ctx = s.ctx ∧ t.sync = s.sync ∧ t.cmd = s.cmd) ∧
    (a.taken = true → a.restored = false → Answers .abortRestore s fun t =>
      (∃ b, t.abort = some b ∧ b.restored = true ∧ b.taken = true ∧ b.epoch = a.epoch ∧ b.code = a.code) ∧
      (∀ k, (t.tile k).stats = [] ∧ (t.tile k).vres = [] ∧ (t.tile k).sfuWait = [] ∧ (t.tile k).fills = [] ∧ (t.tile k).acc = (s.tile k).acc ∧
        (t.tile k).vregs = (s.tile k).vregs) ∧
      t.work = [] ∧ (∀ r, (t.seq r).running = false ∧ (t.seq r).flight = []) ∧ t.sync.sigs = [] ∧ t.sync.semWaits = [] ∧ t.sync.misses = [] ∧ t.ctx.bindNow = [] ∧ t.ctx.bindNext = [] ∧
      ∀ o, t.obj o = if s.cmd.lasts.any (fun p => p.2.st == .running && p.2.sections.claims.sync.any (fun x => x.val == o)) then State.restObj (s.obj o) else s.obj o) ∧
    (a.recovered = false → s.recovered a = true → s.joined = false → s.clk.release = none → Answers .abortRecoveryDone s fun t =>
      t = { s with
        abort := some { a with recovered := true, readyAt := s.clk.now }, regs := t.regs
        clk := { s.clk with ready := true, late := false, release := some { epoch := s.clk.epoch, complete := bitsSet s.arrivals }, settle := 64 } } ∧
      t.dword 0x230 = (s.dword 0x230 + (s.clk.now - a.start)) % 2 ^ 64)

/-! ### Resets and starts -/

/-- COLD_RESET and THERMAL_SHUTDOWN put the package in its power-up state: registers at their cold values, memory and every mode cleared, RESET_N held low; fuses, flash slots, keys and correction tables stand. RAIL_UNDERVOLTAGE does so too, and the rail counts as low. -/
def Obligations.ColdResets : Prop :=
  ∀ s : State,
    let cold := fun (t : State) => t.regs = [] ∧ t.pend = [] ∧ t.banks = [] ∧ t.clk = {} ∧ t.abort = none ∧ t.mem = [] ∧ t.memErr = [] ∧ t.tiles = [] ∧
      t.seqs = [] ∧ t.ctx = {} ∧ t.sync = {} ∧ t.br = {} ∧ t.ln = [] ∧ t.lk = [] ∧ t.fab = {} ∧ t.shk = {} ∧ t.boot.phase = .heldReset ∧
      t.boot.reports = [] ∧ t.host.rings = [] ∧ t.host.vfs = 0 ∧ t.cmd = { keys := s.cmd.keys } ∧ t.mgt.evtLog = [] ∧
      t.fuse = { s.fuse with usedP2 := false } ∧ t.flash = { slotA := s.flash.slotA, slotB := s.flash.slotB } ∧
      t.work = [] ∧ t.nor.health = s.nor.health ∧ t.nor.marks = s.nor.marks ∧ t.opt.tables = s.opt.tables ∧
      t.out = s.out ∧ t.pending = s.pending
    (Answers .coldReset s fun t => cold t ∧ t.mgt.resetLow = true ∧ t.mgt.railLow = s.mgt.railLow ∧
      ((∀ n, s.boot.phase ≠ .stage n) → t.boot.record = s.boot.record ∧ t.nor.boot = s.nor.boot) ∧
      (∀ n, s.boot.phase = .stage n → s.mgt.warmDue = false → s.boot.record.trial = true →
        t.boot.record = { s.boot.record with sel := s.boot.record.prev, trial := false } ∧ t.boot.trialFailed = true)) ∧
    (Answers .thermalShutdown s fun t => cold t ∧ t.mgt.resetLow = true ∧ t.mgt.railLow = s.mgt.railLow) ∧
    (Answers .railUndervoltage s fun t => cold t ∧ t.mgt.resetLow = s.mgt.resetLow ∧ t.mgt.railLow = true ∧ t.boot.carried = none)

/-- A start reads the boot record and begins where RESET_N rises, a rail comes back, a failed start retries, sole mode is left, or a warm reset reaches its stage 0: with ROMs and fuses in order it ends in stage 1 from a slot that verifies, else in the wait for a retry or, at its third failure in a row, in sole mode; after three failures it goes to sole mode at once, and a port-A shank whose ROM fails ends it. -/
def Obligations.StartsBegin : Prop :=
  ∀ (s : State) (inp : Stage0In) (body : List Byte),
    let runs := fun (fails seq : Nat) (t : State) =>
      (0 ∈ inp.romFail → t.boot.phase = .shankFailed) ∧
      (0 ∉ inp.romFail → 3 ≤ fails → t.boot.phase = .sole) ∧
      (inp.romFail = [] → s.fuseFail inp = none → fails < 3 →
        t.boot.record.fails = fails + 1 ∧ t.boot.record.seq = seq + 1 ∧
        t.boot.phase = if s.slotCode false = 0 ∨ s.slotCode true = 0 then .stage 1 else if fails = 2 then .sole else .waitRetry)
    let now := runs s.readBoot.fails s.readBoot.seq
    (s.boot.phase = .heldReset → s.mgt.resetLow = true → s.mgt.railLow = false → Answers (.resetNRelease inp) s now) ∧
    (s.boot.phase = .heldReset → s.mgt.resetLow = false → s.mgt.railLow = true → Answers (.railRecovery inp) s now) ∧
    (s.boot.phase = .waitRetry → Answers (.failedStartRetry inp) s now) ∧
    (s.boot.phase = .sole → Answers (.retry inp) s (runs 0 s.boot.record.seq) ∧
      (s.mctpServes = true → Answers (.soleRetry body inp) s (runs 0 s.boot.record.seq))) ∧
    (s.mgt.warmDue = true → s.boot.phase = .stage 0 → Answers (.warmStage0Start inp) s fun t => now t ∧ t.mgt.warmDue = false)

/-- The stages of a start: stage 1 ends in stage 2 once identity and mesh bridges stand, stage 2 without failures in stage 3, stage 3 in stage 4 once bridges, lasers and links are settled, stage 4 in its report and map, and START_PASSED begins epoch 0; a test mode or test run of a bridge holds stage 1; a stage that finds a failure, or whose watchdog expires, fails the start with its code. -/
def Obligations.Stages : Prop :=
  ∀ (s : State) (i1 : Stage1In) (i2 : Stage2In) (i4 : Stage4In) (n : Fin 5),
    let failed := fun (code : Nat) (t : State) =>
      t.boot.phase = (if 3 ≤ s.boot.record.fails then .sole else .waitRetry) ∧ t.boot.record.lastCode = code
    (s.boot.phase = .stage 1 → (s.testHolds = true → Gives (.stage1 i1) s s)) ∧
    (s.boot.phase = .stage 1 → s.testHolds = false →
      (i1.refclkBad = true → Answers (.stage1 i1) s (failed 0xF08)) ∧
      (State.stage1Fail i1 = none → none ∉ s.boot.straps → s.identityFails = [] → s.meshReady = true → i1.digestBad = [] →
        Answers (.stage1 i1) s fun t => t.boot.phase = .stage 2 ∧ t.boot.portB = true ∧
          t.shk.standby = (if i1.standbyJoined then .inStep else .resync) ∧ (i1.standbyJoined = false → t.boot.ident = s.exchangedIdent))) ∧
    (s.boot.phase = .stage 2 →
      (i2.selfTestBad = true → Answers (.stage2 i2) s (failed 0xF0B)) ∧
      (i2.selfTestBad = false → i2.sramBad = false → i2.phyFail = none → s.boot.warm = false →
        (∃ u, (s.repairLanes (s.stage2Lanes i2 true)).repairRows (s.stage2Rows i2 true) = .inr u) →
        (∀ y < 4, (State.baseVersion (s.opt.base.get {} y)).isSome = true) →
        Answers (.stage2 i2) s fun t => t.boot.phase = .stage 3 ∧ t.hbm.known = true ∧ t.hbm.groupOut = [] ∧ t.hbm.repairs = [] ∧
          (∀ c, (t.chan c).reqs = [] ∧ (t.chan c).training = false) ∧ t.opt.lit = s.opt.lit)) ∧
    (s.boot.phase = .stage 3 → (∀ y < 4, s.bridge (4 + y) = .active) → s.opt.lit = true → (∀ l < 128, s.linkSettled l = true) →
      Answers .stage3 s fun t => t.boot.phase = .stage 4 ∧ ∃ r, t.boot.reports.find 3 = some r ∧ r.result ≠ 1) ∧
    (s.boot.phase = .stage 4 → s.boot.reports.find 4 = none → s.boot.warm = false → i4.failing = [] → i4.microcodeBad = [] → s.fuse.rowSpare = [] →
      (∀ d < 4, s.digestChecks d = true) →
      Answers (.stage4 i4) s fun t => t.boot.phase = .stage 4 ∧ (∃ r, t.boot.reports.find 4 = some r ∧ r.result = 0) ∧
        (∀ d < 4, t.boot.rowmap.find d = some { row := 8, src := 2 }) ∧ (∀ r < 32, t.seq r = { microcode := s.fetchMicrocode (r / 8) }) ∧ t.sync = {}) ∧
    (∀ r, s.boot.phase = .stage 4 → s.boot.reports.find 4 = some r → r.result ≠ 1 → Answers .startPassed s fun t =>
      t.boot.phase = .started ∧ t.clk.epoch = 0 ∧ t.clk.cycle = 0 ∧ t.boot.record.fails = 0 ∧ t.boot.record.trial = false) ∧
    (s.boot.phase = .stage n → s.boot.reports.find n = none → Answers .stageWatchdogExpiry s (failed (0xF10 + n.val))) ∧
    (s.boot.phase = .stage 3 → s.opt.enable = .waiting → Answers .laserPermitTimeout s (failed 0x903)) ∧
    (s.started = true → s.shk.headless = false → s.shk.standby = .resync → s.mgt.staging.length < 64 →
      Gives .standbyJoinTimeout s { s with mgt := noted s 0xF0E (State.dieLoc s.standbyPos) 0 })

/-- A warm reset, asked for through PKG_RESET_CTL or MCTP in a started package: 0x1104; the sequence keeps HBM3E, fuses, flash, keys and time and returns the rest to stage 0; then only the port-A shank and the host interfaces run on. Before stage 4 the request is refused with 0x0F0F. -/
def Obligations.WarmResets : Prop :=
  ∀ (s : State) (src : Src) (body : List Byte),
    (s.started = true → s.shk.headless = false → s.mgt.warmDue = false → s.mgt.staging.length < 64 →
      (src ≠ .mctp → Gives (.pkgResetCtl src 0 0x5752#32) s { s with mgt := { noted s 0x1104 {} 0 with warmDue := true } }) ∧
      (body.length = 4 → msgField body 0 4 = 0x5752 → s.mctpServes = true → Gives (.warmReset body) s
        { s with out := s.out ++ [.mctp 0 []], mgt := { noted s 0x1104 {} 0 with warmDue := true } })) ∧
    (s.boot.phase = .sole → src ≠ .mctp → Answers (.pkgResetCtl src 0 0x5752#32) s fun t =>
      t = { s with regs := t.regs, mgt := t.mgt } ∧ (s.mgt.staging.length < 64 → t.mgt.staging.any (fun e => e.code == 0xF0F) = true)) ∧
    (∀ fn v, (fn ≠ 0 ∨ v ≠ 0x5752#32) → Gives (.pkgResetCtl src fn v) s s) ∧
    (s.mgt.warmDue = true → s.started = true → Answers .warmResetSequence s fun t =>
      t.boot.phase = .stage 0 ∧ t.boot.warm = true ∧ t.clk = { now := s.clk.now, sub := s.clk.sub } ∧ t.tiles = [] ∧ t.seqs = [] ∧ t.sync = {} ∧
      t.ctx = {} ∧ t.ln = [] ∧ t.lk = [] ∧ t.host.rings = [] ∧ t.fuse = s.fuse ∧ t.flash.slotA = s.flash.slotA ∧ t.flash.slotB = s.flash.slotB ∧
      t.nor.boot = s.nor.boot ∧ t.work = [] ∧ (∀ a, 8 * 0x900000000 ≤ a → t.mem.byte a = 0#8) ∧ (∀ k, (t.key k).key = (s.key k).key ∧ (t.key k).st = (s.key k).st ∧ (t.key k).rights = (s.key k).rights)) ∧
    (s.mgt.warmDue = true → s.boot.phase = .stage 0 → Gives .warmResetSelfRefresh s
      { s with boot := { s.boot with islands := s.boot.islands.filter (fun i => i == 42 || i == 43 || i == 131) } })

/-- Dark-idle: its islands stop 100 µs after entry; at its exit they start again with scratch, accumulators and registers at 0 and fresh sequencers, and then the submission queues resume. -/
def Obligations.DarkIdle : Prop :=
  ∀ s : State,
    (s.mgt.dark = .entered → Gives .darkIdleSelfRefresh s
      { s with mgt := { s.mgt with dark := .idle }, boot := { s.boot with islands := s.boot.islands.filter (fun i => !darkIsland i) } }) ∧
    (s.mgt.dark = .leaving → (∀ d < 4, s.digestChecks d = true) → Answers (.darkExitTileStart []) s fun t =>
      t = { s with mgt := { s.mgt with dark := .tiles }, boot := { s.boot with islands := t.boot.islands }, tiles := [], mem := t.mem, memErr := t.memErr, seqs := t.seqs } ∧
      (∀ r < 32, t.seq r = { microcode := s.fetchMicrocode (r / 8) }) ∧
      (∀ a, t.mem.byte a = if scratchAddr 0 ≤ a ∧ a < scratchAddr 128 then 0#8 else s.mem.byte a) ∧
      ∀ i < 224, darkIsland i = true → s.mayRun i = true → i ∈ t.boot.islands) ∧
    (s.mgt.dark = .tiles → Gives .darkExitSqResume s { s with mgt := { s.mgt with dark := .awake } })

/-! ### Critical commands -/

/-- A critical descriptor with the queue empty: the steps of its keyed check in order: a refusal with the code of the first that fails, 0x0E04 where the MAC differs, the wait for a counter mark, or acceptance. -/
def Obligations.CriticalCommands : Prop :=
  ∀ (s : State) (q : Fin 4096) (d : BitVec 512) (p : Option (BitVec 1024)),
    s.readsFrom q = true → s.fenceOpen q d = true → s.gateHolds = false → s.cmd.queue = [] → s.cmd.marking = none →
    let c : Crit := { src := .ring q (s.ringPort q == 1), d := d, param := p, time := (s.clk.now, s.clk.sub) }
    let k := dKslot d
    let s1 := s.takeDescriptor q
    let s2 := s1.setKey k { s.key k with run := 0 }
    ∀ x ∈ [(0x40, Instr.lastLoad q d p), (0x41, .fwActivate q d p), (0x42, .fuseBurn q d p), (0x43, .keyChange q d p), (0x44, .laserOverride q d p),
      (0x45, .roleTransfer q d p)],
      dOpc d = x.1 → Gives x.2 s
        (if s1.critChecks c ≠ 0 then s1.refuseCrit c (s1.critChecks c)
         else if critMac (s.key k).key d c.p s.fuse.serial ≠ toBytes 16 (dField d 0x30 16) then (s1.macFailed k).refuseCrit c 0x0E04
         else if (s.key k).mark < dCounter d then State.beginStore { s2 with cmd := { s2.cmd with marking := some c } }
         else s2.acceptCrit c)

/-- A stored counter mark ends the keyed check: the slot's mark is COUNTER + 4,096, its counter is consumed, and the command waits for its work; a mark that cannot be stored refuses it with 0x0E07; a store that waits for an erase has not ended. CRITICAL_WORK_START begins the oldest accepted command: an UNLOAD names the last that leaves, LASER_OVERRIDE and ROLE_TRANSFER wait for their boundary, the others run until their own end. KEY_SLOT_UNLOCK makes a locked slot active. -/
def Obligations.CriticalWork : Prop :=
  ∀ (s : State) (c : Crit) (rest : List Crit) (slot : Fin 8), s.activeHalted = false →
    let k := dKslot c.d
    let t0 : State := { s with cmd := { s.cmd with current := some c, work := rest } }
    (s.nor.storeWaits = false → s.cmd.marking = some c → s.cmd.queue = [] →
      (s.cmd.current ≠ none → dOpc c.d ≠ 0x40 → Answers (.counterMarkStored true) s fun t =>
        t.cmd.marking = none ∧ t.cmd.work = s.cmd.work ++ [{ c with jseq := s.nextJseq, accepted := s.clk.epoch }] ∧
        t.key k = { s.key k with mark := min (dCounter c.d + 4096) (2 ^ 64 - 1), counter := dCounter c.d } ∧ ∀ j, j ≠ k → t.key j = s.key j) ∧
      Gives (.counterMarkStored false) s (State.refuseCrit (State.endStore { s with cmd := { s.cmd with marking := none } }) c 0x0E07)) ∧
    (s.nor.storeWaits = true → ∀ ok, Gives (.counterMarkStored ok) s s) ∧
    (s.cmd.current = none → s.cmd.work = c :: rest →
      (dOpc c.d = 0x41 ∨ (dOpc c.d = 0x40 ∧ State.namesImage c = true) → Gives .criticalWorkStart s t0) ∧
      (dOpc c.d = 0x43 → s.keyChangeBad c = false → Gives .criticalWorkStart s t0.beginStore) ∧
      (dOpc c.d = 0x43 → s.keyChangeBad c = true → Gives .criticalWorkStart s (t0.endWork 0x0E06 (pField c.p 0 1))) ∧
      (dOpc c.d = 0x42 → (s.lock 1).refuse = none → pField c.p 0 1 = 2 → Gives .criticalWorkStart s
        (if pField c.p 1 1 < 4 ∧ pField c.p 2 1 ≤ 8 ∧ s.fuse.rowSpare.find (pField c.p 1 1) = none then t0 else t0.endWork 0x0E0A (pField c.p 2 1))) ∧
      (dOpc c.d = 0x44 → s.latchedEpoch < pField c.p 8 8 → Answers .criticalWorkStart s fun t =>
        t.cmd.overridePend = some (pField c.p 0 1 == 1, pField c.p 8 8) ∧ t.cmd.current = none ∧ t.cmd.work = rest) ∧
      (dOpc c.d = 0x45 → s.shk.standby = .inStep → s.latchedEpoch < pField c.p 0 8 → Answers .criticalWorkStart s fun t =>
        t.cmd.rolePend = some (pField c.p 0 8) ∧ t.cmd.current = none ∧ t.cmd.work = rest) ∧
      (dOpc c.d = 0x40 → State.namesImage c = false → c.accepted + 2 ≤ pField c.p 0x10 8 → s.latchedEpoch < pField c.p 0x10 8 → pField c.p 0x20 1 = 4 →
        Answers .criticalWorkStart s fun t => t.cmd.current = none ∧ t.cmd.lasts = s.cmd.lasts.map (fun e =>
          if e.1 ≠ 16 ∧ e.2.st ≠ .validating ∧ e.2.id = pField c.p 0x18 8 then (e.1, e.2.nameLeave (pField c.p 0x10 8)) else e))) ∧
    ((s.key slot).st = .locked → Gives (.keySlotUnlock slot) s (s.setKey slot { s.key slot with st := .active }))

/-- The ends of critical work: LAST_VALIDATION_DONE stages the last of an image that passes every check and frees the entry of one that fails; KEY_RECORD_STORED installs the unwrapped key or empties the slot; FW_ACTIVATE_DONE selects a slot that is valid and is the one named; FUSE_BURN_DONE writes the row spare, or the chiplet's next table version. -/
def Obligations.CriticalEnds : Prop :=
  ∀ (s : State) (c : Crit) (sections : Sections) (ok stored : Bool), s.activeHalted = false → s.cmd.current = some c → s.cmd.work = [] →
    (dOpc c.d = 0x40 → State.namesImage c = true → ∀ e, s.loadEntry c = some e → Answers (.lastValidationDone sections) s fun t =>
      t.cmd.current = none ∧
      ((t.cmd.lasts.find e.1).map (fun l => l.st)) = if (s.loadOf c sections).verdict true = 0 then some .staged else none) ∧
    (s.nor.storeWaits = false → dOpc c.d = 0x43 → pField c.p 1 1 = 1 → Answers .keyRecordStored s fun t => t.cmd.current = none ∧
      t.key (pField c.p 0 1) = { s.key (pField c.p 0 1) with
                                 key := (toBytes 32 (pField c.p 0x20 32)).zipWith (fun a b => a ^^^ b) (wrapH (s.key (dKslot c.d)).key (dCounter c.d) s.fuse.serial),
                                 st := .active, rights := pField c.p 2 1, counter := 0, mark := 0 } ∧
      (∀ j, j ≠ pField c.p 0 1 → t.key j = s.key j) ∧ t.fuse = { s.fuse with spent := s.fuse.spent || pField c.p 0 1 == 0 }) ∧
    (s.nor.storeWaits = false → dOpc c.d = 0x43 → pField c.p 1 1 = 2 → Answers .keyRecordStored s fun t => t.cmd.current = none ∧
      t.key (pField c.p 0 1) = { s.key (pField c.p 0 1) with key := [], st := .empty } ∧ (∀ j, j ≠ pField c.p 0 1 → t.key j = s.key j) ∧ t.fuse = s.fuse) ∧
    (dOpc c.d = 0x41 → Answers .fwActivateDone s fun t => t.cmd.current = none ∧ t.flash = s.flash ∧
      t.boot.record = if decide (pField c.p 0 1 ≤ 1) && s.slotValid (pField c.p 0 1 == 1) && State.slotField (s.fslot (pField c.p 0 1 == 1)) 0x10 8 == pField c.p 8 8 &&
          sha256 (State.manifest (s.fslot (pField c.p 0 1 == 1))) == toBytes 32 (pField c.p 0x10 32) then
        { s.boot.record with
          prev := s.boot.slotB, sel := pField c.p 0 1 == 1, trial := true, fails := if s.boot.phase = .sole then 0 else s.boot.record.fails }
        else s.boot.record) ∧
    (dOpc c.d = 0x42 → pField c.p 0 1 = 2 → Answers (.fuseBurnDone ok stored) s fun t => t.cmd.current = none ∧
      t.fuse = if ok then { s.fuse with rowSpare := s.fuse.rowSpare.put (pField c.p 1 1) (pField c.p 2 1) } else s.fuse) ∧
    (dOpc c.d = 0x42 → pField c.p 0 1 = 1 → Answers (.fuseBurnDone ok stored) s fun t => t.cmd.current = none ∧ t.fuse = s.fuse ∧
      (t.opt.base.get {} (pField c.p 1 1)).high = pField c.p 8 1 ∧ (t.opt.base.get {} (pField c.p 1 1)).use = (s.opt.base.get {} (pField c.p 1 1)).use ∧
      ∀ y, y ≠ pField c.p 1 1 → t.opt.base.get {} y = s.opt.base.get {} y)

/-! ### Light -/

/-- The lasers of a channel: a failure of the primary puts its bias off and hands the channel to a spare that is ready, or brings the spare up; a qualified spare takes a channel that has lost its primary; a failed primary is tried again and handed back, or counts a failure; a change of bias range brings up the other laser. An exchange that falls due begins at once where every active link of the group has its spare lane free, and is held otherwise. The bias codes are free values (notes/assumptions/67). -/
def Obligations.Lasers : Prop :=
  ∀ (s : State) (l : LaserId) (cause : LaserFault),
    let x := chanOf l.chip l.group l.chan
    let c := s.chOf x
    let only := fun (t : State) (c' : Channel) =>
      t.chOf x = c' ∧ (∀ j, j ≠ x → t.chOf j = s.chOf j) ∧ t.mem = s.mem ∧ t.tiles = s.tiles ∧ t.lk = s.lk ∧ t.abort = s.abort
    let sets := fun (i : Instr) (c' : Channel) => Answers i s fun t => only t c' ∧ t.ln = s.ln
    let free := (s.activeLinks l.chip l.group).all s.txFree
    let due := fun (i : Instr) (e : Exchange) (c' : Channel) => Answers i s fun t =>
      only t { c' with exchange := some e, stage := if free then .moving else .waiting, exchangeHeld := !free } ∧
      ∀ j, t.lnk j = { s.lnk j with txMove := (t.lnk j).txMove, want := (t.lnk j).want }
    let failed : Channel := { c with primary := .failed, primaryBias := {}, hiDue := false, exchange := none, stage := .waiting }
    (c.primary = .bus ∨ (c.primary = .dark ∧ s.opt.enable = .running) →
      (c.spare = .dark → sets (.laserFailure l false cause) { failed with spare := .bringup, spareBias := s.biasNow x true c.spareHi }) ∧
      (c.spare = .ready → sets (.laserFailure l false cause) { failed with cross := true, spare := .bus, lost := false }) ∧
      (c.spare = .dead → sets (.laserFailure l false cause) { failed with lost := true })) ∧
    (c.spare = .bus → sets (.laserFailure l true cause)
      { c with spare := .dead, spareBias := {}, exchange := if c.exchange = some .toSpare then none else c.exchange, lost := true }) ∧
    (c.spare = .bringup → c.primary = .failed → sets (.spareLaserQualified l)
      { c with cross := true, spare := .bus, lost := false, exchange := none, stage := .waiting }) ∧
    (c.spare = .bringup → c.primary = .bus → due (.spareLaserQualified l) .toSpare { c with spare := .ready }) ∧
    (c.primary = .failed → s.opt.lit = true → sets (.primaryRetry l) { c with primary := .bringup, primaryBias := s.biasNow x false c.primaryHi }) ∧
    (c.primary = .bringup → due (.primaryRetryResult l true) .handback { c with primary := .ready, retries := 0 }) ∧
    (c.primary = .bringup → c.retries < 15 → sets (.primaryRetryResult l false) { c with primary := .failed, primaryBias := {}, retries := c.retries + 1 }) ∧
    (c.primary = .bringup → 15 ≤ c.retries → c.spare ≠ .dead → sets (.primaryRetryResult l false) { c with primary := .dead, primaryBias := {}, retries := 16 }) ∧
    (c.primary = .bus → c.primaryHi = false →
      (c.spare = .dark → c.exchange = none → sets (.biasRangeChange l false)
        { c with hiDue := false, spare := .bringup, spareHi := true, spareBias := s.biasNow x true true }) ∧
      (c.spare ≠ .dark ∨ c.exchange ≠ none → sets (.biasRangeChange l false) { c with hiDue := true })) ∧
    (c.spare = .bus → c.spareHi = false →
      (c.primary = .ready → c.exchange = none → due (.biasRangeChange l true) .handback c) ∧
      (c.primary = .failed → s.opt.lit = true → sets (.biasRangeChange l true) { c with primary := .bringup, primaryBias := s.biasNow x false c.primaryHi }))

/-- The interlock: LASER_PERMIT lets a waiting enable sequence run, its fall darkens a package with light, that of the sequence from 5 ms on among it, unless the override is in force, the end of the sequence lights every dark primary, brings up the spares of those that failed and sends enabled links to DETECT; an open fibre closes its shutter and probes; a probe window opens and closes the shutter. -/
def Obligations.Interlock : Prop :=
  ∀ (s : State) (l : Fin 128) (opens : Bool),
    Gives .laserPermitRise s { s with opt := { s.opt with
      permit := true, enable := if s.opt.enable = .waiting then .running else s.opt.enable
      enableAt := if s.opt.enable = .waiting then s.clk.now else s.opt.enableAt } } ∧
    (s.cmd.override = true ∨ (s.opt.lit = false ∧ s.opt.enable ≠ .running) → Gives .laserPermitFall s { s with opt := { s.opt with permit := false } }) ∧
    (s.cmd.override = false → s.opt.lit = false → s.opt.enable = .running → s.seqLit = false →
      Gives .laserPermitFall s { s with opt := { s.opt with permit := false, enable := .waiting } }) ∧
    (s.cmd.override = false → s.opt.lit = true ∨ s.seqLit = true → Answers .laserPermitFall s fun t =>
      t.opt.permit = false ∧ t.opt.lit = false ∧ t.opt.enable = .waiting ∧ (∀ k, t.shutter k = .closed) ∧ (∀ k < 128, (t.lnk k).st = .off) ∧ t.tiles = s.tiles) ∧
    (s.opt.enable = .running → Answers .laserEnableDone s fun t => t.opt.lit = true ∧ t.opt.enable = .idle ∧
      (∀ x < 272, ((s.chOf x).primary = .dark → (t.chOf x).primary = .bus) ∧
        ((s.chOf x).primary = .failed → (s.chOf x).spare = .dark → (t.chOf x).spare = .bringup)) ∧
      (∀ k < 128, (s.lnk k).st = .off → s.lnEnabled k = true → (t.lnk k).st = .detect ∧ t.shutter k = .probe)) ∧
    (s.shutter l = .opened → (s.lnk l).st ≠ .off → s.lnEnabled l = true → s.opt.lit = true → Answers (.openFibre l) s fun t =>
      t.shutter l = .closed ∧ (t.lnk l).st = .detect ∧ (t.lnk l).duty = true ∧ (t.lnk l).held = false) ∧
    ((s.lnk l).st = .detect → (s.lnk l).duty = true → (s.lnk l).held = false → (s.lnk l).found = false →
      Gives (.probeWindow l opens) s (s.setShutter l (if opens then .probe else .closed)))

/-- Heaters and calibration: a heater update sets the rings of a link that is not ACTIVE to the codes of its temperature and moves those of an ACTIVE one by 4 codes at most; detuning past half the margin of the chiplet's temperature makes a lane urgent; a turn with calibration off defers its lane; a calibration that passes sets the correction, and one of the partner's lane the drop filter's. -/
def Obligations.HeatersAndCalibration : Prop :=
  ∀ (s : State) (l : Fin 128) (w : Fin 17) (temp : Int) (m d : BitVec 10) (est : Int) (r : Fin 34) (chip group : Fin 4),
    let s1 := { s with opt := { s.opt with temps := s.opt.temps.set 0 l temp } }
    (s.opt.lit = false → s.opt.enable ≠ .running → Gives (.heaterUpdate l temp) s s1) ∧
    (s.opt.lit = true → (∀ i < 34, 4 < (s.ringOf (34 * l + i)).code ∧ (s.ringOf (34 * l + i)).code < 4091) → s.linkUp l = true → Answers (.heaterUpdate l temp) s fun t =>
      t = { s1 with opt := { s1.opt with rings := t.opt.rings } } ∧
      ∀ i < 34, t.ringOf (34 * l + i) = { s.ringOf (34 * l + i) with
        code := max ((s.ringOf (34 * l + i)).code - 4) (min ((s.ringOf (34 * l + i)).code + 4) (s1.targetCode (34 * l + i))), edge := false }) ∧
    (s.linkUp l = true → let b := s.bandOf l
      let margin := if 17 ≤ r.val then b.1 else b.2.1
      (2 * est.natAbs ≤ margin → Answers (.detuneEstimateRefresh l [(r, est)]) s fun t =>
        t = { s with opt := { s.opt with rings := t.opt.rings } } ∧ (t.ringOf (34 * l + r)).est = est.natAbs) ∧
      (margin < 2 * est.natAbs → Answers (.detuneEstimateRefresh l [(r, est)]) s fun t =>
        (t.ringOf (34 * l + r)).est = est.natAbs ∧ (t.lnk l).urgent.getLsbD (r % 17) = true ∧ (l.val, r.val % 17) ∈ (t.calGroup (linkGroup l)).head)) ∧
    (s.linkUp l = true → Answers (.gainRangeTimeout l w) s fun t => (t.lnk l).urgent.getLsbD w = true ∧ (l.val, w.val) ∈ (t.calGroup (linkGroup l)).head) ∧
    ((s.laneCal l w).deferred = true → (s.laneCal l w).guardOut = false → (s.bandOf l).2.2.1 < (s.ringOf (ringKey l w true)).est →
      Gives (.guardBandExceeded l w) s ((s.setLaneCal l w { s.laneCal l w with guardOut := true }).record 0x0908 (linkLoc l w))) ∧
    (s.started = true → s.opt.lit = true → (s.calGroup (4 * chip + group)).run = none → s.bits (yzBase chip + 0x10) 0 1 = 0 →
      ∀ p, s.turnLane chip group = some p → Answers (.calTurn chip group) s fun t => (t.laneCal p.1 p.2).deferred = true ∧ (t.laneCal p.1 p.2).urgent = false ∧
        (t.calGroup (4 * chip + group)).run = none) ∧
    (∀ g cal, s.linkUp l = true → (s.calGroup (linkGroup l)).run = some cal → cal.link = l → cal.lane = w → s.txIdle l w = true →
      Answers (.calibrateLane l w (.passed m.toInt d.toInt g)) s fun t => (t.ringOf (ringKey l w false)).corr = m.toInt ∧ (t.calGroup (linkGroup l)).run = none ∧
        (t.calGroup (linkGroup l)).last.get 0 l = s.clk.now ∧ t.laneCal l w = { s.laneCal l w with retired := false, deferred := false, guardOut := false }) ∧
    (∀ g, s.linkUp l = true → (s.calGroup (linkGroup l)).run = none → laneOf w (s.lnk l).spareCh ≠ 31 → (s.lnk l).rxSpare = laneOf w (s.lnk l).spareCh →
      Answers (.calibrateLane l w (.passed m.toInt d.toInt g)) s fun t => (t.ringOf (ringKey l w true)).corr = d.toInt ∧
        (t.laneCal l w).gain = gainOf g ∧ (t.laneCal l w).overloadRetired = false ∧ (t.lnk l).retired.getLsbD w = false)

/-- Ambient light on a lane: an overload sets its flag and counts an episode, its end clears the flag, 100 µs of it retire the lane to the free spare lane or, without one, take the link down, and after it the lane is first in its group's queue; a wavelength whose new light passes its PRBS check has its lane return from the spare lane; a check with errors runs on. -/
def Obligations.AmbientLight : Prop :=
  ∀ (s : State) (l : Fin 128) (w : Fin 17),
    let x := s.laneCal l w
    (x.overload = false → Answers (.rxOverload l w) s fun t =>
      t.laneCal l w = { x with overload := true } ∧ t.word (lnReg l + 0x100 + 4 * w) = BitVec.ofNat 32 (min ((s.word (lnReg l + 0x100 + 4 * w)).toNat + 1) 0xFFFFFFFF)) ∧
    Gives (.overloadClear l w) s (s.setLaneCal l w { x with overload := false }) ∧
    (x.overload = true → x.overloadRetired = false → s.linkUp l = true → laneOf w (s.lnk l).spareCh ≠ 31 → (s.lnk l).retired.getLsbD w = false →
      s.rxFree l = true → Answers (.overloadRetire l w) s fun t =>
        (t.laneCal l w).overloadRetired = true ∧ (t.lnk l).retired.getLsbD w = true ∧ (t.lnk l).rxReq = laneOf w (s.lnk l).spareCh ∧ t.linkUp l = true) ∧
    (x.overload = true → x.overloadRetired = false → s.linkUp l = true → laneOf w (s.lnk l).spareCh ≠ 31 → (s.lnk l).rxSpare ≠ 31 →
      (s.lnk l).rxSpare ≠ laneOf w (s.lnk l).spareCh → Answers (.overloadRetire l w) s fun t => t.linkUp l = false) ∧
    (x.overloadRetired = true → x.overload = false → Answers (.overloadRecovery l w) s fun t =>
      (t.calGroup (linkGroup l)).head.head? = some (l.val, w.val) ∧ (t.lnk l).urgent.getLsbD w = true) ∧
    Gives (.lanePrbsCheckDone l w false) s s ∧
    (x.prbs = false → Gives (.lanePrbsCheckDone l w true) s s) ∧
    (let r := s.lnk l
     let j := laneOf w r.spareCh
     x.prbs = true →
      (j = 31 → Gives (.lanePrbsCheckDone l w true) s (s.setLaneCal l w { x with prbs := false })) ∧
      (j ≠ 31 → r.st = .active → r.txSpare = j → r.txMove = none → (j, true) ∉ r.want → s.channelLit (chanOf (l / 32) (l % 32 / 8) w) = true →
        (s.calGroup (linkGroup l)).run = none → x.retired = false →
        Gives (.lanePrbsCheckDone l w true) s ((s.setLaneCal l w { x with prbs := false }).setLnk l { r with txMove := some ⟨j, true, s.clk.epoch + 2, false, true⟩ })))

/-! ### Bridges -/

/-- The bridges: training that passes makes a mesh bridge carry lines, or a chiplet bridge send INIT, whose answer starts every channel with the credits that its two ends advertised; a failure fails the stage, and at run time leaves a mesh bridge down; single-bit errors of mesh lines are corrected and counted, double-bit ones abort, and a direction with more than 1,024 in an epoch has its bridge retrained; the test modes run only in a package held at stage 1, and a run's end counts the bits of each wire that differ from the pattern. -/
def Obligations.BridgeTrainingAndTests : Prop :=
  ∀ (s : State) (b : Fin 8) (m y : Fin 4) (c : Fin 32) (dir : Bool) (rev mode : Word) (adv : List (Fin 256 × Fin 4096)),
    let failed := fun (code : Nat) (t : State) => t.boot.phase = (if 3 ≤ s.boot.record.fails then .sole else .waitRetry) ∧ t.boot.record.lastCode = code
    let fresh := fun (t : State) (k : Nat) (a : List (Nat × Nat)) => t.dir k = { credits := startCredits a, locals := (s.dir k).locals }
    (s.bridge b = .training → s.testHolds = false →
      (b.val < 4 → s.boot.phase = .stage 1 ∨ s.boot.phase = .started → Answers (.bridgeTraining b none .passed) s fun t =>
        t = { s with br := t.br } ∧ t.bridge b = .active ∧ b.val ∉ t.br.due ∧ b.val ∈ t.br.trained ∧ ∀ k, k ≠ b.val → t.bridge k = s.bridge k) ∧
      (b.val < 4 → s.boot.phase = .stage 1 → Answers (.bridgeTraining b none .latency) s (failed 0x804)) ∧
      (b.val < 4 → s.boot.phase = .started → Answers (.bridgeTraining b none .latency) s fun t =>
        t.bridge b = .down ∧ b.val ∉ t.br.due ∧ t.boot.islands = s.boot.islands.filter (fun k => !(meshIslands b).contains k)) ∧
      (4 ≤ b.val → s.boot.phase = .stage 3 → Answers (.bridgeTraining b none .passed) s fun t =>
        t = { s with br := t.br, out := s.out ++ [.init (b.val - 4) s.fuse.variant initAdv] } ∧ t.bridge b = .training ∧ t.br.initTries.get 0 b = 1)) ∧
    (4 ≤ b.val → s.started = true → s.chanDown (b.val - 4) c = true → s.bridge b = .active → Answers (.bridgeTraining b (some c) .passed) s fun t =>
      t = { s with br := t.br } ∧ t.chanDown (b.val - 4) c = false ∧ t.bridge b = .active ∧
      fresh t (64 * (b.val - 4) + 2 * c) initAdv ∧ fresh t (64 * (b.val - 4) + 2 * c + 1) initAdv) ∧
    (s.initOpen y = true → Answers (.initAck y ⟨rev, adv⟩) s fun t =>
      t.bridge (4 + y) = .active ∧ 4 + y.val ∈ t.br.trained ∧ t.fuse.yzRev.get 0 y = rev.toNat ∧
      ∀ k < 32, fresh t (64 * y + 2 * k) initAdv ∧ fresh t (64 * y + 2 * k + 1) (adv.map (fun p => (p.1.val, p.2.val)))) ∧
    (s.initOpen y = true → s.br.initTries.get 0 (4 + y) < 3 → Gives (.initTimeout y) s
      { s with br := { s.br with initTries := s.br.initTries.set 0 (4 + y) (s.br.initTries.get 0 (4 + y) + 1) }
               out := s.out ++ [.init y s.fuse.variant initAdv] }) ∧
    (s.initOpen y = true → 3 ≤ s.br.initTries.get 0 (4 + y) → Answers (.initTimeout y) s (failed 0x809)) ∧
    (s.bridge m = .active → let k := 2 * m.val + dir.toNat
      Gives (.meshLineReceive m dir ⟨0, false⟩) s s ∧
      (∀ n : Fin 33, n ≠ 0 → Answers (.meshLineReceive m dir ⟨n, false⟩) s fun t => t.br.ceEpoch.get 0 k = s.br.ceEpoch.get 0 k + n ∧ t.abort = s.abort ∧
        t.word (sbrBase + 0x200 + 4 * k) = BitVec.ofNat 32 (min ((s.word (sbrBase + 0x200 + 4 * k)).toNat + n) 0xFFFFFFFF)) ∧
      (s.started = true → s.abort = none → s.clk.pauseFrom = none → ∀ n, Answers (.meshLineReceive m dir ⟨n, true⟩) s fun t =>
        t.br.ceEpoch.get 0 k = s.br.ceEpoch.get 0 k + n ∧ m.val ∈ t.br.due ∧
        t.abort = some { epoch := s.clk.epoch, code := 0x805, start := s.clk.now }) ∧
      (s.ceOver k = true → s.ceOver (2 * m.val + (!dir).toNat) = false → s.mgt.staging.length < 64 → s.started = true → Gives (.meshRetrainDue m) s
        { s with br := { s.br with ceTold := s.br.ceTold ++ [k], due := if s.br.due.contains m.val then s.br.due else s.br.due ++ [m.val] }
                 mgt := noted s 0x806 { kind := 4, unit := m + 8 * dir.toNat } 0 })) ∧
    (s.testOpen = true → s.testRuns b = false →
      (Answers (.sbrTestRunStart b) s fun t => t = { s with regs := t.regs, br := { s.br with testEnd := t.br.testEnd } } ∧ t.testRuns b = true ∧
        t.bits (testReg b) 16 1 = 0 ∧ ∀ d, ∀ sl < 385, ∀ w < 38, t.bits (State.countAt b d sl w) (countShift sl w) 16 = 0) ∧
      Gives (.awlTest b mode) s ((s.setWord (testReg b) (s.word (testReg b) &&& ~~~testMask ||| mode &&& testMask)).emit (.awl 0 0 0))) ∧
    (s.testOpen = false → Gives (.awlTest b mode) s (s.emit (.awl 2 0 0))) ∧
    (s.testRuns b = true →
      let stopped : State := { s with br := { s.br with testEnd := s.br.testEnd.filter (fun x => x != b.val) } }
      Gives (.sbrTestRunStop b []) s (stopped.setWord (testReg b) (s.word (testReg b) &&& 0xFFFFFEFF#32)) ∧
      ∀ (sl : Fin 256) (w : Fin 38) (bits : List Bool), let n := s.mismatches b sl w bits
        0 < n → s.bits (State.countAt b dir sl w) (countShift sl w) 16 = 0 → n < 65536 →
        Answers (.sbrTestRunStop b [(dir, ⟨sl.val, by omega⟩, w, bits)]) s fun t => t.testRuns b = false ∧ t.bits (testReg b) 16 1 = 1 ∧
          t.bits (State.countAt b dir sl w) (countShift sl w) 16 = n)

/-- The channels of Wn: a released stitch waits for its slot, a slot sends the oldest stitch under the next SEQ and keeps it for replay, a free one the LOCAL flit whose turn it is, an idle one an IDLE flit; a flit in order whose CRC checks is accepted and one whose CRC fails is answered with NAK; a timeout sends the kept flits again, and after 8 tries the channel retrains with its link down. A failed feed slice loses the standby. -/
def Obligations.WnFlits : Prop :=
  ∀ (s : State) (l : Fin 128) (y : Fin 4) (c : Fin 32) (toYz : Bool) (body : BitVec 2048) (h : BitVec 256) (slice : Fin 2),
    (∀ x, (s.stitchList l true)[(s.lkk l).released]? = some x → s.inEpoch = true → s.notStopped = true →
      gridBefore (wnGrid s.fuse.variant) (x.cycle - 101) ≤ s.clk.cycle →
      let k := State.chanKey l true
      let f : Flit := { idleFlit with kind := 1, par := s.clk.epoch % 2 == 1, addr := x.cycle % 2 ^ 26, payload := body }
      let s1 := s.setLkk l { s.lkk l with released := (s.lkk l).released + 1 }
      (s.lkk l).st = .inSched → Gives (.stitchRelease l body) s (s1.setDir k { s.dir k with stitches := (s.dir k).stitches ++ [f] })) ∧
    (let k := 64 * y.val + 2 * c.val + toYz.toNat
     let d := s.dir k
     s.chanRuns y c = true →
      (∀ f rest, d.resend = [] → d.stitches = f :: rest → d.replay.length < 64 → Answers (.flitSlot y c toYz) s fun t =>
        t = { s with br := t.br, out := t.out } ∧ (t.dir k).stitches = rest ∧ (t.dir k).seq = (d.seq + 1) % 4096 ∧
        (t.dir k).replay = d.replay ++ [{ f with seq := (d.seq + 1) % 4096 }] ∧ ∃ hd, t.out = s.out ++ [.flit y c toYz hd f.payload]) ∧
      (d.resend = [] → d.stitches = [] → d.packets = [] → (s.dir (64 * y + toYz.toNat)).locals = [] → Answers (.flitSlot y c toYz) s fun t =>
        t = { s with br := t.br, out := t.out } ∧ (t.dir k).replay = d.replay ∧ ∃ hd, t.out = s.out ++ [.flit y c toYz hd 0#2048]) ∧
      (∀ f rest, d.resend = [] → d.stitches = [] → d.packets = [] → s.slotReserved y c toYz = false → s.localNext y toYz = some c.val →
        (s.dir (64 * y + toYz.toNat)).locals = f :: rest → Answers (.flitSlot y c toYz) s fun t =>
        t = { s with br := t.br, out := t.out } ∧ (t.dir (64 * y + toYz.toNat)).locals = rest ∧ (t.dir k).seq = (d.seq + 1) % 4096 ∧
        (t.dir k).replay = d.replay ++ [{ f with seq := (d.seq + 1) % 4096 }] ∧ ∃ hd, t.out = s.out ++ [.flit y c toYz hd f.payload]) ∧
      (toYz = true → hField h 0 2 = 1 → wrapDiff 12 (hField h 16 12) d.expect = 0 → (s.lkk (32 * y + c)).st = .inSched → s.notStopped = true →
        (s.lkk (32 * y + c)).poison = [] → Answers (.flitReceive y c toYz h body) s fun t =>
          let r := s.lkk (32 * y + c)
          if flitCrc (h.toNat % 2 ^ 224) body = hField h 224 32 then
            t.lkk (32 * y + c) = { r with ready := r.ready ++ [body] } ∧ (t.dir k).expect = (d.expect + 1) % 4096 ∧ (t.dir k).nak = d.nak
          else t.lkk (32 * y + c) = r ∧ t.dir k = { d with nak := true }) ∧
      (d.replay ≠ [] → Gives (.flitReplayTimeout y c toYz) s (s.setDir k { d with resend := d.replay })) ∧
      (8 ≤ d.tries → Answers (.flitRetryExhausted y c toYz) s fun t => t.chanDown y c = true ∧ t.linkUp (32 * y + c) = false)) ∧
    (s.shanksRun = true → s.shk.standby = .inStep → Answers (.feedFailure slice) s fun t =>
      t.shk.standby = .resync ∧ t.shk.lostSince = s.clk.now ∧ t.br.feedOk = s.br.feedOk.set slice false)

/-! ### Optical lanes -/

/-- Bring-up of a link's lanes, state by state: partner words in DETECT, ring sweeps in ALIGN, where a wavelength without a resonance is retired, bit lock in BITLOCK. -/
def Obligations.LaneBringUp : Prop :=
  ∀ (s : State) (l : Fin 128) (found : Bool) (mask : BitVec 17),
    let r := s.lnk l
    let live := fun (t : State) => t = { s with ln := t.ln, opt := t.opt, mgt := t.mgt, regs := t.regs, boot := t.boot }
    (r.st = .detect → r.held = false → s.shutter l = .probe → s.flooded l = false →
      Gives (.toneFrameReceive l found) s (s.setLnk l { r with found := true, duty := false, partnerFound := r.partnerFound || found })) ∧
    (r.st = .detect → Gives (.partnerWordLoss l) s (s.setLnk l { r with found := false, partnerFound := false })) ∧
    (r.st = .detect → r.found = true → r.partnerFound = true → Answers (.alignEntry l) s fun t =>
      t = { s with ln := t.ln, opt := t.opt } ∧ t.shutter l = .opened ∧
      t.lnk l = { r with st := .align, retired := 0#17, spareCh := s.lnSpareCtl l, down := false, phase2 := false } ∧
      ∀ i < 17, t.laneCal l i = { s.laneCal l i with retired := false, overloadRetired := false }) ∧
    (r.st = .detect → r.duty = false → r.held = false → r.found = false → Answers (.detectTimeout l) s fun t =>
      live t ∧ t.lnk l = { r with duty := true } ∧ t.shutter l = .closed) ∧
    (r.st = .detect → r.held = true → Gives (.detectHoldExpiry l) s ((s.setLnk l { r with held := false }).setShutter l .probe)) ∧
    (r.st = .align → r.phase2 = false → ∀ sweeps, Answers (.alignSecondPhase l sweeps) s fun t =>
      live t ∧ (t.lnk l).st = .align ∧ (t.lnk l).phase2 = true ∧ ∀ i < 17, match State.sweepOf sweeps i with
        | some (x, g) => (t.ringOf (ringKey l i true)).corr = clampCorr x ∧ (t.laneCal l i).gain = gainOf g ∧
          (t.lnk l).retired.getLsbD i = r.retired.getLsbD i
        | none => (t.lnk l).retired.getLsbD i = true) ∧
    (r.st = .align → r.phase2 = true → ∀ sweeps, Answers (.alignDone l sweeps) s fun t =>
      live t ∧ (t.lnk l).st = .bitlock ∧ ∀ i < 17, match State.sweepOf sweeps i with
        | some x => (t.ringOf (ringKey l i false)).corr = clampCorr x ∧ (t.lnk l).retired.getLsbD i = r.retired.getLsbD i
        | none => (t.lnk l).retired.getLsbD i = true) ∧
    (r.st = .bitlock →
      (Answers (.bitlockCheckWindow l mask) s fun t => live t ∧ (t.lnk l).st = .bitlock ∧ (t.lnk l).locked = mask ∧
        ∀ i < 17, (t.lnk l).retired.getLsbD i = (r.retired.getLsbD i || !mask.getLsbD i)) ∧
      Answers (.bitlockDone l mask) s fun t => live t ∧ (t.lnk l).st = .frame ∧ (t.lnk l).rxLock = 0#17 ∧
        ∀ i < 17, (t.lnk l).retired.getLsbD i = (r.retired.getLsbD i || (mask.getLsbD i && r.locked.getLsbD i)))

/-- Frame lock, the capability exchange and loss of lock: the marker search counts good markers in sequence, a marker in service shows the partner's locks, and the fourth bad one in a row loses lock; a capability block is taken on its second arrival; a link whose exchange is over goes ACTIVE with fresh counts; a wavelength that loses lock moves to a free spare lane, else the link goes down. -/
def Obligations.LaneService : Prop :=
  ∀ (s : State) (l : Fin 128) (k : Fin 17) (m : BitVec 132) (blk : BitVec 2048) (flight : Nat) (cause : LockLoss),
    let r := s.lnk l
    let h := r.hunt.get {} k
    (r.st = .frame → r.rxLock.getLsbD k = false → h.run < 31 → Answers (.alignmentMarkerReceive l k m) s fun t =>
      t = { s with ln := t.ln } ∧ (t.lnk l).st = .frame ∧ (t.lnk l).hunt.get {} k =
        if markerGood m then { run := if h.run ≠ 0 ∧ kField m 68 11 = (h.fcnt + 1) % 2048 then h.run + 1 else 1, fcnt := kField m 68 11, time := s.clk.now }
        else { h with run := 0 }) ∧
    (r.st = .active → r.rxLock.getLsbD k = true →
      (markerGood m = true → kField m 89 1 = 0 → r.txMove = none → Answers (.alignmentMarkerReceive l k m) s fun t =>
        (t.lnk l).st = .active ∧ (t.lnk l).partnerLock = BitVec.ofNat 17 (kField m 90 17) ∧ ((t.lnk l).hunt.get {} k).bad = 0) ∧
      (markerGood m = false → h.bad < 3 → Gives (.alignmentMarkerReceive l k m) s (s.setLnk l { r with hunt := r.hunt.set {} k { h with bad := h.bad + 1 } })) ∧
      (markerGood m = false → 3 ≤ h.bad → (s.laneCal l k).overload = false → k.val ≠ r.spareCh → s.rxFree l = true → r.rxSpare ≠ laneOf k r.spareCh →
        Answers (.alignmentMarkerReceive l k m) s fun t =>
          t.linkUp l = true ∧ (t.lnk l).rxReq = laneOf k r.spareCh ∧ (t.lnk l).rxLock.getLsbD k = false)) ∧
    (r.st = .frame → r.frameTries < 2 → Gives (.frameAttemptTimeout l) s
      (s.setLnk l { r with frameTries := r.frameTries + 1, hunt := r.hunt.map (fun p => (p.1, { p.2 with run := 0 })) })) ∧
    (r.st = .capx → r.capLast ≠ some blk → r.capFails < 2 → Answers (.capabilityBlockReceive l blk) s fun t =>
      if crc32 ((bodyBytes blk).take 252) = bField blk 0xFC 4 then t = s.setLnk l { r with capLast := some blk }
      else (t.lnk l).st = .frame ∧ (t.lnk l).capFails = r.capFails + 1) ∧
    (r.st = .capx → r.capLast = some blk → r.capSeen = true → r.capFails < 2 → Answers (.capabilityBlockReceive l blk) s fun t =>
      if crc32 ((bodyBytes blk).take 252) = bField blk 0xFC 4 then
        t.lnk l = { r with capPartner := r.capPartner || bField blk 4 1 == 1 } ∧ t = { s with ln := t.ln }
      else (t.lnk l).st = .frame ∧ (t.lnk l).capFails = r.capFails + 1) ∧
    (r.st = .capx → r.capFails < 2 → Answers (.capxTimeout l) s fun t => (t.lnk l).st = .frame ∧ (t.lnk l).capFails = r.capFails + 1 ∧ (t.lnk l).rxLock = 0#17) ∧
    (r.st = .capx → 2 ≤ r.capFails → Answers (.capxTimeout l) s fun t => (t.lnk l).st = .detect ∨ (t.lnk l).st = .off) ∧
    (r.st = .capx → r.capSeen = true → r.capPartner = true → 16 ≤ r.capSent → s.chanDown (l / 32) (l % 32) = false → Answers (.linkActive l flight) s fun t =>
      t.linkUp l = true ∧ (t.lnk l).attempts = 0 ∧ (t.lkk l).ml = flight ∧ (t.lkk l).txSeq = 0 ∧ (t.lkk l).rxSeq = 0 ∧ (t.lkk l).credits = s.advertised l ∧
      t.dword (lnReg l + 0x30) = s.clk.now % 2 ^ 64) ∧
    (r.rxLock.getLsbD k = true → (s.laneCal l k).overload = false →
      (r.st = .frame ∨ r.st = .capx → Gives (.lossOfLock l k cause) s
        (s.setLnk l { r with rxLock := setBit17 r.rxLock k false, hunt := r.hunt.set {} k {} })) ∧
      (r.st = .active → k.val ≠ r.spareCh → s.rxFree l = true → Answers (.lossOfLock l k cause) s fun t =>
        t.linkUp l = true ∧ (t.lnk l).rxReq = laneOf k r.spareCh ∧ (t.lnk l).rxLock.getLsbD k = false ∧ (t.lnk l).urgent.getLsbD k = true) ∧
      (r.st = .active → k.val ≠ r.spareCh → r.rxSpare ≠ 31 → r.rxSpare ≠ laneOf k r.spareCh → Answers (.lossOfLock l k cause) s fun t =>
        t.linkUp l = false))

/-! ### The link layer -/

/-- Rows: a scheduled slot takes the stitch that waits, sends it under the next index and keeps it for replay; a free row with nothing to say is idle, and a control row goes first; a row goes out as one word on every wavelength that carries frames, each with its lane's part of the row, and in FRAME as idle frames behind their markers; the expected own stitch is accepted and goes on to its die, where it lands in its line; a reduce engine's complete set is summed, in operand order, into result flits. -/
def Obligations.RowsAndLandings : Prop :=
  ∀ (s : State) (l : Fin 128) (body : BitVec 2048) (side : Word) (y : Fin 4) (block : Fin 16) (engine : Fin 2),
    let r := s.lkk l
    (s.linkUp l = true →
      (∀ b rest, s.slotDue l = true → r.ready = b :: rest → r.queue = [] → r.poison = [] → r.kept = [] → (r.kept.length + r.keptPkt.length + r.keptRr.length) < 4096 →
        Answers (.rowOpportunity l) s fun t =>
          let sent := s.sendLine l b (BitVec.ofNat 32 (rowCheck (r.tx % 2 ^ 30) b))
          t = { s with lk := t.lk, ln := sent.ln, out := sent.out } ∧
          t.lkk l = { r with ready := rest, kept := [⟨r.tx, b⟩], tx := r.tx + 1, slotNo := r.slotNo + 1, fullLogged := false }) ∧
      (s.slotDue l = false → r.ctlDue = false → r.nakDue = false → r.queue = [] → r.rrQueue = [] → r.pktReplay = [] → r.newPkt = [] →
        (r.kept.length + r.keptPkt.length + r.keptRr.length) < 4096 →
        Gives (.rowOpportunity l) s (s.sendLine l 0#2048 (BitVec.ofNat 32 (rowCheck (2 ^ 31) 0#2048)))) ∧
      (s.slotDue l = false → r.ctlDue = true → r.nakDue = false → r.queue = [] → r.fencing = false → r.markers = [] →
        (r.kept.length + r.keptPkt.length + r.keptRr.length) < 4096 →
        Answers (.rowOpportunity l) s fun t =>
          let sent := s.sendLine l (controlBody r false none) (BitVec.ofNat 32 (rowCheck (2 ^ 31) (controlBody r false none)))
          t = { s with lk := t.lk, ln := sent.ln, out := sent.out } ∧
          t.lkk l = { r with ctlDue := false, accepted := 0, ctlNo := r.ctlNo + 1 }) ∧
      (∀ x, (s.stitchList l false)[r.rx - r.rx0]? = some x → x.group = 0 → r.rx < 2 ^ 30 → Answers (.rowReceive l body side) s fun t =>
        (rowTag side.toNat body = r.rx → t = { s with lk := t.lk, br := t.br } ∧
          t.lkk l = { r with rx := r.rx + 1, accepted := r.accepted + 1, ctlDue := r.ctlDue || decide (63 ≤ r.accepted) } ∧
          (t.dir (State.chanKey l false)).stitches = (s.dir (State.chanKey l false)).stitches ++
            [{ idleFlit with kind := 1, par := s.clk.epoch % 2 == 1, addr := x.line, payload := body }]) ∧
        (rowTag side.toNat body = 2 ^ 31 → bField body 0 1 = 0 → t = s))) ∧
    (∀ (n : LinkLn), n = s.lnk l → n.word ≠ 0 → (s.sendLine l body side).out = s.out ++
      [.row l body side, .words l (((List.range 17).filter (fun k => s.lightOf l k == .frame)).map (fun k =>
        let j := waveMap k n.spareCh n.frameMap
        (k, if j = 31 then payloadWord k n.fcnt n.word 0 0 else payloadWord k n.fcnt n.word (body.toNat / 2 ^ (128 * j)) (side.toNat / 2 ^ (2 * j)))))]) ∧
    (∀ (n : LinkLn), n = s.lnk l → n.st = .frame → n.capFails = 0 → n.word = 0 → (s.calGroup (linkGroup l)).run = none → Answers (.rowOpportunity l) s fun t =>
      t = { s with ln := t.ln, out := t.out } ∧ t.lnk l = { n with word := 2, frameMap := none } ∧
      ∃ ks : List Nat, t.out = s.out ++ [.words l (ks.map (fun k => (k, sentMarker { n with word := 1, frameMap := none } k))),
        .words l (ks.map (fun k => (k, payloadWord k n.fcnt 1 0 0)))] ∧
        (∀ k, s.lightOf l k = .frame → k < 17 → k ∈ ks)) ∧
    (∀ a b rest, r.landing = (a, b) :: rest → r.landed + 1 ≠ s.owed l → s.clk.checked = false →
      Gives (.stitchLanding l) s ((s.poke a (bodyBytes b)).setLkk l { r with landing := rest, landed := r.landed + 1, lastLand := s.clk.cycle })) ∧
    (∀ x z, s.groupSpec block (engine + 1) = some x → y.val = block / 4 →
      (s.opt.reduce.get [] (2 * block + engine)).find? (fun z => (State.groupMembers x).all (fun m => (z.ops.find m).isSome)) = some z →
      Answers (.reduceResultReady y block engine) s fun t =>
        let k := State.chanKey (State.groupLow x) false
        t = { s with opt := { s.opt with reduce := t.opt.reduce }, br := t.br } ∧
        t.opt.reduce.get [] (2 * block + engine) = (s.opt.reduce.get [] (2 * block + engine)).filter (fun w => w.set != z.set) ∧
        ∃ fs, (t.dir k).stitches = (s.dir k).stitches ++ fs ∧
          fs.map (fun f => f.payload) = sumFlits (sumOperands ((State.groupMembers x).map (fun m => widen x.fmt.val (z.ops.get 0#2048 m)))) (State.groupFlits x))

/-- What keeps a link: control rows that fall due, keep-alive, replay of a stream whose oldest row was not acknowledged, the index of a rerouted stream, and rejoining the schedule; a read of LK_SLACK_MIN returns it and resets it. -/
def Obligations.LinkUpkeep : Prop :=
  ∀ (s : State) (l : Fin 128) (e : DWord) (src : Src),
    let r := s.lkk l
    (s.linkUp l = true →
      Gives (.controlRowTimer l) s (s.setLkk l { r with ctlDue := true }) ∧ Gives (.keepaliveSend l) s (s.setLkk l { r with ctlDue := true }) ∧
      (Answers (.keepaliveTimeout l) s fun t => t.linkUp l = false) ∧
      (∀ x rest, r.kept = x :: rest → r.queue = [] → State.expiredFor r 0 x.index < 3 → Answers (.replayTimerExpiry l 0) s fun t =>
        (t.lkk l).queue = r.kept ∧ State.expiredFor (t.lkk l) 0 x.index = State.expiredFor r 0 x.index + 1 ∧ t.linkUp l = true) ∧
      (∀ x rest, r.kept = x :: rest → 3 ≤ State.expiredFor r 0 x.index → Answers (.replayTimerExpiry l 0) s fun t => t.linkUp l = false)) ∧
    (r.st = .rerouted → (s.lkk (twin l)).rrExpect = none → (s.lkk (twin l)).rrHeld = [] →
      Gives (.rerouteIndexArrival l) s (s.setLkk (twin l) { s.lkk (twin l) with rrExpect := some r.rx, rrHeld := [] })) ∧
    (s.mayRejoin l = true → s.latchedEpoch < e.toNat → Gives (.rejoin l e) s
      (s.setLkk l { r with rejoinAt := some e.toNat, newPkt := r.newPkt ++ [⟨0, 0, rejoinBody 2 e.toNat, none⟩] })) ∧
    (r.proposed = some e.toNat →
      (s.latchedEpoch < e.toNat → Gives (.rejoinAck l e) s (s.setLkk l { r with proposed := none, rejoinAt := some e.toNat })) ∧
      (e.toNat ≤ s.latchedEpoch → Gives (.rejoinAck l e) s ((s.setLkk l { r with proposed := none }).record 0x0B09 (linkLoc l)))) ∧
    (s.regReach src 0 = true → s.started = true → src ≠ .mctp → Answers (.lkSlackMinRead src l) s fun t =>
      t.word (lkReg l + 0x44) = 0xFFFFFFFF#32 ∧ t.out = s.out ++ [.read src (s.readReg src (lkReg l + 0x44) 4)] ∧
      ∀ o, o ≠ lkReg l + 0x44 → t.word o = s.word o)

/-! ### The fabric -/

/-- The Lace line: the package polled answers with its ready word or an arrival chunk, the leader notes the word it reads, a release whose words name the next epoch is taken, at once or with its high chunks; after the package's own watchdog expiry a release without STOP for the epoch it is in is dropped with 0x0C0A; IDLE changes nothing. -/
def Obligations.LaceLine : Prop :=
  ∀ (s : State) (slot word : Fin 16) (data : BitVec 16) (words : List (Fin 16 × BitVec 16)),
    Gives .laceIdle s s ∧
    (s.joined = true → s.started = true → s.shk.headless = false →
      (s.isLeader = false → slot.val = s.laceSlot → Gives (.poll slot word data) s
        { s with out := s.out ++ [.lace 1 word (if word.val = 0 then s.readyWord else s.arrivalChunk (word - 1))] }) ∧
      (s.isLeader = false → slot.val = s.laceSlot → Gives (.pollHi slot 0 data) s { s with out := s.out ++ [.lace 3 0 (s.arrivalChunk 15)] }) ∧
      (s.isLeader = false → slot.val ≠ s.laceSlot → Gives (.poll slot word data) s s ∧ Gives (.pollHi slot word data) s s) ∧
      (s.isLeader = true → slot.val ≠ s.laceSlot → s.clk.ready = false → data.toNat.testBit 0 = true → data.toNat.testBit 3 = false →
        let x := s.fab.lace.get {} slot
        Answers (.poll slot 0 data) s fun t => t = { s with fab := t.fab } ∧
          t.fab.lace.get {} slot = { x with regRuns := x.regRuns + 1, word := data.toNat, arr := [] })) ∧
    (∀ rel, s.joined = true → s.isLeader = false → s.started = true → s.aborting = false → s.clk.release = none → s.fab.stopped = false →
      State.gatherRelease words = some rel → rel.abort = false → rel.epoch = s.nextEpoch → s.chunks.any (fun w => decide (11 ≤ w)) = false →
      Gives (.laceRelease words) s { s with clk := { s.clk with release := some rel, settle := 64 } }) ∧
    (∀ rel, s.joined = true → s.isLeader = false → s.started = true → s.aborting = false → s.clk.release = none → s.fab.stopped = true →
      State.gatherRelease words = some rel → rel.abort = false → rel.stop = false → rel.epoch = s.clk.epoch → s.chunks.any (fun w => decide (11 ≤ w)) = false →
      s.mgt.staging.length < 64 → Gives (.laceRelease words) s { s with mgt := noted s 0xC0A {} 0 }) ∧
    (∀ rel, s.aborting = false → s.clk.release = none → s.fab.stopped = false → s.fab.part = some rel → rel.abort = false → rel.epoch = s.nextEpoch → Answers (.releaseHi words) s fun t =>
      t = { s with fab := { s.fab with part := none }, clk := { s.clk with release := t.clk.release, settle := 64 } } ∧
      ∃ more, t.clk.release = some { rel with complete := rel.complete ++ more })

/-- Epoch markers: SYNC goes out once an epoch on every ACTIVE link and ends the repeats of a release it answers, on its link and on the twin; a child's READY for the epoch just run is noted; the parent's RELEASE of the next epoch is taken; FENCE moves the receiver's next index past the aborted epoch; unanswered markers are repeated and counted. -/
def Obligations.EpochMarkers : Prop :=
  ∀ (s : State) (l : Fin 128) (m : BitVec 512),
    let r := s.lkk l
    (s.started = true → 16 ≤ s.clk.cycle → s.clk.synced = false → Answers .syncMarkerSend s fun t =>
      t = { s with clk := { s.clk with synced := true }, lk := t.lk } ∧ ∀ k < 128, t.lkk k =
        if s.linkUp k then { s.lkk k with markers := (s.lkk k).markers ++ [{ kind := 1, flags := 0, epoch := s.clk.epoch, count := 0, arr := 0 }], ctlDue := true }
        else s.lkk k) ∧
    (s.linkUp l = true → s.ownFabric m = true →
      (let left := fun (q : LinkLk) => { q with repeats := q.repeats.filter (fun x => !(x.m.kind == 3 && x.m.epoch == mField m 8 8)) }
       Gives (.syncMarker l m) s ((s.setLkk l (left r)).setLkk (twin l) (left (s.lkk (twin l))))) ∧
      (∀ c, s.joined = true → s.isLeader = true → s.treeLink l (fun i => s.childLinks.contains i) = some c → (decodeMarker m).flags.testBit 1 = false →
        (decodeMarker m).epoch = s.doneEpoch → s.clk.ready = false →
        Gives (.readyMarker l m) s { s with fab := { s.fab with children := s.fab.children.put c (decodeMarker m) } }) ∧
      (∀ c, s.joined = true → s.isLeader = false → s.treeLink l (fun i => s.parentLink == some i) = some c → (decodeMarker m).flags.testBit 1 = false →
        (decodeMarker m).epoch = s.clk.epoch + 1 → s.nextEpoch = s.clk.epoch + 1 → s.aborting = false → s.clk.release = none →
        Answers (.releaseMarker l m) s fun t => t = { s with lk := t.lk, clk := { s.clk with release := t.clk.release, settle := 64 } } ∧
          t.clk.release = some { epoch := s.clk.epoch + 1, late := (decodeMarker m).flags.testBit 0, stop := (decodeMarker m).flags.testBit 2,
                                 complete := bitsSet (decodeMarker m).arr }) ∧
      (s.abort.isSome = true → mField m 8 8 = s.clk.epoch → r.rrExpect = none → Gives (.fenceMarker l m) s
        (s.setLkk l { r with rx := r.rx0 + (s.stitchList l false).length, fenced := true, ctlDue := true }))) ∧
    (∀ x, s.linkUp l = true → r.repeats = [x] → x.sent < 7 → Answers (.markerRepeat l) s fun t =>
      t.lkk l = { r with markers := r.markers ++ [x.m], ctlDue := true, repeats := [{ x with sent := x.sent + 1 }] } ∧
      t.word (fabBase + 0x120) = BitVec.ofNat 32 (min ((s.word (fabBase + 0x120)).toNat + 1) 0xFFFFFFFF))

/-! ### Shanks -/

/-- Shank faults and recovery: a fault of the active pair hands over to a standby in step, or leaves the package without one; a fault of the standby starts resynchronisation; at the takeover the standby becomes active; until its first output, and while the awl holds the active pair halted, an MCTP message waits in the input gate; a joining pair is in step, or fails a step, the third time for good; the replace request follows its triggers, LANES only once 4 or fewer links have met it for 60 s; calibration records refresh. -/
def Obligations.ShankFaults : Prop :=
  ∀ (s : State) (die : Fin 4) (lanes : List (Fin 128)),
    (s.shanksRun = true → s.pair die = .running → s.awlHalted die = false → die.val = s.activePos → s.shk.standby = .inStep →
      (Answers (.pairMiscompare die) s fun t => t.shk.fault = some 0x1001 ∧ t.pair die = .halted ∧ t.shk.standby = .inStep) ∧
      (Answers (.shankWatchdogExpiry die) s fun t => t.shk.fault = some 0x1002 ∧ t.pair die = .halted)) ∧
    (s.shanksRun = true → s.pair die = .running → s.awlHalted die = false → die.val = s.activePos → s.shk.standby ≠ .inStep →
      Answers (.pairMiscompare die) s fun t => t.shk.headless = true ∧ t.mgt.replaceForced = true ∧ t.mgt.replaceLow = true) ∧
    (s.shanksRun = true → s.pair die = .running → s.awlHalted die = false → die.val = s.standbyPos → die.val ≠ s.activePos → s.shk.standby = .inStep →
      Answers (.pairMiscompare die) s fun t => t.shk.standby = .resync ∧ t.shk.activeP2 = s.shk.activeP2) ∧
    (∀ c, s.shk.fault = some c → s.shk.headless = false → s.shk.standby = .inStep → Answers .takeover s fun t =>
      t.shk.activeP2 = !s.shk.activeP2 ∧ t.shk.fault = none ∧ t.shk.promoted = some c ∧ t.shk.standby = .resync ∧ t.shk.feedToP0 = !s.shk.activeP2 ∧ t.pair s.activePos = .reset ∧
      t.shk.gate = s.shk.gate ∧ t.cmd.queue = s.cmd.queue) ∧
    (∀ body, s.shanksRun = true → s.gateHolds = true → s.shk.gate.length < 256 →
      Gives (.getStatus body) s { s with shk := { s.shk with gate := s.shk.gate ++ [.message .getStatus body] } } ∧
      Gives (.setEndpointId body) s { s with shk := { s.shk with gate := s.shk.gate ++ [.message .setEid body] } }) ∧
    (∀ c, s.shk.promoted = some c → s.shk.gate = [] → Answers .newActiveFirstOutput s fun t =>
      t.shk.promoted = none ∧ t.word 0x220 = s.word 0x220 - (s.word 0x220 &&& 7#32) + 4#32) ∧
    (s.shanksRun = true → s.activeHalted = false → s.awlHalted s.standbyPos = false →
      (s.shk.standby = .resync → (Answers (.resynchronisation true) s fun t => t.shk.standby = .inStep ∧ t.shk.fails = 0 ∧ t.pair s.standbyPos = .running) ∧
        Answers (.resynchronisation false) s fun t => t.shk.fails = s.shk.fails + 1 ∧ t.shk.standby = if 2 ≤ s.shk.fails then .failed else .none) ∧
      (s.shk.standby = .none → 0 < s.shk.fails → s.shk.fails < 3 →
        (Answers (.resyncRetry true) s fun t => t.shk.standby = .inStep ∧ t.shk.fails = 0) ∧
        Answers (.resyncRetry false) s fun t => t.shk.fails = s.shk.fails + 1 ∧ t.shk.standby = if s.shk.fails = 2 then .failed else .none)) ∧
    (s.shanksRun = true → s.activeHalted = false → s.boot.phase ≠ .sole →
      (Answers .calRecordRefresh s fun t => t = { s with mgt := { s.mgt with calRecs := t.mgt.calRecs } } ∧
        ∀ y < 4, (t.mgt.calRecs.get {} y).seq = ((s.mgt.calRecs.get {} y).seq + 1) % 2 ^ 32) ∧
      (Answers (.replaceTriggerChange lanes) s fun t =>
        let n := ((List.range 128).filter (fun l => lanes.any (fun x => x.val == l) && s.spareSpent l)).length
        let since := s.mgt.lanesLow.getD s.clk.now
        let holds := decide (n ≤ 4) && s.mgt.replace.getLsbD 0 && decide (s.clk.now < since + 60000000000)
        t.mgt.replace = BitVec.ofNat 7 (s.triggers (if holds then 5 else n)) ∧ t.mgt.lanesLow = (if holds then some since else none) ∧
        t.word (mgtBase + 0x10104) &&& s.word (mgtBase + 0x10104) = s.word (mgtBase + 0x10104) ∧
        t.mgt.replaceLow = (s.mgt.replaceForced || decide (t.mgt.replace.toNat &&& (127 - s.bits (mgtBase + 0x10108) 0 7) ≠ 0)))) ∧
    (s.boot.phase = .shankFailed → Answers .portAShankFailedReplace s fun t =>
      t = { s with mgt := t.mgt, regs := t.regs } ∧ t.mgt.replaceForced = true ∧ t.mgt.replaceLow = true)

/-! ### Management -/

/-- MCTP control, vendor and PLDM messages while a shank serves them: each request queues one answer, with the status and data that its rule gives; SCL_TIMEOUT and MCTP_MESSAGE_TIMEOUT discard the message under assembly; an answer is sent, or loses an arbitration and at the eighth is dropped. -/
def Obligations.MctpMessages : Prop :=
  ∀ (s : State) (body : List Byte), s.mctpServes = true →
    let answers := fun (i : Instr) (status : Nat) (bs : List Byte) => Gives i s
      { s with mgt := { s.mgt with answers := s.mgt.answers ++ [{ status := status, bytes := bs, start := s.clk.now }] } }
    let n := msgField body 4 1
    (s.started = true → s.mgt.staging.length < 64 → Gives .sclTimeout s { s with mgt := { noted s 0x1201 {} 0 with assembling := false } }) ∧
    Gives .mctpMessageTimeout s { s with mgt := { s.mgt with assembling := false } } ∧
    (∀ a rest, s.mgt.answers = a :: rest →
      Gives (.mctpAnswerRetry false) s { s with mgt := { s.mgt with answers := rest }, out := s.out ++ [.mctp a.status a.bytes] } ∧
      (a.losses < 7 → s.clk.now < a.start + 100000000 → Gives (.mctpAnswerRetry true) s
        { s with mgt := { s.mgt with answers := { a with losses := a.losses + 1 } :: rest } }) ∧
      (7 ≤ a.losses → Answers (.mctpAnswerRetry true) s fun t => t.mgt.answers = rest)) ∧
    (msgField body 0 1 % 4 < 2 → 8 ≤ msgField body 1 1 → msgField body 1 1 < 255 → Answers (.setEndpointId body) s fun t =>
      t.mgt.eid = msgField body 1 1 ∧ t.mgt.answers = s.mgt.answers ++ [{ status := 0, bytes := [0#8, BitVec.ofNat 8 (msgField body 1 1), 0#8], start := s.clk.now }]) ∧
    answers (.getEndpointId body) 0 [BitVec.ofNat 8 s.mgt.eid, 0#8, 0#8] ∧
    answers (.getEndpointUuid body) 0 Config.uuid ∧
    (msgField body 0 1 ∈ [0xFF, 0, 1, 0x7F] → answers (.getMctpVersionSupport body) 0 (Config.mctpVersions (msgField body 0 1))) ∧
    answers (.getMessageTypeSupport body) 0 [2#8, 1#8, 0x7F#8] ∧
    (msgField body 0 1 = 0 → answers (.getVendorDefinedMessageSupport body) 0
      ([0xFF#8, 1#8] ++ beBytes 4 Config.enterprise.toNat ++ beBytes 2 Config.vendorVersion.toNat)) ∧
    answers (.getStatus body) 0 (toBytes 4 s.bootStatus.toNat ++ toBytes 4 s.shkWord.toNat ++ toBytes 4 s.mgt.replace.toNat ++ toBytes 8 s.clk.epoch) ∧
    (body.length = 5 → 1 ≤ n → n ≤ 64 →
      answers (.regRead body) 0 ((List.range n).flatMap (fun i => toBytes 4 (s.readReg .mctp (msgField body 0 4 + 4 * i) 4)))) ∧
    (body.length = 16 → regWriteRefused (msgField body 0 4) = false →
      let w := s.writeReg .mctp 0 (some (msgField body 8 8)) (msgField body 0 4) 4 (msgField body 4 4)
      Gives (.regWrite body) s (w.1.answer w.2 [])) ∧
    (body.length = 16 → regWriteRefused (msgField body 0 4) = true → Gives (.regWrite body) s (s.hifDrop.answer 0x0D02 [])) ∧
    (body.length = 9 → 1 ≤ msgField body 8 1 → msgField body 8 1 ≤ 14 → answers (.evtRead body) 0 ((List.range (msgField body 8 1)).flatMap (fun i =>
      match s.mgt.evtLog.find ((msgField body 0 8 + i) % 16384) with
      | some r => if r.eseq = msgField body 0 8 + i then r.bytes else []
      | none => []))) ∧
    (s.criticalBusy = true → answers (.critical body) 1 []) ∧
    (s.criticalBusy = false → body.length = 192 → s.gateHolds = false → s.cmd.queue = [] → s.cmd.marking = none → Gives (.critical body) s
      (s.checkCrit { src := .mctp, d := BitVec.ofNat 512 (msgField body 0 64), param := some (BitVec.ofNat 1024 (msgField body 64 128)), time := (s.clk.now, s.clk.sub) })) ∧
    answers (.gettid body) 0 [Config.tid] ∧
    (let v := msgField body 5 1
     answers (.getpldmversion body) (if v = 0 ∨ v = 2 then 0 else 0x83) (if v = 0 ∨ v = 2 then toBytes 4 0 ++ [5#8] ++ Config.pldmVersions v else [])) ∧
    answers (.getpldmtypes body) 0 (toBytes 8 5) ∧
    (let v := msgField body 0 1
     answers (.getpldmcommands body) (if v = 0 ∨ v = 2 then 0 else 0x83)
      (if v = 0 then commandBits [2, 3, 4, 5] else if v = 2 then commandBits [0x11, 0x21, 0x50, 0x51] else [])) ∧
    answers (.getpdrrepositoryinfo body) 0 Config.pdrInfo ∧
    answers (.getpdr body) (Config.pdr body).1.toNat (Config.pdr body).2

/-- Sensors and temperatures: a numeric sensor answers its latest refresh where the stage that produces it has passed and is unavailable before, a state sensor its present state, and a number that names no such sensor is refused with 0x80; a refresh reads every sensor anew; a temperature reading is kept, and one that passes its limit in a running epoch aborts the epoch with 0x1101, with an event for each die (once at the crossing: notes/assumptions/39). -/
def Obligations.PldmAndSensors : Prop :=
  ∀ (s : State) (body : List Byte) (watts : Nat) (dies chips hbms : List Int),
    let answers := fun (i : Instr) (status : Nat) (bs : List Byte) => Gives i s
      { s with mgt := { s.mgt with answers := s.mgt.answers ++ [{ status := status, bytes := bs, start := s.clk.now }] } }
    let k := msgField body 0 2
    let m := { s.mgt with
      dieTemps := State.readings s.mgt.dieTemps dies 4, yzTemps := State.readings s.mgt.yzTemps chips 4, stackTemps := State.readings s.mgt.stackTemps hbms 8 }
    let past := State.tripped dieTrip s.mgt.dieTemps (dies.take 4) ++ State.tripped dieTrip s.mgt.yzTemps (chips.take 4) ++
      State.tripped stackTrip s.mgt.stackTemps (hbms.take 8)
    (s.mctpServes = true →
      answers (.getsensorreading body) (if k = 0 ∨ 37 < k ∨ stateSensor k = true then 0x80 else 0)
        (if k = 0 ∨ 37 < k ∨ stateSensor k = true then [] else if s.sensorUp k = true then [0#8] ++ toBytes 4 (BitVec.ofInt 32 (s.mgt.sensors.get 0 k)).toNat else [2#8]) ∧
      answers (.getstatesensorreadings body) (if stateSensor k = true then 0 else 0x80)
        (if stateSensor k = true then [0#8, BitVec.ofInt 8 (s.mgt.sensors.get 0 k)] else [])) ∧
    (s.shanksRun = true → Answers (.sensorRefresh watts) s fun t => t = { s with mgt := { s.mgt with sensors := t.mgt.sensors } } ∧
      (∀ n < 4, t.mgt.sensors.get 0 (n + 1) = 10 * s.mgt.dieTemps.get 0 n ∧ t.mgt.sensors.get 0 (n + 5) = s.linkTemp n ∧
        t.mgt.sensors.get 0 (n + 13) = (s.word (yzBase n + 0x200)).toNat ∧
        t.mgt.sensors.get 0 (n + 17) = ((s.clk.now - s.dword (yzBase n + 0x208)) / 1000000000 : Nat) ∧
        t.mgt.sensors.get 0 (n + 21) = (s.opt.base.get {} n).high ∧ t.mgt.sensors.get 0 (n + 25) = s.sparesOn n) ∧
      (∀ h < 8, t.mgt.sensors.get 0 (h + 29) = s.leftPct h) ∧ t.mgt.sensors.get 0 9 = watts ∧
      t.mgt.sensors.get 0 10 = (if s.mgt.replaceLow then 2 else 1) ∧ t.mgt.sensors.get 0 11 = s.shk.standby.code + 1 ∧
      t.mgt.sensors.get 0 12 = s.boot.phase.code + 1 ∧ t.mgt.sensors.get 0 37 = (s.word (fabBase + 0x100)).toNat) ∧
    (past = [] ∨ s.boot.phase = .heldReset → Gives (.temperatureRead dies chips hbms) s { s with mgt := m }) ∧
    (past ≠ [] → s.started = true → s.abort = none → s.clk.pauseFrom = none → Answers (.temperatureRead dies chips hbms) s fun t =>
      t = { s with abort := some { epoch := s.clk.epoch, code := 0x1101, start := s.clk.now, thermal := true }, mgt := t.mgt, regs := t.regs } ∧
        t.mgt.dieTemps = m.dieTemps ∧ t.mgt.yzTemps = m.yzTemps ∧ t.mgt.stackTemps = m.stackTemps) ∧
    ∀ n, State.tripped dieTrip s.mgt.dieTemps (dies.take 4) = [n] → chips = [] → hbms = [] → s.started = true → s.abort = none → s.clk.pauseFrom = none →
      s.mgt.staging.length < 64 → Gives (.temperatureRead dies chips hbms) s
        { s with abort := some { epoch := s.clk.epoch, code := 0x1101, start := s.clk.now, thermal := true }
                 mgt := { m with staging := (noted s 0x1101 (State.dieLoc n) 0).staging } }

/-- The event log: the oldest staged event becomes the record of the next sequence number, with the count of those lost before it; an acknowledgement of the log or the journal up to what has been written is taken, a later one is dropped and counted; one that a later source of the same cycle has overtaken changes nothing. -/
def Obligations.EventLogAndAcknowledgements : Prop :=
  ∀ (s : State) (e : Event) (rest : List Event) (v : DWord), s.started = true → s.regReach .portA 0 = true →
    (s.mgt.staging = e :: rest → Answers .eventRecordWrite s fun t => t = { s with mgt := t.mgt, regs := t.regs } ∧
      t.mgt.evtLog.find (s.mgt.evtNext % 16384) = some ⟨s.mgt.evtNext, e, s.mgt.pendingLost⟩ ∧ t.mgt.evtNext = s.mgt.evtNext + 1 ∧
      (∀ k, k ≠ s.mgt.evtNext % 16384 → t.mgt.evtLog.find k = s.mgt.evtLog.find k) ∧ ∀ x ∈ rest, x ∈ t.mgt.staging) ∧
    (let o := mgtBase + 0x3008
     s.overtakenWrite .portA o = false →
      (v.toNat < s.mgt.evtNext → Gives (.evtAck .portA 0 v) s (State.markWrite { s with mgt := { s.mgt with evtAck := v.toNat } } .portA o 8)) ∧
      (s.mgt.evtNext ≤ v.toNat → v.toNat ≠ s.mgt.evtAck → Gives (.evtAck .portA 0 v) s s.hifDrop)) ∧
    (let o := cmdBase + 0x80010
     s.overtakenWrite .portA o = false →
      (v.toNat < s.cmd.jnlNext → Gives (.jnlAck .portA 0 v) s (State.markWrite { s with cmd := { s.cmd with jnlAck := v.toNat } } .portA o 8)) ∧
      (s.cmd.jnlNext ≤ v.toNat → v.toNat ≠ s.cmd.jnlAck → Gives (.jnlAck .portA 0 v) s s.hifDrop)) ∧
    (s.overtakenWrite .portA (mgtBase + 0x3008) = true → Gives (.evtAck .portA 0 v) s s) ∧
    (s.overtakenWrite .portA (cmdBase + 0x80010) = true → Gives (.jnlAck .portA 0 v) s s)

/-- The update engine, over MCTP and through MGT_FLASH_CMD: BEGIN starts the erase of the inactive slot, each sector's end leads to the next and sector 0 to ERASED, unless the erase is suspended or a store waits for it, WRITE programs an erased slot, END verifies the image and completes the slot, or fails with 0x120A; the running slot is refused with 0x120B. -/
def Obligations.FlashUpdates : Prop :=
  ∀ (s : State) (b : Bool) (bs : List Byte) (src : Src), s.mctpServes = true → (s.lock 0).refuse = none →
    let slotByte := if b then 1#8 else 0#8
    let word := fun (op : Nat) => BitVec.ofNat 32 (op + 16 * b.toNat)
    let began := fun (mctp : Bool) (t : State) =>
      t.flash.st = .erasing ∧ t.flash.slot = b ∧ t.flash.sector = 383 ∧ t.flash.session = some mctp ∧ (t.lock 0).holder = some s.activePos ∧
      t.boot.record.updState = .erasing ∧ t.boot.record.updSlot = b
    (s.flash.session = none → s.flash.st = .idle → s.flash.readOnly = false → s.inactiveSlot b = true → (s.lock 0).holder = none →
      Answers (.flashBegin [slotByte]) s (began true) ∧
      (s.flashCmdReaches src 0 = true → Answers (.mgtFlashCmdBegin src 0 (word 1)) s (began false))) ∧
    (s.flash.session = none → s.flash.readOnly = false → s.inactiveSlot b = false → Answers (.flashBegin [slotByte]) s fun t =>
      t.flash = { s.flash with code := 0x120B } ∧ t.mgt.answers = s.mgt.answers ++ [{ status := 0x120B, bytes := t.engineState, start := s.clk.now }]) ∧
    (s.flash.st = .erasing → s.flash.stalled = false → s.nor.suspended = true → Gives .flashSectorEraseDone s s) ∧
    (s.flash.st = .erasing → s.flash.stalled = false → s.nor.suspended = false → s.nor.storeWaits = true → Answers .flashSectorEraseDone s fun t =>
      t.flash = { s.flash with stalled := true } ∧ t.nor.storeWaits = false ∧ t.nor.waits = [] ∧
      t.fslot s.flash.slot = eraseSector (s.fslot s.flash.slot) s.flash.sector) ∧
    (s.flash.st = .erasing → s.flash.stalled = false → s.nor.suspended = false → s.nor.storeWaits = false → s.flash.sector ≠ 0 → Answers .flashSectorEraseDone s fun t =>
      t.flash.sector = s.flash.sector - 1 ∧ t.flash.st = .erasing ∧ t.nor.waits = [] ∧ t.fslot s.flash.slot = eraseSector (s.fslot s.flash.slot) s.flash.sector) ∧
    (s.flash.st = .erasing → s.flash.stalled = false → s.nor.suspended = false → s.nor.storeWaits = false → s.flash.sector = 0 → Answers .flashSectorEraseDone s fun t =>
      t.flash.st = .erased ∧ t.boot.record.updState = .erased ∧ t.fslot s.flash.slot = eraseSector (s.fslot s.flash.slot) 0) ∧
    (s.flashFree = true → s.flash.st = .erased → s.boot.record.updState = .erased → s.inactiveSlot s.flash.slot = true →
      (s.flash.session = some true → 1 ≤ bs.length → bs.length ≤ 512 → Answers (.flashWrite (toBytes 4 4096 ++ bs)) s fun t =>
        t.fslot s.flash.slot = programBytes (s.fslot s.flash.slot) 4096 bs ∧ t.fslot (!s.flash.slot) = s.fslot (!s.flash.slot) ∧
        t.mgt.answers = s.mgt.answers ++ [{ status := 0, bytes := [], start := s.clk.now }]) ∧
      (s.flash.session = some false → s.flashCmdReaches src 0 = true → (s.word (mgtBase + 0x5008)).toNat = 4096 →
        Answers (.mgtFlashCmdWrite src 0 (BitVec.ofNat 32 (2 + 65536 * 256))) s fun t =>
          t.fslot s.flash.slot = programBytes (s.fslot s.flash.slot) 4096 (s.flashBuf 256)) ∧
      let x := s.withHeader (s.fslot s.flash.slot)
      let ended := fun (t : State) =>
        if s.imageVerifies x then t.flash.st = .idle ∧ t.flash.session = none ∧ t.boot.record.updState = .idle ∧
          t.fslot s.flash.slot = { x with state := x.state &&& 0xFFFFA5A5#32 }
        else t.flash.st = .failed ∧ t.flash.code = 0x120A ∧ t.fslot s.flash.slot = s.fslot s.flash.slot
      (s.flash.session = some true → Answers (.flashEnd [if s.flash.slot then 1#8 else 0#8]) s ended) ∧
      (s.flash.session = some false → s.flashCmdReaches src 0 = true →
        Answers (.mgtFlashCmdEnd src 0 (BitVec.ofNat 32 (3 + 16 * s.flash.slot.toNat))) s ended)) ∧
    (s.flash.session ≠ some false → Gives (.flashStatus bs) s (s.answer 0 s.engineState))

/-! ### Debug and registers -/

/-- The awl while power is present: its TAP instructions select their register; PEEK reads without an effect, READ and WRITE act as the PF's (a write of HBM3E waits for an open slot, and reads see it), HALT, RESUME and STEP act on one pair; LOCK_FORCE frees a lock. A lock is taken by the read that finds it free, and freed by its holder. -/
def Obligations.DebugAndLocks : Prop :=
  ∀ (s : State) (a : Nat) (die : Fin 4) (k : Fin 16) (agent : LockAgent) (bs : List Byte),
    let cmd : State := { s with mgt := { s.mgt with tap := .awlCmd } }
    let done := fun (t : State) (v : Nat) => { t with out := t.out ++ [.awl 0 0 v] }
    (s.mgt.railLow = false →
      Gives .bypass s { s with mgt := { s.mgt with tap := .bypass } } ∧
      Gives .idcode s { s with mgt := { s.mgt with tap := .idcode }, out := s.out ++ [.read .awl Config.awlId.toNat] } ∧
      Gives .samplePreload s { s with mgt := { s.mgt with tap := .sample } } ∧
      Gives .extest s { s with mgt := { s.mgt with tap := .extest } } ∧
      (∀ n ∈ [1, 2, 4, 8],
        Gives (.awlPeek .bar0 a n) s (done cmd (cmd.peekReg a n)) ∧
        (State.mapped a n = true → s.rangeOut a n = false → Gives (.awlPeek .memory a n) s (done cmd (ofBytes (s.ownBytes a n)))) ∧
        (s.started = true → s.accessCode 0 a n false = 0 → s.memErr = [] → Gives (.awlRead .memory a n) s (done cmd (ofBytes (s.ownBytes a n)))) ∧
        (s.started = true → bs.length = n → s.accessCode 0 a n true = 0 →
          (∀ h, placeOf a = .hbm h → Gives (.awlWrite .memory a bs) s (done (cmd.queueOwn a bs) 0)) ∧
          ∀ d, placeOf a = .dbuf d → s.memErr = [] → Gives (.awlWrite .memory a bs) s (done { cmd with mem := s.mem.setBytes a bs } 0))) ∧
      (s.started = true → Gives (.awlRead .bar0 (mgtBase + 0x10108) 4) s (done cmd (s.readReg .awl (mgtBase + 0x10108) 4))) ∧
      (s.shanksRun = true → s.pair die = .running → s.awlHalted die = false → die.val ≠ s.standbyPos → Gives (.awlHalt die) s
        (done { cmd with shk := { s.shk with awlHalt := s.shk.awlHalt.put die s.clk.now } } 0)) ∧
      (s.awlHalted die = true → Gives (.awlStep die) s (done cmd 0) ∧
        (Answers (.awlResume die) s fun t => t.awlHalted die = false ∧ ∃ o, t.out = o ++ [.awl 0 0 0])) ∧
      (∀ h, (s.lock k).holder = some h → Answers (.lockForce k) s fun t => t.lock k = { s.lock k with holder := none, told := false, halted := 0, refuse := some h } ∧
        ∀ j, j ≠ k.val → t.lock j = s.lock j)) ∧
    (s.agentActs agent = true →
      ((s.lock k).holder = none → Answers (.mgtLockRead agent k) s fun t => (t.lock k).holder = some (agentCode agent) ∧
        t.out = s.out ++ [.lockRead (agentCode agent) k (s.lockWord k).toNat] ∧ ∀ j, j ≠ k.val → t.lock j = s.lock j) ∧
      ((s.lock k).holder = some (agentCode agent) →
        Gives (.mgtLockWrite agent k 0#32) s (s.setLock k { s.lock k with holder := none, told := false, halted := 0 })) ∧
      ((s.lock k).holder ≠ some (agentCode agent) → ∀ v, Gives (.mgtLockWrite agent k v) s s))

/-- Register writes of the PF through port A: an RW field takes its value at once, an RW-E field a pending copy, or 0x0220 for an epoch whose latch has passed, a W1C field clears but for the bits that the device sets in that cycle, a read-only register ignores the write, and one of a wrong size is dropped and counted; a write that one of a later source has overtaken in its cycle changes nothing. -/
def Obligations.RegisterWrites : Prop :=
  ∀ (s : State) (v : DWord), s.started = true → s.regReach .portA 0 = true →
    let w := BitVec.ofNat 32 v.toNat
    let o := mgtBase + 0x10108
    let done := fun (t : State) (off : Nat) => t.markWrite .portA off 4
    (s.overtakenWrite .portA hifBase = false →
      Gives (.registerWrite .portA 0 hifBase 4 v) s (done (s.setWord hifBase (State.mergeBits (s.word hifBase) 0xFF01#32 w)) hifBase)) ∧
    (s.overtakenWrite .portA hifBase = true → Gives (.registerWrite .portA 0 hifBase 4 v) s s) ∧
    (let c := mgtBase + 0x10104
     Gives (.registerWrite .portA 0 c 4 v) s (done (s.setWord c (s.word c &&& ~~~(w &&& 0x7F#32 &&& ~~~(s.setNow.get 0#32 c)))) c)) ∧
    (let e := (s.banks.get {} (bankOf .portA)).pendEpoch
     s.overtakenWrite .portA o = false → s.wouldArm o 0x7F#32 w = true →
      (s.latchedEpoch < e → Gives (.registerWrite .portA 0 o 4 v) s (done (s.arm o 0x7F#32 w e) o)) ∧
      (e ≤ s.latchedEpoch → Gives (.registerWrite .portA 0 o 4 v) s ((s.record 0x0220 {} o).hifDrop))) ∧
    (s.overtakenWrite .portA 0x8 = false → Gives (.registerWrite .portA 0 0x8 4 v) s (done s 0x8)) ∧
    Gives (.registerWrite .portA 0 hifBase 2 v) s s.hifDrop

/-! ### After reset -/

/-- The state after reset is in its canonical form: no command waits, no memory is written, no register word is listed, and time, epoch, counters, rings, contexts, journal and event log stand at 0 or empty. -/
def Obligations.ResetIsCanonical : Prop :=
  State.reset.canonical = true ∧ State.reset.pending = [] ∧ State.reset.out = [] ∧ State.reset.clk.now = 0 ∧ State.reset.clk.epoch = 0 ∧
  State.reset.ctx.live = [] ∧ State.reset.cmd.jnlNext = 0 ∧ State.reset.mgt.evtNext = 0 ∧ State.reset.boot.phase = .heldReset ∧
  (∀ q, State.reset.ringActive q = false) ∧ (∀ l, State.reset.linkUp l = false ∧ State.reset.shutter l = .closed) ∧
  ∀ r, State.reset.serving r = false ∧ (State.reset.seq r).running = false
end

