-- ==== Sys2Proof/Laws/Tables.lean ====
section
/-! SUPPORT. Laws of sparse tables and of memory: reading after writing, and that every operation keeps the canonical form. -/

namespace Sys2Proof.Machine

variable {α : Type}

/-! ### Keys -/

theorem Tbl.above_mono {j k : Nat} (h : j ≤ k) : ∀ {t : Tbl α}, t.above k = true → t.above j = true
  | [], _ => rfl
  | (a, v) :: t, h1 => by
    simp only [Tbl.above, Bool.and_eq_true, decide_eq_true_eq] at h1 ⊢
    exact ⟨by omega, h1.2⟩

theorem Tbl.sorted_of_above {k : Nat} : ∀ {t : Tbl α}, t.above k = true → t.sorted = true
  | [], _ => rfl
  | (a, v) :: t, h => by
    simp only [Tbl.above, Bool.and_eq_true] at h
    exact h.2

theorem Tbl.sorted_tail {p : Nat × α} {t : Tbl α} (h : Tbl.sorted (p :: t) = true) : t.sorted = true :=
  Tbl.sorted_of_above (k := p.1) h

theorem Tbl.find_none_of_above {k : Nat} : ∀ {t : Tbl α}, t.above k = true → t.find k = none
  | [], _ => rfl
  | (a, v) :: t, h => by
    simp only [Tbl.above, Bool.and_eq_true, decide_eq_true_eq] at h
    have h1 : ¬ k = a := by omega
    simp only [Tbl.find, h1, if_false]
    exact Tbl.find_none_of_above (Tbl.above_mono (by omega) h.2)

theorem Tbl.above_put {k j : Nat} {v : α} (hj : j < k) : ∀ {t : Tbl α}, t.above j = true → (t.put k v).above j = true
  | [], _ => by simp [Tbl.put, Tbl.above, hj]
  | (a, w) :: t, h => by
    simp only [Tbl.above, Bool.and_eq_true, decide_eq_true_eq] at h
    unfold Tbl.put
    split
    · simp [Tbl.above, hj, h.2]; omega
    · split
      · rename_i _ h2; subst h2; simp [Tbl.above, hj, h.2]
      · simp only [Tbl.above, Bool.and_eq_true, decide_eq_true_eq]
        exact ⟨h.1, Tbl.above_put (by omega) h.2⟩

theorem Tbl.sorted_put {k : Nat} {v : α} : ∀ {t : Tbl α}, t.sorted = true → (t.put k v).sorted = true
  | [], _ => rfl
  | (a, w) :: t, h => by
    unfold Tbl.put
    split
    · simp only [Tbl.sorted, Tbl.above, Bool.and_eq_true, decide_eq_true_eq]; exact ⟨by assumption, h⟩
    · split
      · rename_i _ h2; subst h2; exact h
      · exact Tbl.above_put (by omega) h

theorem Tbl.above_del {k j : Nat} : ∀ {t : Tbl α}, t.above j = true → (t.del k).above j = true
  | [], _ => rfl
  | (a, w) :: t, h => by
    simp only [Tbl.above, Bool.and_eq_true, decide_eq_true_eq] at h
    unfold Tbl.del
    split
    · exact Tbl.above_del (Tbl.above_mono (by omega) h.2)
    · simp only [Tbl.above, Bool.and_eq_true, decide_eq_true_eq]
      exact ⟨h.1, Tbl.above_del h.2⟩

theorem Tbl.sorted_del {k : Nat} : ∀ {t : Tbl α}, t.sorted = true → (t.del k).sorted = true
  | [], _ => rfl
  | (a, w) :: t, h => by
    unfold Tbl.del
    split
    · exact Tbl.sorted_del (Tbl.sorted_of_above h)
    · exact Tbl.above_del h

theorem Tbl.above_filter {j : Nat} (f : Nat × α → Bool) : ∀ {t : Tbl α}, t.above j = true → Tbl.above j (t.filter f) = true
  | [], _ => rfl
  | (a, w) :: t, h => by
    simp only [Tbl.above, Bool.and_eq_true, decide_eq_true_eq] at h
    simp only [List.filter]
    split
    · simp only [Tbl.above, Bool.and_eq_true, decide_eq_true_eq]
      exact ⟨h.1, Tbl.above_filter f h.2⟩
    · exact Tbl.above_mono (by omega) (Tbl.above_filter f h.2)

theorem Tbl.sorted_filter (f : Nat × α → Bool) : ∀ {t : Tbl α}, t.sorted = true → Tbl.sorted (t.filter f) = true
  | [], _ => rfl
  | (a, w) :: t, h => by
    simp only [List.filter]
    split
    · exact Tbl.above_filter f h
    · exact Tbl.sorted_of_above (Tbl.above_filter f h)

/-! ### Reading after writing -/

theorem Tbl.find_put_same (k : Nat) (v : α) : ∀ t : Tbl α, (t.put k v).find k = some v
  | [] => by simp [Tbl.put, Tbl.find]
  | (a, w) :: t => by
    unfold Tbl.put
    split
    · simp [Tbl.find]
    · split
      · simp [Tbl.find]
      · rename_i _ h
        simp only [Tbl.find, h, if_false]
        exact Tbl.find_put_same k v t

theorem Tbl.find_put_other {j k : Nat} (v : α) (h : j ≠ k) : ∀ t : Tbl α, (t.put k v).find j = t.find j
  | [] => by simp [Tbl.put, Tbl.find, h]
  | (a, w) :: t => by
    unfold Tbl.put
    split
    · simp [Tbl.find, h]
    · split
      · rename_i _ h2; subst h2; simp [Tbl.find, h]
      · simp only [Tbl.find, Tbl.find_put_other v h t]

theorem Tbl.find_del_same (k : Nat) : ∀ t : Tbl α, (t.del k).find k = none
  | [] => rfl
  | (a, w) :: t => by
    unfold Tbl.del
    split
    · exact Tbl.find_del_same k t
    · rename_i h1
      simp only [Tbl.find, h1, if_false]
      exact Tbl.find_del_same k t

theorem Tbl.find_del_other {j k : Nat} (h : j ≠ k) : ∀ t : Tbl α, (t.del k).find j = t.find j
  | [] => rfl
  | (a, w) :: t => by
    unfold Tbl.del
    split
    · rename_i h1; subst h1; simp [Tbl.find, h, Tbl.find_del_other h t]
    · simp only [Tbl.find, Tbl.find_del_other h t]

theorem Tbl.get_set_same [DecidableEq α] (d v : α) (k : Nat) (t : Tbl α) : (t.set d k v).get d k = v := by
  unfold Tbl.set Tbl.get
  split
  · rename_i hv; simp [Tbl.find_del_same k t, hv]
  · simp [Tbl.find_put_same]

theorem Tbl.get_set_other [DecidableEq α] (d d' v : α) {j k : Nat} (h : j ≠ k) (t : Tbl α) : (t.set d k v).get d' j = t.get d' j := by
  unfold Tbl.set Tbl.get
  split
  · simp [Tbl.find_del_other h]
  · simp [Tbl.find_put_other v h]

/-! ### The canonical form -/

theorem Tbl.sorted_set [DecidableEq α] (d v : α) (k : Nat) {t : Tbl α} (h : t.sorted = true) : (t.set d k v).sorted = true := by
  unfold Tbl.set
  split
  · exact Tbl.sorted_del h
  · exact Tbl.sorted_put h

theorem Tbl.mem_put {k : Nat} {v : α} {p : Nat × α} : ∀ {t : Tbl α}, p ∈ t.put k v → p = (k, v) ∨ p ∈ t
  | [], h => by simp [Tbl.put] at h; exact .inl h
  | (a, w) :: t, h => by
    unfold Tbl.put at h
    split at h
    · simpa using h
    · split at h
      · rcases List.mem_cons.1 h with h | h
        · exact .inl h
        · exact .inr (List.mem_cons_of_mem _ h)
      · rcases List.mem_cons.1 h with h | h
        · exact .inr (h ▸ List.mem_cons_self)
        · exact (Tbl.mem_put h).imp_right (List.mem_cons_of_mem _)

theorem Tbl.mem_del {k : Nat} {p : Nat × α} : ∀ {t : Tbl α}, p ∈ t.del k → p ∈ t
  | [], h => h
  | (a, w) :: t, h => by
    unfold Tbl.del at h
    split at h
    · exact List.mem_cons_of_mem _ (Tbl.mem_del h)
    · rcases List.mem_cons.1 h with h | h
      · exact h ▸ List.mem_cons_self
      · exact List.mem_cons_of_mem _ (Tbl.mem_del h)

theorem Tbl.all_set [DecidableEq α] (f : Nat × α → Bool) (d v : α) (k : Nat) (hf : v ≠ d → f (k, v) = true) {t : Tbl α}
    (h : t.all f = true) : List.all (t.set d k v) f = true := by
  rw [List.all_eq_true] at h ⊢
  intro p hp
  unfold Tbl.set at hp
  split at hp
  · exact h p (Tbl.mem_del hp)
  · rename_i hv
    rcases Tbl.mem_put hp with rfl | hp
    · exact hf hv
    · exact h p hp

theorem Tbl.wf_set [DecidableEq α] (d v : α) (k : Nat) {t : Tbl α} (h : t.wf d = true) : (t.set d k v).wf d = true := by
  unfold Tbl.wf at h ⊢
  rw [Bool.and_eq_true] at h ⊢
  exact ⟨Tbl.sorted_set d v k h.1, Tbl.all_set _ d v k (fun hv => by simpa using hv) h.2⟩

theorem Tbl.wf_filter [DecidableEq α] (d : α) (f : Nat × α → Bool) {t : Tbl α} (h : t.wf d = true) : Tbl.wf (t.filter f) d = true := by
  unfold Tbl.wf at h ⊢
  rw [Bool.and_eq_true] at h ⊢
  refine ⟨Tbl.sorted_filter f h.1, ?_⟩
  rw [List.all_eq_true] at h ⊢
  exact fun p hp => h.2 p (List.mem_of_mem_filter hp)

/-! ### Memory -/

theorem Mem.byte_setByte_same (m : Mem) (a : Nat) (b : Byte) : (m.setByte a b).byte a = b := Tbl.get_set_same _ _ _ _

theorem Mem.byte_setByte_other (m : Mem) {a c : Nat} (b : Byte) (h : c ≠ a) : (m.setByte a b).byte c = m.byte c :=
  Tbl.get_set_other _ _ _ h _

theorem Mem.wf_setByte {m : Mem} (a : Nat) (b : Byte) (h : m.wf = true) : (m.setByte a b).wf = true := Tbl.wf_set _ _ _ h

theorem Mem.wf_setBytes : ∀ {m : Mem} (a : Nat) (bs : List Byte), m.wf = true → (m.setBytes a bs).wf = true
  | _, _, [], h => h
  | _, a, b :: bs, h => Mem.wf_setBytes (a + 1) bs (Mem.wf_setByte a b h)

theorem Mem.wf_filter {m : Mem} (f : Host.Cell → Bool) (h : m.wf = true) : Mem.wf (m.filter f) = true := Tbl.wf_filter _ _ h

theorem Mem.wf_clear {m : Mem} (a n : Nat) (h : m.wf = true) : (m.clear a n).wf = true := Mem.wf_filter _ h

/-- Every byte outside the stored range reads as before. -/
theorem Mem.byte_setBytes_other : ∀ (m : Mem) (a : Nat) (bs : List Byte) (c : Nat), (c < a ∨ a + bs.length ≤ c) →
    (m.setBytes a bs).byte c = m.byte c
  | _, _, [], _, _ => rfl
  | m, a, b :: bs, c, h => by
    simp only [List.length_cons] at h
    rw [Mem.setBytes, Mem.byte_setBytes_other (m.setByte a b) (a + 1) bs c (by omega), Mem.byte_setByte_other m b (by omega)]

/-- The stored range reads as what was stored. -/
theorem Mem.bytes_setBytes_same : ∀ (m : Mem) (a : Nat) (bs : List Byte), (m.setBytes a bs).bytes a bs.length = bs
  | _, _, [] => rfl
  | m, a, b :: bs => by
    simp only [List.length_cons, Mem.bytes, Mem.setBytes]
    rw [Mem.byte_setBytes_other _ _ _ _ (Or.inl (Nat.lt_succ_self a)), Mem.byte_setByte_same m a b,
      Mem.bytes_setBytes_same _ (a + 1) bs]

end Sys2Proof.Machine
end

