-- ==== Sys2Proof/Laws/Keeps.lean ====
section
/-! SUPPORT. What every operation on the state keeps, said once: the queue, the outputs so far, the canonical form, the fused values; and how the relation passes through record updates, conditionals and folds. -/

namespace Sys2Proof.Machine

/-- `t` comes from `s` by operations of the machine: its queue is the same, its outputs extend those of `s`, a canonical form stays canonical, the fused values are the same, free values are taken in order. -/
structure Keeps (s t : State) : Prop where
  pending : t.pending = s.pending
  out : s.out <+: t.out
  canonical : s.canonical = true → t.canonical = true
  fixed : t.fuse.fixed = s.fuse.fixed
  free : s.freeNext ≤ t.freeNext

/-- Dropping register words keeps their canonical form. -/
theorem regsWf_filter {r : Tbl Word} (f : Nat × Word → Bool) (h : regsWf r = true) : regsWf (r.filter f) = true := by
  simp only [regsWf, Bool.and_eq_true, List.all_eq_true] at *
  exact ⟨Tbl.sorted_filter f h.1, fun x hx => h.2 x (List.mem_filter.mp hx).1⟩

/-- Bytes stored one after another keep the canonical form. -/
theorem Mem.wf_foldl {m : Mem} (l : List (Nat × Byte)) (h : m.wf = true) : (l.foldl (fun (m : Mem) p => m.setByte p.1 p.2) m).wf = true := by
  induction l generalizing m with
  | nil => exact h
  | cons p l ih => exact ih (Mem.wf_setByte _ _ h)

namespace Keeps

theorem reset_mem : State.reset.mem.wf = true := rfl
theorem reset_regs : regsWf State.reset.regs = true := rfl
theorem nil_mem : Mem.wf [] = true := rfl

theorem refl (s : State) : Keeps s s := ⟨rfl, List.prefix_refl _, id, rfl, Nat.le_refl _⟩

theorem trans {s t u : State} (h : Keeps s t) (k : Keeps t u) : Keeps s u :=
  ⟨k.pending.trans h.pending, h.out.trans k.out, fun x => k.canonical (h.canonical x), k.fixed.trans h.fixed, h.free.trans k.free⟩

/-- A state that agrees in the parts that the relation names. -/
theorem of_eq {s t u : State} (hp : u.pending = t.pending) (ho : u.out = t.out) (hm : u.mem = t.mem) (hr : u.regs = t.regs)
    (hx : u.fuse.fixed = t.fuse.fixed) (hf : u.freeNext = t.freeNext) (h : Keeps s t) : Keeps s u := by
  refine h.trans ⟨hp, ho ▸ List.prefix_refl _, ?_, hx, hf ▸ Nat.le_refl _⟩
  unfold State.canonical
  rw [hm, hr]
  exact id

/-- A record update: its parts agree with those of `t`. -/
theorem of_mk {s t : State} {xclk xabort xabortRun xabortHeld xregs xpend xbanks xmem xmemErr xtiles xseqs xwork xsetNow xwrote xhbm xctx xsync xcmd xhost xbr xopt xln xlk xfab xfuse xboot xshk xflash xnor xmgt xfreeNext xout xpending} (hp : xpending = t.pending) (ho : xout = t.out)
    (hm : xmem = t.mem) (hr : xregs = t.regs) (hx : Fuses.fixed xfuse = t.fuse.fixed) (hf : xfreeNext = t.freeNext) (h : Keeps s t) :
    Keeps s (State.mk xclk xabort xabortRun xabortHeld xregs xpend xbanks xmem xmemErr xtiles xseqs xwork xsetNow xwrote xhbm xctx xsync xcmd xhost xbr xopt xln xlk xfab xfuse xboot xshk xflash xnor xmgt xfreeNext xout xpending) := of_eq hp ho hm hr hx hf h

/-- A record update that takes free values. -/
theorem of_free {s t : State} {xclk xabort xabortRun xabortHeld xregs xpend xbanks xmem xmemErr xtiles xseqs xwork xsetNow xwrote xhbm xctx xsync xcmd xhost xbr xopt xln xlk xfab xfuse xboot xshk xflash xnor xmgt xfreeNext xout xpending} (hp : xpending = t.pending) (ho : xout = t.out)
    (hm : xmem = t.mem) (hr : xregs = t.regs) (hx : Fuses.fixed xfuse = t.fuse.fixed) (hf : t.freeNext ≤ xfreeNext) (h : Keeps s t) :
    Keeps s (State.mk xclk xabort xabortRun xabortHeld xregs xpend xbanks xmem xmemErr xtiles xseqs xwork xsetNow xwrote xhbm xctx xsync xcmd xhost xbr xopt xln xlk xfab xfuse xboot xshk xflash xnor xmgt xfreeNext xout xpending) := by
  refine h.trans ⟨hp, ho ▸ List.prefix_refl _, ?_, hx, hf⟩
  simp only [State.canonical, hm, hr]
  exact id

/-- A record update that drops some register words, which then read as their cold values. -/
theorem of_filter {s t : State} {f : Nat × Word → Bool} {xclk xabort xabortRun xabortHeld xregs xpend xbanks xmem xmemErr xtiles xseqs xwork xsetNow xwrote xhbm xctx xsync xcmd xhost xbr xopt xln xlk xfab xfuse xboot xshk xflash xnor xmgt xfreeNext xout xpending} (hp : xpending = t.pending) (ho : xout = t.out)
    (hm : xmem = t.mem) (hr : xregs = t.regs.filter f) (hx : Fuses.fixed xfuse = t.fuse.fixed) (hf : xfreeNext = t.freeNext) (h : Keeps s t) :
    Keeps s (State.mk xclk xabort xabortRun xabortHeld xregs xpend xbanks xmem xmemErr xtiles xseqs xwork xsetNow xwrote xhbm xctx xsync xcmd xhost xbr xopt xln xlk xfab xfuse xboot xshk xflash xnor xmgt xfreeNext xout xpending) := by
  refine h.trans ⟨hp, ho ▸ List.prefix_refl _, ?_, hx, hf ▸ Nat.le_refl _⟩
  subst hm hr
  simp only [State.canonical, regsWf, Bool.and_eq_true]
  exact fun k => ⟨k.1, Tbl.sorted_filter f k.2.1, by
    simp only [List.all_eq_true] at *
    exact fun x hx => k.2.2 x (List.mem_filter.mp hx).1⟩

/-- A record update whose memory and registers keep their canonical forms. -/
theorem of_data {s t : State} {xclk xabort xabortRun xabortHeld xregs xpend xbanks xmem xmemErr xtiles xseqs xwork xsetNow xwrote xhbm xctx xsync xcmd xhost xbr xopt xln xlk xfab xfuse xboot xshk xflash xnor xmgt xfreeNext xout xpending} (hp : xpending = t.pending) (ho : xout = t.out)
    (hm : t.mem.wf = true → xmem.wf = true) (hr : regsWf t.regs = true → regsWf xregs = true) (hx : Fuses.fixed xfuse = t.fuse.fixed)
    (hf : xfreeNext = t.freeNext) (h : Keeps s t) : Keeps s (State.mk xclk xabort xabortRun xabortHeld xregs xpend xbanks xmem xmemErr xtiles xseqs xwork xsetNow xwrote xhbm xctx xsync xcmd xhost xbr xopt xln xlk xfab xfuse xboot xshk xflash xnor xmgt xfreeNext xout xpending) := by
  refine h.trans ⟨hp, ho ▸ List.prefix_refl _, ?_, hx, hf ▸ Nat.le_refl _⟩
  simp only [State.canonical, Bool.and_eq_true]
  exact fun k => ⟨hm k.1, hr k.2⟩

theorem cond {s a b : State} {c : Prop} [Decidable c] (ha : c → Keeps s a) (hb : ¬c → Keeps s b) : Keeps s (if c then a else b) := by
  split
  · exact ha ‹_›
  · exact hb ‹_›

theorem fst_cond {α : Type} {s : State} {a b : State × α} {c : Prop} [Decidable c] (ha : c → Keeps s a.1) (hb : ¬c → Keeps s b.1) :
    Keeps s (if c then a else b).1 := by
  split
  · exact ha ‹_›
  · exact hb ‹_›

theorem foldl {α : Type} {s t : State} {f : State → α → State} {l : List α} (hf : ∀ u a, Keeps s u → Keeps s (f u a)) (h : Keeps s t) :
    Keeps s (l.foldl f t) := by
  induction l generalizing t with
  | nil => exact h
  | cons a l ih => exact ih (hf t a h)

end Keeps

end Sys2Proof.Machine
end

