-- ==== Sys2Proof/Laws/KeepsBase.lean ====
section
/-! SUPPORT. Every operation of the machine keeps what Keeps says: the named operations on registers, memory, events and tiles. -/

set_option linter.unusedTactic false
set_option linter.unreachableTactic false

namespace Sys2Proof.Machine

theorem State.setWord_keeps {s0 s : State} (off : Nat) (w : Word) (h : Keeps s0 s) : Keeps s0 (s.setWord off w) := by
  refine h.trans ⟨rfl, List.prefix_refl _, ?_, rfl, Nat.le_refl _⟩
  simp only [State.canonical, regsWf, State.setWord, Bool.and_eq_true]
  exact fun k => ⟨k.1, Tbl.sorted_set _ _ _ k.2.1, Tbl.all_set _ _ _ _ (fun hv => by simpa using hv) k.2.2⟩

theorem State.setDword_keeps {s0 : State} {s : State} (x2 : _) (x3 : _) (h : Keeps s0 s) : Keeps s0 (State.setDword s x2 x3) := by
  unfold State.setDword
  try dsimp only
  repeat' first | with_reducible assumption | intro _ | with_reducible (first | apply State.setWord_keeps) | with_reducible apply Keeps.cond | with_reducible apply Keeps.foldl | (fail_if_no_progress with_reducible refine Keeps.of_mk rfl rfl rfl rfl rfl rfl ?_) | with_reducible refine Keeps.of_free rfl rfl rfl rfl rfl (Nat.le_add_right _ _) ?_ | with_reducible refine Keeps.of_filter rfl rfl rfl rfl rfl rfl ?_ | split

theorem State.addDword_keeps {s0 : State} {s : State} (x2 : _) (x3 : _) (h : Keeps s0 s) : Keeps s0 (State.addDword s x2 x3) := by
  unfold State.addDword
  try dsimp only
  repeat' first | with_reducible assumption | intro _ | with_reducible (first | apply State.setDword_keeps) | with_reducible apply Keeps.cond | with_reducible apply Keeps.foldl | (fail_if_no_progress with_reducible refine Keeps.of_mk rfl rfl rfl rfl rfl rfl ?_) | with_reducible refine Keeps.of_free rfl rfl rfl rfl rfl (Nat.le_add_right _ _) ?_ | with_reducible refine Keeps.of_filter rfl rfl rfl rfl rfl rfl ?_ | split

theorem State.zeroRange_keeps {s0 s : State} (a n : Nat) (h : Keeps s0 s) : Keeps s0 (s.zeroRange a n) := by
  refine h.trans ⟨rfl, List.prefix_refl _, ?_, rfl, Nat.le_refl _⟩
  simp only [State.canonical, State.zeroRange, Bool.and_eq_true]
  exact fun k => ⟨Mem.wf_clear _ _ k.1, k.2⟩

theorem State.addNote_keeps {s0 : State} {s : State} (h : Keeps s0 s) : Keeps s0 (State.addNote s) := by
  unfold State.addNote
  try dsimp only
  repeat' first | with_reducible assumption | intro _ | with_reducible apply Keeps.cond | with_reducible apply Keeps.foldl | (fail_if_no_progress with_reducible refine Keeps.of_mk rfl rfl rfl rfl rfl rfl ?_) | with_reducible refine Keeps.of_free rfl rfl rfl rfl rfl (Nat.le_add_right _ _) ?_ | with_reducible refine Keeps.of_filter rfl rfl rfl rfl rfl rfl ?_ | split

theorem State.stageEvent_keeps {s0 : State} {s : State} (x2 : _) (h : Keeps s0 s) : Keeps s0 (State.stageEvent s x2) := by
  unfold State.stageEvent
  try dsimp only
  repeat' first | with_reducible assumption | intro _ | with_reducible (first | apply State.setWord_keeps) | with_reducible apply Keeps.cond | with_reducible apply Keeps.foldl | (fail_if_no_progress with_reducible refine Keeps.of_mk rfl rfl rfl rfl rfl rfl ?_) | with_reducible refine Keeps.of_free rfl rfl rfl rfl rfl (Nat.le_add_right _ _) ?_ | with_reducible refine Keeps.of_filter rfl rfl rfl rfl rfl rfl ?_ | split

theorem State.recordFatal_keeps {s0 : State} {s : State} (x2 : _) (x3 : _) (x4 : _) (h : Keeps s0 s) : Keeps s0 (State.recordFatal s x2 x3 x4) := by
  unfold State.recordFatal
  try dsimp only
  repeat' first | with_reducible assumption | intro _ | with_reducible (first | apply State.stageEvent_keeps) | with_reducible apply Keeps.cond | with_reducible apply Keeps.foldl | (fail_if_no_progress with_reducible refine Keeps.of_mk rfl rfl rfl rfl rfl rfl ?_) | with_reducible refine Keeps.of_free rfl rfl rfl rfl rfl (Nat.le_add_right _ _) ?_ | with_reducible refine Keeps.of_filter rfl rfl rfl rfl rfl rfl ?_ | split

theorem State.record_keeps {s0 : State} {s : State} (x2 : _) (x3 : _) (x4 : _) (h : Keeps s0 s) : Keeps s0 (State.record s x2 x3 x4) := by
  unfold State.record
  try dsimp only
  repeat' first | with_reducible assumption | intro _ | with_reducible (first | apply State.addNote_keeps | apply State.recordFatal_keeps) | with_reducible apply Keeps.cond | with_reducible apply Keeps.foldl | (fail_if_no_progress with_reducible refine Keeps.of_mk rfl rfl rfl rfl rfl rfl ?_) | with_reducible refine Keeps.of_free rfl rfl rfl rfl rfl (Nat.le_add_right _ _) ?_ | with_reducible refine Keeps.of_filter rfl rfl rfl rfl rfl rfl ?_ | split

theorem State.bumpBy_keeps {s0 : State} {s : State} (x2 : _) (x3 : _) (h : Keeps s0 s) : Keeps s0 (State.bumpBy s x2 x3) := by
  unfold State.bumpBy
  try dsimp only
  repeat' first | with_reducible assumption | intro _ | with_reducible (first | apply State.setWord_keeps | apply State.record_keeps) | with_reducible apply Keeps.cond | with_reducible apply Keeps.foldl | (fail_if_no_progress with_reducible refine Keeps.of_mk rfl rfl rfl rfl rfl rfl ?_) | with_reducible refine Keeps.of_free rfl rfl rfl rfl rfl (Nat.le_add_right _ _) ?_ | with_reducible refine Keeps.of_filter rfl rfl rfl rfl rfl rfl ?_ | split

theorem State.bump_keeps {s0 : State} {s : State} (x2 : _) (h : Keeps s0 s) : Keeps s0 (State.bump s x2) := by
  unfold State.bump
  try dsimp only
  repeat' first | with_reducible assumption | intro _ | with_reducible (first | apply State.bumpBy_keeps) | with_reducible apply Keeps.cond | with_reducible apply Keeps.foldl | (fail_if_no_progress with_reducible refine Keeps.of_mk rfl rfl rfl rfl rfl rfl ?_) | with_reducible refine Keeps.of_free rfl rfl rfl rfl rfl (Nat.le_add_right _ _) ?_ | with_reducible refine Keeps.of_filter rfl rfl rfl rfl rfl rfl ?_ | split

theorem State.hifDrop_keeps {s0 : State} {s : State} (h : Keeps s0 s) : Keeps s0 (State.hifDrop s) := by
  unfold State.hifDrop
  try dsimp only
  repeat' first | with_reducible assumption | intro _ | with_reducible (first | apply State.bump_keeps) | with_reducible apply Keeps.cond | with_reducible apply Keeps.foldl | (fail_if_no_progress with_reducible refine Keeps.of_mk rfl rfl rfl rfl rfl rfl ?_) | with_reducible refine Keeps.of_free rfl rfl rfl rfl rfl (Nat.le_add_right _ _) ?_ | with_reducible refine Keeps.of_filter rfl rfl rfl rfl rfl rfl ?_ | split

theorem State.emit_keeps {s0 s : State} (o : Out) (h : Keeps s0 s) : Keeps s0 (s.emit o) :=
  h.trans ⟨rfl, List.prefix_append _ _, id, rfl, Nat.le_refl _⟩

theorem State.trigger_keeps {s0 : State} {s : State} (x2 : _) (h : Keeps s0 s) : Keeps s0 (State.trigger s x2) := by
  unfold State.trigger
  try dsimp only
  repeat' first | with_reducible assumption | intro _ | with_reducible apply Keeps.cond | with_reducible apply Keeps.foldl | (fail_if_no_progress with_reducible refine Keeps.of_mk rfl rfl rfl rfl rfl rfl ?_) | with_reducible refine Keeps.of_free rfl rfl rfl rfl rfl (Nat.le_add_right _ _) ?_ | with_reducible refine Keeps.of_filter rfl rfl rfl rfl rfl rfl ?_ | split

theorem State.abortWith_keeps {s0 : State} {s : State} (x2 : _) (x3 : _) (x4 : _) (h : Keeps s0 s) : Keeps s0 (State.abortWith s x2 x3 x4) := by
  unfold State.abortWith
  try dsimp only
  repeat' first | with_reducible assumption | intro _ | with_reducible (first | apply State.trigger_keeps | apply State.record_keeps) | with_reducible apply Keeps.cond | with_reducible apply Keeps.foldl | (fail_if_no_progress with_reducible refine Keeps.of_mk rfl rfl rfl rfl rfl rfl ?_) | with_reducible refine Keeps.of_free rfl rfl rfl rfl rfl (Nat.le_add_right _ _) ?_ | with_reducible refine Keeps.of_filter rfl rfl rfl rfl rfl rfl ?_ | split

theorem State.setTile_keeps {s0 : State} {s : State} (x2 : _) (x3 : _) (h : Keeps s0 s) : Keeps s0 (State.setTile s x2 x3) := by
  unfold State.setTile
  try dsimp only
  repeat' first | with_reducible assumption | intro _ | with_reducible apply Keeps.cond | with_reducible apply Keeps.foldl | (fail_if_no_progress with_reducible refine Keeps.of_mk rfl rfl rfl rfl rfl rfl ?_) | with_reducible refine Keeps.of_free rfl rfl rfl rfl rfl (Nat.le_add_right _ _) ?_ | with_reducible refine Keeps.of_filter rfl rfl rfl rfl rfl rfl ?_ | split

theorem State.setSeq_keeps {s0 : State} {s : State} (x2 : _) (x3 : _) (h : Keeps s0 s) : Keeps s0 (State.setSeq s x2 x3) := by
  unfold State.setSeq
  try dsimp only
  repeat' first | with_reducible assumption | intro _ | with_reducible apply Keeps.cond | with_reducible apply Keeps.foldl | (fail_if_no_progress with_reducible refine Keeps.of_mk rfl rfl rfl rfl rfl rfl ?_) | with_reducible refine Keeps.of_free rfl rfl rfl rfl rfl (Nat.le_add_right _ _) ?_ | with_reducible refine Keeps.of_filter rfl rfl rfl rfl rfl rfl ?_ | split

theorem State.tick_keeps {s0 : State} {s : State} (h : Keeps s0 s) : Keeps s0 (State.tick s) := by
  unfold State.tick
  try dsimp only
  repeat' first | with_reducible assumption | intro _ | with_reducible apply Keeps.cond | with_reducible apply Keeps.foldl | (fail_if_no_progress with_reducible refine Keeps.of_mk rfl rfl rfl rfl rfl rfl ?_) | with_reducible refine Keeps.of_free rfl rfl rfl rfl rfl (Nat.le_add_right _ _) ?_ | with_reducible refine Keeps.of_filter rfl rfl rfl rfl rfl rfl ?_ | split

theorem State.arm_keeps {s0 : State} {s : State} (x2 : _) (x3 : _) (x4 : _) (x5 : _) (x6 : _) (h : Keeps s0 s) : Keeps s0 (State.arm s x2 x3 x4 x5 x6) := by
  unfold State.arm
  try dsimp only
  repeat' first | with_reducible assumption | intro _ | with_reducible (first | apply State.bump_keeps) | with_reducible apply Keeps.cond | with_reducible apply Keeps.foldl | (fail_if_no_progress with_reducible refine Keeps.of_mk rfl rfl rfl rfl rfl rfl ?_) | with_reducible refine Keeps.of_free rfl rfl rfl rfl rfl (Nat.le_add_right _ _) ?_ | with_reducible refine Keeps.of_filter rfl rfl rfl rfl rfl rfl ?_ | split

theorem State.applyPend_keeps {s0 : State} {s : State} (x2 : _) (h : Keeps s0 s) : Keeps s0 (State.applyPend s x2) := by
  unfold State.applyPend
  try dsimp only
  repeat' first | with_reducible assumption | intro _ | with_reducible (first | apply State.setWord_keeps) | with_reducible apply Keeps.cond | with_reducible apply Keeps.foldl | (fail_if_no_progress with_reducible refine Keeps.of_mk rfl rfl rfl rfl rfl rfl ?_) | with_reducible refine Keeps.of_free rfl rfl rfl rfl rfl (Nat.le_add_right _ _) ?_ | with_reducible refine Keeps.of_filter rfl rfl rfl rfl rfl rfl ?_ | split

theorem State.applyPends_keeps {s0 : State} {s : State} (x2 : _) (h : Keeps s0 s) : Keeps s0 (State.applyPends s x2) := by
  unfold State.applyPends
  try dsimp only
  repeat' first | with_reducible assumption | intro _ | with_reducible (first | apply State.applyPend_keeps) | with_reducible apply Keeps.cond | with_reducible apply Keeps.foldl | (fail_if_no_progress with_reducible refine Keeps.of_mk rfl rfl rfl rfl rfl rfl ?_) | with_reducible refine Keeps.of_free rfl rfl rfl rfl rfl (Nat.le_add_right _ _) ?_ | with_reducible refine Keeps.of_filter rfl rfl rfl rfl rfl rfl ?_ | split

theorem State.addRepair_keeps {s0 : State} {s : State} (x2 : _) (h : Keeps s0 s) : Keeps s0 (State.addRepair s x2) := by
  unfold State.addRepair
  try dsimp only
  repeat' first | with_reducible assumption | intro _ | with_reducible apply Keeps.cond | with_reducible apply Keeps.foldl | (fail_if_no_progress with_reducible refine Keeps.of_mk rfl rfl rfl rfl rfl rfl ?_) | with_reducible refine Keeps.of_free rfl rfl rfl rfl rfl (Nat.le_add_right _ _) ?_ | with_reducible refine Keeps.of_filter rfl rfl rfl rfl rfl rfl ?_ | split

theorem State.correctHbm_keeps {s0 : State} {s : State} (x2 : _) (h : Keeps s0 s) : Keeps s0 (State.correctHbm s x2) := by
  unfold State.correctHbm
  try dsimp only
  repeat' first | with_reducible assumption | intro _ | with_reducible (first | apply State.bump_keeps | apply State.addRepair_keeps | apply State.record_keeps) | with_reducible apply Keeps.cond | with_reducible apply Keeps.foldl | (fail_if_no_progress with_reducible refine Keeps.of_mk rfl rfl rfl rfl rfl rfl ?_) | with_reducible refine Keeps.of_free rfl rfl rfl rfl rfl (Nat.le_add_right _ _) ?_ | with_reducible refine Keeps.of_filter rfl rfl rfl rfl rfl rfl ?_ | split

theorem State.wordError_keeps {s0 : State} {s : State} (x2 : _) (h : Keeps s0 s) : Keeps s0 (State.wordError s x2) := by
  unfold State.wordError
  try dsimp only
  repeat' first | with_reducible assumption | intro _ | with_reducible (first | apply State.correctHbm_keeps | apply State.abortWith_keeps | apply State.addRepair_keeps | apply State.bump_keeps) | with_reducible apply Keeps.cond | with_reducible apply Keeps.foldl | (fail_if_no_progress with_reducible refine Keeps.of_mk rfl rfl rfl rfl rfl rfl ?_) | with_reducible refine Keeps.of_free rfl rfl rfl rfl rfl (Nat.le_add_right _ _) ?_ | with_reducible refine Keeps.of_filter rfl rfl rfl rfl rfl rfl ?_ | split

theorem State.touch_keeps {s0 : State} {s : State} (x2 : _) (x3 : _) (h : Keeps s0 s) : Keeps s0 (State.touch s x2 x3) := by
  unfold State.touch
  try dsimp only
  repeat' first | with_reducible assumption | intro _ | with_reducible (first | apply State.wordError_keeps) | with_reducible apply Keeps.cond | with_reducible apply Keeps.foldl | (fail_if_no_progress with_reducible refine Keeps.of_mk rfl rfl rfl rfl rfl rfl ?_) | with_reducible refine Keeps.of_free rfl rfl rfl rfl rfl (Nat.le_add_right _ _) ?_ | with_reducible refine Keeps.of_filter rfl rfl rfl rfl rfl rfl ?_ | split

theorem State.poke_keeps {s0 s : State} (a : Nat) (bs : List Byte) (h : Keeps s0 s) : Keeps s0 (s.poke a bs) := by
  refine h.trans ⟨rfl, List.prefix_refl _, ?_, rfl, Nat.le_refl _⟩
  simp only [State.canonical, State.poke, Bool.and_eq_true]
  exact fun k => ⟨Mem.wf_setBytes _ _ k.1, k.2⟩

theorem State.move_keeps {s0 : State} {s : State} (x2 : _) (x3 : _) (x4 : _) (h : Keeps s0 s) : Keeps s0 (State.move s x2 x3 x4) := by
  unfold State.move
  try dsimp only
  repeat' first | with_reducible assumption | intro _ | with_reducible (first | apply State.poke_keeps | apply State.touch_keeps) | with_reducible apply Keeps.cond | with_reducible apply Keeps.foldl | (fail_if_no_progress with_reducible refine Keeps.of_mk rfl rfl rfl rfl rfl rfl ?_) | with_reducible refine Keeps.of_free rfl rfl rfl rfl rfl (Nat.le_add_right _ _) ?_ | with_reducible refine Keeps.of_filter rfl rfl rfl rfl rfl rfl ?_ | split

theorem State.orWord_keeps {s0 : State} {s : State} (x2 : _) (x3 : _) (h : Keeps s0 s) : Keeps s0 (State.orWord s x2 x3) := by
  unfold State.orWord
  try dsimp only
  repeat' first | with_reducible assumption | intro _ | with_reducible (first | apply State.setWord_keeps) | with_reducible apply Keeps.cond | with_reducible apply Keeps.foldl | (fail_if_no_progress with_reducible refine Keeps.of_mk rfl rfl rfl rfl rfl rfl ?_) | with_reducible refine Keeps.of_free rfl rfl rfl rfl rfl (Nat.le_add_right _ _) ?_ | with_reducible refine Keeps.of_filter rfl rfl rfl rfl rfl rfl ?_ | split

theorem State.clearBits_keeps {s0 : State} {s : State} (x2 : _) (x3 : _) (h : Keeps s0 s) : Keeps s0 (State.clearBits s x2 x3) := by
  unfold State.clearBits
  try dsimp only
  repeat' first | with_reducible assumption | intro _ | with_reducible (first | apply State.setWord_keeps) | with_reducible apply Keeps.cond | with_reducible apply Keeps.foldl | (fail_if_no_progress with_reducible refine Keeps.of_mk rfl rfl rfl rfl rfl rfl ?_) | with_reducible refine Keeps.of_free rfl rfl rfl rfl rfl (Nat.le_add_right _ _) ?_ | with_reducible refine Keeps.of_filter rfl rfl rfl rfl rfl rfl ?_ | split

theorem State.flagSat_keeps {s0 : State} {s : State} (x2 : _) (x3 : _) (h : Keeps s0 s) : Keeps s0 (State.flagSat s x2 x3) := by
  unfold State.flagSat
  try dsimp only
  repeat' first | with_reducible assumption | intro _ | with_reducible (first | apply State.orWord_keeps) | with_reducible apply Keeps.cond | with_reducible apply Keeps.foldl | (fail_if_no_progress with_reducible refine Keeps.of_mk rfl rfl rfl rfl rfl rfl ?_) | with_reducible refine Keeps.of_free rfl rfl rfl rfl rfl (Nat.le_add_right _ _) ?_ | with_reducible refine Keeps.of_filter rfl rfl rfl rfl rfl rfl ?_ | split

theorem State.flagNum_keeps {s0 : State} {s : State} (x2 : _) (x3 : _) (x4 : _) (h : Keeps s0 s) : Keeps s0 (State.flagNum s x2 x3 x4) := by
  unfold State.flagNum
  try dsimp only
  repeat' first | with_reducible assumption | intro _ | with_reducible (first | apply State.orWord_keeps) | with_reducible apply Keeps.cond | with_reducible apply Keeps.foldl | (fail_if_no_progress with_reducible refine Keeps.of_mk rfl rfl rfl rfl rfl rfl ?_) | with_reducible refine Keeps.of_free rfl rfl rfl rfl rfl (Nat.le_add_right _ _) ?_ | with_reducible refine Keeps.of_filter rfl rfl rfl rfl rfl rfl ?_ | split

theorem State.spendSlot_keeps {s0 : State} {s : State} (x2 : _) (x3 : _) (h : Keeps s0 s) : Keeps s0 (State.spendSlot s x2 x3) := by
  unfold State.spendSlot
  try dsimp only
  repeat' first | with_reducible assumption | intro _ | with_reducible (first | apply State.setSeq_keeps) | with_reducible apply Keeps.cond | with_reducible apply Keeps.foldl | (fail_if_no_progress with_reducible refine Keeps.of_mk rfl rfl rfl rfl rfl rfl ?_) | with_reducible refine Keeps.of_free rfl rfl rfl rfl rfl (Nat.le_add_right _ _) ?_ | with_reducible refine Keeps.of_filter rfl rfl rfl rfl rfl rfl ?_ | split

theorem State.onSlot_keeps {s0 s : State} (sel : Sel) (k : Slot) (m : Nat → Bool) (f : Flight → State → Nat × Nat → State)
    (hf : ∀ x u p, Keeps s0 u → Keeps s0 (f x u p)) (h : Keeps s0 s) : Keeps s0 (s.onSlot sel k m f) := by
  unfold State.onSlot
  split
  · exact Keeps.foldl (fun u a k => hf _ u a k) (State.spendSlot_keeps _ _ h)
  · exact h

theorem State.touchBlock_keeps {s0 : State} {s : State} (x2 : _) (x3 : _) (x4 : _) (h : Keeps s0 s) : Keeps s0 (State.touchBlock s x2 x3 x4) := by
  unfold State.touchBlock
  try dsimp only
  repeat' first | with_reducible assumption | intro _ | with_reducible (first | apply State.touch_keeps) | with_reducible apply Keeps.cond | with_reducible apply Keeps.foldl | (fail_if_no_progress with_reducible refine Keeps.of_mk rfl rfl rfl rfl rfl rfl ?_) | with_reducible refine Keeps.of_free rfl rfl rfl rfl rfl (Nat.le_add_right _ _) ?_ | with_reducible refine Keeps.of_filter rfl rfl rfl rfl rfl rfl ?_ | split

theorem State.captureN_keeps {s0 s : State} (t u n : Nat) (h : Keeps s0 s) : Keeps s0 (s.captureN t u n) := by
  induction n generalizing s with
  | zero => exact h
  | succ n ih =>
    unfold State.captureN
    dsimp only
    repeat' first | with_reducible assumption | intro _ | with_reducible (first | apply ih | apply State.setTile_keeps | apply State.touch_keeps | apply State.touchBlock_keeps) | with_reducible apply Keeps.cond | split

theorem State.capture_keeps {s0 : State} {s : State} (x2 : _) (x3 : _) (h : Keeps s0 s) : Keeps s0 (State.capture s x2 x3) := by
  unfold State.capture
  try dsimp only
  repeat' first | with_reducible assumption | intro _ | with_reducible (first | apply State.captureN_keeps) | with_reducible apply Keeps.cond | with_reducible apply Keeps.foldl | (fail_if_no_progress with_reducible refine Keeps.of_mk rfl rfl rfl rfl rfl rfl ?_) | with_reducible refine Keeps.of_free rfl rfl rfl rfl rfl (Nat.le_add_right _ _) ?_ | with_reducible refine Keeps.of_filter rfl rfl rfl rfl rfl rfl ?_ | split

theorem State.setObj_keeps {s0 : State} {s : State} (x2 : _) (x3 : _) (h : Keeps s0 s) : Keeps s0 (State.setObj s x2 x3) := by
  unfold State.setObj
  try dsimp only
  repeat' first | with_reducible assumption | intro _ | with_reducible apply Keeps.cond | with_reducible apply Keeps.foldl | (fail_if_no_progress with_reducible refine Keeps.of_mk rfl rfl rfl rfl rfl rfl ?_) | with_reducible refine Keeps.of_free rfl rfl rfl rfl rfl (Nat.le_add_right _ _) ?_ | with_reducible refine Keeps.of_filter rfl rfl rfl rfl rfl rfl ?_ | split

theorem State.synAdd_keeps {s0 : State} {s : State} (x2 : _) (x3 : _) (h : Keeps s0 s) : Keeps s0 (State.synAdd s x2 x3) := by
  unfold State.synAdd
  try dsimp only
  repeat' first | with_reducible assumption | intro _ | with_reducible (first | apply State.setObj_keeps | apply State.record_keeps | apply State.orWord_keeps) | with_reducible apply Keeps.cond | with_reducible apply Keeps.foldl | (fail_if_no_progress with_reducible refine Keeps.of_mk rfl rfl rfl rfl rfl rfl ?_) | with_reducible refine Keeps.of_free rfl rfl rfl rfl rfl (Nat.le_add_right _ _) ?_ | with_reducible refine Keeps.of_filter rfl rfl rfl rfl rfl rfl ?_ | split

theorem State.semHit_keeps {s0 : State} {s : State} (x2 : _) (h : Keeps s0 s) : Keeps s0 (State.semHit s x2) := by
  unfold State.semHit
  try dsimp only
  repeat' first | with_reducible assumption | intro _ | with_reducible (first | apply State.setObj_keeps) | with_reducible apply Keeps.cond | with_reducible apply Keeps.foldl | (fail_if_no_progress with_reducible refine Keeps.of_mk rfl rfl rfl rfl rfl rfl ?_) | with_reducible refine Keeps.of_free rfl rfl rfl rfl rfl (Nat.le_add_right _ _) ?_ | with_reducible refine Keeps.of_filter rfl rfl rfl rfl rfl rfl ?_ | split

theorem State.setLock_keeps {s0 : State} {s : State} (x2 : _) (x3 : _) (h : Keeps s0 s) : Keeps s0 (State.setLock s x2 x3) := by
  unfold State.setLock
  try dsimp only
  repeat' first | with_reducible assumption | intro _ | with_reducible apply Keeps.cond | with_reducible apply Keeps.foldl | (fail_if_no_progress with_reducible refine Keeps.of_mk rfl rfl rfl rfl rfl rfl ?_) | with_reducible refine Keeps.of_free rfl rfl rfl rfl rfl (Nat.le_add_right _ _) ?_ | with_reducible refine Keeps.of_filter rfl rfl rfl rfl rfl rfl ?_ | split

theorem State.takeFlash_keeps {s0 : State} {s : State} (h : Keeps s0 s) : Keeps s0 (State.takeFlash s) := by
  unfold State.takeFlash
  try dsimp only
  repeat' first | with_reducible assumption | intro _ | with_reducible (first | apply State.setLock_keeps) | with_reducible apply Keeps.cond | with_reducible apply Keeps.foldl | (fail_if_no_progress with_reducible refine Keeps.of_mk rfl rfl rfl rfl rfl rfl ?_) | with_reducible refine Keeps.of_free rfl rfl rfl rfl rfl (Nat.le_add_right _ _) ?_ | with_reducible refine Keeps.of_filter rfl rfl rfl rfl rfl rfl ?_ | split

theorem State.tellWait_keeps {s0 : State} {s : State} (h : Keeps s0 s) : Keeps s0 (State.tellWait s) := by
  unfold State.tellWait
  try dsimp only
  repeat' first | with_reducible assumption | intro _ | with_reducible (first | apply State.record_keeps) | with_reducible apply Keeps.cond | with_reducible apply Keeps.foldl | (fail_if_no_progress with_reducible refine Keeps.of_mk rfl rfl rfl rfl rfl rfl ?_) | with_reducible refine Keeps.of_free rfl rfl rfl rfl rfl (Nat.le_add_right _ _) ?_ | with_reducible refine Keeps.of_filter rfl rfl rfl rfl rfl rfl ?_ | split

theorem State.programRec_keeps {s0 : State} {s : State} (x2 : _) (h : Keeps s0 s) : Keeps s0 (State.programRec s x2) := by
  unfold State.programRec
  try dsimp only
  repeat' first | with_reducible assumption | intro _ | with_reducible apply Keeps.cond | with_reducible apply Keeps.foldl | (fail_if_no_progress with_reducible refine Keeps.of_mk rfl rfl rfl rfl rfl rfl ?_) | with_reducible refine Keeps.of_free rfl rfl rfl rfl rfl (Nat.le_add_right _ _) ?_ | with_reducible refine Keeps.of_filter rfl rfl rfl rfl rfl rfl ?_ | split

theorem State.writeRec_keeps {s0 : State} {s : State} (x2 : _) (h : Keeps s0 s) : Keeps s0 (State.writeRec s x2) := by
  unfold State.writeRec
  try dsimp only
  repeat' first | with_reducible assumption | intro _ | with_reducible (first | apply State.tellWait_keeps | apply State.programRec_keeps) | with_reducible apply Keeps.cond | with_reducible apply Keeps.foldl | (fail_if_no_progress with_reducible refine Keeps.of_mk rfl rfl rfl rfl rfl rfl ?_) | with_reducible refine Keeps.of_free rfl rfl rfl rfl rfl (Nat.le_add_right _ _) ?_ | with_reducible refine Keeps.of_filter rfl rfl rfl rfl rfl rfl ?_ | split

theorem State.storeBoot_keeps {s0 : State} {s : State} (x2 : _) (h : Keeps s0 s) : Keeps s0 (State.storeBoot s x2) := by
  unfold State.storeBoot
  try dsimp only
  repeat' first | with_reducible assumption | intro _ | with_reducible (first | apply State.record_keeps | apply State.writeRec_keeps) | with_reducible apply Keeps.cond | with_reducible apply Keeps.foldl | (fail_if_no_progress with_reducible refine Keeps.of_mk rfl rfl rfl rfl rfl rfl ?_) | with_reducible refine Keeps.of_free rfl rfl rfl rfl rfl (Nat.le_add_right _ _) ?_ | with_reducible refine Keeps.of_filter rfl rfl rfl rfl rfl rfl ?_ | split

theorem State.setUpd_keeps {s0 : State} {s : State} (x2 : _) (x3 : _) (h : Keeps s0 s) : Keeps s0 (State.setUpd s x2 x3) := by
  unfold State.setUpd
  try dsimp only
  repeat' first | with_reducible assumption | intro _ | with_reducible (first | apply State.storeBoot_keeps) | with_reducible apply Keeps.cond | with_reducible apply Keeps.foldl | (fail_if_no_progress with_reducible refine Keeps.of_mk rfl rfl rfl rfl rfl rfl ?_) | with_reducible refine Keeps.of_free rfl rfl rfl rfl rfl (Nat.le_add_right _ _) ?_ | with_reducible refine Keeps.of_filter rfl rfl rfl rfl rfl rfl ?_ | split

theorem State.programMark_keeps {s0 : State} {s : State} (x2 : _) (x3 : _) (h : Keeps s0 s) : Keeps s0 (State.programMark s x2 x3) := by
  unfold State.programMark
  try dsimp only
  repeat' first | with_reducible assumption | intro _ | with_reducible apply Keeps.cond | with_reducible apply Keeps.foldl | (fail_if_no_progress with_reducible refine Keeps.of_mk rfl rfl rfl rfl rfl rfl ?_) | with_reducible refine Keeps.of_free rfl rfl rfl rfl rfl (Nat.le_add_right _ _) ?_ | with_reducible refine Keeps.of_filter rfl rfl rfl rfl rfl rfl ?_ | split

theorem State.programKeys_keeps {s0 : State} {s : State} (x2 : _) (h : Keeps s0 s) : Keeps s0 (State.programKeys s x2) := by
  unfold State.programKeys
  try dsimp only
  repeat' first | with_reducible assumption | intro _ | with_reducible apply Keeps.cond | with_reducible apply Keeps.foldl | (fail_if_no_progress with_reducible refine Keeps.of_mk rfl rfl rfl rfl rfl rfl ?_) | with_reducible refine Keeps.of_free rfl rfl rfl rfl rfl (Nat.le_add_right _ _) ?_ | with_reducible refine Keeps.of_filter rfl rfl rfl rfl rfl rfl ?_ | split

theorem State.beginStore_keeps {s0 : State} {s : State} (h : Keeps s0 s) : Keeps s0 (State.beginStore s) := by
  unfold State.beginStore
  try dsimp only
  repeat' first | with_reducible assumption | intro _ | with_reducible (first | apply State.tellWait_keeps) | with_reducible apply Keeps.cond | with_reducible apply Keeps.foldl | (fail_if_no_progress with_reducible refine Keeps.of_mk rfl rfl rfl rfl rfl rfl ?_) | with_reducible refine Keeps.of_free rfl rfl rfl rfl rfl (Nat.le_add_right _ _) ?_ | with_reducible refine Keeps.of_filter rfl rfl rfl rfl rfl rfl ?_ | split

theorem State.refuseEngine_keeps {s0 : State} {s : State} (h : Keeps s0 s) : Keeps s0 (State.refuseEngine s) := by
  unfold State.refuseEngine
  try dsimp only
  repeat' first | with_reducible assumption | intro _ | with_reducible (first | apply State.setLock_keeps) | with_reducible apply Keeps.cond | with_reducible apply Keeps.foldl | (fail_if_no_progress with_reducible refine Keeps.of_mk rfl rfl rfl rfl rfl rfl ?_) | with_reducible refine Keeps.of_free rfl rfl rfl rfl rfl (Nat.le_add_right _ _) ?_ | with_reducible refine Keeps.of_filter rfl rfl rfl rfl rfl rfl ?_ | split

theorem State.freeFlash_keeps {s0 : State} {s : State} (h : Keeps s0 s) : Keeps s0 (State.freeFlash s) := by
  unfold State.freeFlash
  try dsimp only
  repeat' first | with_reducible assumption | intro _ | with_reducible (first | apply State.setLock_keeps) | with_reducible apply Keeps.cond | with_reducible apply Keeps.foldl | (fail_if_no_progress with_reducible refine Keeps.of_mk rfl rfl rfl rfl rfl rfl ?_) | with_reducible refine Keeps.of_free rfl rfl rfl rfl rfl (Nat.le_add_right _ _) ?_ | with_reducible refine Keeps.of_filter rfl rfl rfl rfl rfl rfl ?_ | split

theorem State.nextSector_keeps {s0 : State} {s : State} (h : Keeps s0 s) : Keeps s0 (State.nextSector s) := by
  unfold State.nextSector
  try dsimp only
  repeat' first | with_reducible assumption | intro _ | with_reducible (first | apply State.refuseEngine_keeps | apply State.setUpd_keeps | apply State.freeFlash_keeps) | with_reducible apply Keeps.cond | with_reducible apply Keeps.foldl | (fail_if_no_progress with_reducible refine Keeps.of_mk rfl rfl rfl rfl rfl rfl ?_) | with_reducible refine Keeps.of_free rfl rfl rfl rfl rfl (Nat.le_add_right _ _) ?_ | with_reducible refine Keeps.of_filter rfl rfl rfl rfl rfl rfl ?_ | split

theorem State.endStore_keeps {s0 : State} {s : State} (h : Keeps s0 s) : Keeps s0 (State.endStore s) := by
  unfold State.endStore
  try dsimp only
  repeat' first | with_reducible assumption | intro _ | with_reducible (first | apply State.nextSector_keeps) | with_reducible apply Keeps.cond | with_reducible apply Keeps.foldl | (fail_if_no_progress with_reducible refine Keeps.of_mk rfl rfl rfl rfl rfl rfl ?_) | with_reducible refine Keeps.of_free rfl rfl rfl rfl rfl (Nat.le_add_right _ _) ?_ | with_reducible refine Keeps.of_filter rfl rfl rfl rfl rfl rfl ?_ | split

end Sys2Proof.Machine
end

