-- ==== Sys2Proof/Laws/KeepsTile.lean ====
section
/-! SUPPORT. Every operation of the machine keeps what Keeps says: sequencers, arrays, vector units, the SFU, HBM3E. -/

set_option linter.unusedTactic false
set_option linter.unreachableTactic false

namespace Sys2Proof.Machine

theorem State.seqFault_keeps {s0 : State} {s : State} (x2 : _) (h : Keeps s0 s) : Keeps s0 (State.seqFault s x2) := by
  unfold State.seqFault
  try dsimp only
  repeat' first | with_reducible assumption | intro _ | with_reducible (first | apply State.abortWith_keeps) | with_reducible apply Keeps.cond | with_reducible apply Keeps.foldl | (fail_if_no_progress with_reducible refine Keeps.of_mk rfl rfl rfl rfl rfl rfl ?_) | with_reducible refine Keeps.of_free rfl rfl rfl rfl rfl (Nat.le_add_right _ _) ?_ | with_reducible refine Keeps.of_filter rfl rfl rfl rfl rfl rfl ?_ | split

theorem State.ctl_keeps {s0 : State} {s : State} (x2 : _) (x3 : _) (x4 : _) (x5 : _) (h : Keeps s0 s) : Keeps s0 (State.ctl s x2 x3 x4 x5) := by
  unfold State.ctl
  try dsimp only
  repeat' first | with_reducible assumption | intro _ | with_reducible (first | apply State.seqFault_keeps | apply State.setSeq_keeps) | with_reducible apply Keeps.cond | with_reducible apply Keeps.foldl | (fail_if_no_progress with_reducible refine Keeps.of_mk rfl rfl rfl rfl rfl rfl ?_) | with_reducible refine Keeps.of_free rfl rfl rfl rfl rfl (Nat.le_add_right _ _) ?_ | with_reducible refine Keeps.of_filter rfl rfl rfl rfl rfl rfl ?_ | split

theorem State.doSeqProgramStart_keeps {s0 : State} {s : State} (x2 : _) (h : Keeps s0 s) : Keeps s0 (State.doSeqProgramStart s x2) := by
  unfold State.doSeqProgramStart
  try dsimp only
  repeat' first | with_reducible assumption | intro _ | with_reducible (first | apply State.setSeq_keeps | apply State.seqFault_keeps) | with_reducible apply Keeps.cond | with_reducible apply Keeps.foldl | (fail_if_no_progress with_reducible refine Keeps.of_mk rfl rfl rfl rfl rfl rfl ?_) | with_reducible refine Keeps.of_free rfl rfl rfl rfl rfl (Nat.le_add_right _ _) ?_ | with_reducible refine Keeps.of_filter rfl rfl rfl rfl rfl rfl ?_ | split

theorem State.doEndloop_keeps {s0 : State} {s : State} (x2 : _) (h : Keeps s0 s) : Keeps s0 (State.doEndloop s x2) := by
  unfold State.doEndloop
  try dsimp only
  repeat' first | with_reducible assumption | intro _ | with_reducible (first | apply State.ctl_keeps) | with_reducible apply Keeps.cond | with_reducible apply Keeps.foldl | (fail_if_no_progress with_reducible refine Keeps.of_mk rfl rfl rfl rfl rfl rfl ?_) | with_reducible refine Keeps.of_free rfl rfl rfl rfl rfl (Nat.le_add_right _ _) ?_ | with_reducible refine Keeps.of_filter rfl rfl rfl rfl rfl rfl ?_ | split

theorem State.doLoop_keeps {s0 : State} {s : State} (x2 : _) (x3 : _) (h : Keeps s0 s) : Keeps s0 (State.doLoop s x2 x3) := by
  unfold State.doLoop
  try dsimp only
  repeat' first | with_reducible assumption | intro _ | with_reducible (first | apply State.ctl_keeps) | with_reducible apply Keeps.cond | with_reducible apply Keeps.foldl | (fail_if_no_progress with_reducible refine Keeps.of_mk rfl rfl rfl rfl rfl rfl ?_) | with_reducible refine Keeps.of_free rfl rfl rfl rfl rfl (Nat.le_add_right _ _) ?_ | with_reducible refine Keeps.of_filter rfl rfl rfl rfl rfl rfl ?_ | split

theorem State.setChan_keeps {s0 : State} {s : State} (x2 : _) (x3 : _) (h : Keeps s0 s) : Keeps s0 (State.setChan s x2 x3) := by
  unfold State.setChan
  try dsimp only
  repeat' first | with_reducible assumption | intro _ | with_reducible apply Keeps.cond | with_reducible apply Keeps.foldl | (fail_if_no_progress with_reducible refine Keeps.of_mk rfl rfl rfl rfl rfl rfl ?_) | with_reducible refine Keeps.of_free rfl rfl rfl rfl rfl (Nat.le_add_right _ _) ?_ | with_reducible refine Keeps.of_filter rfl rfl rfl rfl rfl rfl ?_ | split

theorem State.sendUnit_keeps {s0 : State} {s : State} (x2 : _) (x3 : _) (x4 : _) (h : Keeps s0 s) : Keeps s0 (State.sendUnit s x2 x3 x4) := by
  unfold State.sendUnit
  try dsimp only
  repeat' first | with_reducible assumption | intro _ | with_reducible (first | apply State.setChan_keeps) | with_reducible apply Keeps.cond | with_reducible apply Keeps.foldl | (fail_if_no_progress with_reducible refine Keeps.of_mk rfl rfl rfl rfl rfl rfl ?_) | with_reducible refine Keeps.of_free rfl rfl rfl rfl rfl (Nat.le_add_right _ _) ?_ | with_reducible refine Keeps.of_filter rfl rfl rfl rfl rfl rfl ?_ | split

theorem State.sendUnits_keeps {s0 : State} {s : State} (x2 : _) (x3 : _) (x4 : _) (x5 : _) (h : Keeps s0 s) : Keeps s0 (State.sendUnits s x2 x3 x4 x5) := by
  unfold State.sendUnits
  try dsimp only
  repeat' first | with_reducible assumption | intro _ | with_reducible (first | apply State.sendUnit_keeps) | with_reducible apply Keeps.cond | with_reducible apply Keeps.foldl | (fail_if_no_progress with_reducible refine Keeps.of_mk rfl rfl rfl rfl rfl rfl ?_) | with_reducible refine Keeps.of_free rfl rfl rfl rfl rfl (Nat.le_add_right _ _) ?_ | with_reducible refine Keeps.of_filter rfl rfl rfl rfl rfl rfl ?_ | split

theorem State.doPage_keeps {s0 : State} {s : State} (x2 : _) (x3 : _) (h : Keeps s0 s) : Keeps s0 (State.doPage s x2 x3) := by
  unfold State.doPage
  try dsimp only
  repeat' first | with_reducible assumption | intro _ | with_reducible (first | apply State.ctl_keeps | apply State.sendUnits_keeps) | with_reducible apply Keeps.cond | with_reducible apply Keeps.foldl | (fail_if_no_progress with_reducible refine Keeps.of_mk rfl rfl rfl rfl rfl rfl ?_) | with_reducible refine Keeps.of_free rfl rfl rfl rfl rfl (Nat.le_add_right _ _) ?_ | with_reducible refine Keeps.of_filter rfl rfl rfl rfl rfl rfl ?_ | split

theorem State.doPageFetchDone_keeps {s0 : State} {s : State} (x2 : _) (x3 : _) (h : Keeps s0 s) : Keeps s0 (State.doPageFetchDone s x2 x3) := by
  unfold State.doPageFetchDone
  try dsimp only
  repeat' first | with_reducible assumption | intro _ | with_reducible (first | apply State.setSeq_keeps) | with_reducible apply Keeps.cond | with_reducible apply Keeps.foldl | (fail_if_no_progress with_reducible refine Keeps.of_mk rfl rfl rfl rfl rfl rfl ?_) | with_reducible refine Keeps.of_free rfl rfl rfl rfl rfl (Nat.le_add_right _ _) ?_ | with_reducible refine Keeps.of_filter rfl rfl rfl rfl rfl rfl ?_ | split

theorem State.doBind_keeps {s0 : State} {s : State} (x2 : _) (x3 : _) (h : Keeps s0 s) : Keeps s0 (State.doBind s x2 x3) := by
  unfold State.doBind
  try dsimp only
  repeat' first | with_reducible assumption | intro _ | with_reducible (first | apply State.ctl_keeps) | with_reducible apply Keeps.cond | with_reducible apply Keeps.foldl | (fail_if_no_progress with_reducible refine Keeps.of_mk rfl rfl rfl rfl rfl rfl ?_) | with_reducible refine Keeps.of_free rfl rfl rfl rfl rfl (Nat.le_add_right _ _) ?_ | with_reducible refine Keeps.of_filter rfl rfl rfl rfl rfl rfl ?_ | split

theorem State.doNextctx_keeps {s0 : State} {s : State} (x2 : _) (h : Keeps s0 s) : Keeps s0 (State.doNextctx s x2) := by
  unfold State.doNextctx
  try dsimp only
  repeat' first | with_reducible assumption | intro _ | with_reducible (first | apply State.ctl_keeps) | with_reducible apply Keeps.cond | with_reducible apply Keeps.foldl | (fail_if_no_progress with_reducible refine Keeps.of_mk rfl rfl rfl rfl rfl rfl ?_) | with_reducible refine Keeps.of_free rfl rfl rfl rfl rfl (Nat.le_add_right _ _) ?_ | with_reducible refine Keeps.of_filter rfl rfl rfl rfl rfl rfl ?_ | split

theorem State.swapFault_keeps {s0 : State} {s : State} (x2 : _) (x3 : _) (h : Keeps s0 s) : Keeps s0 (State.swapFault s x2 x3) := by
  unfold State.swapFault
  try dsimp only
  repeat' first | with_reducible assumption | intro _ | with_reducible (first | apply State.abortWith_keeps) | with_reducible apply Keeps.cond | with_reducible apply Keeps.foldl | (fail_if_no_progress with_reducible refine Keeps.of_mk rfl rfl rfl rfl rfl rfl ?_) | with_reducible refine Keeps.of_free rfl rfl rfl rfl rfl (Nat.le_add_right _ _) ?_ | with_reducible refine Keeps.of_filter rfl rfl rfl rfl rfl rfl ?_ | split

theorem State.swapTile_keeps {s0 : State} {s : State} (x2 : _) (x3 : _) (x4 : _) (h : Keeps s0 s) : Keeps s0 (State.swapTile s x2 x3 x4) := by
  unfold State.swapTile
  try dsimp only
  repeat' first | with_reducible assumption | intro _ | with_reducible (first | apply State.setTile_keeps | apply State.swapFault_keeps) | with_reducible apply Keeps.cond | with_reducible apply Keeps.foldl | (fail_if_no_progress with_reducible refine Keeps.of_mk rfl rfl rfl rfl rfl rfl ?_) | with_reducible refine Keeps.of_free rfl rfl rfl rfl rfl (Nat.le_add_right _ _) ?_ | with_reducible refine Keeps.of_filter rfl rfl rfl rfl rfl rfl ?_ | split

theorem State.swapStep_keeps {s0 : State} {s : State} (x2 : _) (x3 : _) (x4 : _) (h : Keeps s0 s) : Keeps s0 (State.swapStep s x2 x3 x4) := by
  unfold State.swapStep
  try dsimp only
  repeat' first | with_reducible assumption | intro _ | with_reducible (first | apply State.touch_keeps | apply State.setTile_keeps | apply State.touchBlock_keeps) | with_reducible apply Keeps.cond | with_reducible apply Keeps.foldl | (fail_if_no_progress with_reducible refine Keeps.of_mk rfl rfl rfl rfl rfl rfl ?_) | with_reducible refine Keeps.of_free rfl rfl rfl rfl rfl (Nat.le_add_right _ _) ?_ | with_reducible refine Keeps.of_filter rfl rfl rfl rfl rfl rfl ?_ | split

theorem State.doSwap_keeps {s0 : State} {s : State} (x2 : _) (x3 : _) (x4 : _) (h : Keeps s0 s) : Keeps s0 (State.doSwap s x2 x3 x4) := by
  unfold State.doSwap
  try dsimp only
  repeat' first | with_reducible assumption | intro _ | with_reducible (first | apply State.ctl_keeps) | with_reducible apply Keeps.cond | with_reducible apply Keeps.foldl | (fail_if_no_progress with_reducible refine Keeps.of_mk rfl rfl rfl rfl rfl rfl ?_) | with_reducible refine Keeps.of_free rfl rfl rfl rfl rfl (Nat.le_add_right _ _) ?_ | with_reducible refine Keeps.of_filter rfl rfl rfl rfl rfl rfl ?_ | split

theorem State.doSwapDone_keeps {s0 : State} {s : State} (x2 : _) (x3 : _) (h : Keeps s0 s) : Keeps s0 (State.doSwapDone s x2 x3) := by
  unfold State.doSwapDone
  try dsimp only
  repeat' first | with_reducible assumption | intro _ | with_reducible (first | apply State.setTile_keeps) | with_reducible apply Keeps.cond | with_reducible apply Keeps.foldl | (fail_if_no_progress with_reducible refine Keeps.of_mk rfl rfl rfl rfl rfl rfl ?_) | with_reducible refine Keeps.of_free rfl rfl rfl rfl rfl (Nat.le_add_right _ _) ?_ | with_reducible refine Keeps.of_filter rfl rfl rfl rfl rfl rfl ?_ | split

theorem State.doSemsig_keeps {s0 : State} {s : State} (x2 : _) (x3 : _) (h : Keeps s0 s) : Keeps s0 (State.doSemsig s x2 x3) := by
  unfold State.doSemsig
  try dsimp only
  repeat' first | with_reducible assumption | intro _ | with_reducible (first | apply State.ctl_keeps) | with_reducible apply Keeps.cond | with_reducible apply Keeps.foldl | (fail_if_no_progress with_reducible refine Keeps.of_mk rfl rfl rfl rfl rfl rfl ?_) | with_reducible refine Keeps.of_free rfl rfl rfl rfl rfl (Nat.le_add_right _ _) ?_ | with_reducible refine Keeps.of_filter rfl rfl rfl rfl rfl rfl ?_ | split

theorem State.doSemwait_keeps {s0 : State} {s : State} (x2 : _) (x3 : _) (h : Keeps s0 s) : Keeps s0 (State.doSemwait s x2 x3) := by
  unfold State.doSemwait
  try dsimp only
  repeat' first | with_reducible assumption | intro _ | with_reducible (first | apply State.ctl_keeps) | with_reducible apply Keeps.cond | with_reducible apply Keeps.foldl | (fail_if_no_progress with_reducible refine Keeps.of_mk rfl rfl rfl rfl rfl rfl ?_) | with_reducible refine Keeps.of_free rfl rfl rfl rfl rfl (Nat.le_add_right _ _) ?_ | with_reducible refine Keeps.of_filter rfl rfl rfl rfl rfl rfl ?_ | split

theorem State.doSemsigArrival_keeps {s0 : State} {s : State} (x2 : _) (h : Keeps s0 s) : Keeps s0 (State.doSemsigArrival s x2) := by
  unfold State.doSemsigArrival
  try dsimp only
  repeat' first | with_reducible assumption | intro _ | with_reducible (first | apply State.synAdd_keeps) | with_reducible apply Keeps.cond | with_reducible apply Keeps.foldl | (fail_if_no_progress with_reducible refine Keeps.of_mk rfl rfl rfl rfl rfl rfl ?_) | with_reducible refine Keeps.of_free rfl rfl rfl rfl rfl (Nat.le_add_right _ _) ?_ | with_reducible refine Keeps.of_filter rfl rfl rfl rfl rfl rfl ?_ | split

theorem State.doSemwaitArrival_keeps {s0 : State} {s : State} (x2 : _) (x3 : _) (h : Keeps s0 s) : Keeps s0 (State.doSemwaitArrival s x2 x3) := by
  unfold State.doSemwaitArrival
  try dsimp only
  repeat' first | with_reducible assumption | intro _ | with_reducible (first | apply State.semHit_keeps) | with_reducible apply Keeps.cond | with_reducible apply Keeps.foldl | (fail_if_no_progress with_reducible refine Keeps.of_mk rfl rfl rfl rfl rfl rfl ?_) | with_reducible refine Keeps.of_free rfl rfl rfl rfl rfl (Nat.le_add_right _ _) ?_ | with_reducible refine Keeps.of_filter rfl rfl rfl rfl rfl rfl ?_ | split

theorem State.doSemwaitResult_keeps {s0 : State} {s : State} (x2 : _) (h : Keeps s0 s) : Keeps s0 (State.doSemwaitResult s x2) := by
  unfold State.doSemwaitResult
  try dsimp only
  repeat' first | with_reducible assumption | intro _ | with_reducible (first | apply State.setSeq_keeps) | with_reducible apply Keeps.cond | with_reducible apply Keeps.foldl | (fail_if_no_progress with_reducible refine Keeps.of_mk rfl rfl rfl rfl rfl rfl ?_) | with_reducible refine Keeps.of_free rfl rfl rfl rfl rfl (Nat.le_add_right _ _) ?_ | with_reducible refine Keeps.of_filter rfl rfl rfl rfl rfl rfl ?_ | split

theorem State.unitAbort_keeps {s0 : State} {s : State} (x2 : _) (x3 : _) (x4 : _) (h : Keeps s0 s) : Keeps s0 (State.unitAbort s x2 x3 x4) := by
  unfold State.unitAbort
  try dsimp only
  repeat' first | with_reducible assumption | intro _ | with_reducible (first | apply State.abortWith_keeps) | with_reducible apply Keeps.cond | with_reducible apply Keeps.foldl | (fail_if_no_progress with_reducible refine Keeps.of_mk rfl rfl rfl rfl rfl rfl ?_) | with_reducible refine Keeps.of_free rfl rfl rfl rfl rfl (Nat.le_add_right _ _) ?_ | with_reducible refine Keeps.of_filter rfl rfl rfl rfl rfl rfl ?_ | split

theorem State.activate_keeps {s0 : State} {s : State} (x2 : _) (x3 : _) (x4 : _) (h : Keeps s0 s) : Keeps s0 (State.activate s x2 x3 x4) := by
  unfold State.activate
  try dsimp only
  repeat' first | with_reducible assumption | intro _ | with_reducible (first | apply State.unitAbort_keeps | apply State.setTile_keeps) | with_reducible apply Keeps.cond | with_reducible apply Keeps.foldl | (fail_if_no_progress with_reducible refine Keeps.of_mk rfl rfl rfl rfl rfl rfl ?_) | with_reducible refine Keeps.of_free rfl rfl rfl rfl rfl (Nat.le_add_right _ _) ?_ | with_reducible refine Keeps.of_filter rfl rfl rfl rfl rfl rfl ?_ | split

theorem State.wakeEast_keeps {s0 s : State} (t u c n : Nat) (h : Keeps s0 s) : Keeps s0 (s.wakeEast t u c n) := by
  induction n generalizing s t c with
  | zero => exact h
  | succ n ih =>
    unfold State.wakeEast
    repeat' first | with_reducible assumption | intro _ | with_reducible (first | apply ih | apply State.activate_keeps) | with_reducible apply Keeps.cond | split

theorem State.startStream_keeps {s0 : State} {s : State} (x2 : _) (x3 : _) (x4 : _) (x5 : _) (h : Keeps s0 s) : Keeps s0 (State.startStream s x2 x3 x4 x5) := by
  unfold State.startStream
  try dsimp only
  repeat' first | with_reducible assumption | intro _ | with_reducible (first | apply State.setTile_keeps | apply State.wakeEast_keeps | apply State.activate_keeps) | with_reducible apply Keeps.cond | with_reducible apply Keeps.foldl | (fail_if_no_progress with_reducible refine Keeps.of_mk rfl rfl rfl rfl rfl rfl ?_) | with_reducible refine Keeps.of_free rfl rfl rfl rfl rfl (Nat.le_add_right _ _) ?_ | with_reducible refine Keeps.of_filter rfl rfl rfl rfl rfl rfl ?_ | split

theorem State.startDue_keeps {s0 : State} {s : State} (x2 : _) (x3 : _) (h : Keeps s0 s) : Keeps s0 (State.startDue s x2 x3) := by
  unfold State.startDue
  try dsimp only
  repeat' first | with_reducible assumption | intro _ | with_reducible (first | apply State.startStream_keeps | apply State.setTile_keeps) | with_reducible apply Keeps.cond | with_reducible apply Keeps.foldl | (fail_if_no_progress with_reducible refine Keeps.of_mk rfl rfl rfl rfl rfl rfl ?_) | with_reducible refine Keeps.of_free rfl rfl rfl rfl rfl (Nat.le_add_right _ _) ?_ | with_reducible refine Keeps.of_filter rfl rfl rfl rfl rfl rfl ?_ | split

theorem State.loadUnit_keeps {s0 : State} {s : State} (x2 : _) (x3 : _) (x4 : _) (h : Keeps s0 s) : Keeps s0 (State.loadUnit s x2 x3 x4) := by
  unfold State.loadUnit
  try dsimp only
  repeat' first | with_reducible assumption | intro _ | with_reducible (first | apply State.swapFault_keeps | apply State.startDue_keeps | apply State.touchBlock_keeps | apply State.setTile_keeps) | with_reducible apply Keeps.cond | with_reducible apply Keeps.foldl | (fail_if_no_progress with_reducible refine Keeps.of_mk rfl rfl rfl rfl rfl rfl ?_) | with_reducible refine Keeps.of_free rfl rfl rfl rfl rfl (Nat.le_add_right _ _) ?_ | with_reducible refine Keeps.of_filter rfl rfl rfl rfl rfl rfl ?_ | split

theorem State.streamUnit_keeps {s0 : State} {s : State} (x2 : _) (x3 : _) (h : Keeps s0 s) : Keeps s0 (State.streamUnit s x2 x3) := by
  unfold State.streamUnit
  try dsimp only
  repeat' first | with_reducible assumption | intro _ | with_reducible (first | apply State.swapFault_keeps | apply State.unitAbort_keeps | apply State.startDue_keeps | apply State.setTile_keeps | apply State.startStream_keeps) | with_reducible apply Keeps.cond | with_reducible apply Keeps.foldl | (fail_if_no_progress with_reducible refine Keeps.of_mk rfl rfl rfl rfl rfl rfl ?_) | with_reducible refine Keeps.of_free rfl rfl rfl rfl rfl (Nat.le_add_right _ _) ?_ | with_reducible refine Keeps.of_filter rfl rfl rfl rfl rfl rfl ?_ | split

theorem State.doStream_keeps {s0 : State} {s : State} (x2 : _) (x3 : _) (x4 : _) (x5 : _) (x6 : _) (h : Keeps s0 s) : Keeps s0 (State.doStream s x2 x3 x4 x5 x6) := by
  unfold State.doStream
  try dsimp only
  repeat' first | with_reducible assumption | intro _ | with_reducible (first | apply State.onSlot_keeps | apply State.streamUnit_keeps) | with_reducible apply Keeps.cond | with_reducible apply Keeps.foldl | (fail_if_no_progress with_reducible refine Keeps.of_mk rfl rfl rfl rfl rfl rfl ?_) | with_reducible refine Keeps.of_free rfl rfl rfl rfl rfl (Nat.le_add_right _ _) ?_ | with_reducible refine Keeps.of_filter rfl rfl rfl rfl rfl rfl ?_ | split

theorem State.doQueuedStart_keeps {s0 : State} {s : State} (x2 : _) (x3 : _) (h : Keeps s0 s) : Keeps s0 (State.doQueuedStart s x2 x3) := by
  unfold State.doQueuedStart
  try dsimp only
  repeat' first | with_reducible assumption | intro _ | with_reducible (first | apply State.startDue_keeps) | with_reducible apply Keeps.cond | with_reducible apply Keeps.foldl | (fail_if_no_progress with_reducible refine Keeps.of_mk rfl rfl rfl rfl rfl rfl ?_) | with_reducible refine Keeps.of_free rfl rfl rfl rfl rfl (Nat.le_add_right _ _) ?_ | with_reducible refine Keeps.of_filter rfl rfl rfl rfl rfl rfl ?_ | split

theorem State.doPassResult_keeps {s0 : State} {s : State} (x2 : _) (x3 : _) (h : Keeps s0 s) : Keeps s0 (State.doPassResult s x2 x3) := by
  unfold State.doPassResult
  try dsimp only
  repeat' first | with_reducible assumption | intro _ | with_reducible (first | apply State.setTile_keeps | apply State.flagNum_keeps | apply State.flagSat_keeps | apply State.unitAbort_keeps) | with_reducible apply Keeps.cond | with_reducible apply Keeps.foldl | (fail_if_no_progress with_reducible refine Keeps.of_mk rfl rfl rfl rfl rfl rfl ?_) | with_reducible refine Keeps.of_free rfl rfl rfl rfl rfl (Nat.le_add_right _ _) ?_ | with_reducible refine Keeps.of_filter rfl rfl rfl rfl rfl rfl ?_ | split

theorem State.pushVec_keeps {s0 : State} {s : State} (x2 : _) (x3 : _) (x4 : _) (x5 : _) (h : Keeps s0 s) : Keeps s0 (State.pushVec s x2 x3 x4 x5) := by
  unfold State.pushVec
  try dsimp only
  repeat' first | with_reducible assumption | intro _ | with_reducible (first | apply State.setTile_keeps) | with_reducible apply Keeps.cond | with_reducible apply Keeps.foldl | (fail_if_no_progress with_reducible refine Keeps.of_mk rfl rfl rfl rfl rfl rfl ?_) | with_reducible refine Keeps.of_free rfl rfl rfl rfl rfl (Nat.le_add_right _ _) ?_ | with_reducible refine Keeps.of_filter rfl rfl rfl rfl rfl rfl ?_ | split

theorem State.vecOp_keeps {s0 : State} {s : State} (x2 : _) (x3 : _) (x4 : _) (x5 : _) (x6 : _) (x7 : _) (x8 : _) (h : Keeps s0 s) : Keeps s0 (State.vecOp s x2 x3 x4 x5 x6 x7 x8) := by
  unfold State.vecOp
  try dsimp only
  repeat' first | with_reducible assumption | intro _ | with_reducible (first | apply State.onSlot_keeps | apply State.pushVec_keeps) | with_reducible apply Keeps.cond | with_reducible apply Keeps.foldl | (fail_if_no_progress with_reducible refine Keeps.of_mk rfl rfl rfl rfl rfl rfl ?_) | with_reducible refine Keeps.of_free rfl rfl rfl rfl rfl (Nat.le_add_right _ _) ?_ | with_reducible refine Keeps.of_filter rfl rfl rfl rfl rfl rfl ?_ | split

theorem State.vecOp2_keeps {s0 : State} {s : State} (x2 : _) (x3 : _) (x4 : _) (x5 : _) (x6 : _) (x7 : _) (x8 : _) (h : Keeps s0 s) : Keeps s0 (State.vecOp2 s x2 x3 x4 x5 x6 x7 x8) := by
  unfold State.vecOp2
  try dsimp only
  repeat' first | with_reducible assumption | intro _ | with_reducible (first | apply State.vecOp_keeps) | with_reducible apply Keeps.cond | with_reducible apply Keeps.foldl | (fail_if_no_progress with_reducible refine Keeps.of_mk rfl rfl rfl rfl rfl rfl ?_) | with_reducible refine Keeps.of_free rfl rfl rfl rfl rfl (Nat.le_add_right _ _) ?_ | with_reducible refine Keeps.of_filter rfl rfl rfl rfl rfl rfl ?_ | split

theorem State.ldaccUnit_keeps {s0 : State} {s : State} (x2 : _) (x3 : _) (x4 : _) (x5 : _) (x6 : _) (h : Keeps s0 s) : Keeps s0 (State.ldaccUnit s x2 x3 x4 x5 x6) := by
  unfold State.ldaccUnit
  try dsimp only
  repeat' first | with_reducible assumption | intro _ | with_reducible (first | apply State.swapFault_keeps | apply State.pushVec_keeps | apply State.unitAbort_keeps) | with_reducible apply Keeps.cond | with_reducible apply Keeps.foldl | (fail_if_no_progress with_reducible refine Keeps.of_mk rfl rfl rfl rfl rfl rfl ?_) | with_reducible refine Keeps.of_free rfl rfl rfl rfl rfl (Nat.le_add_right _ _) ?_ | with_reducible refine Keeps.of_filter rfl rfl rfl rfl rfl rfl ?_ | split

theorem State.doVecResult_keeps {s0 : State} {s : State} (x2 : _) (h : Keeps s0 s) : Keeps s0 (State.doVecResult s x2) := by
  unfold State.doVecResult
  try dsimp only
  repeat' first | with_reducible assumption | intro _ | with_reducible (first | apply State.setTile_keeps) | with_reducible apply Keeps.cond | with_reducible apply Keeps.foldl | (fail_if_no_progress with_reducible refine Keeps.of_mk rfl rfl rfl rfl rfl rfl ?_) | with_reducible refine Keeps.of_free rfl rfl rfl rfl rfl (Nat.le_add_right _ _) ?_ | with_reducible refine Keeps.of_filter rfl rfl rfl rfl rfl rfl ?_ | split

theorem State.cvtOp_keeps {s0 : State} {s : State} (x2 : _) (x3 : _) (x4 : _) (x5 : _) (x6 : _) (x7 : _) (h : Keeps s0 s) : Keeps s0 (State.cvtOp s x2 x3 x4 x5 x6 x7) := by
  unfold State.cvtOp
  try dsimp only
  repeat' first | with_reducible assumption | intro _ | with_reducible (first | apply State.onSlot_keeps | apply State.pushVec_keeps | apply State.flagNum_keeps) | with_reducible apply Keeps.cond | with_reducible apply Keeps.foldl | (fail_if_no_progress with_reducible refine Keeps.of_mk rfl rfl rfl rfl rfl rfl ?_) | with_reducible refine Keeps.of_free rfl rfl rfl rfl rfl (Nat.le_add_right _ _) ?_ | with_reducible refine Keeps.of_filter rfl rfl rfl rfl rfl rfl ?_ | split

theorem State.blockOp_keeps {s0 : State} {s : State} (x2 : _) (x3 : _) (x4 : _) (x5 : _) (x6 : _) (x7 : _) (h : Keeps s0 s) : Keeps s0 (State.blockOp s x2 x3 x4 x5 x6 x7) := by
  unfold State.blockOp
  try dsimp only
  repeat' first | with_reducible assumption | intro _ | with_reducible (first | apply State.onSlot_keeps | apply State.flagNum_keeps | apply State.pushVec_keeps) | with_reducible apply Keeps.cond | with_reducible apply Keeps.foldl | (fail_if_no_progress with_reducible refine Keeps.of_mk rfl rfl rfl rfl rfl rfl ?_) | with_reducible refine Keeps.of_free rfl rfl rfl rfl rfl (Nat.le_add_right _ _) ?_ | with_reducible refine Keeps.of_filter rfl rfl rfl rfl rfl rfl ?_ | split

theorem State.mxOp_keeps {s0 : State} {s : State} (x2 : _) (x3 : _) (x4 : _) (x5 : _) (x6 : _) (x7 : _) (h : Keeps s0 s) : Keeps s0 (State.mxOp s x2 x3 x4 x5 x6 x7) := by
  unfold State.mxOp
  try dsimp only
  repeat' first | with_reducible assumption | intro _ | with_reducible (first | apply State.blockOp_keeps) | with_reducible apply Keeps.cond | with_reducible apply Keeps.foldl | (fail_if_no_progress with_reducible refine Keeps.of_mk rfl rfl rfl rfl rfl rfl ?_) | with_reducible refine Keeps.of_free rfl rfl rfl rfl rfl (Nat.le_add_right _ _) ?_ | with_reducible refine Keeps.of_filter rfl rfl rfl rfl rfl rfl ?_ | split

theorem State.request_keeps {s0 : State} {s : State} (x2 : _) (x3 : _) (x4 : _) (x5 : _) (h : Keeps s0 s) : Keeps s0 (State.request s x2 x3 x4 x5) := by
  unfold State.request
  try dsimp only
  repeat' first | with_reducible assumption | intro _ | with_reducible (first | apply State.unitAbort_keeps | apply State.setTile_keeps) | with_reducible apply Keeps.cond | with_reducible apply Keeps.foldl | (fail_if_no_progress with_reducible refine Keeps.of_mk rfl rfl rfl rfl rfl rfl ?_) | with_reducible refine Keeps.of_free rfl rfl rfl rfl rfl (Nat.le_add_right _ _) ?_ | with_reducible refine Keeps.of_filter rfl rfl rfl rfl rfl rfl ?_ | split

theorem State.sfuOp_keeps {s0 : State} {s : State} (x2 : _) (x3 : _) (x4 : _) (x5 : _) (x6 : _) (x7 : _) (h : Keeps s0 s) : Keeps s0 (State.sfuOp s x2 x3 x4 x5 x6 x7) := by
  unfold State.sfuOp
  try dsimp only
  repeat' first | with_reducible assumption | intro _ | with_reducible (first | apply State.onSlot_keeps | apply State.request_keeps) | with_reducible apply Keeps.cond | with_reducible apply Keeps.foldl | (fail_if_no_progress with_reducible refine Keeps.of_mk rfl rfl rfl rfl rfl rfl ?_) | with_reducible refine Keeps.of_free rfl rfl rfl rfl rfl (Nat.le_add_right _ _) ?_ | with_reducible refine Keeps.of_filter rfl rfl rfl rfl rfl rfl ?_ | split

theorem State.doNop_keeps {s0 : State} {s : State} (x2 : _) (h : Keeps s0 s) : Keeps s0 (State.doNop s x2) := by
  unfold State.doNop
  try dsimp only
  repeat' first | with_reducible assumption | intro _ | with_reducible (first | apply State.onSlot_keeps | apply State.request_keeps) | with_reducible apply Keeps.cond | with_reducible apply Keeps.foldl | (fail_if_no_progress with_reducible refine Keeps.of_mk rfl rfl rfl rfl rfl rfl ?_) | with_reducible refine Keeps.of_free rfl rfl rfl rfl rfl (Nat.le_add_right _ _) ?_ | with_reducible refine Keeps.of_filter rfl rfl rfl rfl rfl rfl ?_ | split

theorem State.doGrant_keeps {s0 : State} {s : State} (x2 : _) (x3 : _) (h : Keeps s0 s) : Keeps s0 (State.doGrant s x2 x3) := by
  unfold State.doGrant
  try dsimp only
  repeat' first | with_reducible assumption | intro _ | with_reducible (first | apply State.unitAbort_keeps | apply State.setTile_keeps) | with_reducible apply Keeps.cond | with_reducible apply Keeps.foldl | (fail_if_no_progress with_reducible refine Keeps.of_mk rfl rfl rfl rfl rfl rfl ?_) | with_reducible refine Keeps.of_free rfl rfl rfl rfl rfl (Nat.le_add_right _ _) ?_ | with_reducible refine Keeps.of_filter rfl rfl rfl rfl rfl rfl ?_ | split

theorem State.doSfuWrite_keeps {s0 : State} {s : State} (x2 : _) (h : Keeps s0 s) : Keeps s0 (State.doSfuWrite s x2) := by
  unfold State.doSfuWrite
  try dsimp only
  repeat' first | with_reducible assumption | intro _ | with_reducible (first | apply State.setTile_keeps) | with_reducible apply Keeps.cond | with_reducible apply Keeps.foldl | (fail_if_no_progress with_reducible refine Keeps.of_mk rfl rfl rfl rfl rfl rfl ?_) | with_reducible refine Keeps.of_free rfl rfl rfl rfl rfl (Nat.le_add_right _ _) ?_ | with_reducible refine Keeps.of_filter rfl rfl rfl rfl rfl rfl ?_ | split

theorem State.doRed_keeps {s0 : State} {s : State} (x2 : _) (h : Keeps s0 s) : Keeps s0 (State.doRed s x2) := by
  unfold State.doRed
  try dsimp only
  repeat' first | with_reducible assumption | intro _ | with_reducible (first | apply State.onSlot_keeps | apply State.setTile_keeps) | with_reducible apply Keeps.cond | with_reducible apply Keeps.foldl | (fail_if_no_progress with_reducible refine Keeps.of_mk rfl rfl rfl rfl rfl rfl ?_) | with_reducible refine Keeps.of_free rfl rfl rfl rfl rfl (Nat.le_add_right _ _) ?_ | with_reducible refine Keeps.of_filter rfl rfl rfl rfl rfl rfl ?_ | split

theorem State.doRedDone_keeps {s0 : State} {s : State} (x2 : _) (x3 : _) (h : Keeps s0 s) : Keeps s0 (State.doRedDone s x2 x3) := by
  unfold State.doRedDone
  try dsimp only
  repeat' first | with_reducible assumption | intro _ | with_reducible (first | apply State.setTile_keeps) | with_reducible apply Keeps.cond | with_reducible apply Keeps.foldl | (fail_if_no_progress with_reducible refine Keeps.of_mk rfl rfl rfl rfl rfl rfl ?_) | with_reducible refine Keeps.of_free rfl rfl rfl rfl rfl (Nat.le_add_right _ _) ?_ | with_reducible refine Keeps.of_filter rfl rfl rfl rfl rfl rfl ?_ | split

theorem State.doRun_keeps {s0 : State} {s : State} (x2 : _) (x3 : _) (x4 : _) (h : Keeps s0 s) : Keeps s0 (State.doRun s x2 x3 x4) := by
  unfold State.doRun
  try dsimp only
  repeat' first | with_reducible assumption | intro _ | with_reducible (first | apply State.abortWith_keeps) | with_reducible apply Keeps.cond | with_reducible apply Keeps.foldl | (fail_if_no_progress with_reducible refine Keeps.of_mk rfl rfl rfl rfl rfl rfl ?_) | with_reducible refine Keeps.of_free rfl rfl rfl rfl rfl (Nat.le_add_right _ _) ?_ | with_reducible refine Keeps.of_filter rfl rfl rfl rfl rfl rfl ?_ | split

theorem State.runUnit_keeps {s0 : State} {s : State} (x2 : _) (x3 : _) (x4 : _) (x5 : _) (h : Keeps s0 s) : Keeps s0 (State.runUnit s x2 x3 x4 x5) := by
  unfold State.runUnit
  try dsimp only
  repeat' first | with_reducible assumption | intro _ | with_reducible (first | apply State.abortWith_keeps | apply State.setChan_keeps | apply State.touch_keeps | apply State.poke_keeps) | with_reducible apply Keeps.cond | with_reducible apply Keeps.foldl | (fail_if_no_progress with_reducible refine Keeps.of_mk rfl rfl rfl rfl rfl rfl ?_) | with_reducible refine Keeps.of_free rfl rfl rfl rfl rfl (Nat.le_add_right _ _) ?_ | with_reducible refine Keeps.of_filter rfl rfl rfl rfl rfl rfl ?_ | split

theorem State.leaveScratch_keeps {s0 : State} {s : State} (x2 : _) (h : Keeps s0 s) : Keeps s0 (State.leaveScratch s x2) := by
  unfold State.leaveScratch
  try dsimp only
  repeat' first | with_reducible assumption | intro _ | with_reducible (first | apply State.touch_keeps | apply State.setChan_keeps) | with_reducible apply Keeps.cond | with_reducible apply Keeps.foldl | (fail_if_no_progress with_reducible refine Keeps.of_mk rfl rfl rfl rfl rfl rfl ?_) | with_reducible refine Keeps.of_free rfl rfl rfl rfl rfl (Nat.le_add_right _ _) ?_ | with_reducible refine Keeps.of_filter rfl rfl rfl rfl rfl rfl ?_ | split

theorem State.queueOwn_keeps {s0 : State} {s : State} (x2 : _) (x3 : _) (h : Keeps s0 s) : Keeps s0 (State.queueOwn s x2 x3) := by
  unfold State.queueOwn
  try dsimp only
  repeat' first | with_reducible assumption | intro _ | with_reducible (first | apply State.setChan_keeps) | with_reducible apply Keeps.cond | with_reducible apply Keeps.foldl | (fail_if_no_progress with_reducible refine Keeps.of_mk rfl rfl rfl rfl rfl rfl ?_) | with_reducible refine Keeps.of_free rfl rfl rfl rfl rfl (Nat.le_add_right _ _) ?_ | with_reducible refine Keeps.of_filter rfl rfl rfl rfl rfl rfl ?_ | split

theorem State.flushOwn_keeps {s0 : State} {s : State} (h : Keeps s0 s) : Keeps s0 (State.flushOwn s) := by
  unfold State.flushOwn
  try dsimp only
  repeat' first | with_reducible assumption | intro _ | with_reducible (first | apply State.poke_keeps) | with_reducible apply Keeps.cond | with_reducible apply Keeps.foldl | (fail_if_no_progress with_reducible refine Keeps.of_mk rfl rfl rfl rfl rfl rfl ?_) | with_reducible refine Keeps.of_free rfl rfl rfl rfl rfl (Nat.le_add_right _ _) ?_ | with_reducible refine Keeps.of_filter rfl rfl rfl rfl rfl rfl ?_ | split

theorem State.refresh_keeps {s0 : State} {s : State} (x2 : _) (h : Keeps s0 s) : Keeps s0 (State.refresh s x2) := by
  unfold State.refresh
  try dsimp only
  repeat' first | with_reducible assumption | intro _ | with_reducible (first | apply State.setChan_keeps) | with_reducible apply Keeps.cond | with_reducible apply Keeps.foldl | (fail_if_no_progress with_reducible refine Keeps.of_mk rfl rfl rfl rfl rfl rfl ?_) | with_reducible refine Keeps.of_free rfl rfl rfl rfl rfl (Nat.le_add_right _ _) ?_ | with_reducible refine Keeps.of_filter rfl rfl rfl rfl rfl rfl ?_ | split

theorem State.doRefpb_keeps {s0 : State} {s : State} (x2 : _) (x3 : _) (x4 : _) (x5 : _) (h : Keeps s0 s) : Keeps s0 (State.doRefpb s x2 x3 x4 x5) := by
  unfold State.doRefpb
  try dsimp only
  repeat' first | with_reducible assumption | intro _ | with_reducible (first | apply State.refresh_keeps) | with_reducible apply Keeps.cond | with_reducible apply Keeps.foldl | (fail_if_no_progress with_reducible refine Keeps.of_mk rfl rfl rfl rfl rfl rfl ?_) | with_reducible refine Keeps.of_free rfl rfl rfl rfl rfl (Nat.le_add_right _ _) ?_ | with_reducible refine Keeps.of_filter rfl rfl rfl rfl rfl rfl ?_ | split

theorem State.doRefreshTimer_keeps {s0 : State} {s : State} (x2 : _) (h : Keeps s0 s) : Keeps s0 (State.doRefreshTimer s x2) := by
  unfold State.doRefreshTimer
  try dsimp only
  repeat' first | with_reducible assumption | intro _ | with_reducible (first | apply State.refresh_keeps) | with_reducible apply Keeps.cond | with_reducible apply Keeps.foldl | (fail_if_no_progress with_reducible refine Keeps.of_mk rfl rfl rfl rfl rfl rfl ?_) | with_reducible refine Keeps.of_free rfl rfl rfl rfl rfl (Nat.le_add_right _ _) ?_ | with_reducible refine Keeps.of_filter rfl rfl rfl rfl rfl rfl ?_ | split

theorem State.doRetrainDue_keeps {s0 : State} {s : State} (x2 : _) (h : Keeps s0 s) : Keeps s0 (State.doRetrainDue s x2) := by
  unfold State.doRetrainDue
  try dsimp only
  repeat' first | with_reducible assumption | intro _ | with_reducible (first | apply State.setChan_keeps) | with_reducible apply Keeps.cond | with_reducible apply Keeps.foldl | (fail_if_no_progress with_reducible refine Keeps.of_mk rfl rfl rfl rfl rfl rfl ?_) | with_reducible refine Keeps.of_free rfl rfl rfl rfl rfl (Nat.le_add_right _ _) ?_ | with_reducible refine Keeps.of_filter rfl rfl rfl rfl rfl rfl ?_ | split

theorem State.startTraining_keeps {s0 : State} {s : State} (x2 : _) (h : Keeps s0 s) : Keeps s0 (State.startTraining s x2) := by
  unfold State.startTraining
  try dsimp only
  repeat' first | with_reducible assumption | intro _ | with_reducible (first | apply State.setChan_keeps) | with_reducible apply Keeps.cond | with_reducible apply Keeps.foldl | (fail_if_no_progress with_reducible refine Keeps.of_mk rfl rfl rfl rfl rfl rfl ?_) | with_reducible refine Keeps.of_free rfl rfl rfl rfl rfl (Nat.le_add_right _ _) ?_ | with_reducible refine Keeps.of_filter rfl rfl rfl rfl rfl rfl ?_ | split

theorem State.dropUnits_keeps {s0 : State} {s : State} (x2 : _) (h : Keeps s0 s) : Keeps s0 (State.dropUnits s x2) := by
  unfold State.dropUnits
  try dsimp only
  repeat' first | with_reducible assumption | intro _ | with_reducible (first | apply State.setChan_keeps) | with_reducible apply Keeps.cond | with_reducible apply Keeps.foldl | (fail_if_no_progress with_reducible refine Keeps.of_mk rfl rfl rfl rfl rfl rfl ?_) | with_reducible refine Keeps.of_free rfl rfl rfl rfl rfl (Nat.le_add_right _ _) ?_ | with_reducible refine Keeps.of_filter rfl rfl rfl rfl rfl rfl ?_ | split

theorem State.loseGroup_keeps {s0 : State} {s : State} (x2 : _) (h : Keeps s0 s) : Keeps s0 (State.loseGroup s x2) := by
  unfold State.loseGroup
  try dsimp only
  repeat' first | with_reducible assumption | intro _ | with_reducible (first | apply State.setChan_keeps | apply State.record_keeps | apply State.trigger_keeps) | with_reducible apply Keeps.cond | with_reducible apply Keeps.foldl | (fail_if_no_progress with_reducible refine Keeps.of_mk rfl rfl rfl rfl rfl rfl ?_) | with_reducible refine Keeps.of_free rfl rfl rfl rfl rfl (Nat.le_add_right _ _) ?_ | with_reducible refine Keeps.of_filter rfl rfl rfl rfl rfl rfl ?_ | split

end Sys2Proof.Machine
end

