-- ==== Sys2Proof/Laws/KeepsHost.lean ====
section
/-! SUPPORT. Every operation of the machine keeps what Keeps says: the journal, contexts, rings, host and critical commands. -/

set_option linter.unusedTactic false
set_option linter.unreachableTactic false

namespace Sys2Proof.Machine

theorem State.pokeOwn_keeps {s0 : State} {s : State} (x2 : _) (x3 : _) (h : Keeps s0 s) : Keeps s0 (State.pokeOwn s x2 x3) := by
  unfold State.pokeOwn
  try dsimp only
  repeat' first | with_reducible assumption | intro _ | with_reducible (first | apply State.queueOwn_keeps | apply State.poke_keeps) | with_reducible apply Keeps.cond | with_reducible apply Keeps.foldl | (fail_if_no_progress with_reducible refine Keeps.of_mk rfl rfl rfl rfl rfl rfl ?_) | with_reducible refine Keeps.of_free rfl rfl rfl rfl rfl (Nat.le_add_right _ _) ?_ | with_reducible refine Keeps.of_filter rfl rfl rfl rfl rfl rfl ?_ | split

theorem State.pokeEntry_keeps {s0 : State} {s : State} (x2 : _) (x3 : _) (h : Keeps s0 s) : Keeps s0 (State.pokeEntry s x2 x3) := by
  unfold State.pokeEntry
  try dsimp only
  repeat' first | with_reducible assumption | intro _ | with_reducible (first | apply State.pokeOwn_keeps) | with_reducible apply Keeps.cond | with_reducible apply Keeps.foldl | (fail_if_no_progress with_reducible refine Keeps.of_mk rfl rfl rfl rfl rfl rfl ?_) | with_reducible refine Keeps.of_free rfl rfl rfl rfl rfl (Nat.le_add_right _ _) ?_ | with_reducible refine Keeps.of_filter rfl rfl rfl rfl rfl rfl ?_ | split

theorem State.commitEntry_keeps {s0 : State} {s : State} (x2 : _) (h : Keeps s0 s) : Keeps s0 (State.commitEntry s x2) := by
  unfold State.commitEntry
  try dsimp only
  repeat' first | with_reducible assumption | intro _ | with_reducible (first | apply State.bump_keeps | apply State.pokeEntry_keeps) | with_reducible apply Keeps.cond | with_reducible apply Keeps.foldl | (fail_if_no_progress with_reducible refine Keeps.of_mk rfl rfl rfl rfl rfl rfl ?_) | with_reducible refine Keeps.of_free rfl rfl rfl rfl rfl (Nat.le_add_right _ _) ?_ | with_reducible refine Keeps.of_filter rfl rfl rfl rfl rfl rfl ?_ | split

theorem State.journal_keeps {s0 : State} {s : State} (x2 : _) (h : Keeps s0 s) : Keeps s0 (State.journal s x2) := by
  unfold State.journal
  try dsimp only
  repeat' first | with_reducible assumption | intro _ | with_reducible (first | apply State.commitEntry_keeps) | with_reducible apply Keeps.cond | with_reducible apply Keeps.foldl | (fail_if_no_progress with_reducible refine Keeps.of_mk rfl rfl rfl rfl rfl rfl ?_) | with_reducible refine Keeps.of_free rfl rfl rfl rfl rfl (Nat.le_add_right _ _) ?_ | with_reducible refine Keeps.of_filter rfl rfl rfl rfl rfl rfl ?_ | split

theorem State.flushJournal_keeps {s0 : State} {s : State} (h : Keeps s0 s) : Keeps s0 (State.flushJournal s) := by
  unfold State.flushJournal
  try dsimp only
  repeat' first | with_reducible assumption | intro _ | with_reducible (first | apply State.commitEntry_keeps) | with_reducible apply Keeps.cond | with_reducible apply Keeps.foldl | (fail_if_no_progress with_reducible refine Keeps.of_mk rfl rfl rfl rfl rfl rfl ?_) | with_reducible refine Keeps.of_free rfl rfl rfl rfl rfl (Nat.le_add_right _ _) ?_ | with_reducible refine Keeps.of_filter rfl rfl rfl rfl rfl rfl ?_ | split

theorem State.journalReset_keeps {s0 : State} {s : State} (x2 : _) (x3 : _) (x4 : _) (h : Keeps s0 s) : Keeps s0 (State.journalReset s x2 x3 x4) := by
  unfold State.journalReset
  try dsimp only
  repeat' first | with_reducible assumption | intro _ | with_reducible (first | apply State.setWord_keeps | apply State.journal_keeps) | with_reducible apply Keeps.cond | with_reducible apply Keeps.foldl | (fail_if_no_progress with_reducible refine Keeps.of_mk rfl rfl rfl rfl rfl rfl ?_) | with_reducible refine Keeps.of_free rfl rfl rfl rfl rfl (Nat.le_add_right _ _) ?_ | with_reducible refine Keeps.of_filter rfl rfl rfl rfl rfl rfl ?_ | split

theorem State.setRing_keeps {s0 : State} {s : State} (x2 : _) (x3 : _) (h : Keeps s0 s) : Keeps s0 (State.setRing s x2 x3) := by
  unfold State.setRing
  try dsimp only
  repeat' first | with_reducible assumption | intro _ | with_reducible apply Keeps.cond | with_reducible apply Keeps.foldl | (fail_if_no_progress with_reducible refine Keeps.of_mk rfl rfl rfl rfl rfl rfl ?_) | with_reducible refine Keeps.of_free rfl rfl rfl rfl rfl (Nat.le_add_right _ _) ?_ | with_reducible refine Keeps.of_filter rfl rfl rfl rfl rfl rfl ?_ | split

theorem State.setPort_keeps {s0 : State} {s : State} (x2 : _) (x3 : _) (h : Keeps s0 s) : Keeps s0 (State.setPort s x2 x3) := by
  unfold State.setPort
  try dsimp only
  repeat' first | with_reducible assumption | intro _ | with_reducible apply Keeps.cond | with_reducible apply Keeps.foldl | (fail_if_no_progress with_reducible refine Keeps.of_mk rfl rfl rfl rfl rfl rfl ?_) | with_reducible refine Keeps.of_free rfl rfl rfl rfl rfl (Nat.le_add_right _ _) ?_ | with_reducible refine Keeps.of_filter rfl rfl rfl rfl rfl rfl ?_ | split

theorem State.takeDescriptor_keeps {s0 : State} {s : State} (x2 : _) (h : Keeps s0 s) : Keeps s0 (State.takeDescriptor s x2) := by
  unfold State.takeDescriptor
  try dsimp only
  repeat' first | with_reducible assumption | intro _ | with_reducible (first | apply State.setRing_keeps) | with_reducible apply Keeps.cond | with_reducible apply Keeps.foldl | (fail_if_no_progress with_reducible refine Keeps.of_mk rfl rfl rfl rfl rfl rfl ?_) | with_reducible refine Keeps.of_free rfl rfl rfl rfl rfl (Nat.le_add_right _ _) ?_ | with_reducible refine Keeps.of_filter rfl rfl rfl rfl rfl rfl ?_ | split

theorem State.endCommand_keeps {s0 : State} {s : State} (x2 : _) (h : Keeps s0 s) : Keeps s0 (State.endCommand s x2) := by
  unfold State.endCommand
  try dsimp only
  repeat' first | with_reducible assumption | intro _ | with_reducible (first | apply State.setRing_keeps) | with_reducible apply Keeps.cond | with_reducible apply Keeps.foldl | (fail_if_no_progress with_reducible refine Keeps.of_mk rfl rfl rfl rfl rfl rfl ?_) | with_reducible refine Keeps.of_free rfl rfl rfl rfl rfl (Nat.le_add_right _ _) ?_ | with_reducible refine Keeps.of_filter rfl rfl rfl rfl rfl rfl ?_ | split

theorem State.addDue_keeps {s0 : State} {s : State} (x2 : _) (x3 : _) (h : Keeps s0 s) : Keeps s0 (State.addDue s x2 x3) := by
  unfold State.addDue
  try dsimp only
  repeat' first | with_reducible assumption | intro _ | with_reducible (first | apply State.setRing_keeps) | with_reducible apply Keeps.cond | with_reducible apply Keeps.foldl | (fail_if_no_progress with_reducible refine Keeps.of_mk rfl rfl rfl rfl rfl rfl ?_) | with_reducible refine Keeps.of_free rfl rfl rfl rfl rfl (Nat.le_add_right _ _) ?_ | with_reducible refine Keeps.of_filter rfl rfl rfl rfl rfl rfl ?_ | split

theorem State.complete_keeps {s0 : State} {s : State} (x2 : _) (x3 : _) (x4 : _) (x5 : _) (x6 : _) (x7 : _) (x8 : _) (h : Keeps s0 s) : Keeps s0 (State.complete s x2 x3 x4 x5 x6 x7 x8) := by
  unfold State.complete
  try dsimp only
  repeat' first | with_reducible assumption | intro _ | with_reducible (first | apply State.addDue_keeps) | with_reducible apply Keeps.cond | with_reducible apply Keeps.foldl | (fail_if_no_progress with_reducible refine Keeps.of_mk rfl rfl rfl rfl rfl rfl ?_) | with_reducible refine Keeps.of_free rfl rfl rfl rfl rfl (Nat.le_add_right _ _) ?_ | with_reducible refine Keeps.of_filter rfl rfl rfl rfl rfl rfl ?_ | split

theorem State.refuse_keeps {s0 : State} {s : State} (x2 : _) (x3 : _) (x4 : _) (x5 : _) (x6 : _) (h : Keeps s0 s) : Keeps s0 (State.refuse s x2 x3 x4 x5 x6) := by
  unfold State.refuse
  try dsimp only
  repeat' first | with_reducible assumption | intro _ | with_reducible (first | apply State.complete_keeps) | with_reducible apply Keeps.cond | with_reducible apply Keeps.foldl | (fail_if_no_progress with_reducible refine Keeps.of_mk rfl rfl rfl rfl rfl rfl ?_) | with_reducible refine Keeps.of_free rfl rfl rfl rfl rfl (Nat.le_add_right _ _) ?_ | with_reducible refine Keeps.of_filter rfl rfl rfl rfl rfl rfl ?_ | split

theorem State.stopRing_keeps {s0 : State} {s : State} (x2 : _) (x3 : _) (h : Keeps s0 s) : Keeps s0 (State.stopRing s x2 x3) := by
  unfold State.stopRing
  try dsimp only
  repeat' first | with_reducible assumption | intro _ | with_reducible (first | apply State.record_keeps | apply State.setRing_keeps) | with_reducible apply Keeps.cond | with_reducible apply Keeps.foldl | (fail_if_no_progress with_reducible refine Keeps.of_mk rfl rfl rfl rfl rfl rfl ?_) | with_reducible refine Keeps.of_free rfl rfl rfl rfl rfl (Nat.le_add_right _ _) ?_ | with_reducible refine Keeps.of_filter rfl rfl rfl rfl rfl rfl ?_ | split

theorem State.msix_keeps {s0 : State} {s : State} (x2 : _) (x3 : _) (h : Keeps s0 s) : Keeps s0 (State.msix s x2 x3) := by
  unfold State.msix
  try dsimp only
  repeat' first | with_reducible assumption | intro _ | with_reducible (first | apply State.emit_keeps) | with_reducible apply Keeps.cond | with_reducible apply Keeps.foldl | (fail_if_no_progress with_reducible refine Keeps.of_mk rfl rfl rfl rfl rfl rfl ?_) | with_reducible refine Keeps.of_free rfl rfl rfl rfl rfl (Nat.le_add_right _ _) ?_ | with_reducible refine Keeps.of_filter rfl rfl rfl rfl rfl rfl ?_ | split

theorem State.interrupt_keeps {s0 : State} {s : State} (x2 : _) (h : Keeps s0 s) : Keeps s0 (State.interrupt s x2) := by
  unfold State.interrupt
  try dsimp only
  repeat' first | with_reducible assumption | intro _ | with_reducible (first | apply State.msix_keeps | apply State.setRing_keeps) | with_reducible apply Keeps.cond | with_reducible apply Keeps.foldl | (fail_if_no_progress with_reducible refine Keeps.of_mk rfl rfl rfl rfl rfl rfl ?_) | with_reducible refine Keeps.of_free rfl rfl rfl rfl rfl (Nat.le_add_right _ _) ?_ | with_reducible refine Keeps.of_filter rfl rfl rfl rfl rfl rfl ?_ | split

theorem State.tryInterrupt_keeps {s0 : State} {s : State} (x2 : _) (h : Keeps s0 s) : Keeps s0 (State.tryInterrupt s x2) := by
  unfold State.tryInterrupt
  try dsimp only
  repeat' first | with_reducible assumption | intro _ | with_reducible (first | apply State.interrupt_keeps) | with_reducible apply Keeps.cond | with_reducible apply Keeps.foldl | (fail_if_no_progress with_reducible refine Keeps.of_mk rfl rfl rfl rfl rfl rfl ?_) | with_reducible refine Keeps.of_free rfl rfl rfl rfl rfl (Nat.le_add_right _ _) ?_ | with_reducible refine Keeps.of_filter rfl rfl rfl rfl rfl rfl ?_ | split

theorem State.holdInput_keeps {s0 : State} {s : State} (x2 : _) (h : Keeps s0 s) : Keeps s0 (State.holdInput s x2) := by
  unfold State.holdInput
  try dsimp only
  repeat' first | with_reducible assumption | intro _ | with_reducible apply Keeps.cond | with_reducible apply Keeps.foldl | (fail_if_no_progress with_reducible refine Keeps.of_mk rfl rfl rfl rfl rfl rfl ?_) | with_reducible refine Keeps.of_free rfl rfl rfl rfl rfl (Nat.le_add_right _ _) ?_ | with_reducible refine Keeps.of_filter rfl rfl rfl rfl rfl rfl ?_ | split

theorem State.setCtxField_keeps {s0 : State} {s : State} (x2 : _) (x3 : _) (x4 : _) (x5 : _) (h : Keeps s0 s) : Keeps s0 (State.setCtxField s x2 x3 x4 x5) := by
  unfold State.setCtxField
  try dsimp only
  repeat' first | with_reducible assumption | intro _ | with_reducible (first | apply State.pokeOwn_keeps) | with_reducible apply Keeps.cond | with_reducible apply Keeps.foldl | (fail_if_no_progress with_reducible refine Keeps.of_mk rfl rfl rfl rfl rfl rfl ?_) | with_reducible refine Keeps.of_free rfl rfl rfl rfl rfl (Nat.le_add_right _ _) ?_ | with_reducible refine Keeps.of_filter rfl rfl rfl rfl rfl rfl ?_ | split

theorem State.modCtx_keeps {s0 : State} {s : State} (x2 : _) (x3 : _) (h : Keeps s0 s) : Keeps s0 (State.modCtx s x2 x3) := by
  unfold State.modCtx
  try dsimp only
  repeat' first | with_reducible assumption | intro _ | with_reducible apply Keeps.cond | with_reducible apply Keeps.foldl | (fail_if_no_progress with_reducible refine Keeps.of_mk rfl rfl rfl rfl rfl rfl ?_) | with_reducible refine Keeps.of_free rfl rfl rfl rfl rfl (Nat.le_add_right _ _) ?_ | with_reducible refine Keeps.of_filter rfl rfl rfl rfl rfl rfl ?_ | split

theorem State.setPhase_keeps {s0 : State} {s : State} (x2 : _) (x3 : _) (h : Keeps s0 s) : Keeps s0 (State.setPhase s x2 x3) := by
  unfold State.setPhase
  try dsimp only
  repeat' first | with_reducible assumption | intro _ | with_reducible (first | apply State.setCtxField_keeps | apply State.modCtx_keeps) | with_reducible apply Keeps.cond | with_reducible apply Keeps.foldl | (fail_if_no_progress with_reducible refine Keeps.of_mk rfl rfl rfl rfl rfl rfl ?_) | with_reducible refine Keeps.of_free rfl rfl rfl rfl rfl (Nat.le_add_right _ _) ?_ | with_reducible refine Keeps.of_filter rfl rfl rfl rfl rfl rfl ?_ | split

theorem State.freeCtx_keeps {s0 : State} {s : State} (x2 : _) (h : Keeps s0 s) : Keeps s0 (State.freeCtx s x2) := by
  unfold State.freeCtx
  try dsimp only
  repeat' first | with_reducible assumption | intro _ | with_reducible (first | apply State.setCtxField_keeps) | with_reducible apply Keeps.cond | with_reducible apply Keeps.foldl | (fail_if_no_progress with_reducible refine Keeps.of_mk rfl rfl rfl rfl rfl rfl ?_) | with_reducible refine Keeps.of_free rfl rfl rfl rfl rfl (Nat.le_add_right _ _) ?_ | with_reducible refine Keeps.of_filter rfl rfl rfl rfl rfl rfl ?_ | split

theorem State.modQueue_keeps {s0 : State} {s : State} (x2 : _) (x3 : _) (h : Keeps s0 s) : Keeps s0 (State.modQueue s x2 x3) := by
  unfold State.modQueue
  try dsimp only
  repeat' first | with_reducible assumption | intro _ | with_reducible apply Keeps.cond | with_reducible apply Keeps.foldl | (fail_if_no_progress with_reducible refine Keeps.of_mk rfl rfl rfl rfl rfl rfl ?_) | with_reducible refine Keeps.of_free rfl rfl rfl rfl rfl (Nat.le_add_right _ _) ?_ | with_reducible refine Keeps.of_filter rfl rfl rfl rfl rfl rfl ?_ | split

theorem State.unqueue_keeps {s0 : State} {s : State} (x2 : _) (h : Keeps s0 s) : Keeps s0 (State.unqueue s x2) := by
  unfold State.unqueue
  try dsimp only
  repeat' first | with_reducible assumption | intro _ | with_reducible (first | apply State.modQueue_keeps) | with_reducible apply Keeps.cond | with_reducible apply Keeps.foldl | (fail_if_no_progress with_reducible refine Keeps.of_mk rfl rfl rfl rfl rfl rfl ?_) | with_reducible refine Keeps.of_free rfl rfl rfl rfl rfl (Nat.le_add_right _ _) ?_ | with_reducible refine Keeps.of_filter rfl rfl rfl rfl rfl rfl ?_ | split

theorem State.requeueHead_keeps {s0 : State} {s : State} (x2 : _) (h : Keeps s0 s) : Keeps s0 (State.requeueHead s x2) := by
  unfold State.requeueHead
  try dsimp only
  repeat' first | with_reducible assumption | intro _ | with_reducible (first | apply State.setPhase_keeps | apply State.modQueue_keeps) | with_reducible apply Keeps.cond | with_reducible apply Keeps.foldl | (fail_if_no_progress with_reducible refine Keeps.of_mk rfl rfl rfl rfl rfl rfl ?_) | with_reducible refine Keeps.of_free rfl rfl rfl rfl rfl (Nat.le_add_right _ _) ?_ | with_reducible refine Keeps.of_filter rfl rfl rfl rfl rfl rfl ?_ | split

theorem State.enqueueCtx_keeps {s0 : State} {s : State} (x2 : _) (h : Keeps s0 s) : Keeps s0 (State.enqueueCtx s x2) := by
  unfold State.enqueueCtx
  try dsimp only
  repeat' first | with_reducible assumption | intro _ | with_reducible (first | apply State.setPhase_keeps | apply State.modQueue_keeps | apply State.setCtxField_keeps) | with_reducible apply Keeps.cond | with_reducible apply Keeps.foldl | (fail_if_no_progress with_reducible refine Keeps.of_mk rfl rfl rfl rfl rfl rfl ?_) | with_reducible refine Keeps.of_free rfl rfl rfl rfl rfl (Nat.le_add_right _ _) ?_ | with_reducible refine Keeps.of_filter rfl rfl rfl rfl rfl rfl ?_ | split

theorem State.promote_keeps {s0 : State} {s : State} (x2 : _) (h : Keeps s0 s) : Keeps s0 (State.promote s x2) := by
  unfold State.promote
  try dsimp only
  repeat' first | with_reducible assumption | intro _ | with_reducible (first | apply State.enqueueCtx_keeps) | with_reducible apply Keeps.cond | with_reducible apply Keeps.foldl | (fail_if_no_progress with_reducible refine Keeps.of_mk rfl rfl rfl rfl rfl rfl ?_) | with_reducible refine Keeps.of_free rfl rfl rfl rfl rfl (Nat.le_add_right _ _) ?_ | with_reducible refine Keeps.of_filter rfl rfl rfl rfl rfl rfl ?_ | split

theorem State.endCtx_keeps {s0 : State} {s : State} (x2 : _) (x3 : _) (h : Keeps s0 s) : Keeps s0 (State.endCtx s x2 x3) := by
  unfold State.endCtx
  try dsimp only
  repeat' first | with_reducible assumption | intro _ | with_reducible (first | apply State.unqueue_keeps | apply State.promote_keeps | apply State.freeCtx_keeps | apply State.bump_keeps | apply State.modCtx_keeps | apply State.addDue_keeps) | with_reducible apply Keeps.cond | with_reducible apply Keeps.foldl | (fail_if_no_progress with_reducible refine Keeps.of_mk rfl rfl rfl rfl rfl rfl ?_) | with_reducible refine Keeps.of_free rfl rfl rfl rfl rfl (Nat.le_add_right _ _) ?_ | with_reducible refine Keeps.of_filter rfl rfl rfl rfl rfl rfl ?_ | split

theorem State.stageCtx_keeps {s0 : State} {s : State} (x2 : _) (x3 : _) (x4 : _) (x5 : _) (x6 : _) (h : Keeps s0 s) : Keeps s0 (State.stageCtx s x2 x3 x4 x5 x6) := by
  unfold State.stageCtx
  try dsimp only
  repeat' first | with_reducible assumption | intro _ | with_reducible (first | apply State.setPhase_keeps | apply State.setCtxField_keeps | apply State.modCtx_keeps | apply State.endCtx_keeps | apply State.record_keeps) | with_reducible apply Keeps.cond | with_reducible apply Keeps.foldl | (fail_if_no_progress with_reducible refine Keeps.of_mk rfl rfl rfl rfl rfl rfl ?_) | with_reducible refine Keeps.of_free rfl rfl rfl rfl rfl (Nat.le_add_right _ _) ?_ | with_reducible refine Keeps.of_filter rfl rfl rfl rfl rfl rfl ?_ | split

theorem State.doContextFetch_keeps {s0 : State} {s : State} (x2 : _) (x3 : _) (h : Keeps s0 s) : Keeps s0 (State.doContextFetch s x2 x3) := by
  unfold State.doContextFetch
  try dsimp only
  repeat' first | with_reducible assumption | intro _ | with_reducible (first | apply State.stageCtx_keeps) | with_reducible apply Keeps.cond | with_reducible apply Keeps.foldl | (fail_if_no_progress with_reducible refine Keeps.of_mk rfl rfl rfl rfl rfl rfl ?_) | with_reducible refine Keeps.of_free rfl rfl rfl rfl rfl (Nat.le_add_right _ _) ?_ | with_reducible refine Keeps.of_filter rfl rfl rfl rfl rfl rfl ?_ | split

theorem State.doStagingCopyDone_keeps {s0 : State} {s : State} (x2 : _) (x3 : _) (h : Keeps s0 s) : Keeps s0 (State.doStagingCopyDone s x2 x3) := by
  unfold State.doStagingCopyDone
  try dsimp only
  repeat' first | with_reducible assumption | intro _ | with_reducible (first | apply State.endCtx_keeps | apply State.promote_keeps | apply State.setPhase_keeps | apply State.poke_keeps | apply State.touch_keeps) | with_reducible apply Keeps.cond | with_reducible apply Keeps.foldl | (fail_if_no_progress with_reducible refine Keeps.of_mk rfl rfl rfl rfl rfl rfl ?_) | with_reducible refine Keeps.of_free rfl rfl rfl rfl rfl (Nat.le_add_right _ _) ?_ | with_reducible refine Keeps.of_filter rfl rfl rfl rfl rfl rfl ?_ | split

theorem State.fillEntry_keeps {s0 : State} {s : State} (x2 : _) (x3 : _) (x4 : _) (x5 : _) (x6 : _) (h : Keeps s0 s) : Keeps s0 (State.fillEntry s x2 x3 x4 x5 x6) := by
  unfold State.fillEntry
  try dsimp only
  repeat' first | with_reducible assumption | intro _ | with_reducible (first | apply State.setCtxField_keeps | apply State.setPhase_keeps | apply State.unqueue_keeps | apply State.poke_keeps | apply State.addDword_keeps) | with_reducible apply Keeps.cond | with_reducible apply Keeps.foldl | (fail_if_no_progress with_reducible refine Keeps.of_mk rfl rfl rfl rfl rfl rfl ?_) | with_reducible refine Keeps.of_free rfl rfl rfl rfl rfl (Nat.le_add_right _ _) ?_ | with_reducible refine Keeps.of_filter rfl rfl rfl rfl rfl rfl ?_ | split

theorem State.setDepths_keeps {s0 : State} {s : State} (x2 : _) (h : Keeps s0 s) : Keeps s0 (State.setDepths s x2) := by
  unfold State.setDepths
  try dsimp only
  repeat' first | with_reducible assumption | intro _ | with_reducible apply Keeps.cond | with_reducible apply Keeps.foldl | (fail_if_no_progress with_reducible refine Keeps.of_mk rfl rfl rfl rfl rfl rfl ?_) | with_reducible refine Keeps.of_free rfl rfl rfl rfl rfl (Nat.le_add_right _ _) ?_ | with_reducible refine Keeps.of_filter rfl rfl rfl rfl rfl rfl ?_ | split

theorem State.fillSlots_keeps {s0 : State} {s : State} (x2 : _) (x3 : _) (h : Keeps s0 s) : Keeps s0 (State.fillSlots s x2 x3) := by
  unfold State.fillSlots
  try dsimp only
  repeat' first | with_reducible assumption | intro _ | with_reducible (first | apply State.fillEntry_keeps | apply State.setDepths_keeps) | with_reducible apply Keeps.cond | with_reducible apply Keeps.foldl | (fail_if_no_progress with_reducible refine Keeps.of_mk rfl rfl rfl rfl rfl rfl ?_) | with_reducible refine Keeps.of_free rfl rfl rfl rfl rfl (Nat.le_add_right _ _) ?_ | with_reducible refine Keeps.of_filter rfl rfl rfl rfl rfl rfl ?_ | split

theorem State.doDeadlineExpiry_keeps {s0 : State} {s : State} (x2 : _) (h : Keeps s0 s) : Keeps s0 (State.doDeadlineExpiry s x2) := by
  unfold State.doDeadlineExpiry
  try dsimp only
  repeat' first | with_reducible assumption | intro _ | with_reducible (first | apply State.endCtx_keeps) | with_reducible apply Keeps.cond | with_reducible apply Keeps.foldl | (fail_if_no_progress with_reducible refine Keeps.of_mk rfl rfl rfl rfl rfl rfl ?_) | with_reducible refine Keeps.of_free rfl rfl rfl rfl rfl (Nat.le_add_right _ _) ?_ | with_reducible refine Keeps.of_filter rfl rfl rfl rfl rfl rfl ?_ | split

theorem State.addWork_keeps {s0 : State} {s : State} (x2 : _) (h : Keeps s0 s) : Keeps s0 (State.addWork s x2) := by
  unfold State.addWork
  try dsimp only
  repeat' first | with_reducible assumption | intro _ | with_reducible apply Keeps.cond | with_reducible apply Keeps.foldl | (fail_if_no_progress with_reducible refine Keeps.of_mk rfl rfl rfl rfl rfl rfl ?_) | with_reducible refine Keeps.of_free rfl rfl rfl rfl rfl (Nat.le_add_right _ _) ?_ | with_reducible refine Keeps.of_filter rfl rfl rfl rfl rfl rfl ?_ | split

theorem State.vldUnit_keeps {s0 : State} {s : State} (x2 : _) (x3 : _) (x4 : _) (x5 : _) (h : Keeps s0 s) : Keeps s0 (State.vldUnit s x2 x3 x4 x5) := by
  unfold State.vldUnit
  try dsimp only
  repeat' first | with_reducible assumption | intro _ | with_reducible (first | apply State.addWork_keeps) | with_reducible apply Keeps.cond | with_reducible apply Keeps.foldl | (fail_if_no_progress with_reducible refine Keeps.of_mk rfl rfl rfl rfl rfl rfl ?_) | with_reducible refine Keeps.of_free rfl rfl rfl rfl rfl (Nat.le_add_right _ _) ?_ | with_reducible refine Keeps.of_filter rfl rfl rfl rfl rfl rfl ?_ | split

theorem State.vstUnit_keeps {s0 : State} {s : State} (x2 : _) (x3 : _) (x4 : _) (x5 : _) (h : Keeps s0 s) : Keeps s0 (State.vstUnit s x2 x3 x4 x5) := by
  unfold State.vstUnit
  try dsimp only
  repeat' first | with_reducible assumption | intro _ | with_reducible (first | apply State.addWork_keeps) | with_reducible apply Keeps.cond | with_reducible apply Keeps.foldl | (fail_if_no_progress with_reducible refine Keeps.of_mk rfl rfl rfl rfl rfl rfl ?_) | with_reducible refine Keeps.of_free rfl rfl rfl rfl rfl (Nat.le_add_right _ _) ?_ | with_reducible refine Keeps.of_filter rfl rfl rfl rfl rfl rfl ?_ | split

theorem State.addrFault_keeps {s0 : State} {s : State} (x2 : _) (h : Keeps s0 s) : Keeps s0 (State.addrFault s x2) := by
  unfold State.addrFault
  try dsimp only
  repeat' first | with_reducible assumption | intro _ | with_reducible (first | apply State.abortWith_keeps) | with_reducible apply Keeps.cond | with_reducible apply Keeps.foldl | (fail_if_no_progress with_reducible refine Keeps.of_mk rfl rfl rfl rfl rfl rfl ?_) | with_reducible refine Keeps.of_free rfl rfl rfl rfl rfl (Nat.le_add_right _ _) ?_ | with_reducible refine Keeps.of_filter rfl rfl rfl rfl rfl rfl ?_ | split

theorem State.fillUnit_keeps {s0 : State} {s : State} (x2 : _) (x3 : _) (x4 : _) (x5 : _) (h : Keeps s0 s) : Keeps s0 (State.fillUnit s x2 x3 x4 x5) := by
  unfold State.fillUnit
  try dsimp only
  repeat' first | with_reducible assumption | intro _ | with_reducible (first | apply State.setTile_keeps | apply State.swapFault_keeps | apply State.sendUnits_keeps | apply State.addWork_keeps | apply State.addrFault_keeps) | with_reducible apply Keeps.cond | with_reducible apply Keeps.foldl | (fail_if_no_progress with_reducible refine Keeps.of_mk rfl rfl rfl rfl rfl rfl ?_) | with_reducible refine Keeps.of_free rfl rfl rfl rfl rfl (Nat.le_add_right _ _) ?_ | with_reducible refine Keeps.of_filter rfl rfl rfl rfl rfl rfl ?_ | split

theorem State.spillUnit_keeps {s0 : State} {s : State} (x2 : _) (x3 : _) (x4 : _) (x5 : _) (h : Keeps s0 s) : Keeps s0 (State.spillUnit s x2 x3 x4 x5) := by
  unfold State.spillUnit
  try dsimp only
  repeat' first | with_reducible assumption | intro _ | with_reducible (first | apply State.swapFault_keeps | apply State.sendUnits_keeps | apply State.addWork_keeps | apply State.addrFault_keeps) | with_reducible apply Keeps.cond | with_reducible apply Keeps.foldl | (fail_if_no_progress with_reducible refine Keeps.of_mk rfl rfl rfl rfl rfl rfl ?_) | with_reducible refine Keeps.of_free rfl rfl rfl rfl rfl (Nat.le_add_right _ _) ?_ | with_reducible refine Keeps.of_filter rfl rfl rfl rfl rfl rfl ?_ | split

theorem State.ctxinUnit_keeps {s0 : State} {s : State} (x2 : _) (x3 : _) (x4 : _) (h : Keeps s0 s) : Keeps s0 (State.ctxinUnit s x2 x3 x4) := by
  unfold State.ctxinUnit
  try dsimp only
  repeat' first | with_reducible assumption | intro _ | with_reducible (first | apply State.addWork_keeps) | with_reducible apply Keeps.cond | with_reducible apply Keeps.foldl | (fail_if_no_progress with_reducible refine Keeps.of_mk rfl rfl rfl rfl rfl rfl ?_) | with_reducible refine Keeps.of_free rfl rfl rfl rfl rfl (Nat.le_add_right _ _) ?_ | with_reducible refine Keeps.of_filter rfl rfl rfl rfl rfl rfl ?_ | split

theorem State.ctxoutUnit_keeps {s0 : State} {s : State} (x2 : _) (x3 : _) (x4 : _) (h : Keeps s0 s) : Keeps s0 (State.ctxoutUnit s x2 x3 x4) := by
  unfold State.ctxoutUnit
  try dsimp only
  repeat' first | with_reducible assumption | intro _ | with_reducible (first | apply State.addWork_keeps) | with_reducible apply Keeps.cond | with_reducible apply Keeps.foldl | (fail_if_no_progress with_reducible refine Keeps.of_mk rfl rfl rfl rfl rfl rfl ?_) | with_reducible refine Keeps.of_free rfl rfl rfl rfl rfl (Nat.le_add_right _ _) ?_ | with_reducible refine Keeps.of_filter rfl rfl rfl rfl rfl rfl ?_ | split

theorem State.doCtxin_keeps {s0 : State} {s : State} (x2 : _) (x3 : _) (h : Keeps s0 s) : Keeps s0 (State.doCtxin s x2 x3) := by
  unfold State.doCtxin
  try dsimp only
  repeat' first | with_reducible assumption | intro _ | with_reducible (first | apply State.onSlot_keeps | apply State.ctxinUnit_keeps) | with_reducible apply Keeps.cond | with_reducible apply Keeps.foldl | (fail_if_no_progress with_reducible refine Keeps.of_mk rfl rfl rfl rfl rfl rfl ?_) | with_reducible refine Keeps.of_free rfl rfl rfl rfl rfl (Nat.le_add_right _ _) ?_ | with_reducible refine Keeps.of_filter rfl rfl rfl rfl rfl rfl ?_ | split

theorem State.doCtxout_keeps {s0 : State} {s : State} (x2 : _) (x3 : _) (h : Keeps s0 s) : Keeps s0 (State.doCtxout s x2 x3) := by
  unfold State.doCtxout
  try dsimp only
  repeat' first | with_reducible assumption | intro _ | with_reducible (first | apply State.onSlot_keeps | apply State.ctxoutUnit_keeps) | with_reducible apply Keeps.cond | with_reducible apply Keeps.foldl | (fail_if_no_progress with_reducible refine Keeps.of_mk rfl rfl rfl rfl rfl rfl ?_) | with_reducible refine Keeps.of_free rfl rfl rfl rfl rfl (Nat.le_add_right _ _) ?_ | with_reducible refine Keeps.of_filter rfl rfl rfl rfl rfl rfl ?_ | split

theorem State.readWork_keeps {s0 : State} {s : State} (x2 : _) (h : Keeps s0 s) : Keeps s0 (State.readWork s x2) := by
  unfold State.readWork
  try dsimp only
  repeat' first | with_reducible assumption | intro _ | with_reducible (first | apply State.touch_keeps | apply State.setTile_keeps | apply State.addWork_keeps | apply State.runUnit_keeps | apply State.swapTile_keeps | apply State.setPhase_keeps) | with_reducible apply Keeps.cond | with_reducible apply Keeps.foldl | (fail_if_no_progress with_reducible refine Keeps.of_mk rfl rfl rfl rfl rfl rfl ?_) | with_reducible refine Keeps.of_free rfl rfl rfl rfl rfl (Nat.le_add_right _ _) ?_ | with_reducible refine Keeps.of_filter rfl rfl rfl rfl rfl rfl ?_ | split

theorem State.writeWork_keeps {s0 : State} {s : State} (x2 : _) (h : Keeps s0 s) : Keeps s0 (State.writeWork s x2) := by
  unfold State.writeWork
  try dsimp only
  repeat' first | with_reducible assumption | intro _ | with_reducible (first | apply State.poke_keeps | apply State.setTile_keeps | apply State.setSeq_keeps) | with_reducible apply Keeps.cond | with_reducible apply Keeps.foldl | (fail_if_no_progress with_reducible refine Keeps.of_mk rfl rfl rfl rfl rfl rfl ?_) | with_reducible refine Keeps.of_free rfl rfl rfl rfl rfl (Nat.le_add_right _ _) ?_ | with_reducible refine Keeps.of_filter rfl rfl rfl rfl rfl rfl ?_ | split

theorem State.runWork_keeps {s0 s : State} (f : Work → Bool) (g : State → Job → State) (hg : ∀ u a, Keeps s0 u → Keeps s0 (g u a)) (h : Keeps s0 s) :
    Keeps s0 (s.runWork f g) :=
  Keeps.foldl hg (Keeps.of_mk rfl rfl rfl rfl rfl rfl h)

theorem State.eachUnit_keeps {s0 s : State} (f : State → Nat → Nat → State) (hf : ∀ u a b, Keeps s0 u → Keeps s0 (f u a b)) (h : Keeps s0 s) :
    Keeps s0 (s.eachUnit f) :=
  Keeps.foldl (fun _ _ k => Keeps.foldl (fun _ _ k => hf _ _ _ k) k) h

theorem State.cycleReads_keeps {s0 : State} {s : State} (h : Keeps s0 s) : Keeps s0 (State.cycleReads s) := by
  unfold State.cycleReads
  try dsimp only
  repeat' first | with_reducible assumption | intro _ | with_reducible (first | apply State.eachUnit_keeps | apply State.startDue_keeps | apply State.capture_keeps | apply State.leaveScratch_keeps | apply State.runWork_keeps | apply State.readWork_keeps) | with_reducible apply Keeps.cond | with_reducible apply Keeps.foldl | (fail_if_no_progress with_reducible refine Keeps.of_mk rfl rfl rfl rfl rfl rfl ?_) | with_reducible refine Keeps.of_free rfl rfl rfl rfl rfl (Nat.le_add_right _ _) ?_ | with_reducible refine Keeps.of_filter rfl rfl rfl rfl rfl rfl ?_ | split

theorem State.cycleSwaps_keeps {s0 : State} {s : State} (h : Keeps s0 s) : Keeps s0 (State.cycleSwaps s) := by
  unfold State.cycleSwaps
  try dsimp only
  repeat' first | with_reducible assumption | intro _ | with_reducible (first | apply State.eachUnit_keeps | apply State.swapStep_keeps) | with_reducible apply Keeps.cond | with_reducible apply Keeps.foldl | (fail_if_no_progress with_reducible refine Keeps.of_mk rfl rfl rfl rfl rfl rfl ?_) | with_reducible refine Keeps.of_free rfl rfl rfl rfl rfl (Nat.le_add_right _ _) ?_ | with_reducible refine Keeps.of_filter rfl rfl rfl rfl rfl rfl ?_ | split

theorem State.endCycle_keeps {s0 : State} {s : State} (h : Keeps s0 s) : Keeps s0 (State.endCycle s) := by
  unfold State.endCycle
  try dsimp only
  repeat' first | with_reducible assumption | intro _ | with_reducible (first | apply State.runWork_keeps | apply State.cycleSwaps_keeps | apply State.cycleReads_keeps | apply State.writeWork_keeps) | with_reducible apply Keeps.cond | with_reducible apply Keeps.foldl | (fail_if_no_progress with_reducible refine Keeps.of_mk rfl rfl rfl rfl rfl rfl ?_) | with_reducible refine Keeps.of_free rfl rfl rfl rfl rfl (Nat.le_add_right _ _) ?_ | with_reducible refine Keeps.of_filter rfl rfl rfl rfl rfl rfl ?_ | split

theorem State.store_keeps {s0 : State} {s : State} (x2 : _) (x3 : _) (h : Keeps s0 s) : Keeps s0 (State.store s x2 x3) := by
  unfold State.store
  try dsimp only
  repeat' first | with_reducible assumption | intro _ | with_reducible (first | apply State.poke_keeps | apply State.cycleReads_keeps) | with_reducible apply Keeps.cond | with_reducible apply Keeps.foldl | (fail_if_no_progress with_reducible refine Keeps.of_mk rfl rfl rfl rfl rfl rfl ?_) | with_reducible refine Keeps.of_free rfl rfl rfl rfl rfl (Nat.le_add_right _ _) ?_ | with_reducible refine Keeps.of_filter rfl rfl rfl rfl rfl rfl ?_ | split

theorem State.descriptor_keeps {s0 s : State} (q : Nat) (d : BitVec 512) (opc : Nat) (f : State → State)
    (hf : ∀ u, Keeps s0 u → Keeps s0 (f u)) (h : Keeps s0 s) : Keeps s0 (s.descriptor q d opc f) := by
  unfold State.descriptor
  dsimp only
  repeat' first | with_reducible assumption | with_reducible (first | apply State.takeDescriptor_keeps | apply State.refuse_keeps | apply hf) | with_reducible apply Keeps.cond | intro _

theorem State.succeed_keeps {s0 : State} {s : State} (x2 : _) (x3 : _) (x4 : _) (x5 : _) (h : Keeps s0 s) : Keeps s0 (State.succeed s x2 x3 x4 x5) := by
  unfold State.succeed
  try dsimp only
  repeat' first | with_reducible assumption | intro _ | with_reducible (first | apply State.endCommand_keeps | apply State.complete_keeps) | with_reducible apply Keeps.cond | with_reducible apply Keeps.foldl | (fail_if_no_progress with_reducible refine Keeps.of_mk rfl rfl rfl rfl rfl rfl ?_) | with_reducible refine Keeps.of_free rfl rfl rfl rfl rfl (Nat.le_add_right _ _) ?_ | with_reducible refine Keeps.of_filter rfl rfl rfl rfl rfl rfl ?_ | split

theorem State.recordAccess_keeps {s0 : State} {s : State} (x2 : _) (h : Keeps s0 s) : Keeps s0 (State.recordAccess s x2) := by
  unfold State.recordAccess
  try dsimp only
  repeat' first | with_reducible assumption | intro _ | with_reducible (first | apply State.record_keeps) | with_reducible apply Keeps.cond | with_reducible apply Keeps.foldl | (fail_if_no_progress with_reducible refine Keeps.of_mk rfl rfl rfl rfl rfl rfl ?_) | with_reducible refine Keeps.of_free rfl rfl rfl rfl rfl (Nat.le_add_right _ _) ?_ | with_reducible refine Keeps.of_filter rfl rfl rfl rfl rfl rfl ?_ | split

theorem State.post_keeps {s0 : State} {s : State} (x2 : _) (x3 : _) (h : Keeps s0 s) : Keeps s0 (State.post s x2 x3) := by
  unfold State.post
  try dsimp only
  repeat' first | with_reducible assumption | intro _ | with_reducible (first | apply State.pokeOwn_keeps) | with_reducible apply Keeps.cond | with_reducible apply Keeps.foldl | (fail_if_no_progress with_reducible refine Keeps.of_mk rfl rfl rfl rfl rfl rfl ?_) | with_reducible refine Keeps.of_free rfl rfl rfl rfl rfl (Nat.le_add_right _ _) ?_ | with_reducible refine Keeps.of_filter rfl rfl rfl rfl rfl rfl ?_ | split

theorem State.doCtxSubmit_keeps {s0 : State} {s : State} (x2 : _) (x3 : _) (h : Keeps s0 s) : Keeps s0 (State.doCtxSubmit s x2 x3) := by
  unfold State.doCtxSubmit
  try dsimp only
  repeat' first | with_reducible assumption | intro _ | with_reducible (first | apply State.descriptor_keeps | apply State.post_keeps | apply State.refuse_keeps | apply State.bump_keeps) | with_reducible apply Keeps.cond | with_reducible apply Keeps.foldl | (fail_if_no_progress with_reducible refine Keeps.of_mk rfl rfl rfl rfl rfl rfl ?_) | with_reducible refine Keeps.of_free rfl rfl rfl rfl rfl (Nat.le_add_right _ _) ?_ | with_reducible refine Keeps.of_filter rfl rfl rfl rfl rfl rfl ?_ | split

theorem State.acceptMsLoad_keeps {s0 : State} {s : State} (x2 : _) (h : Keeps s0 s) : Keeps s0 (State.acceptMsLoad s x2) := by
  unfold State.acceptMsLoad
  try dsimp only
  repeat' first | with_reducible assumption | intro _ | with_reducible (first | apply State.journal_keeps) | with_reducible apply Keeps.cond | with_reducible apply Keeps.foldl | (fail_if_no_progress with_reducible refine Keeps.of_mk rfl rfl rfl rfl rfl rfl ?_) | with_reducible refine Keeps.of_free rfl rfl rfl rfl rfl (Nat.le_add_right _ _) ?_ | with_reducible refine Keeps.of_filter rfl rfl rfl rfl rfl rfl ?_ | split

theorem State.doMsLoad_keeps {s0 : State} {s : State} (x2 : _) (x3 : _) (h : Keeps s0 s) : Keeps s0 (State.doMsLoad s x2 x3) := by
  unfold State.doMsLoad
  try dsimp only
  repeat' first | with_reducible assumption | intro _ | with_reducible (first | apply State.descriptor_keeps | apply State.refuse_keeps | apply State.holdInput_keeps | apply State.acceptMsLoad_keeps) | with_reducible apply Keeps.cond | with_reducible apply Keeps.foldl | (fail_if_no_progress with_reducible refine Keeps.of_mk rfl rfl rfl rfl rfl rfl ?_) | with_reducible refine Keeps.of_free rfl rfl rfl rfl rfl (Nat.le_add_right _ _) ?_ | with_reducible refine Keeps.of_filter rfl rfl rfl rfl rfl rfl ?_ | split

theorem State.doSynSignal_keeps {s0 : State} {s : State} (x2 : _) (x3 : _) (h : Keeps s0 s) : Keeps s0 (State.doSynSignal s x2 x3) := by
  unfold State.doSynSignal
  try dsimp only
  repeat' first | with_reducible assumption | intro _ | with_reducible (first | apply State.descriptor_keeps | apply State.refuse_keeps | apply State.synAdd_keeps | apply State.succeed_keeps | apply State.setObj_keeps) | with_reducible apply Keeps.cond | with_reducible apply Keeps.foldl | (fail_if_no_progress with_reducible refine Keeps.of_mk rfl rfl rfl rfl rfl rfl ?_) | with_reducible refine Keeps.of_free rfl rfl rfl rfl rfl (Nat.le_add_right _ _) ?_ | with_reducible refine Keeps.of_filter rfl rfl rfl rfl rfl rfl ?_ | split

theorem State.acceptSynSet_keeps {s0 : State} {s : State} (x2 : _) (x3 : _) (x4 : _) (x5 : _) (x6 : _) (x7 : _) (h : Keeps s0 s) : Keeps s0 (State.acceptSynSet s x2 x3 x4 x5 x6 x7) := by
  unfold State.acceptSynSet
  try dsimp only
  repeat' first | with_reducible assumption | intro _ | with_reducible (first | apply State.setObj_keeps | apply State.journal_keeps | apply State.endCommand_keeps | apply State.complete_keeps) | with_reducible apply Keeps.cond | with_reducible apply Keeps.foldl | (fail_if_no_progress with_reducible refine Keeps.of_mk rfl rfl rfl rfl rfl rfl ?_) | with_reducible refine Keeps.of_free rfl rfl rfl rfl rfl (Nat.le_add_right _ _) ?_ | with_reducible refine Keeps.of_filter rfl rfl rfl rfl rfl rfl ?_ | split

theorem State.doSynSet_keeps {s0 : State} {s : State} (x2 : _) (x3 : _) (h : Keeps s0 s) : Keeps s0 (State.doSynSet s x2 x3) := by
  unfold State.doSynSet
  try dsimp only
  repeat' first | with_reducible assumption | intro _ | with_reducible (first | apply State.descriptor_keeps | apply State.refuse_keeps | apply State.holdInput_keeps | apply State.acceptSynSet_keeps) | with_reducible apply Keeps.cond | with_reducible apply Keeps.foldl | (fail_if_no_progress with_reducible refine Keeps.of_mk rfl rfl rfl rfl rfl rfl ?_) | with_reducible refine Keeps.of_free rfl rfl rfl rfl rfl (Nat.le_add_right _ _) ?_ | with_reducible refine Keeps.of_filter rfl rfl rfl rfl rfl rfl ?_ | split

theorem State.doSynWait_keeps {s0 : State} {s : State} (x2 : _) (x3 : _) (h : Keeps s0 s) : Keeps s0 (State.doSynWait s x2 x3) := by
  unfold State.doSynWait
  try dsimp only
  repeat' first | with_reducible assumption | intro _ | with_reducible (first | apply State.descriptor_keeps | apply State.refuse_keeps) | with_reducible apply Keeps.cond | with_reducible apply Keeps.foldl | (fail_if_no_progress with_reducible refine Keeps.of_mk rfl rfl rfl rfl rfl rfl ?_) | with_reducible refine Keeps.of_free rfl rfl rfl rfl rfl (Nat.le_add_right _ _) ?_ | with_reducible refine Keeps.of_filter rfl rfl rfl rfl rfl rfl ?_ | split

theorem State.doSynWaitTimeout_keeps {s0 : State} {s : State} (x2 : _) (x3 : _) (h : Keeps s0 s) : Keeps s0 (State.doSynWaitTimeout s x2 x3) := by
  unfold State.doSynWaitTimeout
  try dsimp only
  repeat' first | with_reducible assumption | intro _ | with_reducible (first | apply State.complete_keeps) | with_reducible apply Keeps.cond | with_reducible apply Keeps.foldl | (fail_if_no_progress with_reducible refine Keeps.of_mk rfl rfl rfl rfl rfl rfl ?_) | with_reducible refine Keeps.of_free rfl rfl rfl rfl rfl (Nat.le_add_right _ _) ?_ | with_reducible refine Keeps.of_filter rfl rfl rfl rfl rfl rfl ?_ | split

theorem State.doEpochMark_keeps {s0 : State} {s : State} (x2 : _) (x3 : _) (h : Keeps s0 s) : Keeps s0 (State.doEpochMark s x2 x3) := by
  unfold State.doEpochMark
  try dsimp only
  repeat' first | with_reducible assumption | intro _ | with_reducible (first | apply State.descriptor_keeps | apply State.succeed_keeps) | with_reducible apply Keeps.cond | with_reducible apply Keeps.foldl | (fail_if_no_progress with_reducible refine Keeps.of_mk rfl rfl rfl rfl rfl rfl ?_) | with_reducible refine Keeps.of_free rfl rfl rfl rfl rfl (Nat.le_add_right _ _) ?_ | with_reducible refine Keeps.of_filter rfl rfl rfl rfl rfl rfl ?_ | split

theorem State.movePiece_keeps {s0 : State} {s : State} (x2 : _) (x3 : _) (x4 : _) (h : Keeps s0 s) : Keeps s0 (State.movePiece s x2 x3 x4) := by
  unfold State.movePiece
  try dsimp only
  repeat' first | with_reducible assumption | intro _ | with_reducible (first | apply State.touch_keeps | apply State.emit_keeps | apply State.store_keeps) | with_reducible apply Keeps.cond | with_reducible apply Keeps.foldl | (fail_if_no_progress with_reducible refine Keeps.of_mk rfl rfl rfl rfl rfl rfl ?_) | with_reducible refine Keeps.of_free rfl rfl rfl rfl rfl (Nat.le_add_right _ _) ?_ | with_reducible refine Keeps.of_filter rfl rfl rfl rfl rfl rfl ?_ | split

theorem State.sendCopy_keeps {s0 : State} {s : State} (x2 : _) (h : Keeps s0 s) : Keeps s0 (State.sendCopy s x2) := by
  unfold State.sendCopy
  try dsimp only
  repeat' first | with_reducible assumption | intro _ | with_reducible (first | apply State.setChan_keeps | apply State.movePiece_keeps) | with_reducible apply Keeps.cond | with_reducible apply Keeps.foldl | (fail_if_no_progress with_reducible refine Keeps.of_mk rfl rfl rfl rfl rfl rfl ?_) | with_reducible refine Keeps.of_free rfl rfl rfl rfl rfl (Nat.le_add_right _ _) ?_ | with_reducible refine Keeps.of_filter rfl rfl rfl rfl rfl rfl ?_ | split

theorem State.endCopy_keeps {s0 : State} {s : State} (x2 : _) (x3 : _) (h : Keeps s0 s) : Keeps s0 (State.endCopy s x2 x3) := by
  unfold State.endCopy
  try dsimp only
  repeat' first | with_reducible assumption | intro _ | with_reducible (first | apply State.dropUnits_keeps | apply State.endCommand_keeps | apply State.complete_keeps) | with_reducible apply Keeps.cond | with_reducible apply Keeps.foldl | (fail_if_no_progress with_reducible refine Keeps.of_mk rfl rfl rfl rfl rfl rfl ?_) | with_reducible refine Keeps.of_free rfl rfl rfl rfl rfl (Nat.le_add_right _ _) ?_ | with_reducible refine Keeps.of_filter rfl rfl rfl rfl rfl rfl ?_ | split

theorem State.doCopy_keeps {s0 : State} {s : State} (x2 : _) (x3 : _) (x4 : _) (h : Keeps s0 s) : Keeps s0 (State.doCopy s x2 x3 x4) := by
  unfold State.doCopy
  try dsimp only
  repeat' first | with_reducible assumption | intro _ | with_reducible (first | apply State.descriptor_keeps | apply State.refuse_keeps | apply State.recordAccess_keeps | apply State.sendCopy_keeps) | with_reducible apply Keeps.cond | with_reducible apply Keeps.foldl | (fail_if_no_progress with_reducible refine Keeps.of_mk rfl rfl rfl rfl rfl rfl ?_) | with_reducible refine Keeps.of_free rfl rfl rfl rfl rfl (Nat.le_add_right _ _) ?_ | with_reducible refine Keeps.of_filter rfl rfl rfl rfl rfl rfl ?_ | split

theorem State.doCopyComplete_keeps {s0 : State} {s : State} (x2 : _) (x3 : _) (x4 : _) (h : Keeps s0 s) : Keeps s0 (State.doCopyComplete s x2 x3 x4) := by
  unfold State.doCopyComplete
  try dsimp only
  repeat' first | with_reducible assumption | intro _ | with_reducible (first | apply State.endCopy_keeps) | with_reducible apply Keeps.cond | with_reducible apply Keeps.foldl | (fail_if_no_progress with_reducible refine Keeps.of_mk rfl rfl rfl rfl rfl rfl ?_) | with_reducible refine Keeps.of_free rfl rfl rfl rfl rfl (Nat.le_add_right _ _) ?_ | with_reducible refine Keeps.of_filter rfl rfl rfl rfl rfl rfl ?_ | split

theorem State.doOpenSlotAccess_keeps {s0 : State} {s : State} (x2 : _) (h : Keeps s0 s) : Keeps s0 (State.doOpenSlotAccess s x2) := by
  unfold State.doOpenSlotAccess
  try dsimp only
  repeat' first | with_reducible assumption | intro _ | with_reducible (first | apply State.setChan_keeps | apply State.poke_keeps | apply State.endCopy_keeps | apply State.movePiece_keeps) | with_reducible apply Keeps.cond | with_reducible apply Keeps.foldl | (fail_if_no_progress with_reducible refine Keeps.of_mk rfl rfl rfl rfl rfl rfl ?_) | with_reducible refine Keeps.of_free rfl rfl rfl rfl rfl (Nat.le_add_right _ _) ?_ | with_reducible refine Keeps.of_filter rfl rfl rfl rfl rfl rfl ?_ | split

theorem State.doRetrainDone_keeps {s0 : State} {s : State} (x2 : _) (x3 : _) (h : Keeps s0 s) : Keeps s0 (State.doRetrainDone s x2 x3) := by
  unfold State.doRetrainDone
  try dsimp only
  repeat' first | with_reducible assumption | intro _ | with_reducible (first | apply State.setChan_keeps | apply State.loseGroup_keeps | apply State.endCopy_keeps) | with_reducible apply Keeps.cond | with_reducible apply Keeps.foldl | (fail_if_no_progress with_reducible refine Keeps.of_mk rfl rfl rfl rfl rfl rfl ?_) | with_reducible refine Keeps.of_free rfl rfl rfl rfl rfl (Nat.le_add_right _ _) ?_ | with_reducible refine Keeps.of_filter rfl rfl rfl rfl rfl rfl ?_ | split

theorem State.doSqTail_keeps {s0 : State} {s : State} (x2 : _) (x3 : _) (x4 : _) (x5 : _) (x6 : _) (h : Keeps s0 s) : Keeps s0 (State.doSqTail s x2 x3 x4 x5 x6) := by
  unfold State.doSqTail
  try dsimp only
  repeat' first | with_reducible assumption | intro _ | with_reducible (first | apply State.hifDrop_keeps | apply State.setRing_keeps | apply State.stopRing_keeps) | with_reducible apply Keeps.cond | with_reducible apply Keeps.foldl | (fail_if_no_progress with_reducible refine Keeps.of_mk rfl rfl rfl rfl rfl rfl ?_) | with_reducible refine Keeps.of_free rfl rfl rfl rfl rfl (Nat.le_add_right _ _) ?_ | with_reducible refine Keeps.of_filter rfl rfl rfl rfl rfl rfl ?_ | split

theorem State.doCqHead_keeps {s0 : State} {s : State} (x2 : _) (x3 : _) (x4 : _) (x5 : _) (h : Keeps s0 s) : Keeps s0 (State.doCqHead s x2 x3 x4 x5) := by
  unfold State.doCqHead
  try dsimp only
  repeat' first | with_reducible assumption | intro _ | with_reducible (first | apply State.hifDrop_keeps | apply State.setRing_keeps | apply State.stopRing_keeps | apply State.tryInterrupt_keeps) | with_reducible apply Keeps.cond | with_reducible apply Keeps.foldl | (fail_if_no_progress with_reducible refine Keeps.of_mk rfl rfl rfl rfl rfl rfl ?_) | with_reducible refine Keeps.of_free rfl rfl rfl rfl rfl (Nat.le_add_right _ _) ?_ | with_reducible refine Keeps.of_filter rfl rfl rfl rfl rfl rfl ?_ | split

theorem State.wakePort_keeps {s0 : State} {s : State} (x2 : _) (h : Keeps s0 s) : Keeps s0 (State.wakePort s x2) := by
  unfold State.wakePort
  try dsimp only
  repeat' first | with_reducible assumption | intro _ | with_reducible (first | apply State.setPort_keeps) | with_reducible apply Keeps.cond | with_reducible apply Keeps.foldl | (fail_if_no_progress with_reducible refine Keeps.of_mk rfl rfl rfl rfl rfl rfl ?_) | with_reducible refine Keeps.of_free rfl rfl rfl rfl rfl (Nat.le_add_right _ _) ?_ | with_reducible refine Keeps.of_filter rfl rfl rfl rfl rfl rfl ?_ | split

theorem State.writeResult_keeps {s0 : State} {s : State} (x2 : _) (x3 : _) (h : Keeps s0 s) : Keeps s0 (State.writeResult s x2 x3) := by
  unfold State.writeResult
  try dsimp only
  repeat' first | with_reducible assumption | intro _ | with_reducible (first | apply State.queueOwn_keeps | apply State.store_keeps | apply State.emit_keeps) | with_reducible apply Keeps.cond | with_reducible apply Keeps.foldl | (fail_if_no_progress with_reducible refine Keeps.of_mk rfl rfl rfl rfl rfl rfl ?_) | with_reducible refine Keeps.of_free rfl rfl rfl rfl rfl (Nat.le_add_right _ _) ?_ | with_reducible refine Keeps.of_filter rfl rfl rfl rfl rfl rfl ?_ | split

theorem State.writeCompletion_keeps {s0 : State} {s : State} (x2 : _) (x3 : _) (h : Keeps s0 s) : Keeps s0 (State.writeCompletion s x2 x3) := by
  unfold State.writeCompletion
  try dsimp only
  repeat' first | with_reducible assumption | intro _ | with_reducible (first | apply State.emit_keeps | apply State.setRing_keeps | apply State.tryInterrupt_keeps | apply State.endCommand_keeps) | with_reducible apply Keeps.cond | with_reducible apply Keeps.foldl | (fail_if_no_progress with_reducible refine Keeps.of_mk rfl rfl rfl rfl rfl rfl ?_) | with_reducible refine Keeps.of_free rfl rfl rfl rfl rfl (Nat.le_add_right _ _) ?_ | with_reducible refine Keeps.of_filter rfl rfl rfl rfl rfl rfl ?_ | split

theorem State.doCompletionPost_keeps {s0 : State} {s : State} (x2 : _) (x3 : _) (h : Keeps s0 s) : Keeps s0 (State.doCompletionPost s x2 x3) := by
  unfold State.doCompletionPost
  try dsimp only
  repeat' first | with_reducible assumption | intro _ | with_reducible (first | apply State.wakePort_keeps | apply State.writeResult_keeps | apply State.setRing_keeps | apply State.writeCompletion_keeps | apply State.record_keeps | apply State.freeCtx_keeps) | with_reducible apply Keeps.cond | with_reducible apply Keeps.foldl | (fail_if_no_progress with_reducible refine Keeps.of_mk rfl rfl rfl rfl rfl rfl ?_) | with_reducible refine Keeps.of_free rfl rfl rfl rfl rfl (Nat.le_add_right _ _) ?_ | with_reducible refine Keeps.of_filter rfl rfl rfl rfl rfl rfl ?_ | split

theorem State.doCqWaitTimeout_keeps {s0 : State} {s : State} (x2 : _) (h : Keeps s0 s) : Keeps s0 (State.doCqWaitTimeout s x2) := by
  unfold State.doCqWaitTimeout
  try dsimp only
  repeat' first | with_reducible assumption | intro _ | with_reducible (first | apply State.record_keeps | apply State.setRing_keeps) | with_reducible apply Keeps.cond | with_reducible apply Keeps.foldl | (fail_if_no_progress with_reducible refine Keeps.of_mk rfl rfl rfl rfl rfl rfl ?_) | with_reducible refine Keeps.of_free rfl rfl rfl rfl rfl (Nat.le_add_right _ _) ?_ | with_reducible refine Keeps.of_filter rfl rfl rfl rfl rfl rfl ?_ | split

theorem State.doModerationTimeout_keeps {s0 : State} {s : State} (x2 : _) (h : Keeps s0 s) : Keeps s0 (State.doModerationTimeout s x2) := by
  unfold State.doModerationTimeout
  try dsimp only
  repeat' first | with_reducible assumption | intro _ | with_reducible (first | apply State.tryInterrupt_keeps | apply State.setRing_keeps) | with_reducible apply Keeps.cond | with_reducible apply Keeps.foldl | (fail_if_no_progress with_reducible refine Keeps.of_mk rfl rfl rfl rfl rfl rfl ?_) | with_reducible refine Keeps.of_free rfl rfl rfl rfl rfl (Nat.le_add_right _ _) ?_ | with_reducible refine Keeps.of_filter rfl rfl rfl rfl rfl rfl ?_ | split

theorem State.doMsixUnmask_keeps {s0 : State} {s : State} (x2 : _) (x3 : _) (h : Keeps s0 s) : Keeps s0 (State.doMsixUnmask s x2 x3) := by
  unfold State.doMsixUnmask
  try dsimp only
  repeat' first | with_reducible assumption | intro _ | with_reducible (first | apply State.emit_keeps) | with_reducible apply Keeps.cond | with_reducible apply Keeps.foldl | (fail_if_no_progress with_reducible refine Keeps.of_mk rfl rfl rfl rfl rfl rfl ?_) | with_reducible refine Keeps.of_free rfl rfl rfl rfl rfl (Nat.le_add_right _ _) ?_ | with_reducible refine Keeps.of_filter rfl rfl rfl rfl rfl rfl ?_ | split

theorem State.coldRings_keeps {s0 : State} {s : State} (x2 : _) (h : Keeps s0 s) : Keeps s0 (State.coldRings s x2) := by
  unfold State.coldRings
  try dsimp only
  repeat' first | with_reducible assumption | with_reducible apply Keeps.cond | with_reducible apply Keeps.foldl | (fail_if_no_progress with_reducible refine Keeps.of_mk rfl rfl rfl rfl rfl rfl ?_) | with_reducible refine Keeps.of_free rfl rfl rfl rfl rfl (Nat.le_add_right _ _) ?_ | with_reducible refine Keeps.of_filter rfl rfl rfl rfl rfl rfl ?_ | (with_reducible first | exact id | exact Mem.wf_clear _ _ | exact Mem.wf_filter _ | exact regsWf_filter _ | exact fun k => Mem.wf_setBytes _ _ (Mem.wf_clear _ _ k) | exact fun k => Mem.wf_foldl _ (Mem.wf_clear _ _ k) | exact fun _ => Keeps.reset_mem | exact fun _ => Keeps.reset_regs | exact fun _ => Keeps.nil_mem) | with_reducible refine Keeps.of_data rfl rfl ?_ ?_ rfl rfl ?_ | refine Keeps.of_data rfl rfl ?_ ?_ (by simp only [Fuses.fixed]) rfl ?_ | intro _ | split

theorem State.resetCtx_keeps {s0 : State} {s : State} (x2 : _) (h : Keeps s0 s) : Keeps s0 (State.resetCtx s x2) := by
  unfold State.resetCtx
  try dsimp only
  repeat' first | with_reducible assumption | intro _ | with_reducible (first | apply State.modCtx_keeps | apply State.freeCtx_keeps | apply State.unqueue_keeps) | with_reducible apply Keeps.cond | with_reducible apply Keeps.foldl | (fail_if_no_progress with_reducible refine Keeps.of_mk rfl rfl rfl rfl rfl rfl ?_) | with_reducible refine Keeps.of_free rfl rfl rfl rfl rfl (Nat.le_add_right _ _) ?_ | with_reducible refine Keeps.of_filter rfl rfl rfl rfl rfl rfl ?_ | split

theorem State.dropCommands_keeps {s0 : State} {s : State} (x2 : _) (h : Keeps s0 s) : Keeps s0 (State.dropCommands s x2) := by
  unfold State.dropCommands
  try dsimp only
  repeat' first | with_reducible assumption | intro _ | with_reducible (first | apply State.resetCtx_keeps | apply State.dropUnits_keeps | apply State.endCommand_keeps | apply State.promote_keeps) | with_reducible apply Keeps.cond | with_reducible apply Keeps.foldl | (fail_if_no_progress with_reducible refine Keeps.of_mk rfl rfl rfl rfl rfl rfl ?_) | with_reducible refine Keeps.of_free rfl rfl rfl rfl rfl (Nat.le_add_right _ _) ?_ | with_reducible refine Keeps.of_filter rfl rfl rfl rfl rfl rfl ?_ | split

theorem State.resetRings_keeps {s0 : State} {s : State} (x2 : _) (h : Keeps s0 s) : Keeps s0 (State.resetRings s x2) := by
  unfold State.resetRings
  try dsimp only
  repeat' first | with_reducible assumption | intro _ | with_reducible (first | apply State.coldRings_keeps | apply State.dropCommands_keeps) | with_reducible apply Keeps.cond | with_reducible apply Keeps.foldl | (fail_if_no_progress with_reducible refine Keeps.of_mk rfl rfl rfl rfl rfl rfl ?_) | with_reducible refine Keeps.of_free rfl rfl rfl rfl rfl (Nat.le_add_right _ _) ?_ | with_reducible refine Keeps.of_filter rfl rfl rfl rfl rfl rfl ?_ | split

theorem State.coldMsix_keeps {s0 : State} {s : State} (x2 : _) (h : Keeps s0 s) : Keeps s0 (State.coldMsix s x2) := by
  unfold State.coldMsix
  try dsimp only
  repeat' first | with_reducible assumption | with_reducible apply Keeps.cond | with_reducible apply Keeps.foldl | (fail_if_no_progress with_reducible refine Keeps.of_mk rfl rfl rfl rfl rfl rfl ?_) | with_reducible refine Keeps.of_free rfl rfl rfl rfl rfl (Nat.le_add_right _ _) ?_ | with_reducible refine Keeps.of_filter rfl rfl rfl rfl rfl rfl ?_ | (with_reducible first | exact id | exact Mem.wf_clear _ _ | exact Mem.wf_filter _ | exact regsWf_filter _ | exact fun k => Mem.wf_setBytes _ _ (Mem.wf_clear _ _ k) | exact fun k => Mem.wf_foldl _ (Mem.wf_clear _ _ k) | exact fun _ => Keeps.reset_mem | exact fun _ => Keeps.reset_regs | exact fun _ => Keeps.nil_mem) | with_reducible refine Keeps.of_data rfl rfl ?_ ?_ rfl rfl ?_ | refine Keeps.of_data rfl rfl ?_ ?_ (by simp only [Fuses.fixed]) rfl ?_ | intro _ | split

theorem State.freeHostLocks_keeps {s0 : State} {s : State} (x2 : _) (h : Keeps s0 s) : Keeps s0 (State.freeHostLocks s x2) := by
  unfold State.freeHostLocks
  try dsimp only
  repeat' first | with_reducible assumption | intro _ | with_reducible apply Keeps.cond | with_reducible apply Keeps.foldl | (fail_if_no_progress with_reducible refine Keeps.of_mk rfl rfl rfl rfl rfl rfl ?_) | with_reducible refine Keeps.of_free rfl rfl rfl rfl rfl (Nat.le_add_right _ _) ?_ | with_reducible refine Keeps.of_filter rfl rfl rfl rfl rfl rfl ?_ | split

theorem State.resetFn_keeps {s0 : State} {s : State} (x2 : _) (h : Keeps s0 s) : Keeps s0 (State.resetFn s x2) := by
  unfold State.resetFn
  try dsimp only
  repeat' first | with_reducible assumption | intro _ | with_reducible (first | apply State.resetRings_keeps | apply State.coldMsix_keeps) | with_reducible apply Keeps.cond | with_reducible apply Keeps.foldl | (fail_if_no_progress with_reducible refine Keeps.of_mk rfl rfl rfl rfl rfl rfl ?_) | with_reducible refine Keeps.of_free rfl rfl rfl rfl rfl (Nat.le_add_right _ _) ?_ | with_reducible refine Keeps.of_filter rfl rfl rfl rfl rfl rfl ?_ | split

theorem State.clearVfs_keeps {s0 : State} {s : State} (h : Keeps s0 s) : Keeps s0 (State.clearVfs s) := by
  unfold State.clearVfs
  try dsimp only
  repeat' first | with_reducible assumption | intro _ | with_reducible (first | apply State.resetFn_keeps) | with_reducible apply Keeps.cond | with_reducible apply Keeps.foldl | (fail_if_no_progress with_reducible refine Keeps.of_mk rfl rfl rfl rfl rfl rfl ?_) | with_reducible refine Keeps.of_free rfl rfl rfl rfl rfl (Nat.le_add_right _ _) ?_ | with_reducible refine Keeps.of_filter rfl rfl rfl rfl rfl rfl ?_ | split

theorem State.coldWindows_keeps {s0 : State} {s : State} (h : Keeps s0 s) : Keeps s0 (State.coldWindows s) := by
  unfold State.coldWindows
  try dsimp only
  repeat' first | with_reducible assumption | with_reducible apply Keeps.cond | with_reducible apply Keeps.foldl | (fail_if_no_progress with_reducible refine Keeps.of_mk rfl rfl rfl rfl rfl rfl ?_) | with_reducible refine Keeps.of_free rfl rfl rfl rfl rfl (Nat.le_add_right _ _) ?_ | with_reducible refine Keeps.of_filter rfl rfl rfl rfl rfl rfl ?_ | (with_reducible first | exact id | exact Mem.wf_clear _ _ | exact Mem.wf_filter _ | exact regsWf_filter _ | exact fun k => Mem.wf_setBytes _ _ (Mem.wf_clear _ _ k) | exact fun k => Mem.wf_foldl _ (Mem.wf_clear _ _ k) | exact fun _ => Keeps.reset_mem | exact fun _ => Keeps.reset_regs | exact fun _ => Keeps.nil_mem) | with_reducible refine Keeps.of_data rfl rfl ?_ ?_ rfl rfl ?_ | refine Keeps.of_data rfl rfl ?_ ?_ (by simp only [Fuses.fixed]) rfl ?_ | intro _ | split

theorem State.doFlr_keeps {s0 : State} {s : State} (x2 : _) (h : Keeps s0 s) : Keeps s0 (State.doFlr s x2) := by
  unfold State.doFlr
  try dsimp only
  repeat' first | with_reducible assumption | intro _ | with_reducible (first | apply State.resetFn_keeps | apply State.freeHostLocks_keeps | apply State.coldWindows_keeps | apply State.clearVfs_keeps | apply State.journalReset_keeps) | with_reducible apply Keeps.cond | with_reducible apply Keeps.foldl | (fail_if_no_progress with_reducible refine Keeps.of_mk rfl rfl rfl rfl rfl rfl ?_) | with_reducible refine Keeps.of_free rfl rfl rfl rfl rfl (Nat.le_add_right _ _) ?_ | with_reducible refine Keeps.of_filter rfl rfl rfl rfl rfl rfl ?_ | split

theorem State.doVfEnable_keeps {s0 : State} {s : State} (x2 : _) (x3 : _) (h : Keeps s0 s) : Keeps s0 (State.doVfEnable s x2 x3) := by
  unfold State.doVfEnable
  try dsimp only
  repeat' first | with_reducible assumption | intro _ | with_reducible (first | apply State.clearVfs_keeps) | with_reducible apply Keeps.cond | with_reducible apply Keeps.foldl | (fail_if_no_progress with_reducible refine Keeps.of_mk rfl rfl rfl rfl rfl rfl ?_) | with_reducible refine Keeps.of_free rfl rfl rfl rfl rfl (Nat.le_add_right _ _) ?_ | with_reducible refine Keeps.of_filter rfl rfl rfl rfl rfl rfl ?_ | split

theorem State.doPerstAssert_keeps {s0 : State} {s : State} (x2 : _) (h : Keeps s0 s) : Keeps s0 (State.doPerstAssert s x2) := by
  unfold State.doPerstAssert
  try dsimp only
  repeat' first | with_reducible assumption | intro _ | with_reducible (first | apply State.setPort_keeps | apply State.freeHostLocks_keeps | apply State.resetRings_keeps | apply State.clearVfs_keeps | apply State.record_keeps) | with_reducible apply Keeps.cond | with_reducible apply Keeps.foldl | (fail_if_no_progress with_reducible refine Keeps.of_mk rfl rfl rfl rfl rfl rfl ?_) | with_reducible refine Keeps.of_free rfl rfl rfl rfl rfl (Nat.le_add_right _ _) ?_ | with_reducible refine Keeps.of_filter rfl rfl rfl rfl rfl rfl ?_ | split

theorem State.doPerstRelease_keeps {s0 : State} {s : State} (x2 : _) (h : Keeps s0 s) : Keeps s0 (State.doPerstRelease s x2) := by
  unfold State.doPerstRelease
  try dsimp only
  repeat' first | with_reducible assumption | intro _ | with_reducible (first | apply State.setPort_keeps) | with_reducible apply Keeps.cond | with_reducible apply Keeps.foldl | (fail_if_no_progress with_reducible refine Keeps.of_mk rfl rfl rfl rfl rfl rfl ?_) | with_reducible refine Keeps.of_free rfl rfl rfl rfl rfl (Nat.le_add_right _ _) ?_ | with_reducible refine Keeps.of_filter rfl rfl rfl rfl rfl rfl ?_ | split

theorem State.doD3Entry_keeps {s0 : State} {s : State} (x2 : _) (h : Keeps s0 s) : Keeps s0 (State.doD3Entry s x2) := by
  unfold State.doD3Entry
  try dsimp only
  repeat' first | with_reducible assumption | intro _ | with_reducible (first | apply State.record_keeps) | with_reducible apply Keeps.cond | with_reducible apply Keeps.foldl | (fail_if_no_progress with_reducible refine Keeps.of_mk rfl rfl rfl rfl rfl rfl ?_) | with_reducible refine Keeps.of_free rfl rfl rfl rfl rfl (Nat.le_add_right _ _) ?_ | with_reducible refine Keeps.of_filter rfl rfl rfl rfl rfl rfl ?_ | split

theorem State.doD3Exit_keeps {s0 : State} {s : State} (x2 : _) (h : Keeps s0 s) : Keeps s0 (State.doD3Exit s x2) := by
  unfold State.doD3Exit
  try dsimp only
  repeat' first | with_reducible assumption | intro _ | with_reducible (first | apply State.tryInterrupt_keeps) | with_reducible apply Keeps.cond | with_reducible apply Keeps.foldl | (fail_if_no_progress with_reducible refine Keeps.of_mk rfl rfl rfl rfl rfl rfl ?_) | with_reducible refine Keeps.of_free rfl rfl rfl rfl rfl (Nat.le_add_right _ _) ?_ | with_reducible refine Keeps.of_filter rfl rfl rfl rfl rfl rfl ?_ | split

theorem State.doL1Entry_keeps {s0 : State} {s : State} (x2 : _) (h : Keeps s0 s) : Keeps s0 (State.doL1Entry s x2) := by
  unfold State.doL1Entry
  try dsimp only
  repeat' first | with_reducible assumption | intro _ | with_reducible (first | apply State.setPort_keeps) | with_reducible apply Keeps.cond | with_reducible apply Keeps.foldl | (fail_if_no_progress with_reducible refine Keeps.of_mk rfl rfl rfl rfl rfl rfl ?_) | with_reducible refine Keeps.of_free rfl rfl rfl rfl rfl (Nat.le_add_right _ _) ?_ | with_reducible refine Keeps.of_filter rfl rfl rfl rfl rfl rfl ?_ | split

theorem State.doL1Exit_keeps {s0 : State} {s : State} (x2 : _) (h : Keeps s0 s) : Keeps s0 (State.doL1Exit s x2) := by
  unfold State.doL1Exit
  try dsimp only
  repeat' first | with_reducible assumption | intro _ | with_reducible (first | apply State.wakePort_keeps) | with_reducible apply Keeps.cond | with_reducible apply Keeps.foldl | (fail_if_no_progress with_reducible refine Keeps.of_mk rfl rfl rfl rfl rfl rfl ?_) | with_reducible refine Keeps.of_free rfl rfl rfl rfl rfl (Nat.le_add_right _ _) ?_ | with_reducible refine Keeps.of_filter rfl rfl rfl rfl rfl rfl ?_ | split

theorem State.doPtm_keeps {s0 : State} {s : State} (x2 : _) (x3 : _) (h : Keeps s0 s) : Keeps s0 (State.doPtm s x2 x3) := by
  unfold State.doPtm
  try dsimp only
  repeat' first | with_reducible assumption | intro _ | with_reducible (first | apply State.setDword_keeps) | with_reducible apply Keeps.cond | with_reducible apply Keeps.foldl | (fail_if_no_progress with_reducible refine Keeps.of_mk rfl rfl rfl rfl rfl rfl ?_) | with_reducible refine Keeps.of_free rfl rfl rfl rfl rfl (Nat.le_add_right _ _) ?_ | with_reducible refine Keeps.of_filter rfl rfl rfl rfl rfl rfl ?_ | split

theorem State.answer_keeps {s0 : State} {s : State} (x2 : _) (x3 : _) (h : Keeps s0 s) : Keeps s0 (State.answer s x2 x3) := by
  unfold State.answer
  try dsimp only
  repeat' first | with_reducible assumption | intro _ | with_reducible apply Keeps.cond | with_reducible apply Keeps.foldl | (fail_if_no_progress with_reducible refine Keeps.of_mk rfl rfl rfl rfl rfl rfl ?_) | with_reducible refine Keeps.of_free rfl rfl rfl rfl rfl (Nat.le_add_right _ _) ?_ | with_reducible refine Keeps.of_filter rfl rfl rfl rfl rfl rfl ?_ | split

theorem State.setKey_keeps {s0 : State} {s : State} (x2 : _) (x3 : _) (h : Keeps s0 s) : Keeps s0 (State.setKey s x2 x3) := by
  unfold State.setKey
  try dsimp only
  repeat' first | with_reducible assumption | intro _ | with_reducible apply Keeps.cond | with_reducible apply Keeps.foldl | (fail_if_no_progress with_reducible refine Keeps.of_mk rfl rfl rfl rfl rfl rfl ?_) | with_reducible refine Keeps.of_free rfl rfl rfl rfl rfl (Nat.le_add_right _ _) ?_ | with_reducible refine Keeps.of_filter rfl rfl rfl rfl rfl rfl ?_ | split

theorem State.journalCheck_keeps {s0 : State} {s : State} (x2 : _) (x3 : _) (h : Keeps s0 s) : Keeps s0 (State.journalCheck s x2 x3) := by
  unfold State.journalCheck
  try dsimp only
  repeat' first | with_reducible assumption | intro _ | with_reducible (first | apply State.journal_keeps) | with_reducible apply Keeps.cond | with_reducible apply Keeps.foldl | (fail_if_no_progress with_reducible refine Keeps.of_mk rfl rfl rfl rfl rfl rfl ?_) | with_reducible refine Keeps.of_free rfl rfl rfl rfl rfl (Nat.le_add_right _ _) ?_ | with_reducible refine Keeps.of_filter rfl rfl rfl rfl rfl rfl ?_ | split

theorem State.replyCrit_keeps {s0 : State} {s : State} (x2 : _) (x3 : _) (h : Keeps s0 s) : Keeps s0 (State.replyCrit s x2 x3) := by
  unfold State.replyCrit
  try dsimp only
  repeat' first | with_reducible assumption | intro _ | with_reducible (first | apply State.complete_keeps | apply State.answer_keeps) | with_reducible apply Keeps.cond | with_reducible apply Keeps.foldl | (fail_if_no_progress with_reducible refine Keeps.of_mk rfl rfl rfl rfl rfl rfl ?_) | with_reducible refine Keeps.of_free rfl rfl rfl rfl rfl (Nat.le_add_right _ _) ?_ | with_reducible refine Keeps.of_filter rfl rfl rfl rfl rfl rfl ?_ | split

theorem State.refuseCrit_keeps {s0 : State} {s : State} (x2 : _) (x3 : _) (h : Keeps s0 s) : Keeps s0 (State.refuseCrit s x2 x3) := by
  unfold State.refuseCrit
  try dsimp only
  repeat' first | with_reducible assumption | intro _ | with_reducible (first | apply State.replyCrit_keeps | apply State.journalCheck_keeps) | with_reducible apply Keeps.cond | with_reducible apply Keeps.foldl | (fail_if_no_progress with_reducible refine Keeps.of_mk rfl rfl rfl rfl rfl rfl ?_) | with_reducible refine Keeps.of_free rfl rfl rfl rfl rfl (Nat.le_add_right _ _) ?_ | with_reducible refine Keeps.of_filter rfl rfl rfl rfl rfl rfl ?_ | split

theorem State.endWork_keeps {s0 : State} {s : State} (x2 : _) (x3 : _) (h : Keeps s0 s) : Keeps s0 (State.endWork s x2 x3) := by
  unfold State.endWork
  try dsimp only
  repeat' first | with_reducible assumption | intro _ | with_reducible (first | apply State.journal_keeps | apply State.replyCrit_keeps) | with_reducible apply Keeps.cond | with_reducible apply Keeps.foldl | (fail_if_no_progress with_reducible refine Keeps.of_mk rfl rfl rfl rfl rfl rfl ?_) | with_reducible refine Keeps.of_free rfl rfl rfl rfl rfl (Nat.le_add_right _ _) ?_ | with_reducible refine Keeps.of_filter rfl rfl rfl rfl rfl rfl ?_ | split

theorem State.modLast_keeps {s0 : State} {s : State} (x2 : _) (x3 : _) (h : Keeps s0 s) : Keeps s0 (State.modLast s x2 x3) := by
  unfold State.modLast
  try dsimp only
  repeat' first | with_reducible assumption | intro _ | with_reducible apply Keeps.cond | with_reducible apply Keeps.foldl | (fail_if_no_progress with_reducible refine Keeps.of_mk rfl rfl rfl rfl rfl rfl ?_) | with_reducible refine Keeps.of_free rfl rfl rfl rfl rfl (Nat.le_add_right _ _) ?_ | with_reducible refine Keeps.of_filter rfl rfl rfl rfl rfl rfl ?_ | split

theorem State.nameLeaving_keeps {s0 : State} {s : State} (x2 : _) (x3 : _) (x4 : _) (x5 : _) (h : Keeps s0 s) : Keeps s0 (State.nameLeaving s x2 x3 x4 x5) := by
  unfold State.nameLeaving
  try dsimp only
  repeat' first | with_reducible assumption | intro _ | with_reducible apply Keeps.cond | with_reducible apply Keeps.foldl | (fail_if_no_progress with_reducible refine Keeps.of_mk rfl rfl rfl rfl rfl rfl ?_) | with_reducible refine Keeps.of_free rfl rfl rfl rfl rfl (Nat.le_add_right _ _) ?_ | with_reducible refine Keeps.of_filter rfl rfl rfl rfl rfl rfl ?_ | split

theorem State.workUnload_keeps {s0 : State} {s : State} (x2 : _) (h : Keeps s0 s) : Keeps s0 (State.workUnload s x2) := by
  unfold State.workUnload
  try dsimp only
  repeat' first | with_reducible assumption | intro _ | with_reducible (first | apply State.endWork_keeps | apply State.nameLeaving_keeps) | with_reducible apply Keeps.cond | with_reducible apply Keeps.foldl | (fail_if_no_progress with_reducible refine Keeps.of_mk rfl rfl rfl rfl rfl rfl ?_) | with_reducible refine Keeps.of_free rfl rfl rfl rfl rfl (Nat.le_add_right _ _) ?_ | with_reducible refine Keeps.of_filter rfl rfl rfl rfl rfl rfl ?_ | split

theorem State.burnTables_keeps {s0 : State} {s : State} (x2 : _) (x3 : _) (h : Keeps s0 s) : Keeps s0 (State.burnTables s x2 x3) := by
  unfold State.burnTables
  try dsimp only
  repeat' first | with_reducible assumption | intro _ | with_reducible apply Keeps.cond | with_reducible apply Keeps.foldl | (fail_if_no_progress with_reducible refine Keeps.of_mk rfl rfl rfl rfl rfl rfl ?_) | with_reducible refine Keeps.of_free rfl rfl rfl rfl rfl (Nat.le_add_right _ _) ?_ | with_reducible refine Keeps.of_filter rfl rfl rfl rfl rfl rfl ?_ | split

theorem State.workFuse_keeps {s0 : State} {s : State} (x2 : _) (h : Keeps s0 s) : Keeps s0 (State.workFuse s x2) := by
  unfold State.workFuse
  try dsimp only
  repeat' first | with_reducible assumption | intro _ | with_reducible (first | apply State.endWork_keeps | apply State.setLock_keeps | apply State.burnTables_keeps) | with_reducible apply Keeps.cond | with_reducible apply Keeps.foldl | (fail_if_no_progress with_reducible refine Keeps.of_mk rfl rfl rfl rfl rfl rfl ?_) | with_reducible refine Keeps.of_free rfl rfl rfl rfl rfl (Nat.le_add_right _ _) ?_ | with_reducible refine Keeps.of_filter rfl rfl rfl rfl rfl rfl ?_ | split

theorem State.beginWork_keeps {s0 : State} {s : State} (x2 : _) (h : Keeps s0 s) : Keeps s0 (State.beginWork s x2) := by
  unfold State.beginWork
  try dsimp only
  repeat' first | with_reducible assumption | intro _ | with_reducible (first | apply State.workUnload_keeps | apply State.workFuse_keeps | apply State.endWork_keeps | apply State.beginStore_keeps) | with_reducible apply Keeps.cond | with_reducible apply Keeps.foldl | (fail_if_no_progress with_reducible refine Keeps.of_mk rfl rfl rfl rfl rfl rfl ?_) | with_reducible refine Keeps.of_free rfl rfl rfl rfl rfl (Nat.le_add_right _ _) ?_ | with_reducible refine Keeps.of_filter rfl rfl rfl rfl rfl rfl ?_ | split

theorem State.startWork_keeps {s0 : State} {s : State} (h : Keeps s0 s) : Keeps s0 (State.startWork s) := by
  unfold State.startWork
  try dsimp only
  repeat' first | with_reducible assumption | intro _ | with_reducible (first | apply State.beginWork_keeps) | with_reducible apply Keeps.cond | with_reducible apply Keeps.foldl | (fail_if_no_progress with_reducible refine Keeps.of_mk rfl rfl rfl rfl rfl rfl ?_) | with_reducible refine Keeps.of_free rfl rfl rfl rfl rfl (Nat.le_add_right _ _) ?_ | with_reducible refine Keeps.of_filter rfl rfl rfl rfl rfl rfl ?_ | split

theorem State.acceptCrit_keeps {s0 : State} {s : State} (x2 : _) (h : Keeps s0 s) : Keeps s0 (State.acceptCrit s x2) := by
  unfold State.acceptCrit
  try dsimp only
  repeat' first | with_reducible assumption | intro _ | with_reducible (first | apply State.journalCheck_keeps | apply State.setKey_keeps | apply State.startWork_keeps) | with_reducible apply Keeps.cond | with_reducible apply Keeps.foldl | (fail_if_no_progress with_reducible refine Keeps.of_mk rfl rfl rfl rfl rfl rfl ?_) | with_reducible refine Keeps.of_free rfl rfl rfl rfl rfl (Nat.le_add_right _ _) ?_ | with_reducible refine Keeps.of_filter rfl rfl rfl rfl rfl rfl ?_ | split

theorem State.macFailed_keeps {s0 : State} {s : State} (x2 : _) (h : Keeps s0 s) : Keeps s0 (State.macFailed s x2) := by
  unfold State.macFailed
  try dsimp only
  repeat' first | with_reducible assumption | intro _ | with_reducible (first | apply State.setKey_keeps | apply State.record_keeps) | with_reducible apply Keeps.cond | with_reducible apply Keeps.foldl | (fail_if_no_progress with_reducible refine Keeps.of_mk rfl rfl rfl rfl rfl rfl ?_) | with_reducible refine Keeps.of_free rfl rfl rfl rfl rfl (Nat.le_add_right _ _) ?_ | with_reducible refine Keeps.of_filter rfl rfl rfl rfl rfl rfl ?_ | split

theorem State.checkCrit_keeps {s0 : State} {s : State} (x2 : _) (h : Keeps s0 s) : Keeps s0 (State.checkCrit s x2) := by
  unfold State.checkCrit
  try dsimp only
  repeat' first | with_reducible assumption | intro _ | with_reducible (first | apply State.refuseCrit_keeps | apply State.macFailed_keeps | apply State.setKey_keeps | apply State.beginStore_keeps | apply State.acceptCrit_keeps) | with_reducible apply Keeps.cond | with_reducible apply Keeps.foldl | (fail_if_no_progress with_reducible refine Keeps.of_mk rfl rfl rfl rfl rfl rfl ?_) | with_reducible refine Keeps.of_free rfl rfl rfl rfl rfl (Nat.le_add_right _ _) ?_ | with_reducible refine Keeps.of_filter rfl rfl rfl rfl rfl rfl ?_ | split

theorem State.runQueue_keeps {s0 s : State} (n : Nat) (h : Keeps s0 s) : Keeps s0 (State.runQueue n s) := by
  induction n generalizing s with
  | zero => exact h
  | succ n ih =>
    unfold State.runQueue
    split
    · exact ih (State.checkCrit_keeps _ (Keeps.of_mk rfl rfl rfl rfl rfl rfl h))
    · exact h

theorem State.runChecks_keeps {s0 : State} {s : State} (h : Keeps s0 s) : Keeps s0 (State.runChecks s) := by
  unfold State.runChecks
  try dsimp only
  repeat' first | with_reducible assumption | intro _ | with_reducible (first | apply State.runQueue_keeps) | with_reducible apply Keeps.cond | with_reducible apply Keeps.foldl | (fail_if_no_progress with_reducible refine Keeps.of_mk rfl rfl rfl rfl rfl rfl ?_) | with_reducible refine Keeps.of_free rfl rfl rfl rfl rfl (Nat.le_add_right _ _) ?_ | with_reducible refine Keeps.of_filter rfl rfl rfl rfl rfl rfl ?_ | split

theorem State.enterCrit_keeps {s0 : State} {s : State} (x2 : _) (h : Keeps s0 s) : Keeps s0 (State.enterCrit s x2) := by
  unfold State.enterCrit
  try dsimp only
  repeat' first | with_reducible assumption | intro _ | with_reducible (first | apply State.holdInput_keeps | apply State.runChecks_keeps) | with_reducible apply Keeps.cond | with_reducible apply Keeps.foldl | (fail_if_no_progress with_reducible refine Keeps.of_mk rfl rfl rfl rfl rfl rfl ?_) | with_reducible refine Keeps.of_free rfl rfl rfl rfl rfl (Nat.le_add_right _ _) ?_ | with_reducible refine Keeps.of_filter rfl rfl rfl rfl rfl rfl ?_ | split

theorem State.doCritical_keeps {s0 : State} {s : State} (x2 : _) (x3 : _) (x4 : _) (x5 : _) (h : Keeps s0 s) : Keeps s0 (State.doCritical s x2 x3 x4 x5) := by
  unfold State.doCritical
  try dsimp only
  repeat' first | with_reducible assumption | intro _ | with_reducible (first | apply State.enterCrit_keeps | apply State.takeDescriptor_keeps) | with_reducible apply Keeps.cond | with_reducible apply Keeps.foldl | (fail_if_no_progress with_reducible refine Keeps.of_mk rfl rfl rfl rfl rfl rfl ?_) | with_reducible refine Keeps.of_free rfl rfl rfl rfl rfl (Nat.le_add_right _ _) ?_ | with_reducible refine Keeps.of_filter rfl rfl rfl rfl rfl rfl ?_ | split

theorem State.doMarkStored_keeps {s0 : State} {s : State} (x2 : _) (h : Keeps s0 s) : Keeps s0 (State.doMarkStored s x2) := by
  unfold State.doMarkStored
  try dsimp only
  repeat' first | with_reducible assumption | intro _ | with_reducible (first | apply State.acceptCrit_keeps | apply State.endStore_keeps | apply State.programMark_keeps | apply State.setKey_keeps | apply State.refuseCrit_keeps | apply State.runChecks_keeps) | with_reducible apply Keeps.cond | with_reducible apply Keeps.foldl | (fail_if_no_progress with_reducible refine Keeps.of_mk rfl rfl rfl rfl rfl rfl ?_) | with_reducible refine Keeps.of_free rfl rfl rfl rfl rfl (Nat.le_add_right _ _) ?_ | with_reducible refine Keeps.of_filter rfl rfl rfl rfl rfl rfl ?_ | split

theorem State.doUnlock_keeps {s0 : State} {s : State} (x2 : _) (h : Keeps s0 s) : Keeps s0 (State.doUnlock s x2) := by
  unfold State.doUnlock
  try dsimp only
  repeat' first | with_reducible assumption | intro _ | with_reducible (first | apply State.setKey_keeps) | with_reducible apply Keeps.cond | with_reducible apply Keeps.foldl | (fail_if_no_progress with_reducible refine Keeps.of_mk rfl rfl rfl rfl rfl rfl ?_) | with_reducible refine Keeps.of_free rfl rfl rfl rfl rfl (Nat.le_add_right _ _) ?_ | with_reducible refine Keeps.of_filter rfl rfl rfl rfl rfl rfl ?_ | split

theorem State.doKeyStored_keeps {s0 : State} {s : State} (h : Keeps s0 s) : Keeps s0 (State.doKeyStored s) := by
  unfold State.doKeyStored
  try dsimp only
  repeat' first | with_reducible assumption | intro _ | with_reducible (first | apply State.setKey_keeps | apply State.endStore_keeps | apply State.endWork_keeps | apply State.programKeys_keeps) | with_reducible apply Keeps.cond | with_reducible apply Keeps.foldl | (fail_if_no_progress with_reducible refine Keeps.of_mk rfl rfl rfl rfl rfl rfl ?_) | with_reducible refine Keeps.of_free rfl rfl rfl rfl rfl (Nat.le_add_right _ _) ?_ | with_reducible refine Keeps.of_filter rfl rfl rfl rfl rfl rfl ?_ | split

theorem State.doFwDone_keeps {s0 : State} {s : State} (h : Keeps s0 s) : Keeps s0 (State.doFwDone s) := by
  unfold State.doFwDone
  try dsimp only
  repeat' first | with_reducible assumption | intro _ | with_reducible (first | apply State.endWork_keeps | apply State.storeBoot_keeps) | with_reducible apply Keeps.cond | with_reducible apply Keeps.foldl | (fail_if_no_progress with_reducible refine Keeps.of_mk rfl rfl rfl rfl rfl rfl ?_) | with_reducible refine Keeps.of_free rfl rfl rfl rfl rfl (Nat.le_add_right _ _) ?_ | with_reducible refine Keeps.of_filter rfl rfl rfl rfl rfl rfl ?_ | split

end Sys2Proof.Machine
end

