-- ==== Sys2Proof/Laws/KeepsLink.lean ====
section
/-! SUPPORT. Every operation of the machine keeps what Keeps says: bridges, the fabric and the link layer. -/

set_option linter.unusedTactic false
set_option linter.unreachableTactic false

namespace Sys2Proof.Machine

theorem State.setLnk_keeps {s0 : State} {s : State} (x2 : _) (x3 : _) (h : Keeps s0 s) : Keeps s0 (State.setLnk s x2 x3) := by
  unfold State.setLnk
  try dsimp only
  repeat' first | with_reducible assumption | intro _ | with_reducible apply Keeps.cond | with_reducible apply Keeps.foldl | (fail_if_no_progress with_reducible refine Keeps.of_mk rfl rfl rfl rfl rfl rfl ?_) | with_reducible refine Keeps.of_free rfl rfl rfl rfl rfl (Nat.le_add_right _ _) ?_ | with_reducible refine Keeps.of_filter rfl rfl rfl rfl rfl rfl ?_ | split

theorem State.setLkk_keeps {s0 : State} {s : State} (x2 : _) (x3 : _) (h : Keeps s0 s) : Keeps s0 (State.setLkk s x2 x3) := by
  unfold State.setLkk
  try dsimp only
  repeat' first | with_reducible assumption | intro _ | with_reducible apply Keeps.cond | with_reducible apply Keeps.foldl | (fail_if_no_progress with_reducible refine Keeps.of_mk rfl rfl rfl rfl rfl rfl ?_) | with_reducible refine Keeps.of_free rfl rfl rfl rfl rfl (Nat.le_add_right _ _) ?_ | with_reducible refine Keeps.of_filter rfl rfl rfl rfl rfl rfl ?_ | split

theorem State.setShutter_keeps {s0 : State} {s : State} (x2 : _) (x3 : _) (h : Keeps s0 s) : Keeps s0 (State.setShutter s x2 x3) := by
  unfold State.setShutter
  try dsimp only
  repeat' first | with_reducible assumption | intro _ | with_reducible apply Keeps.cond | with_reducible apply Keeps.foldl | (fail_if_no_progress with_reducible refine Keeps.of_mk rfl rfl rfl rfl rfl rfl ?_) | with_reducible refine Keeps.of_free rfl rfl rfl rfl rfl (Nat.le_add_right _ _) ?_ | with_reducible refine Keeps.of_filter rfl rfl rfl rfl rfl rfl ?_ | split

theorem State.setLaneCal_keeps {s0 : State} {s : State} (x2 : _) (x3 : _) (x4 : _) (h : Keeps s0 s) : Keeps s0 (State.setLaneCal s x2 x3 x4) := by
  unfold State.setLaneCal
  try dsimp only
  repeat' first | with_reducible assumption | intro _ | with_reducible apply Keeps.cond | with_reducible apply Keeps.foldl | (fail_if_no_progress with_reducible refine Keeps.of_mk rfl rfl rfl rfl rfl rfl ?_) | with_reducible refine Keeps.of_free rfl rfl rfl rfl rfl (Nat.le_add_right _ _) ?_ | with_reducible refine Keeps.of_filter rfl rfl rfl rfl rfl rfl ?_ | split

theorem State.setCalGroup_keeps {s0 : State} {s : State} (x2 : _) (x3 : _) (h : Keeps s0 s) : Keeps s0 (State.setCalGroup s x2 x3) := by
  unfold State.setCalGroup
  try dsimp only
  repeat' first | with_reducible assumption | intro _ | with_reducible apply Keeps.cond | with_reducible apply Keeps.foldl | (fail_if_no_progress with_reducible refine Keeps.of_mk rfl rfl rfl rfl rfl rfl ?_) | with_reducible refine Keeps.of_free rfl rfl rfl rfl rfl (Nat.le_add_right _ _) ?_ | with_reducible refine Keeps.of_filter rfl rfl rfl rfl rfl rfl ?_ | split

theorem State.frameStart_keeps {s0 : State} {s : State} (x2 : _) (h : Keeps s0 s) : Keeps s0 (State.frameStart s x2) := by
  unfold State.frameStart
  try dsimp only
  repeat' first | with_reducible assumption | intro _ | with_reducible (first | apply State.setLnk_keeps | apply State.emit_keeps) | with_reducible apply Keeps.cond | with_reducible apply Keeps.foldl | (fail_if_no_progress with_reducible refine Keeps.of_mk rfl rfl rfl rfl rfl rfl ?_) | with_reducible refine Keeps.of_free rfl rfl rfl rfl rfl (Nat.le_add_right _ _) ?_ | with_reducible refine Keeps.of_filter rfl rfl rfl rfl rfl rfl ?_ | split

theorem State.sendWords_keeps {s0 : State} {s : State} (x2 : _) (x3 : _) (h : Keeps s0 s) : Keeps s0 (State.sendWords s x2 x3) := by
  unfold State.sendWords
  try dsimp only
  repeat' first | with_reducible assumption | intro _ | with_reducible (first | apply State.frameStart_keeps | apply State.setLnk_keeps | apply State.emit_keeps) | with_reducible apply Keeps.cond | with_reducible apply Keeps.foldl | (fail_if_no_progress with_reducible refine Keeps.of_mk rfl rfl rfl rfl rfl rfl ?_) | with_reducible refine Keeps.of_free rfl rfl rfl rfl rfl (Nat.le_add_right _ _) ?_ | with_reducible refine Keeps.of_filter rfl rfl rfl rfl rfl rfl ?_ | split

theorem State.sendLine_keeps {s0 : State} {s : State} (x2 : _) (x3 : _) (x4 : _) (h : Keeps s0 s) : Keeps s0 (State.sendLine s x2 x3 x4) := by
  unfold State.sendLine
  try dsimp only
  repeat' first | with_reducible assumption | intro _ | with_reducible (first | apply State.sendWords_keeps | apply State.emit_keeps) | with_reducible apply Keeps.cond | with_reducible apply Keeps.foldl | (fail_if_no_progress with_reducible refine Keeps.of_mk rfl rfl rfl rfl rfl rfl ?_) | with_reducible refine Keeps.of_free rfl rfl rfl rfl rfl (Nat.le_add_right _ _) ?_ | with_reducible refine Keeps.of_filter rfl rfl rfl rfl rfl rfl ?_ | split

theorem State.sendDown_keeps {s0 : State} {s : State} (x2 : _) (h : Keeps s0 s) : Keeps s0 (State.sendDown s x2) := by
  unfold State.sendDown
  try dsimp only
  repeat' first | with_reducible assumption | intro _ | with_reducible (first | apply State.emit_keeps) | with_reducible apply Keeps.cond | with_reducible apply Keeps.foldl | (fail_if_no_progress with_reducible refine Keeps.of_mk rfl rfl rfl rfl rfl rfl ?_) | with_reducible refine Keeps.of_free rfl rfl rfl rfl rfl (Nat.le_add_right _ _) ?_ | with_reducible refine Keeps.of_filter rfl rfl rfl rfl rfl rfl ?_ | split

theorem State.requestMove_keeps {s0 : State} {s : State} (x2 : _) (x3 : _) (x4 : _) (h : Keeps s0 s) : Keeps s0 (State.requestMove s x2 x3 x4) := by
  unfold State.requestMove
  try dsimp only
  repeat' first | with_reducible assumption | intro _ | with_reducible (first | apply State.setLnk_keeps) | with_reducible apply Keeps.cond | with_reducible apply Keeps.foldl | (fail_if_no_progress with_reducible refine Keeps.of_mk rfl rfl rfl rfl rfl rfl ?_) | with_reducible refine Keeps.of_free rfl rfl rfl rfl rfl (Nat.le_add_right _ _) ?_ | with_reducible refine Keeps.of_filter rfl rfl rfl rfl rfl rfl ?_ | split

theorem State.markUrgent_keeps {s0 : State} {s : State} (x2 : _) (x3 : _) (h : Keeps s0 s) : Keeps s0 (State.markUrgent s x2 x3) := by
  unfold State.markUrgent
  try dsimp only
  repeat' first | with_reducible assumption | intro _ | with_reducible (first | apply State.setLnk_keeps | apply State.setLaneCal_keeps | apply State.setCalGroup_keeps) | with_reducible apply Keeps.cond | with_reducible apply Keeps.foldl | (fail_if_no_progress with_reducible refine Keeps.of_mk rfl rfl rfl rfl rfl rfl ?_) | with_reducible refine Keeps.of_free rfl rfl rfl rfl rfl (Nat.le_add_right _ _) ?_ | with_reducible refine Keeps.of_filter rfl rfl rfl rfl rfl rfl ?_ | split

theorem State.askPartner_keeps {s0 : State} {s : State} (x2 : _) (x3 : _) (x4 : _) (h : Keeps s0 s) : Keeps s0 (State.askPartner s x2 x3 x4) := by
  unfold State.askPartner
  try dsimp only
  repeat' first | with_reducible assumption | intro _ | with_reducible (first | apply State.setLkk_keeps) | with_reducible apply Keeps.cond | with_reducible apply Keeps.foldl | (fail_if_no_progress with_reducible refine Keeps.of_mk rfl rfl rfl rfl rfl rfl ?_) | with_reducible refine Keeps.of_free rfl rfl rfl rfl rfl (Nat.le_add_right _ _) ?_ | with_reducible refine Keeps.of_filter rfl rfl rfl rfl rfl rfl ?_ | split

theorem State.urgentRx_keeps {s0 : State} {s : State} (x2 : _) (x3 : _) (h : Keeps s0 s) : Keeps s0 (State.urgentRx s x2 x3) := by
  unfold State.urgentRx
  try dsimp only
  repeat' first | with_reducible assumption | intro _ | with_reducible (first | apply State.markUrgent_keeps | apply State.askPartner_keeps) | with_reducible apply Keeps.cond | with_reducible apply Keeps.foldl | (fail_if_no_progress with_reducible refine Keeps.of_mk rfl rfl rfl rfl rfl rfl ?_) | with_reducible refine Keeps.of_free rfl rfl rfl rfl rfl (Nat.le_add_right _ _) ?_ | with_reducible refine Keeps.of_filter rfl rfl rfl rfl rfl rfl ?_ | split

theorem State.retireRx_keeps {s0 : State} {s : State} (x2 : _) (x3 : _) (x4 : _) (h : Keeps s0 s) : Keeps s0 (State.retireRx s x2 x3 x4) := by
  unfold State.retireRx
  try dsimp only
  repeat' first | with_reducible assumption | intro _ | with_reducible (first | apply State.record_keeps | apply State.setLnk_keeps) | with_reducible apply Keeps.cond | with_reducible apply Keeps.foldl | (fail_if_no_progress with_reducible refine Keeps.of_mk rfl rfl rfl rfl rfl rfl ?_) | with_reducible refine Keeps.of_free rfl rfl rfl rfl rfl (Nat.le_add_right _ _) ?_ | with_reducible refine Keeps.of_filter rfl rfl rfl rfl rfl rfl ?_ | split

theorem State.retireTx_keeps {s0 : State} {s : State} (x2 : _) (x3 : _) (x4 : _) (h : Keeps s0 s) : Keeps s0 (State.retireTx s x2 x3 x4) := by
  unfold State.retireTx
  try dsimp only
  repeat' first | with_reducible assumption | intro _ | with_reducible (first | apply State.record_keeps | apply State.setLaneCal_keeps | apply State.requestMove_keeps) | with_reducible apply Keeps.cond | with_reducible apply Keeps.foldl | (fail_if_no_progress with_reducible refine Keeps.of_mk rfl rfl rfl rfl rfl rfl ?_) | with_reducible refine Keeps.of_free rfl rfl rfl rfl rfl (Nat.le_add_right _ _) ?_ | with_reducible refine Keeps.of_filter rfl rfl rfl rfl rfl rfl ?_ | split

theorem State.stopCalibration_keeps {s0 : State} {s : State} (x2 : _) (h : Keeps s0 s) : Keeps s0 (State.stopCalibration s x2) := by
  unfold State.stopCalibration
  try dsimp only
  repeat' first | with_reducible assumption | intro _ | with_reducible (first | apply State.setCalGroup_keeps) | with_reducible apply Keeps.cond | with_reducible apply Keeps.foldl | (fail_if_no_progress with_reducible refine Keeps.of_mk rfl rfl rfl rfl rfl rfl ?_) | with_reducible refine Keeps.of_free rfl rfl rfl rfl rfl (Nat.le_add_right _ _) ?_ | with_reducible refine Keeps.of_filter rfl rfl rfl rfl rfl rfl ?_ | split

theorem State.setDir_keeps {s0 : State} {s : State} (x2 : _) (x3 : _) (h : Keeps s0 s) : Keeps s0 (State.setDir s x2 x3) := by
  unfold State.setDir
  try dsimp only
  repeat' first | with_reducible assumption | intro _ | with_reducible apply Keeps.cond | with_reducible apply Keeps.foldl | (fail_if_no_progress with_reducible refine Keeps.of_mk rfl rfl rfl rfl rfl rfl ?_) | with_reducible refine Keeps.of_free rfl rfl rfl rfl rfl (Nat.le_add_right _ _) ?_ | with_reducible refine Keeps.of_filter rfl rfl rfl rfl rfl rfl ?_ | split

theorem State.freePkt_keeps {s0 : State} {s : State} (x2 : _) (x3 : _) (x4 : _) (h : Keeps s0 s) : Keeps s0 (State.freePkt s x2 x3 x4) := by
  unfold State.freePkt
  try dsimp only
  repeat' first | with_reducible assumption | intro _ | with_reducible (first | apply State.setLkk_keeps) | with_reducible apply Keeps.cond | with_reducible apply Keeps.foldl | (fail_if_no_progress with_reducible refine Keeps.of_mk rfl rfl rfl rfl rfl rfl ?_) | with_reducible refine Keeps.of_free rfl rfl rfl rfl rfl (Nat.le_add_right _ _) ?_ | with_reducible refine Keeps.of_filter rfl rfl rfl rfl rfl rfl ?_ | split

theorem State.loseCarrier_keeps {s0 : State} {s : State} (x2 : _) (h : Keeps s0 s) : Keeps s0 (State.loseCarrier s x2) := by
  unfold State.loseCarrier
  try dsimp only
  repeat' first | with_reducible assumption | intro _ | with_reducible (first | apply State.setLkk_keeps | apply State.record_keeps) | with_reducible apply Keeps.cond | with_reducible apply Keeps.foldl | (fail_if_no_progress with_reducible refine Keeps.of_mk rfl rfl rfl rfl rfl rfl ?_) | with_reducible refine Keeps.of_free rfl rfl rfl rfl rfl (Nat.le_add_right _ _) ?_ | with_reducible refine Keeps.of_filter rfl rfl rfl rfl rfl rfl ?_ | split

theorem State.moveRepeats_keeps {s0 : State} {s : State} (x2 : _) (h : Keeps s0 s) : Keeps s0 (State.moveRepeats s x2) := by
  unfold State.moveRepeats
  try dsimp only
  repeat' first | with_reducible assumption | intro _ | with_reducible (first | apply State.setLkk_keeps | apply State.record_keeps) | with_reducible apply Keeps.cond | with_reducible apply Keeps.foldl | (fail_if_no_progress with_reducible refine Keeps.of_mk rfl rfl rfl rfl rfl rfl ?_) | with_reducible refine Keeps.of_free rfl rfl rfl rfl rfl (Nat.le_add_right _ _) ?_ | with_reducible refine Keeps.of_filter rfl rfl rfl rfl rfl rfl ?_ | split

theorem State.lkDown_keeps {s0 : State} {s : State} (x2 : _) (h : Keeps s0 s) : Keeps s0 (State.lkDown s x2) := by
  unfold State.lkDown
  try dsimp only
  repeat' first | with_reducible assumption | intro _ | with_reducible (first | apply State.moveRepeats_keeps | apply State.setLkk_keeps | apply State.loseCarrier_keeps | apply State.setDir_keeps | apply State.record_keeps | apply State.bump_keeps) | with_reducible apply Keeps.cond | with_reducible apply Keeps.foldl | (fail_if_no_progress with_reducible refine Keeps.of_mk rfl rfl rfl rfl rfl rfl ?_) | with_reducible refine Keeps.of_free rfl rfl rfl rfl rfl (Nat.le_add_right _ _) ?_ | with_reducible refine Keeps.of_filter rfl rfl rfl rfl rfl rfl ?_ | split

theorem State.lnDetect_keeps {s0 : State} {s : State} (x2 : _) (x3 : _) (x4 : _) (h : Keeps s0 s) : Keeps s0 (State.lnDetect s x2 x3 x4) := by
  unfold State.lnDetect
  try dsimp only
  repeat' first | with_reducible assumption | intro _ | with_reducible (first | apply State.stopCalibration_keeps | apply State.sendDown_keeps | apply State.bump_keeps | apply State.setLnk_keeps | apply State.setShutter_keeps) | with_reducible apply Keeps.cond | with_reducible apply Keeps.foldl | (fail_if_no_progress with_reducible refine Keeps.of_mk rfl rfl rfl rfl rfl rfl ?_) | with_reducible refine Keeps.of_free rfl rfl rfl rfl rfl (Nat.le_add_right _ _) ?_ | with_reducible refine Keeps.of_filter rfl rfl rfl rfl rfl rfl ?_ | split

theorem State.linkDown_keeps {s0 : State} {s : State} (x2 : _) (x3 : _) (x4 : _) (h : Keeps s0 s) : Keeps s0 (State.linkDown s x2 x3 x4) := by
  unfold State.linkDown
  try dsimp only
  repeat' first | with_reducible assumption | intro _ | with_reducible (first | apply State.lnDetect_keeps | apply State.lkDown_keeps) | with_reducible apply Keeps.cond | with_reducible apply Keeps.foldl | (fail_if_no_progress with_reducible refine Keeps.of_mk rfl rfl rfl rfl rfl rfl ?_) | with_reducible refine Keeps.of_free rfl rfl rfl rfl rfl (Nat.le_add_right _ _) ?_ | with_reducible refine Keeps.of_filter rfl rfl rfl rfl rfl rfl ?_ | split

theorem State.capRetrain_keeps {s0 : State} {s : State} (x2 : _) (h : Keeps s0 s) : Keeps s0 (State.capRetrain s x2) := by
  unfold State.capRetrain
  try dsimp only
  repeat' first | with_reducible assumption | intro _ | with_reducible (first | apply State.lkDown_keeps | apply State.setLnk_keeps) | with_reducible apply Keeps.cond | with_reducible apply Keeps.foldl | (fail_if_no_progress with_reducible refine Keeps.of_mk rfl rfl rfl rfl rfl rfl ?_) | with_reducible refine Keeps.of_free rfl rfl rfl rfl rfl (Nat.le_add_right _ _) ?_ | with_reducible refine Keeps.of_filter rfl rfl rfl rfl rfl rfl ?_ | split

theorem State.linkProtocol_keeps {s0 : State} {s : State} (x2 : _) (h : Keeps s0 s) : Keeps s0 (State.linkProtocol s x2) := by
  unfold State.linkProtocol
  try dsimp only
  repeat' first | with_reducible assumption | intro _ | with_reducible (first | apply State.capRetrain_keeps | apply State.record_keeps) | with_reducible apply Keeps.cond | with_reducible apply Keeps.foldl | (fail_if_no_progress with_reducible refine Keeps.of_mk rfl rfl rfl rfl rfl rfl ?_) | with_reducible refine Keeps.of_free rfl rfl rfl rfl rfl (Nat.le_add_right _ _) ?_ | with_reducible refine Keeps.of_filter rfl rfl rfl rfl rfl rfl ?_ | split

theorem State.swapRx_keeps {s0 : State} {s : State} (x2 : _) (x3 : _) (x4 : _) (h : Keeps s0 s) : Keeps s0 (State.swapRx s x2 x3 x4) := by
  unfold State.swapRx
  try dsimp only
  repeat' first | with_reducible assumption | intro _ | with_reducible (first | apply State.record_keeps | apply State.setLnk_keeps | apply State.linkDown_keeps) | with_reducible apply Keeps.cond | with_reducible apply Keeps.foldl | (fail_if_no_progress with_reducible refine Keeps.of_mk rfl rfl rfl rfl rfl rfl ?_) | with_reducible refine Keeps.of_free rfl rfl rfl rfl rfl (Nat.le_add_right _ _) ?_ | with_reducible refine Keeps.of_filter rfl rfl rfl rfl rfl rfl ?_ | split

theorem State.setBridge_keeps {s0 : State} {s : State} (x2 : _) (x3 : _) (h : Keeps s0 s) : Keeps s0 (State.setBridge s x2 x3) := by
  unfold State.setBridge
  try dsimp only
  repeat' first | with_reducible assumption | intro _ | with_reducible apply Keeps.cond | with_reducible apply Keeps.foldl | (fail_if_no_progress with_reducible refine Keeps.of_mk rfl rfl rfl rfl rfl rfl ?_) | with_reducible refine Keeps.of_free rfl rfl rfl rfl rfl (Nat.le_add_right _ _) ?_ | with_reducible refine Keeps.of_filter rfl rfl rfl rfl rfl rfl ?_ | split

theorem State.countCe_keeps {s0 : State} {s : State} (x2 : _) (x3 : _) (h : Keeps s0 s) : Keeps s0 (State.countCe s x2 x3) := by
  unfold State.countCe
  try dsimp only
  repeat' first | with_reducible assumption | intro _ | with_reducible (first | apply State.bumpBy_keeps) | with_reducible apply Keeps.cond | with_reducible apply Keeps.foldl | (fail_if_no_progress with_reducible refine Keeps.of_mk rfl rfl rfl rfl rfl rfl ?_) | with_reducible refine Keeps.of_free rfl rfl rfl rfl rfl (Nat.le_add_right _ _) ?_ | with_reducible refine Keeps.of_filter rfl rfl rfl rfl rfl rfl ?_ | split

theorem State.bridgeDue_keeps {s0 : State} {s : State} (x2 : _) (h : Keeps s0 s) : Keeps s0 (State.bridgeDue s x2) := by
  unfold State.bridgeDue
  try dsimp only
  repeat' first | with_reducible assumption | intro _ | with_reducible apply Keeps.cond | with_reducible apply Keeps.foldl | (fail_if_no_progress with_reducible refine Keeps.of_mk rfl rfl rfl rfl rfl rfl ?_) | with_reducible refine Keeps.of_free rfl rfl rfl rfl rfl (Nat.le_add_right _ _) ?_ | with_reducible refine Keeps.of_filter rfl rfl rfl rfl rfl rfl ?_ | split

theorem State.doMeshLine_keeps {s0 : State} {s : State} (x2 : _) (x3 : _) (x4 : _) (x5 : _) (h : Keeps s0 s) : Keeps s0 (State.doMeshLine s x2 x3 x4 x5) := by
  unfold State.doMeshLine
  try dsimp only
  repeat' first | with_reducible assumption | intro _ | with_reducible (first | apply State.countCe_keeps | apply State.abortWith_keeps | apply State.bridgeDue_keeps) | with_reducible apply Keeps.cond | with_reducible apply Keeps.foldl | (fail_if_no_progress with_reducible refine Keeps.of_mk rfl rfl rfl rfl rfl rfl ?_) | with_reducible refine Keeps.of_free rfl rfl rfl rfl rfl (Nat.le_add_right _ _) ?_ | with_reducible refine Keeps.of_filter rfl rfl rfl rfl rfl rfl ?_ | split

theorem State.doMeshDue_keeps {s0 : State} {s : State} (x2 : _) (h : Keeps s0 s) : Keeps s0 (State.doMeshDue s x2) := by
  unfold State.doMeshDue
  try dsimp only
  repeat' first | with_reducible assumption | intro _ | with_reducible (first | apply State.record_keeps | apply State.bridgeDue_keeps) | with_reducible apply Keeps.cond | with_reducible apply Keeps.foldl | (fail_if_no_progress with_reducible refine Keeps.of_mk rfl rfl rfl rfl rfl rfl ?_) | with_reducible refine Keeps.of_free rfl rfl rfl rfl rfl (Nat.le_add_right _ _) ?_ | with_reducible refine Keeps.of_filter rfl rfl rfl rfl rfl rfl ?_ | split

theorem State.forgetWn_keeps {s0 : State} {s : State} (x2 : _) (h : Keeps s0 s) : Keeps s0 (State.forgetWn s x2) := by
  unfold State.forgetWn
  try dsimp only
  repeat' first | with_reducible assumption | intro _ | with_reducible apply Keeps.cond | with_reducible apply Keeps.foldl | (fail_if_no_progress with_reducible refine Keeps.of_mk rfl rfl rfl rfl rfl rfl ?_) | with_reducible refine Keeps.of_free rfl rfl rfl rfl rfl (Nat.le_add_right _ _) ?_ | with_reducible refine Keeps.of_filter rfl rfl rfl rfl rfl rfl ?_ | split

theorem State.chanRetrain_keeps {s0 : State} {s : State} (x2 : _) (x3 : _) (x4 : _) (h : Keeps s0 s) : Keeps s0 (State.chanRetrain s x2 x3 x4) := by
  unfold State.chanRetrain
  try dsimp only
  repeat' first | with_reducible assumption | intro _ | with_reducible (first | apply State.forgetWn_keeps | apply State.linkDown_keeps | apply State.record_keeps | apply State.setDir_keeps | apply State.setBridge_keeps) | with_reducible apply Keeps.cond | with_reducible apply Keeps.foldl | (fail_if_no_progress with_reducible refine Keeps.of_mk rfl rfl rfl rfl rfl rfl ?_) | with_reducible refine Keeps.of_free rfl rfl rfl rfl rfl (Nat.le_add_right _ _) ?_ | with_reducible refine Keeps.of_filter rfl rfl rfl rfl rfl rfl ?_ | split

theorem State.chanStart_keeps {s0 : State} {s : State} (x2 : _) (x3 : _) (x4 : _) (h : Keeps s0 s) : Keeps s0 (State.chanStart s x2 x3 x4) := by
  unfold State.chanStart
  try dsimp only
  repeat' first | with_reducible assumption | intro _ | with_reducible (first | apply State.setDir_keeps) | with_reducible apply Keeps.cond | with_reducible apply Keeps.foldl | (fail_if_no_progress with_reducible refine Keeps.of_mk rfl rfl rfl rfl rfl rfl ?_) | with_reducible refine Keeps.of_free rfl rfl rfl rfl rfl (Nat.le_add_right _ _) ?_ | with_reducible refine Keeps.of_filter rfl rfl rfl rfl rfl rfl ?_ | split

theorem State.chanTrained_keeps {s0 : State} {s : State} (x2 : _) (x3 : _) (x4 : _) (h : Keeps s0 s) : Keeps s0 (State.chanTrained s x2 x3 x4) := by
  unfold State.chanTrained
  try dsimp only
  repeat' first | with_reducible assumption | intro _ | with_reducible (first | apply State.chanStart_keeps | apply State.setBridge_keeps | apply State.record_keeps) | with_reducible apply Keeps.cond | with_reducible apply Keeps.foldl | (fail_if_no_progress with_reducible refine Keeps.of_mk rfl rfl rfl rfl rfl rfl ?_) | with_reducible refine Keeps.of_free rfl rfl rfl rfl rfl (Nat.le_add_right _ _) ?_ | with_reducible refine Keeps.of_filter rfl rfl rfl rfl rfl rfl ?_ | split

theorem State.putFlit_keeps {s0 : State} {s : State} (x2 : _) (x3 : _) (x4 : _) (x5 : _) (h : Keeps s0 s) : Keeps s0 (State.putFlit s x2 x3 x4 x5) := by
  unfold State.putFlit
  try dsimp only
  repeat' first | with_reducible assumption | intro _ | with_reducible (first | apply State.setDir_keeps | apply State.emit_keeps) | with_reducible apply Keeps.cond | with_reducible apply Keeps.foldl | (fail_if_no_progress with_reducible refine Keeps.of_mk rfl rfl rfl rfl rfl rfl ?_) | with_reducible refine Keeps.of_free rfl rfl rfl rfl rfl (Nat.le_add_right _ _) ?_ | with_reducible refine Keeps.of_filter rfl rfl rfl rfl rfl rfl ?_ | split

theorem State.sendFlit_keeps {s0 : State} {s : State} (x2 : _) (x3 : _) (x4 : _) (x5 : _) (x6 : _) (h : Keeps s0 s) : Keeps s0 (State.sendFlit s x2 x3 x4 x5 x6) := by
  unfold State.sendFlit
  try dsimp only
  repeat' first | with_reducible assumption | intro _ | with_reducible (first | apply State.putFlit_keeps | apply State.setDir_keeps) | with_reducible apply Keeps.cond | with_reducible apply Keeps.foldl | (fail_if_no_progress with_reducible refine Keeps.of_mk rfl rfl rfl rfl rfl rfl ?_) | with_reducible refine Keeps.of_free rfl rfl rfl rfl rfl (Nat.le_add_right _ _) ?_ | with_reducible refine Keeps.of_filter rfl rfl rfl rfl rfl rfl ?_ | split

theorem State.sendReplay_keeps {s0 : State} {s : State} (x2 : _) (x3 : _) (x4 : _) (x5 : _) (x6 : _) (x7 : _) (h : Keeps s0 s) : Keeps s0 (State.sendReplay s x2 x3 x4 x5 x6 x7) := by
  unfold State.sendReplay
  try dsimp only
  repeat' first | with_reducible assumption | intro _ | with_reducible (first | apply State.putFlit_keeps | apply State.bump_keeps | apply State.setDir_keeps) | with_reducible apply Keeps.cond | with_reducible apply Keeps.foldl | (fail_if_no_progress with_reducible refine Keeps.of_mk rfl rfl rfl rfl rfl rfl ?_) | with_reducible refine Keeps.of_free rfl rfl rfl rfl rfl (Nat.le_add_right _ _) ?_ | with_reducible refine Keeps.of_filter rfl rfl rfl rfl rfl rfl ?_ | split

theorem State.addLocal_keeps {s0 : State} {s : State} (x2 : _) (x3 : _) (x4 : _) (x5 : _) (h : Keeps s0 s) : Keeps s0 (State.addLocal s x2 x3 x4 x5) := by
  unfold State.addLocal
  try dsimp only
  repeat' first | with_reducible assumption | intro _ | with_reducible (first | apply State.setDir_keeps) | with_reducible apply Keeps.cond | with_reducible apply Keeps.foldl | (fail_if_no_progress with_reducible refine Keeps.of_mk rfl rfl rfl rfl rfl rfl ?_) | with_reducible refine Keeps.of_free rfl rfl rfl rfl rfl (Nat.le_add_right _ _) ?_ | with_reducible refine Keeps.of_filter rfl rfl rfl rfl rfl rfl ?_ | split

theorem State.sendLocal_keeps {s0 : State} {s : State} (x2 : _) (x3 : _) (x4 : _) (h : Keeps s0 s) : Keeps s0 (State.sendLocal s x2 x3 x4) := by
  unfold State.sendLocal
  try dsimp only
  repeat' first | with_reducible assumption | intro _ | with_reducible (first | apply State.setDir_keeps | apply State.sendFlit_keeps | apply State.putFlit_keeps) | with_reducible apply Keeps.cond | with_reducible apply Keeps.foldl | (fail_if_no_progress with_reducible refine Keeps.of_mk rfl rfl rfl rfl rfl rfl ?_) | with_reducible refine Keeps.of_free rfl rfl rfl rfl rfl (Nat.le_add_right _ _) ?_ | with_reducible refine Keeps.of_filter rfl rfl rfl rfl rfl rfl ?_ | split

theorem State.doFlitSlot_keeps {s0 : State} {s : State} (x2 : _) (x3 : _) (x4 : _) (h : Keeps s0 s) : Keeps s0 (State.doFlitSlot s x2 x3 x4) := by
  unfold State.doFlitSlot
  try dsimp only
  repeat' first | with_reducible assumption | intro _ | with_reducible (first | apply State.sendFlit_keeps | apply State.putFlit_keeps | apply State.sendReplay_keeps | apply State.freePkt_keeps | apply State.sendLocal_keeps) | with_reducible apply Keeps.cond | with_reducible apply Keeps.foldl | (fail_if_no_progress with_reducible refine Keeps.of_mk rfl rfl rfl rfl rfl rfl ?_) | with_reducible refine Keeps.of_free rfl rfl rfl rfl rfl (Nat.le_add_right _ _) ?_ | with_reducible refine Keeps.of_filter rfl rfl rfl rfl rfl rfl ?_ | split

theorem State.startReplay_keeps {s0 : State} {s : State} (x2 : _) (h : Keeps s0 s) : Keeps s0 (State.startReplay s x2) := by
  unfold State.startReplay
  try dsimp only
  repeat' first | with_reducible assumption | intro _ | with_reducible (first | apply State.setDir_keeps) | with_reducible apply Keeps.cond | with_reducible apply Keeps.foldl | (fail_if_no_progress with_reducible refine Keeps.of_mk rfl rfl rfl rfl rfl rfl ?_) | with_reducible refine Keeps.of_free rfl rfl rfl rfl rfl (Nat.le_add_right _ _) ?_ | with_reducible refine Keeps.of_filter rfl rfl rfl rfl rfl rfl ?_ | split

theorem State.yzStitch_keeps {s0 : State} {s : State} (x2 : _) (x3 : _) (h : Keeps s0 s) : Keeps s0 (State.yzStitch s x2 x3) := by
  unfold State.yzStitch
  try dsimp only
  repeat' first | with_reducible assumption | intro _ | with_reducible (first | apply State.setLkk_keeps) | with_reducible apply Keeps.cond | with_reducible apply Keeps.foldl | (fail_if_no_progress with_reducible refine Keeps.of_mk rfl rfl rfl rfl rfl rfl ?_) | with_reducible refine Keeps.of_free rfl rfl rfl rfl rfl (Nat.le_add_right _ _) ?_ | with_reducible refine Keeps.of_filter rfl rfl rfl rfl rfl rfl ?_ | split

theorem State.dieStitch_keeps {s0 : State} {s : State} (x2 : _) (x3 : _) (x4 : _) (x5 : _) (h : Keeps s0 s) : Keeps s0 (State.dieStitch s x2 x3 x4 x5) := by
  unfold State.dieStitch
  try dsimp only
  repeat' first | with_reducible assumption | intro _ | with_reducible (first | apply State.setLkk_keeps) | with_reducible apply Keeps.cond | with_reducible apply Keeps.foldl | (fail_if_no_progress with_reducible refine Keeps.of_mk rfl rfl rfl rfl rfl rfl ?_) | with_reducible refine Keeps.of_free rfl rfl rfl rfl rfl (Nat.le_add_right _ _) ?_ | with_reducible refine Keeps.of_filter rfl rfl rfl rfl rfl rfl ?_ | split

theorem State.diePacket_keeps {s0 : State} {s : State} (x2 : _) (x3 : _) (h : Keeps s0 s) : Keeps s0 (State.diePacket s x2 x3) := by
  unfold State.diePacket
  try dsimp only
  repeat' first | with_reducible assumption | intro _ | with_reducible (first | apply State.pokeOwn_keeps) | with_reducible apply Keeps.cond | with_reducible apply Keeps.foldl | (fail_if_no_progress with_reducible refine Keeps.of_mk rfl rfl rfl rfl rfl rfl ?_) | with_reducible refine Keeps.of_free rfl rfl rfl rfl rfl (Nat.le_add_right _ _) ?_ | with_reducible refine Keeps.of_filter rfl rfl rfl rfl rfl rfl ?_ | split

theorem State.applyAck_keeps {s0 : State} {s : State} (x2 : _) (x3 : _) (h : Keeps s0 s) : Keeps s0 (State.applyAck s x2 x3) := by
  unfold State.applyAck
  try dsimp only
  repeat' first | with_reducible assumption | intro _ | with_reducible (first | apply State.setDir_keeps | apply State.startReplay_keeps) | with_reducible apply Keeps.cond | with_reducible apply Keeps.foldl | (fail_if_no_progress with_reducible refine Keeps.of_mk rfl rfl rfl rfl rfl rfl ?_) | with_reducible refine Keeps.of_free rfl rfl rfl rfl rfl (Nat.le_add_right _ _) ?_ | with_reducible refine Keeps.of_filter rfl rfl rfl rfl rfl rfl ?_ | split

theorem State.acceptFlit_keeps {s0 : State} {s : State} (x2 : _) (x3 : _) (x4 : _) (x5 : _) (x6 : _) (h : Keeps s0 s) : Keeps s0 (State.acceptFlit s x2 x3 x4 x5 x6) := by
  unfold State.acceptFlit
  try dsimp only
  repeat' first | with_reducible assumption | intro _ | with_reducible (first | apply State.setDir_keeps | apply State.yzStitch_keeps | apply State.dieStitch_keeps | apply State.setLkk_keeps | apply State.diePacket_keeps) | with_reducible apply Keeps.cond | with_reducible apply Keeps.foldl | (fail_if_no_progress with_reducible refine Keeps.of_mk rfl rfl rfl rfl rfl rfl ?_) | with_reducible refine Keeps.of_free rfl rfl rfl rfl rfl (Nat.le_add_right _ _) ?_ | with_reducible refine Keeps.of_filter rfl rfl rfl rfl rfl rfl ?_ | split

theorem State.doFlitReceive_keeps {s0 : State} {s : State} (x2 : _) (x3 : _) (x4 : _) (x5 : _) (x6 : _) (h : Keeps s0 s) : Keeps s0 (State.doFlitReceive s x2 x3 x4 x5 x6) := by
  unfold State.doFlitReceive
  try dsimp only
  repeat' first | with_reducible assumption | intro _ | with_reducible (first | apply State.setDir_keeps | apply State.applyAck_keeps | apply State.chanRetrain_keeps | apply State.acceptFlit_keeps) | with_reducible apply Keeps.cond | with_reducible apply Keeps.foldl | (fail_if_no_progress with_reducible refine Keeps.of_mk rfl rfl rfl rfl rfl rfl ?_) | with_reducible refine Keeps.of_free rfl rfl rfl rfl rfl (Nat.le_add_right _ _) ?_ | with_reducible refine Keeps.of_filter rfl rfl rfl rfl rfl rfl ?_ | split

theorem State.doFlitTimeout_keeps {s0 : State} {s : State} (x2 : _) (x3 : _) (x4 : _) (h : Keeps s0 s) : Keeps s0 (State.doFlitTimeout s x2 x3 x4) := by
  unfold State.doFlitTimeout
  try dsimp only
  repeat' first | with_reducible assumption | intro _ | with_reducible (first | apply State.startReplay_keeps) | with_reducible apply Keeps.cond | with_reducible apply Keeps.foldl | (fail_if_no_progress with_reducible refine Keeps.of_mk rfl rfl rfl rfl rfl rfl ?_) | with_reducible refine Keeps.of_free rfl rfl rfl rfl rfl (Nat.le_add_right _ _) ?_ | with_reducible refine Keeps.of_filter rfl rfl rfl rfl rfl rfl ?_ | split

theorem State.doFlitExhausted_keeps {s0 : State} {s : State} (x2 : _) (x3 : _) (x4 : _) (h : Keeps s0 s) : Keeps s0 (State.doFlitExhausted s x2 x3 x4) := by
  unfold State.doFlitExhausted
  try dsimp only
  repeat' first | with_reducible assumption | intro _ | with_reducible (first | apply State.chanRetrain_keeps) | with_reducible apply Keeps.cond | with_reducible apply Keeps.foldl | (fail_if_no_progress with_reducible refine Keeps.of_mk rfl rfl rfl rfl rfl rfl ?_) | with_reducible refine Keeps.of_free rfl rfl rfl rfl rfl (Nat.le_add_right _ _) ?_ | with_reducible refine Keeps.of_filter rfl rfl rfl rfl rfl rfl ?_ | split

theorem State.doStitchRelease_keeps {s0 : State} {s : State} (x2 : _) (x3 : _) (h : Keeps s0 s) : Keeps s0 (State.doStitchRelease s x2 x3) := by
  unfold State.doStitchRelease
  try dsimp only
  repeat' first | with_reducible assumption | intro _ | with_reducible (first | apply State.setLkk_keeps | apply State.setDir_keeps) | with_reducible apply Keeps.cond | with_reducible apply Keeps.foldl | (fail_if_no_progress with_reducible refine Keeps.of_mk rfl rfl rfl rfl rfl rfl ?_) | with_reducible refine Keeps.of_free rfl rfl rfl rfl rfl (Nat.le_add_right _ _) ?_ | with_reducible refine Keeps.of_filter rfl rfl rfl rfl rfl rfl ?_ | split

theorem State.queueMarker_keeps {s0 : State} {s : State} (x2 : _) (x3 : _) (h : Keeps s0 s) : Keeps s0 (State.queueMarker s x2 x3) := by
  unfold State.queueMarker
  try dsimp only
  repeat' first | with_reducible assumption | intro _ | with_reducible (first | apply State.setLkk_keeps) | with_reducible apply Keeps.cond | with_reducible apply Keeps.foldl | (fail_if_no_progress with_reducible refine Keeps.of_mk rfl rfl rfl rfl rfl rfl ?_) | with_reducible refine Keeps.of_free rfl rfl rfl rfl rfl (Nat.le_add_right _ _) ?_ | with_reducible refine Keeps.of_filter rfl rfl rfl rfl rfl rfl ?_ | split

theorem State.sendTree_keeps {s0 : State} {s : State} (x2 : _) (x3 : _) (h : Keeps s0 s) : Keeps s0 (State.sendTree s x2 x3) := by
  unfold State.sendTree
  try dsimp only
  repeat' first | with_reducible assumption | intro _ | with_reducible (first | apply State.setLkk_keeps | apply State.queueMarker_keeps | apply State.record_keeps) | with_reducible apply Keeps.cond | with_reducible apply Keeps.foldl | (fail_if_no_progress with_reducible refine Keeps.of_mk rfl rfl rfl rfl rfl rfl ?_) | with_reducible refine Keeps.of_free rfl rfl rfl rfl rfl (Nat.le_add_right _ _) ?_ | with_reducible refine Keeps.of_filter rfl rfl rfl rfl rfl rfl ?_ | split

theorem State.dropRepeats_keeps {s0 : State} {s : State} (x2 : _) (x3 : _) (h : Keeps s0 s) : Keeps s0 (State.dropRepeats s x2 x3) := by
  unfold State.dropRepeats
  try dsimp only
  repeat' first | with_reducible assumption | intro _ | with_reducible (first | apply State.setLkk_keeps) | with_reducible apply Keeps.cond | with_reducible apply Keeps.foldl | (fail_if_no_progress with_reducible refine Keeps.of_mk rfl rfl rfl rfl rfl rfl ?_) | with_reducible refine Keeps.of_free rfl rfl rfl rfl rfl (Nat.le_add_right _ _) ?_ | with_reducible refine Keeps.of_filter rfl rfl rfl rfl rfl rfl ?_ | split

theorem State.takeRelease_keeps {s0 : State} {s : State} (x2 : _) (h : Keeps s0 s) : Keeps s0 (State.takeRelease s x2) := by
  unfold State.takeRelease
  try dsimp only
  repeat' first | with_reducible assumption | intro _ | with_reducible (first | apply State.record_keeps | apply State.bump_keeps) | with_reducible apply Keeps.cond | with_reducible apply Keeps.foldl | (fail_if_no_progress with_reducible refine Keeps.of_mk rfl rfl rfl rfl rfl rfl ?_) | with_reducible refine Keeps.of_free rfl rfl rfl rfl rfl (Nat.le_add_right _ _) ?_ | with_reducible refine Keeps.of_filter rfl rfl rfl rfl rfl rfl ?_ | split

theorem State.spreadRelease_keeps {s0 : State} {s : State} (x2 : _) (h : Keeps s0 s) : Keeps s0 (State.spreadRelease s x2) := by
  unfold State.spreadRelease
  try dsimp only
  repeat' first | with_reducible assumption | intro _ | with_reducible (first | apply State.sendTree_keeps | apply State.emit_keeps | apply State.takeRelease_keeps) | with_reducible apply Keeps.cond | with_reducible apply Keeps.foldl | (fail_if_no_progress with_reducible refine Keeps.of_mk rfl rfl rfl rfl rfl rfl ?_) | with_reducible refine Keeps.of_free rfl rfl rfl rfl rfl (Nat.le_add_right _ _) ?_ | with_reducible refine Keeps.of_filter rfl rfl rfl rfl rfl rfl ?_ | split

theorem State.abortUp_keeps {s0 : State} {s : State} (x2 : _) (h : Keeps s0 s) : Keeps s0 (State.abortUp s x2) := by
  unfold State.abortUp
  try dsimp only
  repeat' first | with_reducible assumption | intro _ | with_reducible (first | apply State.spreadRelease_keeps | apply State.sendTree_keeps) | with_reducible apply Keeps.cond | with_reducible apply Keeps.foldl | (fail_if_no_progress with_reducible refine Keeps.of_mk rfl rfl rfl rfl rfl rfl ?_) | with_reducible refine Keeps.of_free rfl rfl rfl rfl rfl (Nat.le_add_right _ _) ?_ | with_reducible refine Keeps.of_filter rfl rfl rfl rfl rfl rfl ?_ | split

theorem State.agree_keeps {s0 : State} {s : State} (h : Keeps s0 s) : Keeps s0 (State.agree s) := by
  unfold State.agree
  try dsimp only
  repeat' first | with_reducible assumption | intro _ | with_reducible (first | apply State.takeRelease_keeps | apply State.spreadRelease_keeps | apply State.sendTree_keeps) | with_reducible apply Keeps.cond | with_reducible apply Keeps.foldl | (fail_if_no_progress with_reducible refine Keeps.of_mk rfl rfl rfl rfl rfl rfl ?_) | with_reducible refine Keeps.of_free rfl rfl rfl rfl rfl (Nat.le_add_right _ _) ?_ | with_reducible refine Keeps.of_filter rfl rfl rfl rfl rfl rfl ?_ | split

theorem State.becomeReady_keeps {s0 : State} {s : State} (x2 : _) (h : Keeps s0 s) : Keeps s0 (State.becomeReady s x2) := by
  unfold State.becomeReady
  try dsimp only
  repeat' first | with_reducible assumption | intro _ | with_reducible (first | apply State.agree_keeps) | with_reducible apply Keeps.cond | with_reducible apply Keeps.foldl | (fail_if_no_progress with_reducible refine Keeps.of_mk rfl rfl rfl rfl rfl rfl ?_) | with_reducible refine Keeps.of_free rfl rfl rfl rfl rfl (Nat.le_add_right _ _) ?_ | with_reducible refine Keeps.of_filter rfl rfl rfl rfl rfl rfl ?_ | split

theorem State.readReady_keeps {s0 : State} {s : State} (x2 : _) (x3 : _) (h : Keeps s0 s) : Keeps s0 (State.readReady s x2 x3) := by
  unfold State.readReady
  try dsimp only
  repeat' first | with_reducible assumption | intro _ | with_reducible (first | apply State.record_keeps | apply State.abortUp_keeps) | with_reducible apply Keeps.cond | with_reducible apply Keeps.foldl | (fail_if_no_progress with_reducible refine Keeps.of_mk rfl rfl rfl rfl rfl rfl ?_) | with_reducible refine Keeps.of_free rfl rfl rfl rfl rfl (Nat.le_add_right _ _) ?_ | with_reducible refine Keeps.of_filter rfl rfl rfl rfl rfl rfl ?_ | split

theorem State.readChunk_keeps {s0 : State} {s : State} (x2 : _) (x3 : _) (x4 : _) (h : Keeps s0 s) : Keeps s0 (State.readChunk s x2 x3 x4) := by
  unfold State.readChunk
  try dsimp only
  repeat' first | with_reducible assumption | intro _ | with_reducible apply Keeps.cond | with_reducible apply Keeps.foldl | (fail_if_no_progress with_reducible refine Keeps.of_mk rfl rfl rfl rfl rfl rfl ?_) | with_reducible refine Keeps.of_free rfl rfl rfl rfl rfl (Nat.le_add_right _ _) ?_ | with_reducible refine Keeps.of_filter rfl rfl rfl rfl rfl rfl ?_ | split

theorem State.doPoll_keeps {s0 : State} {s : State} (x2 : _) (x3 : _) (x4 : _) (x5 : _) (h : Keeps s0 s) : Keeps s0 (State.doPoll s x2 x3 x4 x5) := by
  unfold State.doPoll
  try dsimp only
  repeat' first | with_reducible assumption | intro _ | with_reducible (first | apply State.emit_keeps | apply State.agree_keeps | apply State.readChunk_keeps | apply State.readReady_keeps) | with_reducible apply Keeps.cond | with_reducible apply Keeps.foldl | (fail_if_no_progress with_reducible refine Keeps.of_mk rfl rfl rfl rfl rfl rfl ?_) | with_reducible refine Keeps.of_free rfl rfl rfl rfl rfl (Nat.le_add_right _ _) ?_ | with_reducible refine Keeps.of_filter rfl rfl rfl rfl rfl rfl ?_ | split

theorem State.doLaceRelease_keeps {s0 : State} {s : State} (x2 : _) (h : Keeps s0 s) : Keeps s0 (State.doLaceRelease s x2) := by
  unfold State.doLaceRelease
  try dsimp only
  repeat' first | with_reducible assumption | intro _ | with_reducible (first | apply State.takeRelease_keeps) | with_reducible apply Keeps.cond | with_reducible apply Keeps.foldl | (fail_if_no_progress with_reducible refine Keeps.of_mk rfl rfl rfl rfl rfl rfl ?_) | with_reducible refine Keeps.of_free rfl rfl rfl rfl rfl (Nat.le_add_right _ _) ?_ | with_reducible refine Keeps.of_filter rfl rfl rfl rfl rfl rfl ?_ | split

theorem State.doReleaseHi_keeps {s0 : State} {s : State} (x2 : _) (h : Keeps s0 s) : Keeps s0 (State.doReleaseHi s x2) := by
  unfold State.doReleaseHi
  try dsimp only
  repeat' first | with_reducible assumption | intro _ | with_reducible (first | apply State.takeRelease_keeps) | with_reducible apply Keeps.cond | with_reducible apply Keeps.foldl | (fail_if_no_progress with_reducible refine Keeps.of_mk rfl rfl rfl rfl rfl rfl ?_) | with_reducible refine Keeps.of_free rfl rfl rfl rfl rfl (Nat.le_add_right _ _) ?_ | with_reducible refine Keeps.of_filter rfl rfl rfl rfl rfl rfl ?_ | split

theorem State.doSync_keeps {s0 : State} {s : State} (x2 : _) (x3 : _) (h : Keeps s0 s) : Keeps s0 (State.doSync s x2 x3) := by
  unfold State.doSync
  try dsimp only
  repeat' first | with_reducible assumption | intro _ | with_reducible (first | apply State.dropRepeats_keeps) | with_reducible apply Keeps.cond | with_reducible apply Keeps.foldl | (fail_if_no_progress with_reducible refine Keeps.of_mk rfl rfl rfl rfl rfl rfl ?_) | with_reducible refine Keeps.of_free rfl rfl rfl rfl rfl (Nat.le_add_right _ _) ?_ | with_reducible refine Keeps.of_filter rfl rfl rfl rfl rfl rfl ?_ | split

theorem State.doReady_keeps {s0 : State} {s : State} (x2 : _) (x3 : _) (h : Keeps s0 s) : Keeps s0 (State.doReady s x2 x3) := by
  unfold State.doReady
  try dsimp only
  repeat' first | with_reducible assumption | intro _ | with_reducible (first | apply State.abortUp_keeps | apply State.record_keeps | apply State.agree_keeps) | with_reducible apply Keeps.cond | with_reducible apply Keeps.foldl | (fail_if_no_progress with_reducible refine Keeps.of_mk rfl rfl rfl rfl rfl rfl ?_) | with_reducible refine Keeps.of_free rfl rfl rfl rfl rfl (Nat.le_add_right _ _) ?_ | with_reducible refine Keeps.of_filter rfl rfl rfl rfl rfl rfl ?_ | split

theorem State.doReleaseMarker_keeps {s0 : State} {s : State} (x2 : _) (x3 : _) (h : Keeps s0 s) : Keeps s0 (State.doReleaseMarker s x2 x3) := by
  unfold State.doReleaseMarker
  try dsimp only
  repeat' first | with_reducible assumption | intro _ | with_reducible (first | apply State.dropRepeats_keeps | apply State.spreadRelease_keeps | apply State.takeRelease_keeps) | with_reducible apply Keeps.cond | with_reducible apply Keeps.foldl | (fail_if_no_progress with_reducible refine Keeps.of_mk rfl rfl rfl rfl rfl rfl ?_) | with_reducible refine Keeps.of_free rfl rfl rfl rfl rfl (Nat.le_add_right _ _) ?_ | with_reducible refine Keeps.of_filter rfl rfl rfl rfl rfl rfl ?_ | split

theorem State.doFence_keeps {s0 : State} {s : State} (x2 : _) (x3 : _) (h : Keeps s0 s) : Keeps s0 (State.doFence s x2 x3) := by
  unfold State.doFence
  try dsimp only
  repeat' first | with_reducible assumption | intro _ | with_reducible (first | apply State.setLkk_keeps) | with_reducible apply Keeps.cond | with_reducible apply Keeps.foldl | (fail_if_no_progress with_reducible refine Keeps.of_mk rfl rfl rfl rfl rfl rfl ?_) | with_reducible refine Keeps.of_free rfl rfl rfl rfl rfl (Nat.le_add_right _ _) ?_ | with_reducible refine Keeps.of_filter rfl rfl rfl rfl rfl rfl ?_ | split

theorem State.doSyncSend_keeps {s0 : State} {s : State} (h : Keeps s0 s) : Keeps s0 (State.doSyncSend s) := by
  unfold State.doSyncSend
  try dsimp only
  repeat' first | with_reducible assumption | intro _ | with_reducible (first | apply State.queueMarker_keeps) | with_reducible apply Keeps.cond | with_reducible apply Keeps.foldl | (fail_if_no_progress with_reducible refine Keeps.of_mk rfl rfl rfl rfl rfl rfl ?_) | with_reducible refine Keeps.of_free rfl rfl rfl rfl rfl (Nat.le_add_right _ _) ?_ | with_reducible refine Keeps.of_filter rfl rfl rfl rfl rfl rfl ?_ | split

theorem State.doRepeat_keeps {s0 : State} {s : State} (x2 : _) (h : Keeps s0 s) : Keeps s0 (State.doRepeat s x2) := by
  unfold State.doRepeat
  try dsimp only
  repeat' first | with_reducible assumption | intro _ | with_reducible (first | apply State.setLkk_keeps | apply State.queueMarker_keeps | apply State.bumpBy_keeps | apply State.record_keeps) | with_reducible apply Keeps.cond | with_reducible apply Keeps.foldl | (fail_if_no_progress with_reducible refine Keeps.of_mk rfl rfl rfl rfl rfl rfl ?_) | with_reducible refine Keeps.of_free rfl rfl rfl rfl rfl (Nat.le_add_right _ _) ?_ | with_reducible refine Keeps.of_filter rfl rfl rfl rfl rfl rfl ?_ | split

theorem State.sendRow_keeps {s0 : State} {s : State} (x2 : _) (x3 : _) (x4 : _) (h : Keeps s0 s) : Keeps s0 (State.sendRow s x2 x3 x4) := by
  unfold State.sendRow
  try dsimp only
  repeat' first | with_reducible assumption | intro _ | with_reducible (first | apply State.sendLine_keeps) | with_reducible apply Keeps.cond | with_reducible apply Keeps.foldl | (fail_if_no_progress with_reducible refine Keeps.of_mk rfl rfl rfl rfl rfl rfl ?_) | with_reducible refine Keeps.of_free rfl rfl rfl rfl rfl (Nat.le_add_right _ _) ?_ | with_reducible refine Keeps.of_filter rfl rfl rfl rfl rfl rfl ?_ | split

theorem State.logFull_keeps {s0 : State} {s : State} (x2 : _) (h : Keeps s0 s) : Keeps s0 (State.logFull s x2) := by
  unfold State.logFull
  try dsimp only
  repeat' first | with_reducible assumption | intro _ | with_reducible (first | apply State.record_keeps | apply State.setLkk_keeps) | with_reducible apply Keeps.cond | with_reducible apply Keeps.foldl | (fail_if_no_progress with_reducible refine Keeps.of_mk rfl rfl rfl rfl rfl rfl ?_) | with_reducible refine Keeps.of_free rfl rfl rfl rfl rfl (Nat.le_add_right _ _) ?_ | with_reducible refine Keeps.of_filter rfl rfl rfl rfl rfl rfl ?_ | split

theorem State.sendQueued_keeps {s0 s t : State} (x2 : _) (h : Keeps s0 s) (e : State.sendQueued s x2 = some t) : Keeps s0 t := by
  unfold State.sendQueued at e
  try dsimp only at e
  repeat' first | cases e | split at e
  all_goals repeat' first | with_reducible assumption | intro _ | with_reducible (first | apply State.sendRow_keeps | apply State.bump_keeps | apply State.setLkk_keeps | apply State.sendLine_keeps) | with_reducible apply Keeps.cond | with_reducible apply Keeps.foldl | (fail_if_no_progress with_reducible refine Keeps.of_mk rfl rfl rfl rfl rfl rfl ?_) | with_reducible refine Keeps.of_free rfl rfl rfl rfl rfl (Nat.le_add_right _ _) ?_ | with_reducible refine Keeps.of_filter rfl rfl rfl rfl rfl rfl ?_ | split

theorem State.takeSlot_keeps {s0 : State} {s : State} (x2 : _) (h : Keeps s0 s) : Keeps s0 (State.takeSlot s x2) := by
  unfold State.takeSlot
  try dsimp only
  repeat' first | with_reducible assumption | intro _ | with_reducible (first | apply State.setLkk_keeps) | with_reducible apply Keeps.cond | with_reducible apply Keeps.foldl | (fail_if_no_progress with_reducible refine Keeps.of_mk rfl rfl rfl rfl rfl rfl ?_) | with_reducible refine Keeps.of_free rfl rfl rfl rfl rfl (Nat.le_add_right _ _) ?_ | with_reducible refine Keeps.of_filter rfl rfl rfl rfl rfl rfl ?_ | split

theorem State.sendControl_keeps {s0 : State} {s : State} (x2 : _) (h : Keeps s0 s) : Keeps s0 (State.sendControl s x2) := by
  unfold State.sendControl
  try dsimp only
  repeat' first | with_reducible assumption | intro _ | with_reducible (first | apply State.setLkk_keeps | apply State.sendRow_keeps | apply State.bump_keeps) | with_reducible apply Keeps.cond | with_reducible apply Keeps.foldl | (fail_if_no_progress with_reducible refine Keeps.of_mk rfl rfl rfl rfl rfl rfl ?_) | with_reducible refine Keeps.of_free rfl rfl rfl rfl rfl (Nat.le_add_right _ _) ?_ | with_reducible refine Keeps.of_filter rfl rfl rfl rfl rfl rfl ?_ | split

theorem State.sendRerouted_keeps {s0 s t : State} (x2 : _) (h : Keeps s0 s) (e : State.sendRerouted s x2 = some t) : Keeps s0 t := by
  unfold State.sendRerouted at e
  try dsimp only at e
  repeat' first | cases e | split at e
  all_goals repeat' first | with_reducible assumption | intro _ | with_reducible (first | apply State.sendRow_keeps | apply State.bump_keeps | apply State.setLkk_keeps) | with_reducible apply Keeps.cond | with_reducible apply Keeps.foldl | (fail_if_no_progress with_reducible refine Keeps.of_mk rfl rfl rfl rfl rfl rfl ?_) | with_reducible refine Keeps.of_free rfl rfl rfl rfl rfl (Nat.le_add_right _ _) ?_ | with_reducible refine Keeps.of_filter rfl rfl rfl rfl rfl rfl ?_ | split

theorem State.sendReplayPkt_keeps {s0 s t : State} (x2 : _) (h : Keeps s0 s) (e : State.sendReplayPkt s x2 = some t) : Keeps s0 t := by
  unfold State.sendReplayPkt at e
  try dsimp only at e
  repeat' first | cases e | split at e
  all_goals repeat' first | with_reducible assumption | intro _ | with_reducible (first | apply State.sendRow_keeps | apply State.bump_keeps | apply State.setLkk_keeps) | with_reducible apply Keeps.cond | with_reducible apply Keeps.foldl | (fail_if_no_progress with_reducible refine Keeps.of_mk rfl rfl rfl rfl rfl rfl ?_) | with_reducible refine Keeps.of_free rfl rfl rfl rfl rfl (Nat.le_add_right _ _) ?_ | with_reducible refine Keeps.of_filter rfl rfl rfl rfl rfl rfl ?_ | split

theorem State.freeWn_keeps {s0 : State} {s : State} (x2 : _) (h : Keeps s0 s) : Keeps s0 (State.freeWn s x2) := by
  unfold State.freeWn
  try dsimp only
  repeat' first | with_reducible assumption | intro _ | with_reducible (first | apply State.setDir_keeps) | with_reducible apply Keeps.cond | with_reducible apply Keeps.foldl | (fail_if_no_progress with_reducible refine Keeps.of_mk rfl rfl rfl rfl rfl rfl ?_) | with_reducible refine Keeps.of_free rfl rfl rfl rfl rfl (Nat.le_add_right _ _) ?_ | with_reducible refine Keeps.of_filter rfl rfl rfl rfl rfl rfl ?_ | split

theorem State.sendNewPkt_keeps {s0 s t : State} (x2 : _) (h : Keeps s0 s) (e : State.sendNewPkt s x2 = some t) : Keeps s0 t := by
  unfold State.sendNewPkt at e
  try dsimp only at e
  repeat' first | cases e | split at e
  all_goals repeat' first | with_reducible assumption | intro _ | with_reducible (first | apply State.sendRow_keeps | apply State.freeWn_keeps | apply State.setLkk_keeps) | with_reducible apply Keeps.cond | with_reducible apply Keeps.foldl | (fail_if_no_progress with_reducible refine Keeps.of_mk rfl rfl rfl rfl rfl rfl ?_) | with_reducible refine Keeps.of_free rfl rfl rfl rfl rfl (Nat.le_add_right _ _) ?_ | with_reducible refine Keeps.of_filter rfl rfl rfl rfl rfl rfl ?_ | split

theorem State.freeRow_keeps {s0 : State} {s : State} (x2 : _) (h : Keeps s0 s) : Keeps s0 (State.freeRow s x2) := by
  unfold State.freeRow
  try dsimp only
  repeat' first | with_reducible assumption | intro _ | with_reducible (first | apply State.sendControl_keeps | refine State.sendQueued_keeps _ ?_ (by with_reducible assumption) | refine State.sendRerouted_keeps _ ?_ (by with_reducible assumption) | refine State.sendReplayPkt_keeps _ ?_ (by with_reducible assumption) | refine State.sendNewPkt_keeps _ ?_ (by with_reducible assumption) | apply State.sendRow_keeps) | with_reducible apply Keeps.cond | with_reducible apply Keeps.foldl | (fail_if_no_progress with_reducible refine Keeps.of_mk rfl rfl rfl rfl rfl rfl ?_) | with_reducible refine Keeps.of_free rfl rfl rfl rfl rfl (Nat.le_add_right _ _) ?_ | with_reducible refine Keeps.of_filter rfl rfl rfl rfl rfl rfl ?_ | split

theorem State.sendCap_keeps {s0 : State} {s : State} (x2 : _) (h : Keeps s0 s) : Keeps s0 (State.sendCap s x2) := by
  unfold State.sendCap
  try dsimp only
  repeat' first | with_reducible assumption | intro _ | with_reducible (first | apply State.setLnk_keeps | apply State.sendLine_keeps) | with_reducible apply Keeps.cond | with_reducible apply Keeps.foldl | (fail_if_no_progress with_reducible refine Keeps.of_mk rfl rfl rfl rfl rfl rfl ?_) | with_reducible refine Keeps.of_free rfl rfl rfl rfl rfl (Nat.le_add_right _ _) ?_ | with_reducible refine Keeps.of_filter rfl rfl rfl rfl rfl rfl ?_ | split

theorem State.doRow_keeps {s0 : State} {s : State} (x2 : _) (h : Keeps s0 s) : Keeps s0 (State.doRow s x2) := by
  unfold State.doRow
  try dsimp only
  repeat' first | with_reducible assumption | intro _ | with_reducible (first | apply State.sendWords_keeps | apply State.sendCap_keeps | apply State.logFull_keeps | apply State.takeSlot_keeps | refine State.sendQueued_keeps _ ?_ (by with_reducible assumption) | apply State.sendRow_keeps | apply State.freeRow_keeps) | with_reducible apply Keeps.cond | with_reducible apply Keeps.foldl | (fail_if_no_progress with_reducible refine Keeps.of_mk rfl rfl rfl rfl rfl rfl ?_) | with_reducible refine Keeps.of_free rfl rfl rfl rfl rfl (Nat.le_add_right _ _) ?_ | with_reducible refine Keeps.of_filter rfl rfl rfl rfl rfl rfl ?_ | split

theorem State.wantControl_keeps {s0 : State} {s : State} (x2 : _) (h : Keeps s0 s) : Keeps s0 (State.wantControl s x2) := by
  unfold State.wantControl
  try dsimp only
  repeat' first | with_reducible assumption | intro _ | with_reducible (first | apply State.setLkk_keeps) | with_reducible apply Keeps.cond | with_reducible apply Keeps.foldl | (fail_if_no_progress with_reducible refine Keeps.of_mk rfl rfl rfl rfl rfl rfl ?_) | with_reducible refine Keeps.of_free rfl rfl rfl rfl rfl (Nat.le_add_right _ _) ?_ | with_reducible refine Keeps.of_filter rfl rfl rfl rfl rfl rfl ?_ | split

theorem State.countAccepted_keeps {s0 : State} {s : State} (x2 : _) (h : Keeps s0 s) : Keeps s0 (State.countAccepted s x2) := by
  unfold State.countAccepted
  try dsimp only
  repeat' first | with_reducible assumption | intro _ | with_reducible (first | apply State.setLkk_keeps) | with_reducible apply Keeps.cond | with_reducible apply Keeps.foldl | (fail_if_no_progress with_reducible refine Keeps.of_mk rfl rfl rfl rfl rfl rfl ?_) | with_reducible refine Keeps.of_free rfl rfl rfl rfl rfl (Nat.le_add_right _ _) ?_ | with_reducible refine Keeps.of_filter rfl rfl rfl rfl rfl rfl ?_ | split

theorem State.wantNak_keeps {s0 : State} {s : State} (x2 : _) (h : Keeps s0 s) : Keeps s0 (State.wantNak s x2) := by
  unfold State.wantNak
  try dsimp only
  repeat' first | with_reducible assumption | intro _ | with_reducible (first | apply State.setLkk_keeps) | with_reducible apply Keeps.cond | with_reducible apply Keeps.foldl | (fail_if_no_progress with_reducible refine Keeps.of_mk rfl rfl rfl rfl rfl rfl ?_) | with_reducible refine Keeps.of_free rfl rfl rfl rfl rfl (Nat.le_add_right _ _) ?_ | with_reducible refine Keeps.of_filter rfl rfl rfl rfl rfl rfl ?_ | split

theorem State.addOperand_keeps {s0 s t : State} (x2 : _) (x3 : _) (x4 : _) (x5 : _) (h : Keeps s0 s) (e : State.addOperand s x2 x3 x4 x5 = some t) : Keeps s0 t := by
  unfold State.addOperand at e
  try dsimp only at e
  repeat' first | cases e | split at e
  all_goals repeat' first | with_reducible assumption | intro _ | with_reducible apply Keeps.cond | with_reducible apply Keeps.foldl | (fail_if_no_progress with_reducible refine Keeps.of_mk rfl rfl rfl rfl rfl rfl ?_) | with_reducible refine Keeps.of_free rfl rfl rfl rfl rfl (Nat.le_add_right _ _) ?_ | with_reducible refine Keeps.of_filter rfl rfl rfl rfl rfl rfl ?_ | split

theorem State.landStitch_keeps {s0 s t : State} (x2 : _) (x3 : _) (x4 : _) (x5 : _) (x6 : _) (h : Keeps s0 s) (e : State.landStitch s x2 x3 x4 x5 x6 = some t) : Keeps s0 t := by
  unfold State.landStitch at e
  try dsimp only at e
  repeat' first | cases e | split at e
  all_goals repeat' first | with_reducible assumption | intro _ | with_reducible (first | apply State.setDir_keeps | apply State.dieStitch_keeps | refine State.addOperand_keeps _ _ _ _ ?_ (by with_reducible assumption)) | with_reducible apply Keeps.cond | with_reducible apply Keeps.foldl | (fail_if_no_progress with_reducible refine Keeps.of_mk rfl rfl rfl rfl rfl rfl ?_) | with_reducible refine Keeps.of_free rfl rfl rfl rfl rfl (Nat.le_add_right _ _) ?_ | with_reducible refine Keeps.of_filter rfl rfl rfl rfl rfl rfl ?_ | split

theorem State.doReduce_keeps {s0 : State} {s : State} (x2 : _) (x3 : _) (x4 : _) (h : Keeps s0 s) : Keeps s0 (State.doReduce s x2 x3 x4) := by
  unfold State.doReduce
  try dsimp only
  repeat' first | with_reducible assumption | intro _ | with_reducible (first | apply State.setDir_keeps) | with_reducible apply Keeps.cond | with_reducible apply Keeps.foldl | (fail_if_no_progress with_reducible refine Keeps.of_mk rfl rfl rfl rfl rfl rfl ?_) | with_reducible refine Keeps.of_free rfl rfl rfl rfl rfl (Nat.le_add_right _ _) ?_ | with_reducible refine Keeps.of_filter rfl rfl rfl rfl rfl rfl ?_ | split

theorem State.propose_keeps {s0 : State} {s : State} (x2 : _) (h : Keeps s0 s) : Keeps s0 (State.propose s x2) := by
  unfold State.propose
  try dsimp only
  repeat' first | with_reducible assumption | intro _ | with_reducible (first | apply State.setLkk_keeps) | with_reducible apply Keeps.cond | with_reducible apply Keeps.foldl | (fail_if_no_progress with_reducible refine Keeps.of_mk rfl rfl rfl rfl rfl rfl ?_) | with_reducible refine Keeps.of_free rfl rfl rfl rfl rfl (Nat.le_add_right _ _) ?_ | with_reducible refine Keeps.of_filter rfl rfl rfl rfl rfl rfl ?_ | split

theorem State.doRejoin_keeps {s0 : State} {s : State} (x2 : _) (x3 : _) (h : Keeps s0 s) : Keeps s0 (State.doRejoin s x2 x3) := by
  unfold State.doRejoin
  try dsimp only
  repeat' first | with_reducible assumption | intro _ | with_reducible (first | apply State.setLkk_keeps) | with_reducible apply Keeps.cond | with_reducible apply Keeps.foldl | (fail_if_no_progress with_reducible refine Keeps.of_mk rfl rfl rfl rfl rfl rfl ?_) | with_reducible refine Keeps.of_free rfl rfl rfl rfl rfl (Nat.le_add_right _ _) ?_ | with_reducible refine Keeps.of_filter rfl rfl rfl rfl rfl rfl ?_ | split

theorem State.doRejoinAck_keeps {s0 : State} {s : State} (x2 : _) (x3 : _) (h : Keeps s0 s) : Keeps s0 (State.doRejoinAck s x2 x3) := by
  unfold State.doRejoinAck
  try dsimp only
  repeat' first | with_reducible assumption | intro _ | with_reducible (first | apply State.setLkk_keeps | apply State.record_keeps) | with_reducible apply Keeps.cond | with_reducible apply Keeps.foldl | (fail_if_no_progress with_reducible refine Keeps.of_mk rfl rfl rfl rfl rfl rfl ?_) | with_reducible refine Keeps.of_free rfl rfl rfl rfl rfl (Nat.le_add_right _ _) ?_ | with_reducible refine Keeps.of_filter rfl rfl rfl rfl rfl rfl ?_ | split

theorem State.acceptOwn_keeps {s0 : State} {s : State} (x2 : _) (x3 : _) (h : Keeps s0 s) : Keeps s0 (State.acceptOwn s x2 x3) := by
  unfold State.acceptOwn
  try dsimp only
  repeat' first | with_reducible assumption | intro _ | with_reducible (first | apply State.linkProtocol_keeps | refine State.landStitch_keeps _ _ _ _ _ ?_ (by with_reducible assumption) | apply State.countAccepted_keeps | apply State.setLkk_keeps | apply State.wantNak_keeps | apply State.bump_keeps) | with_reducible apply Keeps.cond | with_reducible apply Keeps.foldl | (fail_if_no_progress with_reducible refine Keeps.of_mk rfl rfl rfl rfl rfl rfl ?_) | with_reducible refine Keeps.of_free rfl rfl rfl rfl rfl (Nat.le_add_right _ _) ?_ | with_reducible refine Keeps.of_filter rfl rfl rfl rfl rfl rfl ?_ | split

theorem State.acceptRr_keeps {s0 : State} {s : State} (x2 : _) (x3 : _) (x4 : _) (h : Keeps s0 s) : Keeps s0 (State.acceptRr s x2 x3 x4) := by
  unfold State.acceptRr
  try dsimp only
  repeat' first | with_reducible assumption | intro _ | with_reducible (first | apply State.linkProtocol_keeps | refine State.landStitch_keeps _ _ _ _ _ ?_ (by with_reducible assumption) | apply State.setLkk_keeps | apply State.countAccepted_keeps | apply State.wantNak_keeps | apply State.bump_keeps) | with_reducible apply Keeps.cond | with_reducible apply Keeps.foldl | (fail_if_no_progress with_reducible refine Keeps.of_mk rfl rfl rfl rfl rfl rfl ?_) | with_reducible refine Keeps.of_free rfl rfl rfl rfl rfl (Nat.le_add_right _ _) ?_ | with_reducible refine Keeps.of_filter rfl rfl rfl rfl rfl rfl ?_ | split

theorem State.badRow_keeps {s0 : State} {s : State} (x2 : _) (h : Keeps s0 s) : Keeps s0 (State.badRow s x2) := by
  unfold State.badRow
  try dsimp only
  repeat' first | with_reducible assumption | intro _ | with_reducible (first | apply State.wantNak_keeps | apply State.bump_keeps) | with_reducible apply Keeps.cond | with_reducible apply Keeps.foldl | (fail_if_no_progress with_reducible refine Keeps.of_mk rfl rfl rfl rfl rfl rfl ?_) | with_reducible refine Keeps.of_free rfl rfl rfl rfl rfl (Nat.le_add_right _ _) ?_ | with_reducible refine Keeps.of_filter rfl rfl rfl rfl rfl rfl ?_ | split

theorem State.byIndex_keeps {s0 : State} {s : State} (x2 : _) (x3 : _) (x4 : _) {t5 : State} (_h5 : Keeps s0 t5) (h : Keeps s0 s) : Keeps s0 (State.byIndex s x2 x3 x4 t5) := by
  unfold State.byIndex
  try dsimp only
  repeat' first | with_reducible assumption | intro _ | with_reducible (first | apply State.bump_keeps | apply State.wantNak_keeps | apply State.badRow_keeps) | with_reducible apply Keeps.cond | with_reducible apply Keeps.foldl | (fail_if_no_progress with_reducible refine Keeps.of_mk rfl rfl rfl rfl rfl rfl ?_) | with_reducible refine Keeps.of_free rfl rfl rfl rfl rfl (Nat.le_add_right _ _) ?_ | with_reducible refine Keeps.of_filter rfl rfl rfl rfl rfl rfl ?_ | split

theorem State.takeRr_keeps {s0 : State} {s : State} (x2 : _) (x3 : _) (x4 : _) (h : Keeps s0 s) : Keeps s0 (State.takeRr s x2 x3 x4) := by
  unfold State.takeRr
  try dsimp only
  repeat' first | with_reducible assumption | intro _ | with_reducible (first | apply State.byIndex_keeps | apply State.acceptRr_keeps | apply State.setLkk_keeps | apply State.badRow_keeps) | with_reducible apply Keeps.cond | with_reducible apply Keeps.foldl | (fail_if_no_progress with_reducible refine Keeps.of_mk rfl rfl rfl rfl rfl rfl ?_) | with_reducible refine Keeps.of_free rfl rfl rfl rfl rfl (Nat.le_add_right _ _) ?_ | with_reducible refine Keeps.of_filter rfl rfl rfl rfl rfl rfl ?_ | split

theorem State.doRrIndex_keeps {s0 : State} {s : State} (x2 : _) (h : Keeps s0 s) : Keeps s0 (State.doRrIndex s x2) := by
  unfold State.doRrIndex
  try dsimp only
  repeat' first | with_reducible assumption | intro _ | with_reducible (first | apply State.setLkk_keeps | apply State.takeRr_keeps) | with_reducible apply Keeps.cond | with_reducible apply Keeps.foldl | (fail_if_no_progress with_reducible refine Keeps.of_mk rfl rfl rfl rfl rfl rfl ?_) | with_reducible refine Keeps.of_free rfl rfl rfl rfl rfl (Nat.le_add_right _ _) ?_ | with_reducible refine Keeps.of_filter rfl rfl rfl rfl rfl rfl ?_ | split

theorem State.tagSeen_keeps {s0 s t : State} (x2 : _) (x3 : _) (h : Keeps s0 s) (e : State.tagSeen s x2 x3 = some t) : Keeps s0 t := by
  unfold State.tagSeen at e
  try dsimp only at e
  repeat' first | cases e | split at e
  all_goals repeat' first | with_reducible assumption | intro _ | with_reducible apply Keeps.cond | with_reducible apply Keeps.foldl | (fail_if_no_progress with_reducible refine Keeps.of_mk rfl rfl rfl rfl rfl rfl ?_) | with_reducible refine Keeps.of_free rfl rfl rfl rfl rfl (Nat.le_add_right _ _) ?_ | with_reducible refine Keeps.of_filter rfl rfl rfl rfl rfl rfl ?_ | split

theorem State.takeAsk_keeps {s0 : State} {s : State} (x2 : _) (x3 : _) (h : Keeps s0 s) : Keeps s0 (State.takeAsk s x2 x3) := by
  unfold State.takeAsk
  try dsimp only
  repeat' first | with_reducible assumption | intro _ | with_reducible (first | apply State.markUrgent_keeps | apply State.setLaneCal_keeps | apply State.requestMove_keeps) | with_reducible apply Keeps.cond | with_reducible apply Keeps.foldl | (fail_if_no_progress with_reducible refine Keeps.of_mk rfl rfl rfl rfl rfl rfl ?_) | with_reducible refine Keeps.of_free rfl rfl rfl rfl rfl (Nat.le_add_right _ _) ?_ | with_reducible refine Keeps.of_filter rfl rfl rfl rfl rfl rfl ?_ | split

theorem State.consume_keeps {s0 : State} {s : State} (x2 : _) (x3 : _) (x4 : _) (h : Keeps s0 s) : Keeps s0 (State.consume s x2 x3 x4) := by
  unfold State.consume
  try dsimp only
  repeat' first | with_reducible assumption | intro _ | with_reducible (first | apply State.freePkt_keeps | apply State.doRejoin_keeps | apply State.doRejoinAck_keeps | apply State.takeAsk_keeps | apply State.setDir_keeps) | with_reducible apply Keeps.cond | with_reducible apply Keeps.foldl | (fail_if_no_progress with_reducible refine Keeps.of_mk rfl rfl rfl rfl rfl rfl ?_) | with_reducible refine Keeps.of_free rfl rfl rfl rfl rfl (Nat.le_add_right _ _) ?_ | with_reducible refine Keeps.of_filter rfl rfl rfl rfl rfl rfl ?_ | split

theorem State.acceptPkt_keeps {s0 : State} {s : State} (x2 : _) (x3 : _) (h : Keeps s0 s) : Keeps s0 (State.acceptPkt s x2 x3) := by
  unfold State.acceptPkt
  try dsimp only
  repeat' first | with_reducible assumption | intro _ | with_reducible (first | apply State.linkProtocol_keeps | apply State.countAccepted_keeps | apply State.setLkk_keeps | refine State.tagSeen_keeps _ _ ?_ (by with_reducible assumption) | apply State.consume_keeps | apply State.freePkt_keeps | apply State.bump_keeps) | with_reducible apply Keeps.cond | with_reducible apply Keeps.foldl | (fail_if_no_progress with_reducible refine Keeps.of_mk rfl rfl rfl rfl rfl rfl ?_) | with_reducible refine Keeps.of_free rfl rfl rfl rfl rfl (Nat.le_add_right _ _) ?_ | with_reducible refine Keeps.of_filter rfl rfl rfl rfl rfl rfl ?_ | split

theorem State.takeControl_keeps {s0 : State} {s : State} (x2 : _) (x3 : _) (h : Keeps s0 s) : Keeps s0 (State.takeControl s x2 x3) := by
  unfold State.takeControl
  try dsimp only
  repeat' first | with_reducible assumption | intro _ | with_reducible (first | apply State.bumpBy_keeps | apply State.setLkk_keeps | apply State.bump_keeps | apply State.doSync_keeps | apply State.doReady_keeps | apply State.doReleaseMarker_keeps | apply State.doFence_keeps) | with_reducible apply Keeps.cond | with_reducible apply Keeps.foldl | (fail_if_no_progress with_reducible refine Keeps.of_mk rfl rfl rfl rfl rfl rfl ?_) | with_reducible refine Keeps.of_free rfl rfl rfl rfl rfl (Nat.le_add_right _ _) ?_ | with_reducible refine Keeps.of_filter rfl rfl rfl rfl rfl rfl ?_ | split

theorem State.doRowReceive_keeps {s0 : State} {s : State} (x2 : _) (x3 : _) (x4 : _) (h : Keeps s0 s) : Keeps s0 (State.doRowReceive s x2 x3 x4) := by
  unfold State.doRowReceive
  try dsimp only
  repeat' first | with_reducible assumption | intro _ | with_reducible (first | apply State.byIndex_keeps | apply State.acceptOwn_keeps | apply State.takeRr_keeps | apply State.acceptPkt_keeps | apply State.wantNak_keeps | apply State.linkProtocol_keeps | apply State.takeControl_keeps | apply State.badRow_keeps) | with_reducible apply Keeps.cond | with_reducible apply Keeps.foldl | (fail_if_no_progress with_reducible refine Keeps.of_mk rfl rfl rfl rfl rfl rfl ?_) | with_reducible refine Keeps.of_free rfl rfl rfl rfl rfl (Nat.le_add_right _ _) ?_ | with_reducible refine Keeps.of_filter rfl rfl rfl rfl rfl rfl ?_ | split

theorem State.doLanding_keeps {s0 : State} {s : State} (x2 : _) (h : Keeps s0 s) : Keeps s0 (State.doLanding s x2) := by
  unfold State.doLanding
  try dsimp only
  repeat' first | with_reducible assumption | intro _ | with_reducible (first | apply State.poke_keeps | apply State.setLkk_keeps | apply State.bump_keeps | apply State.setWord_keeps | apply State.becomeReady_keeps) | with_reducible apply Keeps.cond | with_reducible apply Keeps.foldl | (fail_if_no_progress with_reducible refine Keeps.of_mk rfl rfl rfl rfl rfl rfl ?_) | with_reducible refine Keeps.of_free rfl rfl rfl rfl rfl (Nat.le_add_right _ _) ?_ | with_reducible refine Keeps.of_filter rfl rfl rfl rfl rfl rfl ?_ | split

theorem State.doKeepalive_keeps {s0 : State} {s : State} (x2 : _) (h : Keeps s0 s) : Keeps s0 (State.doKeepalive s x2) := by
  unfold State.doKeepalive
  try dsimp only
  repeat' first | with_reducible assumption | intro _ | with_reducible (first | apply State.linkDown_keeps | apply State.record_keeps) | with_reducible apply Keeps.cond | with_reducible apply Keeps.foldl | (fail_if_no_progress with_reducible refine Keeps.of_mk rfl rfl rfl rfl rfl rfl ?_) | with_reducible refine Keeps.of_free rfl rfl rfl rfl rfl (Nat.le_add_right _ _) ?_ | with_reducible refine Keeps.of_filter rfl rfl rfl rfl rfl rfl ?_ | split

theorem State.doReplayTimer_keeps {s0 : State} {s : State} (x2 : _) (x3 : _) (h : Keeps s0 s) : Keeps s0 (State.doReplayTimer s x2 x3) := by
  unfold State.doReplayTimer
  try dsimp only
  repeat' first | with_reducible assumption | intro _ | with_reducible (first | apply State.bump_keeps | apply State.setLkk_keeps | apply State.linkDown_keeps | apply State.record_keeps) | with_reducible apply Keeps.cond | with_reducible apply Keeps.foldl | (fail_if_no_progress with_reducible refine Keeps.of_mk rfl rfl rfl rfl rfl rfl ?_) | with_reducible refine Keeps.of_free rfl rfl rfl rfl rfl (Nat.le_add_right _ _) ?_ | with_reducible refine Keeps.of_filter rfl rfl rfl rfl rfl rfl ?_ | split

end Sys2Proof.Machine
end

