-- ==== Sys2Proof/Laws/KeepsOptic.lean ====
section
/-! SUPPORT. Every operation of the machine keeps what Keeps says: optics and optical lanes. -/

set_option linter.unusedTactic false
set_option linter.unreachableTactic false

namespace Sys2Proof.Machine

theorem State.setCh_keeps {s0 : State} {s : State} (x2 : _) (x3 : _) (h : Keeps s0 s) : Keeps s0 (State.setCh s x2 x3) := by
  unfold State.setCh
  try dsimp only
  repeat' first | with_reducible assumption | intro _ | with_reducible apply Keeps.cond | with_reducible apply Keeps.foldl | (fail_if_no_progress with_reducible refine Keeps.of_mk rfl rfl rfl rfl rfl rfl ?_) | with_reducible refine Keeps.of_free rfl rfl rfl rfl rfl (Nat.le_add_right _ _) ?_ | with_reducible refine Keeps.of_filter rfl rfl rfl rfl rfl rfl ?_ | split

theorem State.setRingH_keeps {s0 : State} {s : State} (x2 : _) (x3 : _) (h : Keeps s0 s) : Keeps s0 (State.setRingH s x2 x3) := by
  unfold State.setRingH
  try dsimp only
  repeat' first | with_reducible assumption | intro _ | with_reducible apply Keeps.cond | with_reducible apply Keeps.foldl | (fail_if_no_progress with_reducible refine Keeps.of_mk rfl rfl rfl rfl rfl rfl ?_) | with_reducible refine Keeps.of_free rfl rfl rfl rfl rfl (Nat.le_add_right _ _) ?_ | with_reducible refine Keeps.of_filter rfl rfl rfl rfl rfl rfl ?_ | split

theorem State.refreshCal_keeps {s0 : State} {s : State} (x2 : _) (h : Keeps s0 s) : Keeps s0 (State.refreshCal s x2) := by
  unfold State.refreshCal
  try dsimp only
  repeat' first | with_reducible assumption | intro _ | with_reducible apply Keeps.cond | with_reducible apply Keeps.foldl | (fail_if_no_progress with_reducible refine Keeps.of_mk rfl rfl rfl rfl rfl rfl ?_) | with_reducible refine Keeps.of_free rfl rfl rfl rfl rfl (Nat.le_add_right _ _) ?_ | with_reducible refine Keeps.of_filter rfl rfl rfl rfl rfl rfl ?_ | split

theorem State.powerLoops_keeps {s0 : State} {s : State} (h : Keeps s0 s) : Keeps s0 (State.powerLoops s) := by
  unfold State.powerLoops
  try dsimp only
  repeat' first | with_reducible assumption | intro _ | with_reducible (first | apply State.setCh_keeps) | with_reducible apply Keeps.cond | with_reducible apply Keeps.foldl | (fail_if_no_progress with_reducible refine Keeps.of_mk rfl rfl rfl rfl rfl rfl ?_) | with_reducible refine Keeps.of_free rfl rfl rfl rfl rfl (Nat.le_add_right _ _) ?_ | with_reducible refine Keeps.of_filter rfl rfl rfl rfl rfl rfl ?_ | split

theorem State.startCheck_keeps {s0 : State} {s : State} (x2 : _) (x3 : _) (x4 : _) (h : Keeps s0 s) : Keeps s0 (State.startCheck s x2 x3 x4) := by
  unfold State.startCheck
  try dsimp only
  repeat' first | with_reducible assumption | intro _ | with_reducible (first | apply State.setLaneCal_keeps) | with_reducible apply Keeps.cond | with_reducible apply Keeps.foldl | (fail_if_no_progress with_reducible refine Keeps.of_mk rfl rfl rfl rfl rfl rfl ?_) | with_reducible refine Keeps.of_free rfl rfl rfl rfl rfl (Nat.le_add_right _ _) ?_ | with_reducible refine Keeps.of_filter rfl rfl rfl rfl rfl rfl ?_ | split

theorem State.loseChannel_keeps {s0 : State} {s : State} (x2 : _) (x3 : _) (x4 : _) (h : Keeps s0 s) : Keeps s0 (State.loseChannel s x2 x3 x4) := by
  unfold State.loseChannel
  try dsimp only
  repeat' first | with_reducible assumption | intro _ | with_reducible (first | apply State.record_keeps | apply State.setCh_keeps) | with_reducible apply Keeps.cond | with_reducible apply Keeps.foldl | (fail_if_no_progress with_reducible refine Keeps.of_mk rfl rfl rfl rfl rfl rfl ?_) | with_reducible refine Keeps.of_free rfl rfl rfl rfl rfl (Nat.le_add_right _ _) ?_ | with_reducible refine Keeps.of_filter rfl rfl rfl rfl rfl rfl ?_ | split

theorem State.takeover_keeps {s0 : State} {s : State} (x2 : _) (x3 : _) (x4 : _) (h : Keeps s0 s) : Keeps s0 (State.takeover s x2 x3 x4) := by
  unfold State.takeover
  try dsimp only
  repeat' first | with_reducible assumption | intro _ | with_reducible (first | apply State.startCheck_keeps | apply State.bump_keeps | apply State.setCh_keeps) | with_reducible apply Keeps.cond | with_reducible apply Keeps.foldl | (fail_if_no_progress with_reducible refine Keeps.of_mk rfl rfl rfl rfl rfl rfl ?_) | with_reducible refine Keeps.of_free rfl rfl rfl rfl rfl (Nat.le_add_right _ _) ?_ | with_reducible refine Keeps.of_filter rfl rfl rfl rfl rfl rfl ?_ | split

theorem State.spareUp_keeps {s0 : State} {s : State} (x2 : _) (h : Keeps s0 s) : Keeps s0 (State.spareUp s x2) := by
  unfold State.spareUp
  try dsimp only
  repeat' first | with_reducible assumption | intro _ | with_reducible (first | apply State.setCh_keeps) | with_reducible apply Keeps.cond | with_reducible apply Keeps.foldl | (fail_if_no_progress with_reducible refine Keeps.of_mk rfl rfl rfl rfl rfl rfl ?_) | with_reducible refine Keeps.of_free rfl rfl rfl rfl rfl (Nat.le_add_right _ _) ?_ | with_reducible refine Keeps.of_filter rfl rfl rfl rfl rfl rfl ?_ | split

theorem State.doLaserFailure_keeps {s0 : State} {s : State} (x2 : _) (x3 : _) (x4 : _) (x5 : _) (x6 : _) (h : Keeps s0 s) : Keeps s0 (State.doLaserFailure s x2 x3 x4 x5 x6) := by
  unfold State.doLaserFailure
  try dsimp only
  repeat' first | with_reducible assumption | intro _ | with_reducible (first | apply State.setCh_keeps | apply State.loseChannel_keeps | apply State.record_keeps | apply State.spareUp_keeps | apply State.takeover_keeps) | with_reducible apply Keeps.cond | with_reducible apply Keeps.foldl | (fail_if_no_progress with_reducible refine Keeps.of_mk rfl rfl rfl rfl rfl rfl ?_) | with_reducible refine Keeps.of_free rfl rfl rfl rfl rfl (Nat.le_add_right _ _) ?_ | with_reducible refine Keeps.of_filter rfl rfl rfl rfl rfl rfl ?_ | split

theorem State.tryExchange_keeps {s0 : State} {s : State} (x2 : _) (x3 : _) (x4 : _) (h : Keeps s0 s) : Keeps s0 (State.tryExchange s x2 x3 x4) := by
  unfold State.tryExchange
  try dsimp only
  repeat' first | with_reducible assumption | intro _ | with_reducible (first | apply State.requestMove_keeps | apply State.setCh_keeps | apply State.bump_keeps | apply State.record_keeps) | with_reducible apply Keeps.cond | with_reducible apply Keeps.foldl | (fail_if_no_progress with_reducible refine Keeps.of_mk rfl rfl rfl rfl rfl rfl ?_) | with_reducible refine Keeps.of_free rfl rfl rfl rfl rfl (Nat.le_add_right _ _) ?_ | with_reducible refine Keeps.of_filter rfl rfl rfl rfl rfl rfl ?_ | split

theorem State.dueExchange_keeps {s0 : State} {s : State} (x2 : _) (x3 : _) (x4 : _) (x5 : _) (h : Keeps s0 s) : Keeps s0 (State.dueExchange s x2 x3 x4 x5) := by
  unfold State.dueExchange
  try dsimp only
  repeat' first | with_reducible assumption | intro _ | with_reducible (first | apply State.tryExchange_keeps | apply State.setCh_keeps) | with_reducible apply Keeps.cond | with_reducible apply Keeps.foldl | (fail_if_no_progress with_reducible refine Keeps.of_mk rfl rfl rfl rfl rfl rfl ?_) | with_reducible refine Keeps.of_free rfl rfl rfl rfl rfl (Nat.le_add_right _ _) ?_ | with_reducible refine Keeps.of_filter rfl rfl rfl rfl rfl rfl ?_ | split

theorem State.doSpareQualified_keeps {s0 : State} {s : State} (x2 : _) (x3 : _) (x4 : _) (h : Keeps s0 s) : Keeps s0 (State.doSpareQualified s x2 x3 x4) := by
  unfold State.doSpareQualified
  try dsimp only
  repeat' first | with_reducible assumption | intro _ | with_reducible (first | apply State.dueExchange_keeps | apply State.setCh_keeps | apply State.takeover_keeps) | with_reducible apply Keeps.cond | with_reducible apply Keeps.foldl | (fail_if_no_progress with_reducible refine Keeps.of_mk rfl rfl rfl rfl rfl rfl ?_) | with_reducible refine Keeps.of_free rfl rfl rfl rfl rfl (Nat.le_add_right _ _) ?_ | with_reducible refine Keeps.of_filter rfl rfl rfl rfl rfl rfl ?_ | split

theorem State.doPrimaryRetry_keeps {s0 : State} {s : State} (x2 : _) (x3 : _) (x4 : _) (h : Keeps s0 s) : Keeps s0 (State.doPrimaryRetry s x2 x3 x4) := by
  unfold State.doPrimaryRetry
  try dsimp only
  repeat' first | with_reducible assumption | intro _ | with_reducible (first | apply State.setCh_keeps) | with_reducible apply Keeps.cond | with_reducible apply Keeps.foldl | (fail_if_no_progress with_reducible refine Keeps.of_mk rfl rfl rfl rfl rfl rfl ?_) | with_reducible refine Keeps.of_free rfl rfl rfl rfl rfl (Nat.le_add_right _ _) ?_ | with_reducible refine Keeps.of_filter rfl rfl rfl rfl rfl rfl ?_ | split

theorem State.doRetryResult_keeps {s0 : State} {s : State} (x2 : _) (x3 : _) (x4 : _) (x5 : _) (h : Keeps s0 s) : Keeps s0 (State.doRetryResult s x2 x3 x4 x5) := by
  unfold State.doRetryResult
  try dsimp only
  repeat' first | with_reducible assumption | intro _ | with_reducible (first | apply State.dueExchange_keeps | apply State.setCh_keeps | apply State.record_keeps | apply State.loseChannel_keeps) | with_reducible apply Keeps.cond | with_reducible apply Keeps.foldl | (fail_if_no_progress with_reducible refine Keeps.of_mk rfl rfl rfl rfl rfl rfl ?_) | with_reducible refine Keeps.of_free rfl rfl rfl rfl rfl (Nat.le_add_right _ _) ?_ | with_reducible refine Keeps.of_filter rfl rfl rfl rfl rfl rfl ?_ | split

theorem State.startRange_keeps {s0 : State} {s : State} (x2 : _) (x3 : _) (x4 : _) (h : Keeps s0 s) : Keeps s0 (State.startRange s x2 x3 x4) := by
  unfold State.startRange
  try dsimp only
  repeat' first | with_reducible assumption | intro _ | with_reducible (first | apply State.setCh_keeps) | with_reducible apply Keeps.cond | with_reducible apply Keeps.foldl | (fail_if_no_progress with_reducible refine Keeps.of_mk rfl rfl rfl rfl rfl rfl ?_) | with_reducible refine Keeps.of_free rfl rfl rfl rfl rfl (Nat.le_add_right _ _) ?_ | with_reducible refine Keeps.of_filter rfl rfl rfl rfl rfl rfl ?_ | split

theorem State.doBiasRange_keeps {s0 : State} {s : State} (x2 : _) (x3 : _) (x4 : _) (x5 : _) (h : Keeps s0 s) : Keeps s0 (State.doBiasRange s x2 x3 x4 x5) := by
  unfold State.doBiasRange
  try dsimp only
  repeat' first | with_reducible assumption | intro _ | with_reducible (first | apply State.dueExchange_keeps | apply State.doPrimaryRetry_keeps | apply State.startRange_keeps | apply State.setCh_keeps) | with_reducible apply Keeps.cond | with_reducible apply Keeps.foldl | (fail_if_no_progress with_reducible refine Keeps.of_mk rfl rfl rfl rfl rfl rfl ?_) | with_reducible refine Keeps.of_free rfl rfl rfl rfl rfl (Nat.le_add_right _ _) ?_ | with_reducible refine Keeps.of_filter rfl rfl rfl rfl rfl rfl ?_ | split

theorem State.switchBank_keeps {s0 : State} {s : State} (x2 : _) (x3 : _) (x4 : _) (h : Keeps s0 s) : Keeps s0 (State.switchBank s x2 x3 x4) := by
  unfold State.switchBank
  try dsimp only
  repeat' first | with_reducible assumption | intro _ | with_reducible (first | apply State.startCheck_keeps | apply State.setCh_keeps | apply State.requestMove_keeps) | with_reducible apply Keeps.cond | with_reducible apply Keeps.foldl | (fail_if_no_progress with_reducible refine Keeps.of_mk rfl rfl rfl rfl rfl rfl ?_) | with_reducible refine Keeps.of_free rfl rfl rfl rfl rfl (Nat.le_add_right _ _) ?_ | with_reducible refine Keeps.of_filter rfl rfl rfl rfl rfl rfl ?_ | split

theorem State.endExchange_keeps {s0 : State} {s : State} (x2 : _) (x3 : _) (x4 : _) (h : Keeps s0 s) : Keeps s0 (State.endExchange s x2 x3 x4) := by
  unfold State.endExchange
  try dsimp only
  repeat' first | with_reducible assumption | intro _ | with_reducible (first | apply State.bump_keeps | apply State.setCh_keeps | apply State.dueExchange_keeps) | with_reducible apply Keeps.cond | with_reducible apply Keeps.foldl | (fail_if_no_progress with_reducible refine Keeps.of_mk rfl rfl rfl rfl rfl rfl ?_) | with_reducible refine Keeps.of_free rfl rfl rfl rfl rfl (Nat.le_add_right _ _) ?_ | with_reducible refine Keeps.of_filter rfl rfl rfl rfl rfl rfl ?_ | split

theorem State.exchanges_keeps {s0 : State} {s : State} (h : Keeps s0 s) : Keeps s0 (State.exchanges s) := by
  unfold State.exchanges
  try dsimp only
  repeat' first | with_reducible assumption | intro _ | with_reducible (first | apply State.tryExchange_keeps | apply State.switchBank_keeps | apply State.startRange_keeps | apply State.endExchange_keeps) | with_reducible apply Keeps.cond | with_reducible apply Keeps.foldl | (fail_if_no_progress with_reducible refine Keeps.of_mk rfl rfl rfl rfl rfl rfl ?_) | with_reducible refine Keeps.of_free rfl rfl rfl rfl rfl (Nat.le_add_right _ _) ?_ | with_reducible refine Keeps.of_filter rfl rfl rfl rfl rfl rfl ?_ | split

theorem State.doPrbsDone_keeps {s0 : State} {s : State} (x2 : _) (x3 : _) (x4 : _) (h : Keeps s0 s) : Keeps s0 (State.doPrbsDone s x2 x3 x4) := by
  unfold State.doPrbsDone
  try dsimp only
  repeat' first | with_reducible assumption | intro _ | with_reducible (first | apply State.setLaneCal_keeps | apply State.requestMove_keeps) | with_reducible apply Keeps.cond | with_reducible apply Keeps.foldl | (fail_if_no_progress with_reducible refine Keeps.of_mk rfl rfl rfl rfl rfl rfl ?_) | with_reducible refine Keeps.of_free rfl rfl rfl rfl rfl (Nat.le_add_right _ _) ?_ | with_reducible refine Keeps.of_filter rfl rfl rfl rfl rfl rfl ?_ | split

theorem State.edgeReached_keeps {s0 : State} {s : State} (x2 : _) (x3 : _) (x4 : _) (h : Keeps s0 s) : Keeps s0 (State.edgeReached s x2 x3 x4) := by
  unfold State.edgeReached
  try dsimp only
  repeat' first | with_reducible assumption | intro _ | with_reducible (first | apply State.record_keeps | apply State.askPartner_keeps | apply State.retireRx_keeps | apply State.retireTx_keeps) | with_reducible apply Keeps.cond | with_reducible apply Keeps.foldl | (fail_if_no_progress with_reducible refine Keeps.of_mk rfl rfl rfl rfl rfl rfl ?_) | with_reducible refine Keeps.of_free rfl rfl rfl rfl rfl (Nat.le_add_right _ _) ?_ | with_reducible refine Keeps.of_filter rfl rfl rfl rfl rfl rfl ?_ | split

theorem State.setHeater_keeps {s0 : State} {s : State} (x2 : _) (x3 : _) (x4 : _) (h : Keeps s0 s) : Keeps s0 (State.setHeater s x2 x3 x4) := by
  unfold State.setHeater
  try dsimp only
  repeat' first | with_reducible assumption | intro _ | with_reducible (first | apply State.setRingH_keeps | apply State.edgeReached_keeps) | with_reducible apply Keeps.cond | with_reducible apply Keeps.foldl | (fail_if_no_progress with_reducible refine Keeps.of_mk rfl rfl rfl rfl rfl rfl ?_) | with_reducible refine Keeps.of_free rfl rfl rfl rfl rfl (Nat.le_add_right _ _) ?_ | with_reducible refine Keeps.of_filter rfl rfl rfl rfl rfl rfl ?_ | split

theorem State.doHeater_keeps {s0 : State} {s : State} (x2 : _) (x3 : _) (h : Keeps s0 s) : Keeps s0 (State.doHeater s x2 x3) := by
  unfold State.doHeater
  try dsimp only
  repeat' first | with_reducible assumption | intro _ | with_reducible (first | apply State.setHeater_keeps) | with_reducible apply Keeps.cond | with_reducible apply Keeps.foldl | (fail_if_no_progress with_reducible refine Keeps.of_mk rfl rfl rfl rfl rfl rfl ?_) | with_reducible refine Keeps.of_free rfl rfl rfl rfl rfl (Nat.le_add_right _ _) ?_ | with_reducible refine Keeps.of_filter rfl rfl rfl rfl rfl rfl ?_ | split

theorem State.doDetune_keeps {s0 : State} {s : State} (x2 : _) (x3 : _) (h : Keeps s0 s) : Keeps s0 (State.doDetune s x2 x3) := by
  unfold State.doDetune
  try dsimp only
  repeat' first | with_reducible assumption | intro _ | with_reducible (first | apply State.setRingH_keeps | apply State.urgentRx_keeps | apply State.markUrgent_keeps) | with_reducible apply Keeps.cond | with_reducible apply Keeps.foldl | (fail_if_no_progress with_reducible refine Keeps.of_mk rfl rfl rfl rfl rfl rfl ?_) | with_reducible refine Keeps.of_free rfl rfl rfl rfl rfl (Nat.le_add_right _ _) ?_ | with_reducible refine Keeps.of_filter rfl rfl rfl rfl rfl rfl ?_ | split

theorem State.doGuard_keeps {s0 : State} {s : State} (x2 : _) (x3 : _) (h : Keeps s0 s) : Keeps s0 (State.doGuard s x2 x3) := by
  unfold State.doGuard
  try dsimp only
  repeat' first | with_reducible assumption | intro _ | with_reducible (first | apply State.record_keeps | apply State.setLaneCal_keeps) | with_reducible apply Keeps.cond | with_reducible apply Keeps.foldl | (fail_if_no_progress with_reducible refine Keeps.of_mk rfl rfl rfl rfl rfl rfl ?_) | with_reducible refine Keeps.of_free rfl rfl rfl rfl rfl (Nat.le_add_right _ _) ?_ | with_reducible refine Keeps.of_filter rfl rfl rfl rfl rfl rfl ?_ | split

theorem State.setCorr_keeps {s0 : State} {s : State} (x2 : _) (x3 : _) (h : Keeps s0 s) : Keeps s0 (State.setCorr s x2 x3) := by
  unfold State.setCorr
  try dsimp only
  repeat' first | with_reducible assumption | intro _ | with_reducible (first | apply State.setRingH_keeps) | with_reducible apply Keeps.cond | with_reducible apply Keeps.foldl | (fail_if_no_progress with_reducible refine Keeps.of_mk rfl rfl rfl rfl rfl rfl ?_) | with_reducible refine Keeps.of_free rfl rfl rfl rfl rfl (Nat.le_add_right _ _) ?_ | with_reducible refine Keeps.of_filter rfl rfl rfl rfl rfl rfl ?_ | split

theorem State.doGainTimeout_keeps {s0 : State} {s : State} (x2 : _) (x3 : _) (h : Keeps s0 s) : Keeps s0 (State.doGainTimeout s x2 x3) := by
  unfold State.doGainTimeout
  try dsimp only
  repeat' first | with_reducible assumption | intro _ | with_reducible (first | apply State.urgentRx_keeps) | with_reducible apply Keeps.cond | with_reducible apply Keeps.foldl | (fail_if_no_progress with_reducible refine Keeps.of_mk rfl rfl rfl rfl rfl rfl ?_) | with_reducible refine Keeps.of_free rfl rfl rfl rfl rfl (Nat.le_add_right _ _) ?_ | with_reducible refine Keeps.of_filter rfl rfl rfl rfl rfl rfl ?_ | split

theorem State.deferLane_keeps {s0 : State} {s : State} (x2 : _) (x3 : _) (h : Keeps s0 s) : Keeps s0 (State.deferLane s x2 x3) := by
  unfold State.deferLane
  try dsimp only
  repeat' first | with_reducible assumption | intro _ | with_reducible (first | apply State.bump_keeps | apply State.record_keeps | apply State.setLaneCal_keeps) | with_reducible apply Keeps.cond | with_reducible apply Keeps.foldl | (fail_if_no_progress with_reducible refine Keeps.of_mk rfl rfl rfl rfl rfl rfl ?_) | with_reducible refine Keeps.of_free rfl rfl rfl rfl rfl (Nat.le_add_right _ _) ?_ | with_reducible refine Keeps.of_filter rfl rfl rfl rfl rfl rfl ?_ | split

theorem State.dropCal_keeps {s0 : State} {s : State} (x2 : _) (x3 : _) (h : Keeps s0 s) : Keeps s0 (State.dropCal s x2 x3) := by
  unfold State.dropCal
  try dsimp only
  repeat' first | with_reducible assumption | intro _ | with_reducible (first | apply State.deferLane_keeps | apply State.setCalGroup_keeps) | with_reducible apply Keeps.cond | with_reducible apply Keeps.foldl | (fail_if_no_progress with_reducible refine Keeps.of_mk rfl rfl rfl rfl rfl rfl ?_) | with_reducible refine Keeps.of_free rfl rfl rfl rfl rfl (Nat.le_add_right _ _) ?_ | with_reducible refine Keeps.of_filter rfl rfl rfl rfl rfl rfl ?_ | split

theorem State.doCalTurn_keeps {s0 : State} {s : State} (x2 : _) (x3 : _) (h : Keeps s0 s) : Keeps s0 (State.doCalTurn s x2 x3) := by
  unfold State.doCalTurn
  try dsimp only
  repeat' first | with_reducible assumption | intro _ | with_reducible (first | apply State.setCalGroup_keeps | apply State.setLnk_keeps | apply State.setLaneCal_keeps | apply State.deferLane_keeps | apply State.requestMove_keeps) | with_reducible apply Keeps.cond | with_reducible apply Keeps.foldl | (fail_if_no_progress with_reducible refine Keeps.of_mk rfl rfl rfl rfl rfl rfl ?_) | with_reducible refine Keeps.of_free rfl rfl rfl rfl rfl (Nat.le_add_right _ _) ?_ | with_reducible refine Keeps.of_filter rfl rfl rfl rfl rfl rfl ?_ | split

theorem State.endTxCal_keeps {s0 : State} {s : State} (x2 : _) (x3 : _) (x4 : _) (h : Keeps s0 s) : Keeps s0 (State.endTxCal s x2 x3 x4) := by
  unfold State.endTxCal
  try dsimp only
  repeat' first | with_reducible assumption | intro _ | with_reducible (first | apply State.setCalGroup_keeps | apply State.setLaneCal_keeps | apply State.setCorr_keeps | apply State.setDword_keeps | apply State.bump_keeps | apply State.requestMove_keeps | apply State.refreshCal_keeps | apply State.retireTx_keeps) | with_reducible apply Keeps.cond | with_reducible apply Keeps.foldl | (fail_if_no_progress with_reducible refine Keeps.of_mk rfl rfl rfl rfl rfl rfl ?_) | with_reducible refine Keeps.of_free rfl rfl rfl rfl rfl (Nat.le_add_right _ _) ?_ | with_reducible refine Keeps.of_filter rfl rfl rfl rfl rfl rfl ?_ | split

theorem State.endRxCal_keeps {s0 : State} {s : State} (x2 : _) (x3 : _) (x4 : _) (h : Keeps s0 s) : Keeps s0 (State.endRxCal s x2 x3 x4) := by
  unfold State.endRxCal
  try dsimp only
  repeat' first | with_reducible assumption | intro _ | with_reducible (first | apply State.setLaneCal_keeps | apply State.setCorr_keeps | apply State.setLnk_keeps | apply State.retireRx_keeps) | with_reducible apply Keeps.cond | with_reducible apply Keeps.foldl | (fail_if_no_progress with_reducible refine Keeps.of_mk rfl rfl rfl rfl rfl rfl ?_) | with_reducible refine Keeps.of_free rfl rfl rfl rfl rfl (Nat.le_add_right _ _) ?_ | with_reducible refine Keeps.of_filter rfl rfl rfl rfl rfl rfl ?_ | split

theorem State.doCalibrate_keeps {s0 : State} {s : State} (x2 : _) (x3 : _) (x4 : _) (h : Keeps s0 s) : Keeps s0 (State.doCalibrate s x2 x3 x4) := by
  unfold State.doCalibrate
  try dsimp only
  repeat' first | with_reducible assumption | intro _ | with_reducible (first | apply State.endTxCal_keeps | apply State.askPartner_keeps | apply State.endRxCal_keeps) | with_reducible apply Keeps.cond | with_reducible apply Keeps.foldl | (fail_if_no_progress with_reducible refine Keeps.of_mk rfl rfl rfl rfl rfl rfl ?_) | with_reducible refine Keeps.of_free rfl rfl rfl rfl rfl (Nat.le_add_right _ _) ?_ | with_reducible refine Keeps.of_filter rfl rfl rfl rfl rfl rfl ?_ | split

theorem State.doOverload_keeps {s0 : State} {s : State} (x2 : _) (x3 : _) (h : Keeps s0 s) : Keeps s0 (State.doOverload s x2 x3) := by
  unfold State.doOverload
  try dsimp only
  repeat' first | with_reducible assumption | intro _ | with_reducible (first | apply State.bump_keeps | apply State.setLaneCal_keeps) | with_reducible apply Keeps.cond | with_reducible apply Keeps.foldl | (fail_if_no_progress with_reducible refine Keeps.of_mk rfl rfl rfl rfl rfl rfl ?_) | with_reducible refine Keeps.of_free rfl rfl rfl rfl rfl (Nat.le_add_right _ _) ?_ | with_reducible refine Keeps.of_filter rfl rfl rfl rfl rfl rfl ?_ | split

theorem State.doOverloadClear_keeps {s0 : State} {s : State} (x2 : _) (x3 : _) (h : Keeps s0 s) : Keeps s0 (State.doOverloadClear s x2 x3) := by
  unfold State.doOverloadClear
  try dsimp only
  repeat' first | with_reducible assumption | intro _ | with_reducible (first | apply State.setLaneCal_keeps) | with_reducible apply Keeps.cond | with_reducible apply Keeps.foldl | (fail_if_no_progress with_reducible refine Keeps.of_mk rfl rfl rfl rfl rfl rfl ?_) | with_reducible refine Keeps.of_free rfl rfl rfl rfl rfl (Nat.le_add_right _ _) ?_ | with_reducible refine Keeps.of_filter rfl rfl rfl rfl rfl rfl ?_ | split

theorem State.doOverloadRetire_keeps {s0 : State} {s : State} (x2 : _) (x3 : _) (h : Keeps s0 s) : Keeps s0 (State.doOverloadRetire s x2 x3) := by
  unfold State.doOverloadRetire
  try dsimp only
  repeat' first | with_reducible assumption | intro _ | with_reducible (first | apply State.setLaneCal_keeps | apply State.record_keeps | apply State.retireRx_keeps | apply State.linkDown_keeps | apply State.setLnk_keeps) | with_reducible apply Keeps.cond | with_reducible apply Keeps.foldl | (fail_if_no_progress with_reducible refine Keeps.of_mk rfl rfl rfl rfl rfl rfl ?_) | with_reducible refine Keeps.of_free rfl rfl rfl rfl rfl (Nat.le_add_right _ _) ?_ | with_reducible refine Keeps.of_filter rfl rfl rfl rfl rfl rfl ?_ | split

theorem State.doOverloadRecovery_keeps {s0 : State} {s : State} (x2 : _) (x3 : _) (h : Keeps s0 s) : Keeps s0 (State.doOverloadRecovery s x2 x3) := by
  unfold State.doOverloadRecovery
  try dsimp only
  repeat' first | with_reducible assumption | intro _ | with_reducible (first | apply State.setCalGroup_keeps | apply State.askPartner_keeps | apply State.setLnk_keeps) | with_reducible apply Keeps.cond | with_reducible apply Keeps.foldl | (fail_if_no_progress with_reducible refine Keeps.of_mk rfl rfl rfl rfl rfl rfl ?_) | with_reducible refine Keeps.of_free rfl rfl rfl rfl rfl (Nat.le_add_right _ _) ?_ | with_reducible refine Keeps.of_filter rfl rfl rfl rfl rfl rfl ?_ | split

theorem State.darken_keeps {s0 : State} {s : State} (h : Keeps s0 s) : Keeps s0 (State.darken s) := by
  unfold State.darken
  try dsimp only
  repeat' first | with_reducible assumption | intro _ | with_reducible (first | apply State.linkDown_keeps) | with_reducible apply Keeps.cond | with_reducible apply Keeps.foldl | (fail_if_no_progress with_reducible refine Keeps.of_mk rfl rfl rfl rfl rfl rfl ?_) | with_reducible refine Keeps.of_free rfl rfl rfl rfl rfl (Nat.le_add_right _ _) ?_ | with_reducible refine Keeps.of_filter rfl rfl rfl rfl rfl rfl ?_ | split

theorem State.beginEnable_keeps {s0 : State} {s : State} (h : Keeps s0 s) : Keeps s0 (State.beginEnable s) := by
  unfold State.beginEnable
  try dsimp only
  repeat' first | with_reducible assumption | intro _ | with_reducible apply Keeps.cond | with_reducible apply Keeps.foldl | (fail_if_no_progress with_reducible refine Keeps.of_mk rfl rfl rfl rfl rfl rfl ?_) | with_reducible refine Keeps.of_free rfl rfl rfl rfl rfl (Nat.le_add_right _ _) ?_ | with_reducible refine Keeps.of_filter rfl rfl rfl rfl rfl rfl ?_ | split

theorem State.proceedEnable_keeps {s0 : State} {s : State} (h : Keeps s0 s) : Keeps s0 (State.proceedEnable s) := by
  unfold State.proceedEnable
  try dsimp only
  repeat' first | with_reducible assumption | intro _ | with_reducible (first | apply State.beginEnable_keeps) | with_reducible apply Keeps.cond | with_reducible apply Keeps.foldl | (fail_if_no_progress with_reducible refine Keeps.of_mk rfl rfl rfl rfl rfl rfl ?_) | with_reducible refine Keeps.of_free rfl rfl rfl rfl rfl (Nat.le_add_right _ _) ?_ | with_reducible refine Keeps.of_filter rfl rfl rfl rfl rfl rfl ?_ | split

theorem State.doPermitFall_keeps {s0 : State} {s : State} (h : Keeps s0 s) : Keeps s0 (State.doPermitFall s) := by
  unfold State.doPermitFall
  try dsimp only
  repeat' first | with_reducible assumption | intro _ | with_reducible (first | apply State.darken_keeps | apply State.record_keeps) | with_reducible apply Keeps.cond | with_reducible apply Keeps.foldl | (fail_if_no_progress with_reducible refine Keeps.of_mk rfl rfl rfl rfl rfl rfl ?_) | with_reducible refine Keeps.of_free rfl rfl rfl rfl rfl (Nat.le_add_right _ _) ?_ | with_reducible refine Keeps.of_filter rfl rfl rfl rfl rfl rfl ?_ | split

theorem State.toDetect_keeps {s0 : State} {s : State} (x2 : _) (h : Keeps s0 s) : Keeps s0 (State.toDetect s x2) := by
  unfold State.toDetect
  try dsimp only
  repeat' first | with_reducible assumption | intro _ | with_reducible (first | apply State.setShutter_keeps | apply State.setLnk_keeps) | with_reducible apply Keeps.cond | with_reducible apply Keeps.foldl | (fail_if_no_progress with_reducible refine Keeps.of_mk rfl rfl rfl rfl rfl rfl ?_) | with_reducible refine Keeps.of_free rfl rfl rfl rfl rfl (Nat.le_add_right _ _) ?_ | with_reducible refine Keeps.of_filter rfl rfl rfl rfl rfl rfl ?_ | split

theorem State.doEnableDone_keeps {s0 : State} {s : State} (h : Keeps s0 s) : Keeps s0 (State.doEnableDone s) := by
  unfold State.doEnableDone
  try dsimp only
  repeat' first | with_reducible assumption | intro _ | with_reducible (first | apply State.setCh_keeps | apply State.loseChannel_keeps | apply State.spareUp_keeps | apply State.toDetect_keeps) | with_reducible apply Keeps.cond | with_reducible apply Keeps.foldl | (fail_if_no_progress with_reducible refine Keeps.of_mk rfl rfl rfl rfl rfl rfl ?_) | with_reducible refine Keeps.of_free rfl rfl rfl rfl rfl (Nat.le_add_right _ _) ?_ | with_reducible refine Keeps.of_filter rfl rfl rfl rfl rfl rfl ?_ | split

theorem State.doOpenFibre_keeps {s0 : State} {s : State} (x2 : _) (h : Keeps s0 s) : Keeps s0 (State.doOpenFibre s x2) := by
  unfold State.doOpenFibre
  try dsimp only
  repeat' first | with_reducible assumption | intro _ | with_reducible (first | apply State.linkDown_keeps | apply State.record_keeps) | with_reducible apply Keeps.cond | with_reducible apply Keeps.foldl | (fail_if_no_progress with_reducible refine Keeps.of_mk rfl rfl rfl rfl rfl rfl ?_) | with_reducible refine Keeps.of_free rfl rfl rfl rfl rfl (Nat.le_add_right _ _) ?_ | with_reducible refine Keeps.of_filter rfl rfl rfl rfl rfl rfl ?_ | split

theorem State.doProbeWindow_keeps {s0 : State} {s : State} (x2 : _) (x3 : _) (h : Keeps s0 s) : Keeps s0 (State.doProbeWindow s x2 x3) := by
  unfold State.doProbeWindow
  try dsimp only
  repeat' first | with_reducible assumption | intro _ | with_reducible (first | apply State.setShutter_keeps) | with_reducible apply Keeps.cond | with_reducible apply Keeps.foldl | (fail_if_no_progress with_reducible refine Keeps.of_mk rfl rfl rfl rfl rfl rfl ?_) | with_reducible refine Keeps.of_free rfl rfl rfl rfl rfl (Nat.le_add_right _ _) ?_ | with_reducible refine Keeps.of_filter rfl rfl rfl rfl rfl rfl ?_ | split

theorem State.doBurnDone_keeps {s0 : State} {s : State} (x2 : _) (x3 : _) (h : Keeps s0 s) : Keeps s0 (State.doBurnDone s x2 x3) := by
  unfold State.doBurnDone
  try dsimp only
  repeat' first | with_reducible assumption | intro _ | with_reducible (first | apply State.setDword_keeps | apply State.writeRec_keeps | apply State.record_keeps | apply State.endWork_keeps | apply State.refreshCal_keeps) | with_reducible apply Keeps.cond | with_reducible apply Keeps.foldl | (fail_if_no_progress with_reducible refine Keeps.of_mk rfl rfl rfl rfl rfl rfl ?_) | with_reducible refine Keeps.of_free rfl rfl rfl rfl rfl (Nat.le_add_right _ _) ?_ | with_reducible refine Keeps.of_filter rfl rfl rfl rfl rfl rfl ?_ | split

theorem State.doTone_keeps {s0 : State} {s : State} (x2 : _) (x3 : _) (h : Keeps s0 s) : Keeps s0 (State.doTone s x2 x3) := by
  unfold State.doTone
  try dsimp only
  repeat' first | with_reducible assumption | intro _ | with_reducible (first | apply State.setLnk_keeps) | with_reducible apply Keeps.cond | with_reducible apply Keeps.foldl | (fail_if_no_progress with_reducible refine Keeps.of_mk rfl rfl rfl rfl rfl rfl ?_) | with_reducible refine Keeps.of_free rfl rfl rfl rfl rfl (Nat.le_add_right _ _) ?_ | with_reducible refine Keeps.of_filter rfl rfl rfl rfl rfl rfl ?_ | split

theorem State.doWordLoss_keeps {s0 : State} {s : State} (x2 : _) (h : Keeps s0 s) : Keeps s0 (State.doWordLoss s x2) := by
  unfold State.doWordLoss
  try dsimp only
  repeat' first | with_reducible assumption | intro _ | with_reducible (first | apply State.setLnk_keeps) | with_reducible apply Keeps.cond | with_reducible apply Keeps.foldl | (fail_if_no_progress with_reducible refine Keeps.of_mk rfl rfl rfl rfl rfl rfl ?_) | with_reducible refine Keeps.of_free rfl rfl rfl rfl rfl (Nat.le_add_right _ _) ?_ | with_reducible refine Keeps.of_filter rfl rfl rfl rfl rfl rfl ?_ | split

theorem State.doAlignEntry_keeps {s0 : State} {s : State} (x2 : _) (h : Keeps s0 s) : Keeps s0 (State.doAlignEntry s x2) := by
  unfold State.doAlignEntry
  try dsimp only
  repeat' first | with_reducible assumption | intro _ | with_reducible (first | apply State.setLaneCal_keeps | apply State.setShutter_keeps | apply State.setLnk_keeps) | with_reducible apply Keeps.cond | with_reducible apply Keeps.foldl | (fail_if_no_progress with_reducible refine Keeps.of_mk rfl rfl rfl rfl rfl rfl ?_) | with_reducible refine Keeps.of_free rfl rfl rfl rfl rfl (Nat.le_add_right _ _) ?_ | with_reducible refine Keeps.of_filter rfl rfl rfl rfl rfl rfl ?_ | split

theorem State.doDetectTimeout_keeps {s0 : State} {s : State} (x2 : _) (h : Keeps s0 s) : Keeps s0 (State.doDetectTimeout s x2) := by
  unfold State.doDetectTimeout
  try dsimp only
  repeat' first | with_reducible assumption | intro _ | with_reducible (first | apply State.record_keeps | apply State.setShutter_keeps | apply State.setLnk_keeps) | with_reducible apply Keeps.cond | with_reducible apply Keeps.foldl | (fail_if_no_progress with_reducible refine Keeps.of_mk rfl rfl rfl rfl rfl rfl ?_) | with_reducible refine Keeps.of_free rfl rfl rfl rfl rfl (Nat.le_add_right _ _) ?_ | with_reducible refine Keeps.of_filter rfl rfl rfl rfl rfl rfl ?_ | split

theorem State.doHoldExpiry_keeps {s0 : State} {s : State} (x2 : _) (h : Keeps s0 s) : Keeps s0 (State.doHoldExpiry s x2) := by
  unfold State.doHoldExpiry
  try dsimp only
  repeat' first | with_reducible assumption | intro _ | with_reducible (first | apply State.setShutter_keeps | apply State.setLnk_keeps) | with_reducible apply Keeps.cond | with_reducible apply Keeps.foldl | (fail_if_no_progress with_reducible refine Keeps.of_mk rfl rfl rfl rfl rfl rfl ?_) | with_reducible refine Keeps.of_free rfl rfl rfl rfl rfl (Nat.le_add_right _ _) ?_ | with_reducible refine Keeps.of_filter rfl rfl rfl rfl rfl rfl ?_ | split

theorem State.doSecondPhase_keeps {s0 : State} {s : State} (x2 : _) (x3 : _) (h : Keeps s0 s) : Keeps s0 (State.doSecondPhase s x2 x3) := by
  unfold State.doSecondPhase
  try dsimp only
  repeat' first | with_reducible assumption | intro _ | with_reducible (first | apply State.setLaneCal_keeps | apply State.setCorr_keeps | apply State.retireRx_keeps | apply State.setLnk_keeps) | with_reducible apply Keeps.cond | with_reducible apply Keeps.foldl | (fail_if_no_progress with_reducible refine Keeps.of_mk rfl rfl rfl rfl rfl rfl ?_) | with_reducible refine Keeps.of_free rfl rfl rfl rfl rfl (Nat.le_add_right _ _) ?_ | with_reducible refine Keeps.of_filter rfl rfl rfl rfl rfl rfl ?_ | split

theorem State.doAlignDone_keeps {s0 : State} {s : State} (x2 : _) (x3 : _) (h : Keeps s0 s) : Keeps s0 (State.doAlignDone s x2 x3) := by
  unfold State.doAlignDone
  try dsimp only
  repeat' first | with_reducible assumption | intro _ | with_reducible (first | apply State.setCorr_keeps | apply State.retireRx_keeps | apply State.setLnk_keeps) | with_reducible apply Keeps.cond | with_reducible apply Keeps.foldl | (fail_if_no_progress with_reducible refine Keeps.of_mk rfl rfl rfl rfl rfl rfl ?_) | with_reducible refine Keeps.of_free rfl rfl rfl rfl rfl (Nat.le_add_right _ _) ?_ | with_reducible refine Keeps.of_filter rfl rfl rfl rfl rfl rfl ?_ | split

theorem State.doBitWindow_keeps {s0 : State} {s : State} (x2 : _) (x3 : _) (h : Keeps s0 s) : Keeps s0 (State.doBitWindow s x2 x3) := by
  unfold State.doBitWindow
  try dsimp only
  repeat' first | with_reducible assumption | intro _ | with_reducible (first | apply State.retireRx_keeps | apply State.setLnk_keeps) | with_reducible apply Keeps.cond | with_reducible apply Keeps.foldl | (fail_if_no_progress with_reducible refine Keeps.of_mk rfl rfl rfl rfl rfl rfl ?_) | with_reducible refine Keeps.of_free rfl rfl rfl rfl rfl (Nat.le_add_right _ _) ?_ | with_reducible refine Keeps.of_filter rfl rfl rfl rfl rfl rfl ?_ | split

theorem State.doBitDone_keeps {s0 : State} {s : State} (x2 : _) (x3 : _) (h : Keeps s0 s) : Keeps s0 (State.doBitDone s x2 x3) := by
  unfold State.doBitDone
  try dsimp only
  repeat' first | with_reducible assumption | intro _ | with_reducible (first | apply State.retireRx_keeps | apply State.setLnk_keeps) | with_reducible apply Keeps.cond | with_reducible apply Keeps.foldl | (fail_if_no_progress with_reducible refine Keeps.of_mk rfl rfl rfl rfl rfl rfl ?_) | with_reducible refine Keeps.of_free rfl rfl rfl rfl rfl (Nat.le_add_right _ _) ?_ | with_reducible refine Keeps.of_filter rfl rfl rfl rfl rfl rfl ?_ | split

theorem State.leaveFrame_keeps {s0 : State} {s : State} (x2 : _) (h : Keeps s0 s) : Keeps s0 (State.leaveFrame s x2) := by
  unfold State.leaveFrame
  try dsimp only
  repeat' first | with_reducible assumption | intro _ | with_reducible (first | apply State.linkDown_keeps | apply State.record_keeps | apply State.setLnk_keeps) | with_reducible apply Keeps.cond | with_reducible apply Keeps.foldl | (fail_if_no_progress with_reducible refine Keeps.of_mk rfl rfl rfl rfl rfl rfl ?_) | with_reducible refine Keeps.of_free rfl rfl rfl rfl rfl (Nat.le_add_right _ _) ?_ | with_reducible refine Keeps.of_filter rfl rfl rfl rfl rfl rfl ?_ | split

theorem State.tryLeaveFrame_keeps {s0 : State} {s : State} (x2 : _) (h : Keeps s0 s) : Keeps s0 (State.tryLeaveFrame s x2) := by
  unfold State.tryLeaveFrame
  try dsimp only
  repeat' first | with_reducible assumption | intro _ | with_reducible (first | apply State.leaveFrame_keeps) | with_reducible apply Keeps.cond | with_reducible apply Keeps.foldl | (fail_if_no_progress with_reducible refine Keeps.of_mk rfl rfl rfl rfl rfl rfl ?_) | with_reducible refine Keeps.of_free rfl rfl rfl rfl rfl (Nat.le_add_right _ _) ?_ | with_reducible refine Keeps.of_filter rfl rfl rfl rfl rfl rfl ?_ | split

theorem State.huntMarker_keeps {s0 : State} {s : State} (x2 : _) (x3 : _) (x4 : _) (h : Keeps s0 s) : Keeps s0 (State.huntMarker s x2 x3 x4) := by
  unfold State.huntMarker
  try dsimp only
  repeat' first | with_reducible assumption | intro _ | with_reducible (first | apply State.setLnk_keeps) | with_reducible apply Keeps.cond | with_reducible apply Keeps.foldl | (fail_if_no_progress with_reducible refine Keeps.of_mk rfl rfl rfl rfl rfl rfl ?_) | with_reducible refine Keeps.of_free rfl rfl rfl rfl rfl (Nat.le_add_right _ _) ?_ | with_reducible refine Keeps.of_filter rfl rfl rfl rfl rfl rfl ?_ | split

theorem State.doFrameTimeout_keeps {s0 : State} {s : State} (x2 : _) (h : Keeps s0 s) : Keeps s0 (State.doFrameTimeout s x2) := by
  unfold State.doFrameTimeout
  try dsimp only
  repeat' first | with_reducible assumption | intro _ | with_reducible (first | apply State.setLnk_keeps | apply State.retireRx_keeps | apply State.tryLeaveFrame_keeps) | with_reducible apply Keeps.cond | with_reducible apply Keeps.foldl | (fail_if_no_progress with_reducible refine Keeps.of_mk rfl rfl rfl rfl rfl rfl ?_) | with_reducible refine Keeps.of_free rfl rfl rfl rfl rfl (Nat.le_add_right _ _) ?_ | with_reducible refine Keeps.of_filter rfl rfl rfl rfl rfl rfl ?_ | split

theorem State.loseSpare_keeps {s0 : State} {s : State} (x2 : _) (h : Keeps s0 s) : Keeps s0 (State.loseSpare s x2) := by
  unfold State.loseSpare
  try dsimp only
  repeat' first | with_reducible assumption | intro _ | with_reducible (first | apply State.linkDown_keeps | apply State.record_keeps | apply State.setLnk_keeps) | with_reducible apply Keeps.cond | with_reducible apply Keeps.foldl | (fail_if_no_progress with_reducible refine Keeps.of_mk rfl rfl rfl rfl rfl rfl ?_) | with_reducible refine Keeps.of_free rfl rfl rfl rfl rfl (Nat.le_add_right _ _) ?_ | with_reducible refine Keeps.of_filter rfl rfl rfl rfl rfl rfl ?_ | split

theorem State.loseIdle_keeps {s0 : State} {s : State} (x2 : _) (x3 : _) (h : Keeps s0 s) : Keeps s0 (State.loseIdle s x2 x3) := by
  unfold State.loseIdle
  try dsimp only
  repeat' first | with_reducible assumption | intro _ | with_reducible (first | apply State.record_keeps | apply State.setLnk_keeps) | with_reducible apply Keeps.cond | with_reducible apply Keeps.foldl | (fail_if_no_progress with_reducible refine Keeps.of_mk rfl rfl rfl rfl rfl rfl ?_) | with_reducible refine Keeps.of_free rfl rfl rfl rfl rfl (Nat.le_add_right _ _) ?_ | with_reducible refine Keeps.of_filter rfl rfl rfl rfl rfl rfl ?_ | split

theorem State.doLoss_keeps {s0 : State} {s : State} (x2 : _) (x3 : _) (h : Keeps s0 s) : Keeps s0 (State.doLoss s x2 x3) := by
  unfold State.doLoss
  try dsimp only
  repeat' first | with_reducible assumption | intro _ | with_reducible (first | apply State.setLnk_keeps | apply State.urgentRx_keeps | apply State.bump_keeps | apply State.loseSpare_keeps | apply State.loseIdle_keeps | apply State.swapRx_keeps) | with_reducible apply Keeps.cond | with_reducible apply Keeps.foldl | (fail_if_no_progress with_reducible refine Keeps.of_mk rfl rfl rfl rfl rfl rfl ?_) | with_reducible refine Keeps.of_free rfl rfl rfl rfl rfl (Nat.le_add_right _ _) ?_ | with_reducible refine Keeps.of_filter rfl rfl rfl rfl rfl rfl ?_ | split

theorem State.badMarker_keeps {s0 : State} {s : State} (x2 : _) (x3 : _) (h : Keeps s0 s) : Keeps s0 (State.badMarker s x2 x3) := by
  unfold State.badMarker
  try dsimp only
  repeat' first | with_reducible assumption | intro _ | with_reducible (first | apply State.doLoss_keeps | apply State.setLnk_keeps) | with_reducible apply Keeps.cond | with_reducible apply Keeps.foldl | (fail_if_no_progress with_reducible refine Keeps.of_mk rfl rfl rfl rfl rfl rfl ?_) | with_reducible refine Keeps.of_free rfl rfl rfl rfl rfl (Nat.le_add_right _ _) ?_ | with_reducible refine Keeps.of_filter rfl rfl rfl rfl rfl rfl ?_ | split

theorem State.goodMarker_keeps {s0 : State} {s : State} (x2 : _) (x3 : _) (h : Keeps s0 s) : Keeps s0 (State.goodMarker s x2 x3) := by
  unfold State.goodMarker
  try dsimp only
  repeat' first | with_reducible assumption | intro _ | with_reducible (first | apply State.setLnk_keeps) | with_reducible apply Keeps.cond | with_reducible apply Keeps.foldl | (fail_if_no_progress with_reducible refine Keeps.of_mk rfl rfl rfl rfl rfl rfl ?_) | with_reducible refine Keeps.of_free rfl rfl rfl rfl rfl (Nat.le_add_right _ _) ?_ | with_reducible refine Keeps.of_filter rfl rfl rfl rfl rfl rfl ?_ | split

theorem State.takeRxReq_keeps {s0 : State} {s : State} (x2 : _) (x3 : _) (h : Keeps s0 s) : Keeps s0 (State.takeRxReq s x2 x3) := by
  unfold State.takeRxReq
  try dsimp only
  repeat' first | with_reducible assumption | intro _ | with_reducible (first | apply State.setLnk_keeps | apply State.dropCal_keeps | apply State.record_keeps) | with_reducible apply Keeps.cond | with_reducible apply Keeps.foldl | (fail_if_no_progress with_reducible refine Keeps.of_mk rfl rfl rfl rfl rfl rfl ?_) | with_reducible refine Keeps.of_free rfl rfl rfl rfl rfl (Nat.le_add_right _ _) ?_ | with_reducible refine Keeps.of_filter rfl rfl rfl rfl rfl rfl ?_ | split

theorem State.takeTxMap_keeps {s0 : State} {s : State} (x2 : _) (x3 : _) (h : Keeps s0 s) : Keeps s0 (State.takeTxMap s x2 x3) := by
  unfold State.takeTxMap
  try dsimp only
  repeat' first | with_reducible assumption | intro _ | with_reducible (first | apply State.setLnk_keeps | apply State.bump_keeps) | with_reducible apply Keeps.cond | with_reducible apply Keeps.foldl | (fail_if_no_progress with_reducible refine Keeps.of_mk rfl rfl rfl rfl rfl rfl ?_) | with_reducible refine Keeps.of_free rfl rfl rfl rfl rfl (Nat.le_add_right _ _) ?_ | with_reducible refine Keeps.of_filter rfl rfl rfl rfl rfl rfl ?_ | split

theorem State.takePlanReq_keeps {s0 : State} {s : State} (x2 : _) (x3 : _) (x4 : _) (x5 : _) (h : Keeps s0 s) : Keeps s0 (State.takePlanReq s x2 x3 x4 x5) := by
  unfold State.takePlanReq
  try dsimp only
  repeat' first | with_reducible assumption | intro _ | with_reducible (first | apply State.setLnk_keeps) | with_reducible apply Keeps.cond | with_reducible apply Keeps.foldl | (fail_if_no_progress with_reducible refine Keeps.of_mk rfl rfl rfl rfl rfl rfl ?_) | with_reducible refine Keeps.of_free rfl rfl rfl rfl rfl (Nat.le_add_right _ _) ?_ | with_reducible refine Keeps.of_filter rfl rfl rfl rfl rfl rfl ?_ | split

theorem State.takePlanAck_keeps {s0 : State} {s : State} (x2 : _) (x3 : _) (x4 : _) (x5 : _) (h : Keeps s0 s) : Keeps s0 (State.takePlanAck s x2 x3 x4 x5) := by
  unfold State.takePlanAck
  try dsimp only
  repeat' first | with_reducible assumption | intro _ | with_reducible (first | apply State.setLnk_keeps) | with_reducible apply Keeps.cond | with_reducible apply Keeps.foldl | (fail_if_no_progress with_reducible refine Keeps.of_mk rfl rfl rfl rfl rfl rfl ?_) | with_reducible refine Keeps.of_free rfl rfl rfl rfl rfl (Nat.le_add_right _ _) ?_ | with_reducible refine Keeps.of_filter rfl rfl rfl rfl rfl rfl ?_ | split

theorem State.takeRxLock_keeps {s0 : State} {s : State} (x2 : _) (x3 : _) (h : Keeps s0 s) : Keeps s0 (State.takeRxLock s x2 x3) := by
  unfold State.takeRxLock
  try dsimp only
  repeat' first | with_reducible assumption | intro _ | with_reducible (first | apply State.setLnk_keeps | apply State.dropCal_keeps | apply State.record_keeps) | with_reducible apply Keeps.cond | with_reducible apply Keeps.foldl | (fail_if_no_progress with_reducible refine Keeps.of_mk rfl rfl rfl rfl rfl rfl ?_) | with_reducible refine Keeps.of_free rfl rfl rfl rfl rfl (Nat.le_add_right _ _) ?_ | with_reducible refine Keeps.of_filter rfl rfl rfl rfl rfl rfl ?_ | split

theorem State.serviceMarker_keeps {s0 : State} {s : State} (x2 : _) (x3 : _) (x4 : _) (h : Keeps s0 s) : Keeps s0 (State.serviceMarker s x2 x3 x4) := by
  unfold State.serviceMarker
  try dsimp only
  repeat' first | with_reducible assumption | intro _ | with_reducible (first | apply State.takeRxReq_keeps | apply State.takeTxMap_keeps | apply State.takePlanReq_keeps | apply State.takePlanAck_keeps) | with_reducible apply Keeps.cond | with_reducible apply Keeps.foldl | (fail_if_no_progress with_reducible refine Keeps.of_mk rfl rfl rfl rfl rfl rfl ?_) | with_reducible refine Keeps.of_free rfl rfl rfl rfl rfl (Nat.le_add_right _ _) ?_ | with_reducible refine Keeps.of_filter rfl rfl rfl rfl rfl rfl ?_ | split

theorem State.doMarker_keeps {s0 : State} {s : State} (x2 : _) (x3 : _) (x4 : _) (h : Keeps s0 s) : Keeps s0 (State.doMarker s x2 x3 x4) := by
  unfold State.doMarker
  try dsimp only
  repeat' first | with_reducible assumption | intro _ | with_reducible (first | apply State.huntMarker_keeps | apply State.linkDown_keeps | apply State.tryLeaveFrame_keeps | apply State.setLnk_keeps | apply State.badMarker_keeps | apply State.takeRxLock_keeps | apply State.goodMarker_keeps | apply State.serviceMarker_keeps) | with_reducible apply Keeps.cond | with_reducible apply Keeps.foldl | (fail_if_no_progress with_reducible refine Keeps.of_mk rfl rfl rfl rfl rfl rfl ?_) | with_reducible refine Keeps.of_free rfl rfl rfl rfl rfl (Nat.le_add_right _ _) ?_ | with_reducible refine Keeps.of_filter rfl rfl rfl rfl rfl rfl ?_ | split

theorem State.capReturn_keeps {s0 : State} {s : State} (x2 : _) (h : Keeps s0 s) : Keeps s0 (State.capReturn s x2) := by
  unfold State.capReturn
  try dsimp only
  repeat' first | with_reducible assumption | intro _ | with_reducible (first | apply State.record_keeps | apply State.linkDown_keeps | apply State.setLnk_keeps) | with_reducible apply Keeps.cond | with_reducible apply Keeps.foldl | (fail_if_no_progress with_reducible refine Keeps.of_mk rfl rfl rfl rfl rfl rfl ?_) | with_reducible refine Keeps.of_free rfl rfl rfl rfl rfl (Nat.le_add_right _ _) ?_ | with_reducible refine Keeps.of_filter rfl rfl rfl rfl rfl rfl ?_ | split

theorem State.capGood_keeps {s0 : State} {s : State} (x2 : _) (x3 : _) (h : Keeps s0 s) : Keeps s0 (State.capGood s x2 x3) := by
  unfold State.capGood
  try dsimp only
  repeat' first | with_reducible assumption | intro _ | with_reducible (first | apply State.linkDown_keeps | apply State.record_keeps | apply State.setLnk_keeps | apply State.setLkk_keeps) | with_reducible apply Keeps.cond | with_reducible apply Keeps.foldl | (fail_if_no_progress with_reducible refine Keeps.of_mk rfl rfl rfl rfl rfl rfl ?_) | with_reducible refine Keeps.of_free rfl rfl rfl rfl rfl (Nat.le_add_right _ _) ?_ | with_reducible refine Keeps.of_filter rfl rfl rfl rfl rfl rfl ?_ | split

theorem State.doCapBlock_keeps {s0 : State} {s : State} (x2 : _) (x3 : _) (h : Keeps s0 s) : Keeps s0 (State.doCapBlock s x2 x3) := by
  unfold State.doCapBlock
  try dsimp only
  repeat' first | with_reducible assumption | intro _ | with_reducible (first | apply State.capReturn_keeps | apply State.bump_keeps | apply State.setLnk_keeps | apply State.capGood_keeps) | with_reducible apply Keeps.cond | with_reducible apply Keeps.foldl | (fail_if_no_progress with_reducible refine Keeps.of_mk rfl rfl rfl rfl rfl rfl ?_) | with_reducible refine Keeps.of_free rfl rfl rfl rfl rfl (Nat.le_add_right _ _) ?_ | with_reducible refine Keeps.of_filter rfl rfl rfl rfl rfl rfl ?_ | split

theorem State.doCapTimeout_keeps {s0 : State} {s : State} (x2 : _) (h : Keeps s0 s) : Keeps s0 (State.doCapTimeout s x2) := by
  unfold State.doCapTimeout
  try dsimp only
  repeat' first | with_reducible assumption | intro _ | with_reducible (first | apply State.capReturn_keeps) | with_reducible apply Keeps.cond | with_reducible apply Keeps.foldl | (fail_if_no_progress with_reducible refine Keeps.of_mk rfl rfl rfl rfl rfl rfl ?_) | with_reducible refine Keeps.of_free rfl rfl rfl rfl rfl (Nat.le_add_right _ _) ?_ | with_reducible refine Keeps.of_filter rfl rfl rfl rfl rfl rfl ?_ | split

theorem State.lkStart_keeps {s0 : State} {s : State} (x2 : _) (x3 : _) (h : Keeps s0 s) : Keeps s0 (State.lkStart s x2 x3) := by
  unfold State.lkStart
  try dsimp only
  repeat' first | with_reducible assumption | intro _ | with_reducible (first | apply State.setLkk_keeps | apply State.propose_keeps) | with_reducible apply Keeps.cond | with_reducible apply Keeps.foldl | (fail_if_no_progress with_reducible refine Keeps.of_mk rfl rfl rfl rfl rfl rfl ?_) | with_reducible refine Keeps.of_free rfl rfl rfl rfl rfl (Nat.le_add_right _ _) ?_ | with_reducible refine Keeps.of_filter rfl rfl rfl rfl rfl rfl ?_ | split

theorem State.doLinkActive_keeps {s0 : State} {s : State} (x2 : _) (x3 : _) (h : Keeps s0 s) : Keeps s0 (State.doLinkActive s x2 x3) := by
  unfold State.doLinkActive
  try dsimp only
  repeat' first | with_reducible assumption | intro _ | with_reducible (first | apply State.setLnk_keeps | apply State.setLaneCal_keeps | apply State.lkStart_keeps | apply State.setDword_keeps) | with_reducible apply Keeps.cond | with_reducible apply Keeps.foldl | (fail_if_no_progress with_reducible refine Keeps.of_mk rfl rfl rfl rfl rfl rfl ?_) | with_reducible refine Keeps.of_free rfl rfl rfl rfl rfl (Nat.le_add_right _ _) ?_ | with_reducible refine Keeps.of_filter rfl rfl rfl rfl rfl rfl ?_ | split

end Sys2Proof.Machine
end

