-- ==== Sys2Proof/Laws/KeepsBound.lean ====
section
/-! SUPPORT. Every operation of the machine keeps what Keeps says: shanks, the boundary, aborts. -/

set_option linter.unusedTactic false
set_option linter.unreachableTactic false

namespace Sys2Proof.Machine

theorem State.setRole_keeps {s0 : State} {s : State} (x2 : _) (x3 : _) (h : Keeps s0 s) : Keeps s0 (State.setRole s x2 x3) := by
  unfold State.setRole
  try dsimp only
  repeat' first | with_reducible assumption | intro _ | with_reducible apply Keeps.cond | with_reducible apply Keeps.foldl | (fail_if_no_progress with_reducible refine Keeps.of_mk rfl rfl rfl rfl rfl rfl ?_) | with_reducible refine Keeps.of_free rfl rfl rfl rfl rfl (Nat.le_add_right _ _) ?_ | with_reducible refine Keeps.of_filter rfl rfl rfl rfl rfl rfl ?_ | split

theorem State.setPair_keeps {s0 : State} {s : State} (x2 : _) (x3 : _) (h : Keeps s0 s) : Keeps s0 (State.setPair s x2 x3) := by
  unfold State.setPair
  try dsimp only
  repeat' first | with_reducible assumption | intro _ | with_reducible apply Keeps.cond | with_reducible apply Keeps.foldl | (fail_if_no_progress with_reducible refine Keeps.of_mk rfl rfl rfl rfl rfl rfl ?_) | with_reducible refine Keeps.of_free rfl rfl rfl rfl rfl (Nat.le_add_right _ _) ?_ | with_reducible refine Keeps.of_filter rfl rfl rfl rfl rfl rfl ?_ | split

theorem State.driveReplace_keeps {s0 : State} {s : State} (h : Keeps s0 s) : Keeps s0 (State.driveReplace s) := by
  unfold State.driveReplace
  try dsimp only
  repeat' first | with_reducible assumption | intro _ | with_reducible (first | apply State.setDword_keeps) | with_reducible apply Keeps.cond | with_reducible apply Keeps.foldl | (fail_if_no_progress with_reducible refine Keeps.of_mk rfl rfl rfl rfl rfl rfl ?_) | with_reducible refine Keeps.of_free rfl rfl rfl rfl rfl (Nat.le_add_right _ _) ?_ | with_reducible refine Keeps.of_filter rfl rfl rfl rfl rfl rfl ?_ | split

theorem State.forceReplace_keeps {s0 : State} {s : State} (h : Keeps s0 s) : Keeps s0 (State.forceReplace s) := by
  unfold State.forceReplace
  try dsimp only
  repeat' first | with_reducible assumption | intro _ | with_reducible (first | apply State.driveReplace_keeps) | with_reducible apply Keeps.cond | with_reducible apply Keeps.foldl | (fail_if_no_progress with_reducible refine Keeps.of_mk rfl rfl rfl rfl rfl rfl ?_) | with_reducible refine Keeps.of_free rfl rfl rfl rfl rfl (Nat.le_add_right _ _) ?_ | with_reducible refine Keeps.of_filter rfl rfl rfl rfl rfl rfl ?_ | split

theorem State.doReplace_keeps {s0 : State} {s : State} (x2 : _) (h : Keeps s0 s) : Keeps s0 (State.doReplace s x2) := by
  unfold State.doReplace
  try dsimp only
  repeat' first | with_reducible assumption | intro _ | with_reducible (first | apply State.setWord_keeps | apply State.driveReplace_keeps | apply State.record_keeps) | with_reducible apply Keeps.cond | with_reducible apply Keeps.foldl | (fail_if_no_progress with_reducible refine Keeps.of_mk rfl rfl rfl rfl rfl rfl ?_) | with_reducible refine Keeps.of_free rfl rfl rfl rfl rfl (Nat.le_add_right _ _) ?_ | with_reducible refine Keeps.of_filter rfl rfl rfl rfl rfl rfl ?_ | split

theorem State.loseStandby_keeps {s0 : State} {s : State} (h : Keeps s0 s) : Keeps s0 (State.loseStandby s) := by
  unfold State.loseStandby
  try dsimp only
  repeat' first | with_reducible assumption | intro _ | with_reducible (first | apply State.setDword_keeps | apply State.setRole_keeps) | with_reducible apply Keeps.cond | with_reducible apply Keeps.foldl | (fail_if_no_progress with_reducible refine Keeps.of_mk rfl rfl rfl rfl rfl rfl ?_) | with_reducible refine Keeps.of_free rfl rfl rfl rfl rfl (Nat.le_add_right _ _) ?_ | with_reducible refine Keeps.of_filter rfl rfl rfl rfl rfl rfl ?_ | split

theorem State.goHeadless_keeps {s0 : State} {s : State} (h : Keeps s0 s) : Keeps s0 (State.goHeadless s) := by
  unfold State.goHeadless
  try dsimp only
  repeat' first | with_reducible assumption | intro _ | with_reducible (first | apply State.forceReplace_keeps | apply State.record_keeps) | with_reducible apply Keeps.cond | with_reducible apply Keeps.foldl | (fail_if_no_progress with_reducible refine Keeps.of_mk rfl rfl rfl rfl rfl rfl ?_) | with_reducible refine Keeps.of_free rfl rfl rfl rfl rfl (Nat.le_add_right _ _) ?_ | with_reducible refine Keeps.of_filter rfl rfl rfl rfl rfl rfl ?_ | split

theorem State.pairFault_keeps {s0 : State} {s : State} (x2 : _) (x3 : _) (h : Keeps s0 s) : Keeps s0 (State.pairFault s x2 x3) := by
  unfold State.pairFault
  try dsimp only
  repeat' first | with_reducible assumption | intro _ | with_reducible (first | apply State.record_keeps | apply State.setPair_keeps | apply State.goHeadless_keeps | apply State.loseStandby_keeps) | with_reducible apply Keeps.cond | with_reducible apply Keeps.foldl | (fail_if_no_progress with_reducible refine Keeps.of_mk rfl rfl rfl rfl rfl rfl ?_) | with_reducible refine Keeps.of_free rfl rfl rfl rfl rfl (Nat.le_add_right _ _) ?_ | with_reducible refine Keeps.of_filter rfl rfl rfl rfl rfl rfl ?_ | split

theorem State.doWatchdog_keeps {s0 : State} {s : State} (x2 : _) (h : Keeps s0 s) : Keeps s0 (State.doWatchdog s x2) := by
  unfold State.doWatchdog
  try dsimp only
  repeat' first | with_reducible assumption | intro _ | with_reducible (first | apply State.pairFault_keeps) | with_reducible apply Keeps.cond | with_reducible apply Keeps.foldl | (fail_if_no_progress with_reducible refine Keeps.of_mk rfl rfl rfl rfl rfl rfl ?_) | with_reducible refine Keeps.of_free rfl rfl rfl rfl rfl (Nat.le_add_right _ _) ?_ | with_reducible refine Keeps.of_filter rfl rfl rfl rfl rfl rfl ?_ | split

theorem State.doFeedFailure_keeps {s0 : State} {s : State} (x2 : _) (h : Keeps s0 s) : Keeps s0 (State.doFeedFailure s x2) := by
  unfold State.doFeedFailure
  try dsimp only
  repeat' first | with_reducible assumption | intro _ | with_reducible (first | apply State.loseStandby_keeps | apply State.record_keeps) | with_reducible apply Keeps.cond | with_reducible apply Keeps.foldl | (fail_if_no_progress with_reducible refine Keeps.of_mk rfl rfl rfl rfl rfl rfl ?_) | with_reducible refine Keeps.of_free rfl rfl rfl rfl rfl (Nat.le_add_right _ _) ?_ | with_reducible refine Keeps.of_filter rfl rfl rfl rfl rfl rfl ?_ | split

theorem State.promote2_keeps {s0 : State} {s : State} (x2 : _) (h : Keeps s0 s) : Keeps s0 (State.promote2 s x2) := by
  unfold State.promote2
  try dsimp only
  repeat' first | with_reducible assumption | intro _ | with_reducible (first | apply State.bump_keeps | apply State.setPair_keeps | apply State.setRole_keeps | apply State.setDword_keeps) | with_reducible apply Keeps.cond | with_reducible apply Keeps.foldl | (fail_if_no_progress with_reducible refine Keeps.of_mk rfl rfl rfl rfl rfl rfl ?_) | with_reducible refine Keeps.of_free rfl rfl rfl rfl rfl (Nat.le_add_right _ _) ?_ | with_reducible refine Keeps.of_filter rfl rfl rfl rfl rfl rfl ?_ | split

theorem State.doTakeover_keeps {s0 : State} {s : State} (h : Keeps s0 s) : Keeps s0 (State.doTakeover s) := by
  unfold State.doTakeover
  try dsimp only
  repeat' first | with_reducible assumption | intro _ | with_reducible (first | apply State.promote2_keeps | apply State.goHeadless_keeps) | with_reducible apply Keeps.cond | with_reducible apply Keeps.foldl | (fail_if_no_progress with_reducible refine Keeps.of_mk rfl rfl rfl rfl rfl rfl ?_) | with_reducible refine Keeps.of_free rfl rfl rfl rfl rfl (Nat.le_add_right _ _) ?_ | with_reducible refine Keeps.of_filter rfl rfl rfl rfl rfl rfl ?_ | split

theorem State.roleTransfer_keeps {s0 : State} {s : State} (h : Keeps s0 s) : Keeps s0 (State.roleTransfer s) := by
  unfold State.roleTransfer
  try dsimp only
  repeat' first | with_reducible assumption | intro _ | with_reducible (first | apply State.record_keeps | apply State.promote2_keeps | apply State.journalReset_keeps) | with_reducible apply Keeps.cond | with_reducible apply Keeps.foldl | (fail_if_no_progress with_reducible refine Keeps.of_mk rfl rfl rfl rfl rfl rfl ?_) | with_reducible refine Keeps.of_free rfl rfl rfl rfl rfl (Nat.le_add_right _ _) ?_ | with_reducible refine Keeps.of_filter rfl rfl rfl rfl rfl rfl ?_ | split

theorem State.copyJournal_keeps {s0 : State} {s : State} (h : Keeps s0 s) : Keeps s0 (State.copyJournal s) := by
  unfold State.copyJournal
  try dsimp only
  repeat' first | with_reducible assumption | with_reducible (first | apply State.queueOwn_keeps) | with_reducible apply Keeps.cond | with_reducible apply Keeps.foldl | (fail_if_no_progress with_reducible refine Keeps.of_mk rfl rfl rfl rfl rfl rfl ?_) | with_reducible refine Keeps.of_free rfl rfl rfl rfl rfl (Nat.le_add_right _ _) ?_ | with_reducible refine Keeps.of_filter rfl rfl rfl rfl rfl rfl ?_ | (with_reducible first | exact id | exact Mem.wf_clear _ _ | exact Mem.wf_filter _ | exact regsWf_filter _ | exact fun k => Mem.wf_setBytes _ _ (Mem.wf_clear _ _ k) | exact fun k => Mem.wf_foldl _ (Mem.wf_clear _ _ k) | exact fun _ => Keeps.reset_mem | exact fun _ => Keeps.reset_regs | exact fun _ => Keeps.nil_mem) | with_reducible refine Keeps.of_data rfl rfl ?_ ?_ rfl rfl ?_ | refine Keeps.of_data rfl rfl ?_ ?_ (by simp only [Fuses.fixed]) rfl ?_ | intro _ | split

theorem State.standbyJoins_keeps {s0 : State} {s : State} (h : Keeps s0 s) : Keeps s0 (State.standbyJoins s) := by
  unfold State.standbyJoins
  try dsimp only
  repeat' first | with_reducible assumption | intro _ | with_reducible (first | apply State.bump_keeps | apply State.setRole_keeps | apply State.setPair_keeps | apply State.copyJournal_keeps) | with_reducible apply Keeps.cond | with_reducible apply Keeps.foldl | (fail_if_no_progress with_reducible refine Keeps.of_mk rfl rfl rfl rfl rfl rfl ?_) | with_reducible refine Keeps.of_free rfl rfl rfl rfl rfl (Nat.le_add_right _ _) ?_ | with_reducible refine Keeps.of_filter rfl rfl rfl rfl rfl rfl ?_ | split

theorem State.resyncFails_keeps {s0 : State} {s : State} (h : Keeps s0 s) : Keeps s0 (State.resyncFails s) := by
  unfold State.resyncFails
  try dsimp only
  repeat' first | with_reducible assumption | intro _ | with_reducible (first | apply State.record_keeps | apply State.setPair_keeps) | with_reducible apply Keeps.cond | with_reducible apply Keeps.foldl | (fail_if_no_progress with_reducible refine Keeps.of_mk rfl rfl rfl rfl rfl rfl ?_) | with_reducible refine Keeps.of_free rfl rfl rfl rfl rfl (Nat.le_add_right _ _) ?_ | with_reducible refine Keeps.of_filter rfl rfl rfl rfl rfl rfl ?_ | split

theorem State.doResync_keeps {s0 : State} {s : State} (x2 : _) (h : Keeps s0 s) : Keeps s0 (State.doResync s x2) := by
  unfold State.doResync
  try dsimp only
  repeat' first | with_reducible assumption | intro _ | with_reducible (first | apply State.standbyJoins_keeps | apply State.resyncFails_keeps) | with_reducible apply Keeps.cond | with_reducible apply Keeps.foldl | (fail_if_no_progress with_reducible refine Keeps.of_mk rfl rfl rfl rfl rfl rfl ?_) | with_reducible refine Keeps.of_free rfl rfl rfl rfl rfl (Nat.le_add_right _ _) ?_ | with_reducible refine Keeps.of_filter rfl rfl rfl rfl rfl rfl ?_ | split

theorem State.doResyncRetry_keeps {s0 : State} {s : State} (x2 : _) (h : Keeps s0 s) : Keeps s0 (State.doResyncRetry s x2) := by
  unfold State.doResyncRetry
  try dsimp only
  repeat' first | with_reducible assumption | intro _ | with_reducible (first | apply State.standbyJoins_keeps | apply State.resyncFails_keeps) | with_reducible apply Keeps.cond | with_reducible apply Keeps.foldl | (fail_if_no_progress with_reducible refine Keeps.of_mk rfl rfl rfl rfl rfl rfl ?_) | with_reducible refine Keeps.of_free rfl rfl rfl rfl rfl (Nat.le_add_right _ _) ?_ | with_reducible refine Keeps.of_filter rfl rfl rfl rfl rfl rfl ?_ | split

theorem State.doCalRefresh_keeps {s0 : State} {s : State} (h : Keeps s0 s) : Keeps s0 (State.doCalRefresh s) := by
  unfold State.doCalRefresh
  try dsimp only
  repeat' first | with_reducible assumption | intro _ | with_reducible (first | apply State.refreshCal_keeps) | with_reducible apply Keeps.cond | with_reducible apply Keeps.foldl | (fail_if_no_progress with_reducible refine Keeps.of_mk rfl rfl rfl rfl rfl rfl ?_) | with_reducible refine Keeps.of_free rfl rfl rfl rfl rfl (Nat.le_add_right _ _) ?_ | with_reducible refine Keeps.of_filter rfl rfl rfl rfl rfl rfl ?_ | split

theorem State.doSnapshot_keeps {s0 : State} {s : State} (h : Keeps s0 s) : Keeps s0 (State.doSnapshot s) := by
  unfold State.doSnapshot
  try dsimp only
  repeat' first | with_reducible assumption | intro _ | with_reducible (first | apply State.endCtx_keeps) | with_reducible apply Keeps.cond | with_reducible apply Keeps.foldl | (fail_if_no_progress with_reducible refine Keeps.of_mk rfl rfl rfl rfl rfl rfl ?_) | with_reducible refine Keeps.of_free rfl rfl rfl rfl rfl (Nat.le_add_right _ _) ?_ | with_reducible refine Keeps.of_filter rfl rfl rfl rfl rfl rfl ?_ | split

theorem State.missLatch_keeps {s0 : State} {s : State} (x2 : _) (h : Keeps s0 s) : Keeps s0 (State.missLatch s x2) := by
  unfold State.missLatch
  try dsimp only
  repeat' first | with_reducible assumption | intro _ | with_reducible (first | apply State.startWork_keeps | apply State.endWork_keeps) | with_reducible apply Keeps.cond | with_reducible apply Keeps.foldl | (fail_if_no_progress with_reducible refine Keeps.of_mk rfl rfl rfl rfl rfl rfl ?_) | with_reducible refine Keeps.of_free rfl rfl rfl rfl rfl (Nat.le_add_right _ _) ?_ | with_reducible refine Keeps.of_filter rfl rfl rfl rfl rfl rfl ?_ | split

theorem State.latchLink_keeps {s0 : State} {s : State} (x2 : _) (x3 : _) (h : Keeps s0 s) : Keeps s0 (State.latchLink s x2 x3) := by
  unfold State.latchLink
  try dsimp only
  repeat' first | with_reducible assumption | intro _ | with_reducible (first | apply State.record_keeps | apply State.setLnk_keeps | apply State.setLkk_keeps) | with_reducible apply Keeps.cond | with_reducible apply Keeps.foldl | (fail_if_no_progress with_reducible refine Keeps.of_mk rfl rfl rfl rfl rfl rfl ?_) | with_reducible refine Keeps.of_free rfl rfl rfl rfl rfl (Nat.le_add_right _ _) ?_ | with_reducible refine Keeps.of_filter rfl rfl rfl rfl rfl rfl ?_ | split

theorem State.doLatch_keeps {s0 : State} {s : State} (h : Keeps s0 s) : Keeps s0 (State.doLatch s) := by
  unfold State.doLatch
  try dsimp only
  repeat' first | with_reducible assumption | intro _ | with_reducible (first | apply State.missLatch_keeps | apply State.latchLink_keeps | apply State.fillSlots_keeps) | with_reducible apply Keeps.cond | with_reducible apply Keeps.foldl | (fail_if_no_progress with_reducible refine Keeps.of_mk rfl rfl rfl rfl rfl rfl ?_) | with_reducible refine Keeps.of_free rfl rfl rfl rfl rfl (Nat.le_add_right _ _) ?_ | with_reducible refine Keeps.of_filter rfl rfl rfl rfl rfl rfl ?_ | split

theorem State.preloadRow_keeps {s0 : State} {s : State} (x2 : _) (h : Keeps s0 s) : Keeps s0 (State.preloadRow s x2) := by
  unfold State.preloadRow
  try dsimp only
  repeat' first | with_reducible assumption | intro _ | with_reducible (first | apply State.setSeq_keeps) | with_reducible apply Keeps.cond | with_reducible apply Keeps.foldl | (fail_if_no_progress with_reducible refine Keeps.of_mk rfl rfl rfl rfl rfl rfl ?_) | with_reducible refine Keeps.of_free rfl rfl rfl rfl rfl (Nat.le_add_right _ _) ?_ | with_reducible refine Keeps.of_filter rfl rfl rfl rfl rfl rfl ?_ | split

theorem State.doPreload_keeps {s0 : State} {s : State} (x2 : _) (h : Keeps s0 s) : Keeps s0 (State.doPreload s x2) := by
  unfold State.doPreload
  try dsimp only
  repeat' first | with_reducible assumption | intro _ | with_reducible (first | apply State.preloadRow_keeps) | with_reducible apply Keeps.cond | with_reducible apply Keeps.foldl | (fail_if_no_progress with_reducible refine Keeps.of_mk rfl rfl rfl rfl rfl rfl ?_) | with_reducible refine Keeps.of_free rfl rfl rfl rfl rfl (Nat.le_add_right _ _) ?_ | with_reducible refine Keeps.of_filter rfl rfl rfl rfl rfl rfl ?_ | split

theorem State.sampleBarrier_keeps {s0 : State} {s : State} (x2 : _) (h : Keeps s0 s) : Keeps s0 (State.sampleBarrier s x2) := by
  unfold State.sampleBarrier
  try dsimp only
  repeat' first | with_reducible assumption | intro _ | with_reducible (first | apply State.setObj_keeps) | with_reducible apply Keeps.cond | with_reducible apply Keeps.foldl | (fail_if_no_progress with_reducible refine Keeps.of_mk rfl rfl rfl rfl rfl rfl ?_) | with_reducible refine Keeps.of_free rfl rfl rfl rfl rfl (Nat.le_add_right _ _) ?_ | with_reducible refine Keeps.of_filter rfl rfl rfl rfl rfl rfl ?_ | split

theorem State.lateSlack_keeps {s0 : State} {s : State} (x2 : _) (h : Keeps s0 s) : Keeps s0 (State.lateSlack s x2) := by
  unfold State.lateSlack
  try dsimp only
  repeat' first | with_reducible assumption | intro _ | with_reducible (first | apply State.setWord_keeps) | with_reducible apply Keeps.cond | with_reducible apply Keeps.foldl | (fail_if_no_progress with_reducible refine Keeps.of_mk rfl rfl rfl rfl rfl rfl ?_) | with_reducible refine Keeps.of_free rfl rfl rfl rfl rfl (Nat.le_add_right _ _) ?_ | with_reducible refine Keeps.of_filter rfl rfl rfl rfl rfl rfl ?_ | split

theorem State.doCheck_keeps {s0 : State} {s : State} (h : Keeps s0 s) : Keeps s0 (State.doCheck s) := by
  unfold State.doCheck
  try dsimp only
  repeat' first | with_reducible assumption | intro _ | with_reducible (first | apply State.sampleBarrier_keeps | apply State.becomeReady_keeps | apply State.lateSlack_keeps) | with_reducible apply Keeps.cond | with_reducible apply Keeps.foldl | (fail_if_no_progress with_reducible refine Keeps.of_mk rfl rfl rfl rfl rfl rfl ?_) | with_reducible refine Keeps.of_free rfl rfl rfl rfl rfl (Nat.le_add_right _ _) ?_ | with_reducible refine Keeps.of_filter rfl rfl rfl rfl rfl rfl ?_ | split

theorem State.countPause_keeps {s0 : State} {s : State} (x2 : _) (h : Keeps s0 s) : Keeps s0 (State.countPause s x2) := by
  unfold State.countPause
  try dsimp only
  repeat' first | with_reducible assumption | intro _ | with_reducible (first | apply State.addDword_keeps | apply State.bump_keeps) | with_reducible apply Keeps.cond | with_reducible apply Keeps.foldl | (fail_if_no_progress with_reducible refine Keeps.of_mk rfl rfl rfl rfl rfl rfl ?_) | with_reducible refine Keeps.of_free rfl rfl rfl rfl rfl (Nat.le_add_right _ _) ?_ | with_reducible refine Keeps.of_filter rfl rfl rfl rfl rfl rfl ?_ | split

theorem State.shiftEpochs_keeps {s0 : State} {s : State} (x2 : _) (h : Keeps s0 s) : Keeps s0 (State.shiftEpochs s x2) := by
  unfold State.shiftEpochs
  try dsimp only
  repeat' first | with_reducible assumption | intro _ | with_reducible (first | apply State.setCtxField_keeps) | with_reducible apply Keeps.cond | with_reducible apply Keeps.foldl | (fail_if_no_progress with_reducible refine Keeps.of_mk rfl rfl rfl rfl rfl rfl ?_) | with_reducible refine Keeps.of_free rfl rfl rfl rfl rfl (Nat.le_add_right _ _) ?_ | with_reducible refine Keeps.of_filter rfl rfl rfl rfl rfl rfl ?_ | split

theorem State.departLast_keeps {s0 : State} {s : State} (x2 : _) (h : Keeps s0 s) : Keeps s0 (State.departLast s x2) := by
  unfold State.departLast
  try dsimp only
  repeat' first | with_reducible assumption | intro _ | with_reducible (first | apply State.record_keeps | apply State.journal_keeps) | with_reducible apply Keeps.cond | with_reducible apply Keeps.foldl | (fail_if_no_progress with_reducible refine Keeps.of_mk rfl rfl rfl rfl rfl rfl ?_) | with_reducible refine Keeps.of_free rfl rfl rfl rfl rfl (Nat.le_add_right _ _) ?_ | with_reducible refine Keeps.of_filter rfl rfl rfl rfl rfl rfl ?_ | split

theorem State.armField_keeps {s0 : State} {s : State} (x2 : _) (x3 : _) (h : Keeps s0 s) : Keeps s0 (State.armField x2 s x3) := by
  unfold State.armField
  try dsimp only
  repeat' first | with_reducible assumption | intro _ | with_reducible apply Keeps.cond | with_reducible apply Keeps.foldl | (fail_if_no_progress with_reducible refine Keeps.of_mk rfl rfl rfl rfl rfl rfl ?_) | with_reducible refine Keeps.of_free rfl rfl rfl rfl rfl (Nat.le_add_right _ _) ?_ | with_reducible refine Keeps.of_filter rfl rfl rfl rfl rfl rfl ?_ | split

theorem State.armSets_keeps {s0 : State} {s : State} (x2 : _) (h : Keeps s0 s) : Keeps s0 (State.armSets s x2) := by
  unfold State.armSets
  try dsimp only
  repeat' first | with_reducible assumption | intro _ | with_reducible (first | apply State.armField_keeps) | with_reducible apply Keeps.cond | with_reducible apply Keeps.foldl | (fail_if_no_progress with_reducible refine Keeps.of_mk rfl rfl rfl rfl rfl rfl ?_) | with_reducible refine Keeps.of_free rfl rfl rfl rfl rfl (Nat.le_add_right _ _) ?_ | with_reducible refine Keeps.of_filter rfl rfl rfl rfl rfl rfl ?_ | split

theorem State.coldOwned_keeps {s0 : State} {s : State} (x2 : _) (h : Keeps s0 s) : Keeps s0 (State.coldOwned s x2) := by
  unfold State.coldOwned
  try dsimp only
  repeat' first | with_reducible assumption | intro _ | with_reducible (first | apply State.setWord_keeps) | with_reducible apply Keeps.cond | with_reducible apply Keeps.foldl | (fail_if_no_progress with_reducible refine Keeps.of_mk rfl rfl rfl rfl rfl rfl ?_) | with_reducible refine Keeps.of_free rfl rfl rfl rfl rfl (Nat.le_add_right _ _) ?_ | with_reducible refine Keeps.of_filter rfl rfl rfl rfl rfl rfl ?_ | split

theorem State.startLasts_keeps {s0 : State} {s : State} (x2 : _) (h : Keeps s0 s) : Keeps s0 (State.startLasts s x2) := by
  unfold State.startLasts
  try dsimp only
  repeat' first | with_reducible assumption | intro _ | with_reducible (first | apply State.journal_keeps | apply State.coldOwned_keeps | apply State.modLast_keeps) | with_reducible apply Keeps.cond | with_reducible apply Keeps.foldl | (fail_if_no_progress with_reducible refine Keeps.of_mk rfl rfl rfl rfl rfl rfl ?_) | with_reducible refine Keeps.of_free rfl rfl rfl rfl rfl (Nat.le_add_right _ _) ?_ | with_reducible refine Keeps.of_filter rfl rfl rfl rfl rfl rfl ?_ | split

theorem State.modeChanges_keeps {s0 s : State} (old : State) (h : Keeps s0 s) : Keeps s0 (State.modeChanges old s) := by
  unfold State.modeChanges
  repeat' first | with_reducible assumption | intro _ | with_reducible apply State.setTile_keeps | with_reducible apply Keeps.foldl

theorem State.setTiming_keeps {s0 : State} {s : State} (h : Keeps s0 s) : Keeps s0 (State.setTiming s) := by
  unfold State.setTiming
  try dsimp only
  repeat' first | with_reducible assumption | intro _ | with_reducible apply Keeps.cond | with_reducible apply Keeps.foldl | (fail_if_no_progress with_reducible refine Keeps.of_mk rfl rfl rfl rfl rfl rfl ?_) | with_reducible refine Keeps.of_free rfl rfl rfl rfl rfl (Nat.le_add_right _ _) ?_ | with_reducible refine Keeps.of_filter rfl rfl rfl rfl rfl rfl ?_ | split

theorem State.returnCtxs_keeps {s0 : State} {s : State} (x2 : _) (h : Keeps s0 s) : Keeps s0 (State.returnCtxs s x2) := by
  unfold State.returnCtxs
  try dsimp only
  repeat' first | with_reducible assumption | intro _ | with_reducible (first | apply State.bump_keeps | apply State.requeueHead_keeps) | with_reducible apply Keeps.cond | with_reducible apply Keeps.foldl | (fail_if_no_progress with_reducible refine Keeps.of_mk rfl rfl rfl rfl rfl rfl ?_) | with_reducible refine Keeps.of_free rfl rfl rfl rfl rfl (Nat.le_add_right _ _) ?_ | with_reducible refine Keeps.of_filter rfl rfl rfl rfl rfl rfl ?_ | split

theorem State.finishCtxs_keeps {s0 : State} {s : State} (x2 : _) (h : Keeps s0 s) : Keeps s0 (State.finishCtxs s x2) := by
  unfold State.finishCtxs
  try dsimp only
  repeat' first | with_reducible assumption | intro _ | with_reducible (first | apply State.returnCtxs_keeps | apply State.endCtx_keeps) | with_reducible apply Keeps.cond | with_reducible apply Keeps.foldl | (fail_if_no_progress with_reducible refine Keeps.of_mk rfl rfl rfl rfl rfl rfl ?_) | with_reducible refine Keeps.of_free rfl rfl rfl rfl rfl (Nat.le_add_right _ _) ?_ | with_reducible refine Keeps.of_filter rfl rfl rfl rfl rfl rfl ?_ | split

theorem State.takeBindings_keeps {s0 : State} {s : State} (h : Keeps s0 s) : Keeps s0 (State.takeBindings s) := by
  unfold State.takeBindings
  try dsimp only
  repeat' first | with_reducible assumption | intro _ | with_reducible (first | apply State.returnCtxs_keeps) | with_reducible apply Keeps.cond | with_reducible apply Keeps.foldl | (fail_if_no_progress with_reducible refine Keeps.of_mk rfl rfl rfl rfl rfl rfl ?_) | with_reducible refine Keeps.of_free rfl rfl rfl rfl rfl (Nat.le_add_right _ _) ?_ | with_reducible refine Keeps.of_filter rfl rfl rfl rfl rfl rfl ?_ | split

theorem State.msEffect_keeps {s0 : State} {s : State} (x2 : _) (h : Keeps s0 s) : Keeps s0 (State.msEffect s x2) := by
  unfold State.msEffect
  try dsimp only
  repeat' first | with_reducible assumption | intro _ | with_reducible (first | apply State.endCtx_keeps | apply State.journal_keeps | apply State.complete_keeps) | with_reducible apply Keeps.cond | with_reducible apply Keeps.foldl | (fail_if_no_progress with_reducible refine Keeps.of_mk rfl rfl rfl rfl rfl rfl ?_) | with_reducible refine Keeps.of_free rfl rfl rfl rfl rfl (Nat.le_add_right _ _) ?_ | with_reducible refine Keeps.of_filter rfl rfl rfl rfl rfl rfl ?_ | split

theorem State.msEffects_keeps {s0 : State} {s : State} (x2 : _) (h : Keeps s0 s) : Keeps s0 (State.msEffects s x2) := by
  unfold State.msEffects
  try dsimp only
  repeat' first | with_reducible assumption | intro _ | with_reducible (first | apply State.msEffect_keeps) | with_reducible apply Keeps.cond | with_reducible apply Keeps.foldl | (fail_if_no_progress with_reducible refine Keeps.of_mk rfl rfl rfl rfl rfl rfl ?_) | with_reducible refine Keeps.of_free rfl rfl rfl rfl rfl (Nat.le_add_right _ _) ?_ | with_reducible refine Keeps.of_filter rfl rfl rfl rfl rfl rfl ?_ | split

theorem State.outCtxs_keeps {s0 : State} {s : State} (h : Keeps s0 s) : Keeps s0 (State.outCtxs s) := by
  unfold State.outCtxs
  try dsimp only
  repeat' first | with_reducible assumption | intro _ | with_reducible (first | apply State.endCtx_keeps) | with_reducible apply Keeps.cond | with_reducible apply Keeps.foldl | (fail_if_no_progress with_reducible refine Keeps.of_mk rfl rfl rfl rfl rfl rfl ?_) | with_reducible refine Keeps.of_free rfl rfl rfl rfl rfl (Nat.le_add_right _ _) ?_ | with_reducible refine Keeps.of_filter rfl rfl rfl rfl rfl rfl ?_ | split

theorem State.stepWaits_keeps {s0 : State} {s : State} (h : Keeps s0 s) : Keeps s0 (State.stepWaits s) := by
  unfold State.stepWaits
  try dsimp only
  repeat' first | with_reducible assumption | intro _ | with_reducible (first | apply State.complete_keeps) | with_reducible apply Keeps.cond | with_reducible apply Keeps.foldl | (fail_if_no_progress with_reducible refine Keeps.of_mk rfl rfl rfl rfl rfl rfl ?_) | with_reducible refine Keeps.of_free rfl rfl rfl rfl rfl (Nat.le_add_right _ _) ?_ | with_reducible refine Keeps.of_filter rfl rfl rfl rfl rfl rfl ?_ | split

theorem State.stepMarks_keeps {s0 : State} {s : State} (x2 : _) (h : Keeps s0 s) : Keeps s0 (State.stepMarks s x2) := by
  unfold State.stepMarks
  try dsimp only
  repeat' first | with_reducible assumption | intro _ | with_reducible (first | apply State.complete_keeps) | with_reducible apply Keeps.cond | with_reducible apply Keeps.foldl | (fail_if_no_progress with_reducible refine Keeps.of_mk rfl rfl rfl rfl rfl rfl ?_) | with_reducible refine Keeps.of_free rfl rfl rfl rfl rfl (Nat.le_add_right _ _) ?_ | with_reducible refine Keeps.of_filter rfl rfl rfl rfl rfl rfl ?_ | split

theorem State.finishBarrier_keeps {s0 : State} {s : State} (x2 : _) (h : Keeps s0 s) : Keeps s0 (State.finishBarrier s x2) := by
  unfold State.finishBarrier
  try dsimp only
  repeat' first | with_reducible assumption | intro _ | with_reducible (first | apply State.synAdd_keeps) | with_reducible apply Keeps.cond | with_reducible apply Keeps.foldl | (fail_if_no_progress with_reducible refine Keeps.of_mk rfl rfl rfl rfl rfl rfl ?_) | with_reducible refine Keeps.of_free rfl rfl rfl rfl rfl (Nat.le_add_right _ _) ?_ | with_reducible refine Keeps.of_filter rfl rfl rfl rfl rfl rfl ?_ | split

theorem State.stepObjs_keeps {s0 : State} {s : State} (h : Keeps s0 s) : Keeps s0 (State.stepObjs s) := by
  unfold State.stepObjs
  try dsimp only
  repeat' first | with_reducible assumption | intro _ | with_reducible apply Keeps.cond | with_reducible apply Keeps.foldl | (fail_if_no_progress with_reducible refine Keeps.of_mk rfl rfl rfl rfl rfl rfl ?_) | with_reducible refine Keeps.of_free rfl rfl rfl rfl rfl (Nat.le_add_right _ _) ?_ | with_reducible refine Keeps.of_filter rfl rfl rfl rfl rfl rfl ?_ | split

theorem State.afterPend_keeps {s0 : State} {s : State} (x2 : _) (h : Keeps s0 s) : Keeps s0 (State.afterPend s x2) := by
  unfold State.afterPend
  try dsimp only
  repeat' first | with_reducible assumption | intro _ | with_reducible (first | apply State.setRing_keeps | apply State.toDetect_keeps | apply State.linkDown_keeps) | with_reducible apply Keeps.cond | with_reducible apply Keeps.foldl | (fail_if_no_progress with_reducible refine Keeps.of_mk rfl rfl rfl rfl rfl rfl ?_) | with_reducible refine Keeps.of_free rfl rfl rfl rfl rfl (Nat.le_add_right _ _) ?_ | with_reducible refine Keeps.of_filter rfl rfl rfl rfl rfl rfl ?_ | split

theorem State.settings_keeps {s0 : State} {s : State} (x2 : _) (h : Keeps s0 s) : Keeps s0 (State.settings s x2) := by
  unfold State.settings
  try dsimp only
  repeat' first | with_reducible assumption | intro _ | with_reducible (first | apply State.applyPends_keeps | apply State.afterPend_keeps) | with_reducible apply Keeps.cond | with_reducible apply Keeps.foldl | (fail_if_no_progress with_reducible refine Keeps.of_mk rfl rfl rfl rfl rfl rfl ?_) | with_reducible refine Keeps.of_free rfl rfl rfl rfl rfl (Nat.le_add_right _ _) ?_ | with_reducible refine Keeps.of_filter rfl rfl rfl rfl rfl rfl ?_ | split

theorem State.heatersOff_keeps {s0 : State} {s : State} (h : Keeps s0 s) : Keeps s0 (State.heatersOff s) := by
  unfold State.heatersOff
  try dsimp only
  repeat' first | with_reducible assumption | intro _ | with_reducible apply Keeps.cond | with_reducible apply Keeps.foldl | (fail_if_no_progress with_reducible refine Keeps.of_mk rfl rfl rfl rfl rfl rfl ?_) | with_reducible refine Keeps.of_free rfl rfl rfl rfl rfl (Nat.le_add_right _ _) ?_ | with_reducible refine Keeps.of_filter rfl rfl rfl rfl rfl rfl ?_ | split

theorem State.darkStep_keeps {s0 : State} {s : State} (x2 : _) (h : Keeps s0 s) : Keeps s0 (State.darkStep s x2) := by
  unfold State.darkStep
  try dsimp only
  repeat' first | with_reducible assumption | intro _ | with_reducible (first | apply State.record_keeps | apply State.setWord_keeps | apply State.heatersOff_keeps | apply State.darken_keeps | apply State.beginEnable_keeps) | with_reducible apply Keeps.cond | with_reducible apply Keeps.foldl | (fail_if_no_progress with_reducible refine Keeps.of_mk rfl rfl rfl rfl rfl rfl ?_) | with_reducible refine Keeps.of_free rfl rfl rfl rfl rfl (Nat.le_add_right _ _) ?_ | with_reducible refine Keeps.of_filter rfl rfl rfl rfl rfl rfl ?_ | split

theorem State.overrideStep_keeps {s0 : State} {s : State} (x2 : _) (h : Keeps s0 s) : Keeps s0 (State.overrideStep s x2) := by
  unfold State.overrideStep
  try dsimp only
  repeat' first | with_reducible assumption | intro _ | with_reducible (first | apply State.journal_keeps | apply State.proceedEnable_keeps | apply State.doPermitFall_keeps) | with_reducible apply Keeps.cond | with_reducible apply Keeps.foldl | (fail_if_no_progress with_reducible refine Keeps.of_mk rfl rfl rfl rfl rfl rfl ?_) | with_reducible refine Keeps.of_free rfl rfl rfl rfl rfl (Nat.le_add_right _ _) ?_ | with_reducible refine Keeps.of_filter rfl rfl rfl rfl rfl rfl ?_ | split

theorem State.roleStep_keeps {s0 : State} {s : State} (x2 : _) (h : Keeps s0 s) : Keeps s0 (State.roleStep s x2) := by
  unfold State.roleStep
  try dsimp only
  repeat' first | with_reducible assumption | intro _ | with_reducible (first | apply State.roleTransfer_keeps) | with_reducible apply Keeps.cond | with_reducible apply Keeps.foldl | (fail_if_no_progress with_reducible refine Keeps.of_mk rfl rfl rfl rfl rfl rfl ?_) | with_reducible refine Keeps.of_free rfl rfl rfl rfl rfl (Nat.le_add_right _ _) ?_ | with_reducible refine Keeps.of_filter rfl rfl rfl rfl rfl rfl ?_ | split

theorem State.measure_keeps {s0 : State} {s : State} (x2 : _) (h : Keeps s0 s) : Keeps s0 (State.measure s x2) := by
  unfold State.measure
  try dsimp only
  repeat' first | with_reducible assumption | intro _ | with_reducible (first | apply State.setLkk_keeps | apply State.linkDown_keeps) | with_reducible apply Keeps.cond | with_reducible apply Keeps.foldl | (fail_if_no_progress with_reducible refine Keeps.of_mk rfl rfl rfl rfl rfl rfl ?_) | with_reducible refine Keeps.of_free rfl rfl rfl rfl rfl (Nat.le_add_right _ _) ?_ | with_reducible refine Keeps.of_filter rfl rfl rfl rfl rfl rfl ?_ | split

theorem State.moveLane_keeps {s0 : State} {s : State} (x2 : _) (x3 : _) (h : Keeps s0 s) : Keeps s0 (State.moveLane s x2 x3) := by
  unfold State.moveLane
  try dsimp only
  repeat' first | with_reducible assumption | intro _ | with_reducible (first | apply State.bump_keeps | apply State.setLnk_keeps | apply State.requestMove_keeps) | with_reducible apply Keeps.cond | with_reducible apply Keeps.foldl | (fail_if_no_progress with_reducible refine Keeps.of_mk rfl rfl rfl rfl rfl rfl ?_) | with_reducible refine Keeps.of_free rfl rfl rfl rfl rfl (Nat.le_add_right _ _) ?_ | with_reducible refine Keeps.of_filter rfl rfl rfl rfl rfl rfl ?_ | split

theorem State.audit_keeps {s0 : State} {s : State} (x2 : _) (h : Keeps s0 s) : Keeps s0 (State.audit s x2) := by
  unfold State.audit
  try dsimp only
  repeat' first | with_reducible assumption | intro _ | with_reducible (first | apply State.setWord_keeps | apply State.record_keeps | apply State.setLkk_keeps) | with_reducible apply Keeps.cond | with_reducible apply Keeps.foldl | (fail_if_no_progress with_reducible refine Keeps.of_mk rfl rfl rfl rfl rfl rfl ?_) | with_reducible refine Keeps.of_free rfl rfl rfl rfl rfl (Nat.le_add_right _ _) ?_ | with_reducible refine Keeps.of_filter rfl rfl rfl rfl rfl rfl ?_ | split

theorem State.linkStep_keeps {s0 : State} {s : State} (x2 : _) (x3 : _) (h : Keeps s0 s) : Keeps s0 (State.linkStep s x2 x3) := by
  unfold State.linkStep
  try dsimp only
  repeat' first | with_reducible assumption | intro _ | with_reducible (first | apply State.capRetrain_keeps | apply State.moveLane_keeps | apply State.audit_keeps | apply State.setLkk_keeps | apply State.propose_keeps) | with_reducible apply Keeps.cond | with_reducible apply Keeps.foldl | (fail_if_no_progress with_reducible refine Keeps.of_mk rfl rfl rfl rfl rfl rfl ?_) | with_reducible refine Keeps.of_free rfl rfl rfl rfl rfl (Nat.le_add_right _ _) ?_ | with_reducible refine Keeps.of_filter rfl rfl rfl rfl rfl rfl ?_ | split

theorem State.linkSteps_keeps {s0 : State} {s : State} (x2 : _) (h : Keeps s0 s) : Keeps s0 (State.linkSteps s x2) := by
  unfold State.linkSteps
  try dsimp only
  repeat' first | with_reducible assumption | intro _ | with_reducible (first | apply State.linkStep_keeps) | with_reducible apply Keeps.cond | with_reducible apply Keeps.foldl | (fail_if_no_progress with_reducible refine Keeps.of_mk rfl rfl rfl rfl rfl rfl ?_) | with_reducible refine Keeps.of_free rfl rfl rfl rfl rfl (Nat.le_add_right _ _) ?_ | with_reducible refine Keeps.of_filter rfl rfl rfl rfl rfl rfl ?_ | split

theorem State.enrol_keeps {s0 : State} {s : State} (h : Keeps s0 s) : Keeps s0 (State.enrol s) := by
  unfold State.enrol
  try dsimp only
  repeat' first | with_reducible assumption | intro _ | with_reducible apply Keeps.cond | with_reducible apply Keeps.foldl | (fail_if_no_progress with_reducible refine Keeps.of_mk rfl rfl rfl rfl rfl rfl ?_) | with_reducible refine Keeps.of_free rfl rfl rfl rfl rfl (Nat.le_add_right _ _) ?_ | with_reducible refine Keeps.of_filter rfl rfl rfl rfl rfl rfl ?_ | split

theorem State.stopHeadless_keeps {s0 : State} {s : State} (h : Keeps s0 s) : Keeps s0 (State.stopHeadless s) := by
  unfold State.stopHeadless
  try dsimp only
  repeat' first | with_reducible assumption | intro _ | with_reducible apply Keeps.cond | with_reducible apply Keeps.foldl | (fail_if_no_progress with_reducible refine Keeps.of_mk rfl rfl rfl rfl rfl rfl ?_) | with_reducible refine Keeps.of_free rfl rfl rfl rfl rfl (Nat.le_add_right _ _) ?_ | with_reducible refine Keeps.of_filter rfl rfl rfl rfl rfl rfl ?_ | split

theorem State.enterEpoch_keeps {s0 : State} {s : State} (x2 : _) (h : Keeps s0 s) : Keeps s0 (State.enterEpoch s x2) := by
  unfold State.enterEpoch
  try dsimp only
  repeat' first | with_reducible assumption | intro _ | with_reducible apply Keeps.cond | with_reducible apply Keeps.foldl | (fail_if_no_progress with_reducible refine Keeps.of_mk rfl rfl rfl rfl rfl rfl ?_) | with_reducible refine Keeps.of_free rfl rfl rfl rfl rfl (Nat.le_add_right _ _) ?_ | with_reducible refine Keeps.of_filter rfl rfl rfl rfl rfl rfl ?_ | split

theorem State.heldAbort_keeps {s0 : State} {s : State} (h : Keeps s0 s) : Keeps s0 (State.heldAbort s) := by
  unfold State.heldAbort
  try dsimp only
  repeat' first | with_reducible assumption | intro _ | with_reducible (first | apply State.trigger_keeps) | with_reducible apply Keeps.cond | with_reducible apply Keeps.foldl | (fail_if_no_progress with_reducible refine Keeps.of_mk rfl rfl rfl rfl rfl rfl ?_) | with_reducible refine Keeps.of_free rfl rfl rfl rfl rfl (Nat.le_add_right _ _) ?_ | with_reducible refine Keeps.of_filter rfl rfl rfl rfl rfl rfl ?_ | split

theorem State.takeBoundary_keeps {s0 : State} {s : State} (x2 : _) (x3 : _) (x4 : _) (h : Keeps s0 s) : Keeps s0 (State.takeBoundary s x2 x3 x4) := by
  unfold State.takeBoundary
  try dsimp only
  repeat' first | with_reducible assumption | intro _ | with_reducible (first | apply State.shiftEpochs_keeps | apply State.countPause_keeps | apply State.enterEpoch_keeps | apply State.outCtxs_keeps | apply State.departLast_keeps | apply State.finishBarrier_keeps | apply State.stepWaits_keeps | apply State.fillSlots_keeps | apply State.finishCtxs_keeps | apply State.takeBindings_keeps | apply State.settings_keeps | apply State.msEffects_keeps | apply State.setTiming_keeps | apply State.modeChanges_keeps | apply State.startLasts_keeps | apply State.armSets_keeps | apply State.stepObjs_keeps | apply State.startTraining_keeps | apply State.stepMarks_keeps | apply State.exchanges_keeps | apply State.linkSteps_keeps | apply State.measure_keeps | apply State.driveReplace_keeps | apply State.darkStep_keeps | apply State.roleStep_keeps | apply State.overrideStep_keeps | apply State.enrol_keeps | apply State.heldAbort_keeps | apply State.stopHeadless_keeps) | with_reducible apply Keeps.cond | with_reducible apply Keeps.foldl | (fail_if_no_progress with_reducible refine Keeps.of_mk rfl rfl rfl rfl rfl rfl ?_) | with_reducible refine Keeps.of_free rfl rfl rfl rfl rfl (Nat.le_add_right _ _) ?_ | with_reducible refine Keeps.of_filter rfl rfl rfl rfl rfl rfl ?_ | split

theorem State.doBoundary_keeps {s0 : State} {s : State} (x2 : _) (h : Keeps s0 s) : Keeps s0 (State.doBoundary s x2) := by
  unfold State.doBoundary
  try dsimp only
  repeat' first | with_reducible assumption | intro _ | with_reducible (first | apply State.takeBoundary_keeps) | with_reducible apply Keeps.cond | with_reducible apply Keeps.foldl | (fail_if_no_progress with_reducible refine Keeps.of_mk rfl rfl rfl rfl rfl rfl ?_) | with_reducible refine Keeps.of_free rfl rfl rfl rfl rfl (Nat.le_add_right _ _) ?_ | with_reducible refine Keeps.of_filter rfl rfl rfl rfl rfl rfl ?_ | split

theorem State.doWatchdogExpiry_keeps {s0 : State} {s : State} (h : Keeps s0 s) : Keeps s0 (State.doWatchdogExpiry s) := by
  unfold State.doWatchdogExpiry
  try dsimp only
  repeat' first | with_reducible assumption | intro _ | with_reducible (first | apply State.takeBoundary_keeps | apply State.bump_keeps | apply State.record_keeps) | with_reducible apply Keeps.cond | with_reducible apply Keeps.foldl | (fail_if_no_progress with_reducible refine Keeps.of_mk rfl rfl rfl rfl rfl rfl ?_) | with_reducible refine Keeps.of_free rfl rfl rfl rfl rfl (Nat.le_add_right _ _) ?_ | with_reducible refine Keeps.of_filter rfl rfl rfl rfl rfl rfl ?_ | split

theorem State.doEpochAbort_keeps {s0 : State} {s : State} (h : Keeps s0 s) : Keeps s0 (State.doEpochAbort s) := by
  unfold State.doEpochAbort
  try dsimp only
  repeat' first | with_reducible assumption | intro _ | with_reducible (first | apply State.bump_keeps | apply State.setWord_keeps | apply State.record_keeps | apply State.abortUp_keeps) | with_reducible apply Keeps.cond | with_reducible apply Keeps.foldl | (fail_if_no_progress with_reducible refine Keeps.of_mk rfl rfl rfl rfl rfl rfl ?_) | with_reducible refine Keeps.of_free rfl rfl rfl rfl rfl (Nat.le_add_right _ _) ?_ | with_reducible refine Keeps.of_filter rfl rfl rfl rfl rfl rfl ?_ | split

theorem State.restTiles_keeps {s0 : State} {s : State} (h : Keeps s0 s) : Keeps s0 (State.restTiles s) := by
  unfold State.restTiles
  try dsimp only
  repeat' first | with_reducible assumption | intro _ | with_reducible apply Keeps.cond | with_reducible apply Keeps.foldl | (fail_if_no_progress with_reducible refine Keeps.of_mk rfl rfl rfl rfl rfl rfl ?_) | with_reducible refine Keeps.of_free rfl rfl rfl rfl rfl (Nat.le_add_right _ _) ?_ | with_reducible refine Keeps.of_filter rfl rfl rfl rfl rfl rfl ?_ | split

theorem State.restSeqs_keeps {s0 : State} {s : State} (h : Keeps s0 s) : Keeps s0 (State.restSeqs s) := by
  unfold State.restSeqs
  try dsimp only
  repeat' first | with_reducible assumption | intro _ | with_reducible apply Keeps.cond | with_reducible apply Keeps.foldl | (fail_if_no_progress with_reducible refine Keeps.of_mk rfl rfl rfl rfl rfl rfl ?_) | with_reducible refine Keeps.of_free rfl rfl rfl rfl rfl (Nat.le_add_right _ _) ?_ | with_reducible refine Keeps.of_filter rfl rfl rfl rfl rfl rfl ?_ | split

theorem State.dropRequests_keeps {s0 : State} {s : State} (h : Keeps s0 s) : Keeps s0 (State.dropRequests s) := by
  unfold State.dropRequests
  try dsimp only
  repeat' first | with_reducible assumption | intro _ | with_reducible apply Keeps.cond | with_reducible apply Keeps.foldl | (fail_if_no_progress with_reducible refine Keeps.of_mk rfl rfl rfl rfl rfl rfl ?_) | with_reducible refine Keeps.of_free rfl rfl rfl rfl rfl (Nat.le_add_right _ _) ?_ | with_reducible refine Keeps.of_filter rfl rfl rfl rfl rfl rfl ?_ | split

theorem State.countAttempt_keeps {s0 : State} {s : State} (x2 : _) (h : Keeps s0 s) : Keeps s0 (State.countAttempt s x2) := by
  unfold State.countAttempt
  try dsimp only
  repeat' first | with_reducible assumption | intro _ | with_reducible (first | apply State.setCtxField_keeps) | with_reducible apply Keeps.cond | with_reducible apply Keeps.foldl | (fail_if_no_progress with_reducible refine Keeps.of_mk rfl rfl rfl rfl rfl rfl ?_) | with_reducible refine Keeps.of_free rfl rfl rfl rfl rfl (Nat.le_add_right _ _) ?_ | with_reducible refine Keeps.of_filter rfl rfl rfl rfl rfl rfl ?_ | split

theorem State.restContexts_keeps {s0 : State} {s : State} (h : Keeps s0 s) : Keeps s0 (State.restContexts s) := by
  unfold State.restContexts
  try dsimp only
  repeat' first | with_reducible assumption | intro _ | with_reducible (first | apply State.requeueHead_keeps | apply State.countAttempt_keeps | apply State.endCtx_keeps | apply State.returnCtxs_keeps) | with_reducible apply Keeps.cond | with_reducible apply Keeps.foldl | (fail_if_no_progress with_reducible refine Keeps.of_mk rfl rfl rfl rfl rfl rfl ?_) | with_reducible refine Keeps.of_free rfl rfl rfl rfl rfl (Nat.le_add_right _ _) ?_ | with_reducible refine Keeps.of_filter rfl rfl rfl rfl rfl rfl ?_ | split

theorem State.restObjs_keeps {s0 : State} {s : State} (h : Keeps s0 s) : Keeps s0 (State.restObjs s) := by
  unfold State.restObjs
  try dsimp only
  repeat' first | with_reducible assumption | intro _ | with_reducible apply Keeps.cond | with_reducible apply Keeps.foldl | (fail_if_no_progress with_reducible refine Keeps.of_mk rfl rfl rfl rfl rfl rfl ?_) | with_reducible refine Keeps.of_free rfl rfl rfl rfl rfl (Nat.le_add_right _ _) ?_ | with_reducible refine Keeps.of_filter rfl rfl rfl rfl rfl rfl ?_ | split

theorem State.fenceLink_keeps {s0 : State} {s : State} (x2 : _) (h : Keeps s0 s) : Keeps s0 (State.fenceLink s x2) := by
  unfold State.fenceLink
  try dsimp only
  repeat' first | with_reducible assumption | intro _ | with_reducible (first | apply State.setDir_keeps | apply State.setLkk_keeps) | with_reducible apply Keeps.cond | with_reducible apply Keeps.foldl | (fail_if_no_progress with_reducible refine Keeps.of_mk rfl rfl rfl rfl rfl rfl ?_) | with_reducible refine Keeps.of_free rfl rfl rfl rfl rfl (Nat.le_add_right _ _) ?_ | with_reducible refine Keeps.of_filter rfl rfl rfl rfl rfl rfl ?_ | split

theorem State.startBridges_keeps {s0 : State} {s : State} (h : Keeps s0 s) : Keeps s0 (State.startBridges s) := by
  unfold State.startBridges
  try dsimp only
  repeat' first | with_reducible assumption | intro _ | with_reducible (first | apply State.setBridge_keeps) | with_reducible apply Keeps.cond | with_reducible apply Keeps.foldl | (fail_if_no_progress with_reducible refine Keeps.of_mk rfl rfl rfl rfl rfl rfl ?_) | with_reducible refine Keeps.of_free rfl rfl rfl rfl rfl (Nat.le_add_right _ _) ?_ | with_reducible refine Keeps.of_filter rfl rfl rfl rfl rfl rfl ?_ | split

theorem State.doRestore_keeps {s0 : State} {s : State} (h : Keeps s0 s) : Keeps s0 (State.doRestore s) := by
  unfold State.doRestore
  try dsimp only
  repeat' first | with_reducible assumption | intro _ | with_reducible (first | apply State.restObjs_keeps | apply State.restContexts_keeps | apply State.dropRequests_keeps | apply State.restSeqs_keeps | apply State.restTiles_keeps | apply State.fenceLink_keeps | apply State.startBridges_keeps | apply State.startTraining_keeps | apply State.journalReset_keeps) | with_reducible apply Keeps.cond | with_reducible apply Keeps.foldl | (fail_if_no_progress with_reducible refine Keeps.of_mk rfl rfl rfl rfl rfl rfl ?_) | with_reducible refine Keeps.of_free rfl rfl rfl rfl rfl (Nat.le_add_right _ _) ?_ | with_reducible refine Keeps.of_filter rfl rfl rfl rfl rfl rfl ?_ | split

theorem State.doRecovered_keeps {s0 : State} {s : State} (h : Keeps s0 s) : Keeps s0 (State.doRecovered s) := by
  unfold State.doRecovered
  try dsimp only
  repeat' first | with_reducible assumption | intro _ | with_reducible (first | apply State.becomeReady_keeps | apply State.addDword_keeps) | with_reducible apply Keeps.cond | with_reducible apply Keeps.foldl | (fail_if_no_progress with_reducible refine Keeps.of_mk rfl rfl rfl rfl rfl rfl ?_) | with_reducible refine Keeps.of_free rfl rfl rfl rfl rfl (Nat.le_add_right _ _) ?_ | with_reducible refine Keeps.of_filter rfl rfl rfl rfl rfl rfl ?_ | split

theorem State.doOvertime_keeps {s0 : State} {s : State} (h : Keeps s0 s) : Keeps s0 (State.doOvertime s) := by
  unfold State.doOvertime
  try dsimp only
  repeat' first | with_reducible assumption | intro _ | with_reducible (first | apply State.record_keeps) | with_reducible apply Keeps.cond | with_reducible apply Keeps.foldl | (fail_if_no_progress with_reducible refine Keeps.of_mk rfl rfl rfl rfl rfl rfl ?_) | with_reducible refine Keeps.of_free rfl rfl rfl rfl rfl (Nat.le_add_right _ _) ?_ | with_reducible refine Keeps.of_filter rfl rfl rfl rfl rfl rfl ?_ | split

end Sys2Proof.Machine
end

