-- ==== Sys2Proof/Laws/KeepsStart.lean ====
section
/-! SUPPORT. Every operation of the machine keeps what Keeps says: starts, training, resets and power. -/

set_option linter.unusedTactic false
set_option linter.unreachableTactic false

namespace Sys2Proof.Machine

theorem State.passStage_keeps {s0 : State} {s : State} (x2 : _) (x3 : _) (h : Keeps s0 s) : Keeps s0 (State.passStage s x2 x3) := by
  unfold State.passStage
  try dsimp only
  repeat' first | with_reducible assumption | intro _ | with_reducible (first | apply State.recordFatal_keeps) | with_reducible apply Keeps.cond | with_reducible apply Keeps.foldl | (fail_if_no_progress with_reducible refine Keeps.of_mk rfl rfl rfl rfl rfl rfl ?_) | with_reducible refine Keeps.of_free rfl rfl rfl rfl rfl (Nat.le_add_right _ _) ?_ | with_reducible refine Keeps.of_filter rfl rfl rfl rfl rfl rfl ?_ | split

theorem State.softReset_keeps {s0 : State} {s : State} (x2 : _) (h : Keeps s0 s) : Keeps s0 (State.softReset s x2) := by
  unfold State.softReset
  try dsimp only
  repeat' first | with_reducible assumption | with_reducible (first | apply State.reset_keeps) | with_reducible apply Keeps.cond | with_reducible apply Keeps.foldl | (fail_if_no_progress with_reducible refine Keeps.of_mk rfl rfl rfl rfl rfl rfl ?_) | with_reducible refine Keeps.of_free rfl rfl rfl rfl rfl (Nat.le_add_right _ _) ?_ | with_reducible refine Keeps.of_filter rfl rfl rfl rfl rfl rfl ?_ | (with_reducible first | exact id | exact Mem.wf_clear _ _ | exact Mem.wf_filter _ | exact regsWf_filter _ | exact fun k => Mem.wf_setBytes _ _ (Mem.wf_clear _ _ k) | exact fun k => Mem.wf_foldl _ (Mem.wf_clear _ _ k) | exact fun _ => Keeps.reset_mem | exact fun _ => Keeps.reset_regs | exact fun _ => Keeps.nil_mem) | with_reducible refine Keeps.of_data rfl rfl ?_ ?_ rfl rfl ?_ | refine Keeps.of_data rfl rfl ?_ ?_ (by simp only [Fuses.fixed]) rfl ?_ | intro _ | split

theorem State.enterSole_keeps {s0 : State} {s : State} (h : Keeps s0 s) : Keeps s0 (State.enterSole s) := by
  unfold State.enterSole
  try dsimp only
  repeat' first | with_reducible assumption | intro _ | with_reducible (first | apply State.softReset_keeps | apply State.recordFatal_keeps | apply State.setRole_keeps) | with_reducible apply Keeps.cond | with_reducible apply Keeps.foldl | (fail_if_no_progress with_reducible refine Keeps.of_mk rfl rfl rfl rfl rfl rfl ?_) | with_reducible refine Keeps.of_free rfl rfl rfl rfl rfl (Nat.le_add_right _ _) ?_ | with_reducible refine Keeps.of_filter rfl rfl rfl rfl rfl rfl ?_ | split

theorem State.failStart_keeps {s0 : State} {s : State} (x2 : _) (x3 : _) (x4 : _) (x5 : _) (h : Keeps s0 s) : Keeps s0 (State.failStart s x2 x3 x4 x5) := by
  unfold State.failStart
  try dsimp only
  repeat' first | with_reducible assumption | intro _ | with_reducible (first | apply State.storeBoot_keeps | apply State.enterSole_keeps | apply State.softReset_keeps) | with_reducible apply Keeps.cond | with_reducible apply Keeps.foldl | (fail_if_no_progress with_reducible refine Keeps.of_mk rfl rfl rfl rfl rfl rfl ?_) | with_reducible refine Keeps.of_free rfl rfl rfl rfl rfl (Nat.le_add_right _ _) ?_ | with_reducible refine Keeps.of_filter rfl rfl rfl rfl rfl rfl ?_ | split

theorem State.failStage_keeps {s0 : State} {s : State} (x2 : _) (x3 : _) (x4 : _) (h : Keeps s0 s) : Keeps s0 (State.failStage s x2 x3 x4) := by
  unfold State.failStage
  try dsimp only
  repeat' first | with_reducible assumption | intro _ | with_reducible (first | apply State.failStart_keeps | apply State.recordFatal_keeps) | with_reducible apply Keeps.cond | with_reducible apply Keeps.foldl | (fail_if_no_progress with_reducible refine Keeps.of_mk rfl rfl rfl rfl rfl rfl ?_) | with_reducible refine Keeps.of_free rfl rfl rfl rfl rfl (Nat.le_add_right _ _) ?_ | with_reducible refine Keeps.of_filter rfl rfl rfl rfl rfl rfl ?_ | split

theorem State.sampleStraps_keeps {s0 : State} {s : State} (x2 : _) (h : Keeps s0 s) : Keeps s0 (State.sampleStraps s x2) := by
  unfold State.sampleStraps
  try dsimp only
  repeat' first | with_reducible assumption | intro _ | with_reducible (first | apply State.recordFatal_keeps) | with_reducible apply Keeps.cond | with_reducible apply Keeps.foldl | (fail_if_no_progress with_reducible refine Keeps.of_mk rfl rfl rfl rfl rfl rfl ?_) | with_reducible refine Keeps.of_free rfl rfl rfl rfl rfl (Nat.le_add_right _ _) ?_ | with_reducible refine Keeps.of_filter rfl rfl rfl rfl rfl rfl ?_ | split

theorem State.coldKeys_keeps {s0 : State} {s : State} (x2 : _) (h : Keeps s0 s) : Keeps s0 (State.coldKeys s x2) := by
  unfold State.coldKeys
  try dsimp only
  repeat' first | with_reducible assumption | intro _ | with_reducible apply Keeps.cond | with_reducible apply Keeps.foldl | (fail_if_no_progress with_reducible refine Keeps.of_mk rfl rfl rfl rfl rfl rfl ?_) | with_reducible refine Keeps.of_free rfl rfl rfl rfl rfl (Nat.le_add_right _ _) ?_ | with_reducible refine Keeps.of_filter rfl rfl rfl rfl rfl rfl ?_ | split

theorem State.flashStart_keeps {s0 : State} {s : State} (x2 : _) (h : Keeps s0 s) : Keeps s0 (State.flashStart s x2) := by
  unfold State.flashStart
  try dsimp only
  repeat' first | with_reducible assumption | intro _ | with_reducible (first | apply State.record_keeps) | with_reducible apply Keeps.cond | with_reducible apply Keeps.foldl | (fail_if_no_progress with_reducible refine Keeps.of_mk rfl rfl rfl rfl rfl rfl ?_) | with_reducible refine Keeps.of_free rfl rfl rfl rfl rfl (Nat.le_add_right _ _) ?_ | with_reducible refine Keeps.of_filter rfl rfl rfl rfl rfl rfl ?_ | split

theorem State.countStart_keeps {s0 : State} {s : State} (x2 : _) (h : Keeps s0 s) : Keeps s0 (State.countStart s x2) := by
  unfold State.countStart
  try dsimp only
  repeat' first | with_reducible assumption | intro _ | with_reducible (first | apply State.record_keeps | apply State.storeBoot_keeps) | with_reducible apply Keeps.cond | with_reducible apply Keeps.foldl | (fail_if_no_progress with_reducible refine Keeps.of_mk rfl rfl rfl rfl rfl rfl ?_) | with_reducible refine Keeps.of_free rfl rfl rfl rfl rfl (Nat.le_add_right _ _) ?_ | with_reducible refine Keeps.of_filter rfl rfl rfl rfl rfl rfl ?_ | split

theorem State.beginStage_keeps {s0 : State} {s : State} (x2 : _) (h : Keeps s0 s) : Keeps s0 (State.beginStage s x2) := by
  unfold State.beginStage
  try dsimp only
  repeat' first | with_reducible assumption | intro _ | with_reducible (first | apply State.record_keeps) | with_reducible apply Keeps.cond | with_reducible apply Keeps.foldl | (fail_if_no_progress with_reducible refine Keeps.of_mk rfl rfl rfl rfl rfl rfl ?_) | with_reducible refine Keeps.of_free rfl rfl rfl rfl rfl (Nat.le_add_right _ _) ?_ | with_reducible refine Keeps.of_filter rfl rfl rfl rfl rfl rfl ?_ | split

theorem State.chooseSlot_keeps {s0 s t : State} (h : Keeps s0 s) (e : State.chooseSlot s = some t) : Keeps s0 t := by
  unfold State.chooseSlot at e
  try dsimp only at e
  repeat' first | cases e | split at e
  all_goals repeat' first | with_reducible assumption | intro _ | with_reducible (first | apply State.record_keeps) | with_reducible apply Keeps.cond | with_reducible apply Keeps.foldl | (fail_if_no_progress with_reducible refine Keeps.of_mk rfl rfl rfl rfl rfl rfl ?_) | with_reducible refine Keeps.of_free rfl rfl rfl rfl rfl (Nat.le_add_right _ _) ?_ | with_reducible refine Keeps.of_filter rfl rfl rfl rfl rfl rfl ?_ | split

theorem State.enterStage1_keeps {s0 : State} {s : State} (h : Keeps s0 s) : Keeps s0 (State.enterStage1 s) := by
  unfold State.enterStage1
  try dsimp only
  repeat' first | with_reducible assumption | intro _ | with_reducible (first | apply State.setBridge_keeps | apply State.beginStage_keeps) | with_reducible apply Keeps.cond | with_reducible apply Keeps.foldl | (fail_if_no_progress with_reducible refine Keeps.of_mk rfl rfl rfl rfl rfl rfl ?_) | with_reducible refine Keeps.of_free rfl rfl rfl rfl rfl (Nat.le_add_right _ _) ?_ | with_reducible refine Keeps.of_filter rfl rfl rfl rfl rfl rfl ?_ | split

theorem State.openStage0_keeps {s0 : State} {s : State} (x2 : _) (x3 : _) (h : Keeps s0 s) : Keeps s0 (State.openStage0 s x2 x3) := by
  unfold State.openStage0
  try dsimp only
  repeat' first | with_reducible assumption | intro _ | with_reducible (first | apply State.flashStart_keeps | apply State.beginStage_keeps | apply State.coldKeys_keeps) | with_reducible apply Keeps.cond | with_reducible apply Keeps.foldl | (fail_if_no_progress with_reducible refine Keeps.of_mk rfl rfl rfl rfl rfl rfl ?_) | with_reducible refine Keeps.of_free rfl rfl rfl rfl rfl (Nat.le_add_right _ _) ?_ | with_reducible refine Keeps.of_filter rfl rfl rfl rfl rfl rfl ?_ | split

theorem State.noteTrial_keeps {s0 : State} {s : State} (h : Keeps s0 s) : Keeps s0 (State.noteTrial s) := by
  unfold State.noteTrial
  try dsimp only
  repeat' first | with_reducible assumption | intro _ | with_reducible (first | apply State.record_keeps) | with_reducible apply Keeps.cond | with_reducible apply Keeps.foldl | (fail_if_no_progress with_reducible refine Keeps.of_mk rfl rfl rfl rfl rfl rfl ?_) | with_reducible refine Keeps.of_free rfl rfl rfl rfl rfl (Nat.le_add_right _ _) ?_ | with_reducible refine Keeps.of_filter rfl rfl rfl rfl rfl rfl ?_ | split

theorem State.notePkgFail_keeps {s0 : State} {s : State} (x2 : _) (h : Keeps s0 s) : Keeps s0 (State.notePkgFail s x2) := by
  unfold State.notePkgFail
  try dsimp only
  repeat' first | with_reducible assumption | intro _ | with_reducible (first | apply State.record_keeps) | with_reducible apply Keeps.cond | with_reducible apply Keeps.foldl | (fail_if_no_progress with_reducible refine Keeps.of_mk rfl rfl rfl rfl rfl rfl ?_) | with_reducible refine Keeps.of_free rfl rfl rfl rfl rfl (Nat.le_add_right _ _) ?_ | with_reducible refine Keeps.of_filter rfl rfl rfl rfl rfl rfl ?_ | split

theorem State.closeStage0_keeps {s0 s : State} (i : Stage0In) (h : Keeps s0 s) : Keeps s0 (s.closeStage0 i) := by
  unfold State.closeStage0
  split
  · exact State.failStage_keeps _ _ _ h
  · split
    · exact State.failStage_keeps _ _ _ h
    · have h1 : Keeps s0 (s.notePkgFail i.pkgFail0) := State.notePkgFail_keeps _ h
      generalize s.notePkgFail i.pkgFail0 = s1 at h1
      dsimp only
      split
      · exact State.failStage_keeps _ _ _ h1
      · exact State.enterStage1_keeps (State.passStage_keeps _ _ (State.chooseSlot_keeps h1 (by assumption)))

theorem State.runStage0_keeps {s0 : State} {s : State} (x2 : _) (x3 : _) (h : Keeps s0 s) : Keeps s0 (State.runStage0 s x2 x3) := by
  unfold State.runStage0
  try dsimp only
  repeat' first | with_reducible assumption | intro _ | with_reducible (first | apply State.openStage0_keeps | apply State.enterSole_keeps | apply State.closeStage0_keeps | apply State.noteTrial_keeps | apply State.countStart_keeps) | with_reducible apply Keeps.cond | with_reducible apply Keeps.foldl | (fail_if_no_progress with_reducible refine Keeps.of_mk rfl rfl rfl rfl rfl rfl ?_) | with_reducible refine Keeps.of_free rfl rfl rfl rfl rfl (Nat.le_add_right _ _) ?_ | with_reducible refine Keeps.of_filter rfl rfl rfl rfl rfl rfl ?_ | split

theorem State.stage0_keeps {s0 : State} {s : State} (x2 : _) (x3 : _) (h : Keeps s0 s) : Keeps s0 (State.stage0 s x2 x3) := by
  unfold State.stage0
  try dsimp only
  repeat' first | with_reducible assumption | intro _ | with_reducible (first | apply State.recordFatal_keeps | apply State.runStage0_keeps) | with_reducible apply Keeps.cond | with_reducible apply Keeps.foldl | (fail_if_no_progress with_reducible refine Keeps.of_mk rfl rfl rfl rfl rfl rfl ?_) | with_reducible refine Keeps.of_free rfl rfl rfl rfl rfl (Nat.le_add_right _ _) ?_ | with_reducible refine Keeps.of_filter rfl rfl rfl rfl rfl rfl ?_ | split

theorem State.coldStart_keeps {s0 : State} {s : State} (x2 : _) (h : Keeps s0 s) : Keeps s0 (State.coldStart s x2) := by
  unfold State.coldStart
  try dsimp only
  repeat' first | with_reducible assumption | intro _ | with_reducible (first | apply State.stage0_keeps) | with_reducible apply Keeps.cond | with_reducible apply Keeps.foldl | (fail_if_no_progress with_reducible refine Keeps.of_mk rfl rfl rfl rfl rfl rfl ?_) | with_reducible refine Keeps.of_free rfl rfl rfl rfl rfl (Nat.le_add_right _ _) ?_ | with_reducible refine Keeps.of_filter rfl rfl rfl rfl rfl rfl ?_ | split

theorem State.releaseStart_keeps {s0 : State} {s : State} (x2 : _) (h : Keeps s0 s) : Keeps s0 (State.releaseStart s x2) := by
  unfold State.releaseStart
  try dsimp only
  repeat' first | with_reducible assumption | intro _ | with_reducible (first | apply State.coldStart_keeps | apply State.sampleStraps_keeps) | with_reducible apply Keeps.cond | with_reducible apply Keeps.foldl | (fail_if_no_progress with_reducible refine Keeps.of_mk rfl rfl rfl rfl rfl rfl ?_) | with_reducible refine Keeps.of_free rfl rfl rfl rfl rfl (Nat.le_add_right _ _) ?_ | with_reducible refine Keeps.of_filter rfl rfl rfl rfl rfl rfl ?_ | split

theorem State.finishStage1_keeps {s0 : State} {s : State} (x2 : _) (h : Keeps s0 s) : Keeps s0 (State.finishStage1 s x2) := by
  unfold State.finishStage1
  try dsimp only
  repeat' first | with_reducible assumption | intro _ | with_reducible (first | apply State.failStage_keeps | apply State.standbyJoins_keeps | apply State.passStage_keeps) | with_reducible apply Keeps.cond | with_reducible apply Keeps.foldl | (fail_if_no_progress with_reducible refine Keeps.of_mk rfl rfl rfl rfl rfl rfl ?_) | with_reducible refine Keeps.of_free rfl rfl rfl rfl rfl (Nat.le_add_right _ _) ?_ | with_reducible refine Keeps.of_filter rfl rfl rfl rfl rfl rfl ?_ | split

theorem State.repairRow_keeps {s0 s t : State} (x2 : _) (h : Keeps s0 s) (e : State.repairRow s x2 = some t) : Keeps s0 t := by
  unfold State.repairRow at e
  try dsimp only at e
  repeat' first | cases e | split at e
  all_goals repeat' first | with_reducible assumption | with_reducible apply Keeps.cond | with_reducible apply Keeps.foldl | (fail_if_no_progress with_reducible refine Keeps.of_mk rfl rfl rfl rfl rfl rfl ?_) | with_reducible refine Keeps.of_free rfl rfl rfl rfl rfl (Nat.le_add_right _ _) ?_ | with_reducible refine Keeps.of_filter rfl rfl rfl rfl rfl rfl ?_ | (with_reducible first | exact id | exact Mem.wf_clear _ _ | exact Mem.wf_filter _ | exact regsWf_filter _ | exact fun k => Mem.wf_setBytes _ _ (Mem.wf_clear _ _ k) | exact fun k => Mem.wf_foldl _ (Mem.wf_clear _ _ k) | exact fun _ => Keeps.reset_mem | exact fun _ => Keeps.reset_regs | exact fun _ => Keeps.nil_mem) | with_reducible refine Keeps.of_data rfl rfl ?_ ?_ rfl rfl ?_ | refine Keeps.of_data rfl rfl ?_ ?_ (by simp only [Fuses.fixed]) rfl ?_ | intro _ | split

theorem State.repairRows_keeps {s0 s t : State} (l : List Nat) (h : Keeps s0 s) (e : s.repairRows l = .inr t) : Keeps s0 t := by
  induction l generalizing s with
  | nil => cases e; exact h
  | cons r l ih =>
    unfold State.repairRows at e
    split at e
    · cases e
    · exact ih (State.repairRow_keeps _ h (by assumption)) e

theorem State.fillResident_keeps {s0 s : State} (d : Nat) (h : Keeps s0 s) : Keeps s0 (s.fillResident d) := by
  refine (State.zeroRange_keeps (residentAddr d) residentLen h).trans ⟨rfl, List.prefix_refl _, ?_, rfl, Nat.le_refl _⟩
  simp only [State.canonical, State.fillResident, Bool.and_eq_true]
  exact fun k => ⟨Mem.wf_setBytes _ _ k.1, k.2⟩

theorem State.clearRecords_keeps {s0 : State} {s : State} (x2 : _) (h : Keeps s0 s) : Keeps s0 (State.clearRecords s x2) := by
  unfold State.clearRecords
  try dsimp only
  repeat' first | with_reducible assumption | intro _ | with_reducible (first | apply State.zeroRange_keeps) | with_reducible apply Keeps.cond | with_reducible apply Keeps.foldl | (fail_if_no_progress with_reducible refine Keeps.of_mk rfl rfl rfl rfl rfl rfl ?_) | with_reducible refine Keeps.of_free rfl rfl rfl rfl rfl (Nat.le_add_right _ _) ?_ | with_reducible refine Keeps.of_filter rfl rfl rfl rfl rfl rfl ?_ | split

theorem State.finishStage2_keeps {s0 : State} {s : State} (x2 : _) (h : Keeps s0 s) : Keeps s0 (State.finishStage2 s x2) := by
  unfold State.finishStage2
  try dsimp only
  repeat' first | with_reducible assumption | with_reducible (first | apply State.clearRecords_keeps | apply State.flushOwn_keeps | apply State.journalReset_keeps | apply State.fillResident_keeps) | with_reducible apply Keeps.cond | with_reducible apply Keeps.foldl | (fail_if_no_progress with_reducible refine Keeps.of_mk rfl rfl rfl rfl rfl rfl ?_) | with_reducible refine Keeps.of_free rfl rfl rfl rfl rfl (Nat.le_add_right _ _) ?_ | with_reducible refine Keeps.of_filter rfl rfl rfl rfl rfl rfl ?_ | (with_reducible first | exact id | exact Mem.wf_clear _ _ | exact Mem.wf_filter _ | exact regsWf_filter _ | exact fun k => Mem.wf_setBytes _ _ (Mem.wf_clear _ _ k) | exact fun k => Mem.wf_foldl _ (Mem.wf_clear _ _ k) | exact fun _ => Keeps.reset_mem | exact fun _ => Keeps.reset_regs | exact fun _ => Keeps.nil_mem) | with_reducible refine Keeps.of_data rfl rfl ?_ ?_ rfl rfl ?_ | refine Keeps.of_data rfl rfl ?_ ?_ (by simp only [Fuses.fixed]) rfl ?_ | intro _ | split

theorem State.repairLanes_keeps {s0 : State} {s : State} (x2 : _) (h : Keeps s0 s) : Keeps s0 (State.repairLanes s x2) := by
  unfold State.repairLanes
  try dsimp only
  repeat' first | with_reducible assumption | intro _ | with_reducible apply Keeps.cond | with_reducible apply Keeps.foldl | (fail_if_no_progress with_reducible refine Keeps.of_mk rfl rfl rfl rfl rfl rfl ?_) | with_reducible refine Keeps.of_free rfl rfl rfl rfl rfl (Nat.le_add_right _ _) ?_ | with_reducible refine Keeps.of_filter rfl rfl rfl rfl rfl rfl ?_ | split

theorem State.loadBaseline_keeps {s0 : State} {s : State} (x2 : _) (h : Keeps s0 s) : Keeps s0 (State.loadBaseline s x2) := by
  unfold State.loadBaseline
  try dsimp only
  repeat' first | with_reducible assumption | intro _ | with_reducible (first | apply State.record_keeps) | with_reducible apply Keeps.cond | with_reducible apply Keeps.foldl | (fail_if_no_progress with_reducible refine Keeps.of_mk rfl rfl rfl rfl rfl rfl ?_) | with_reducible refine Keeps.of_free rfl rfl rfl rfl rfl (Nat.le_add_right _ _) ?_ | with_reducible refine Keeps.of_filter rfl rfl rfl rfl rfl rfl ?_ | split

theorem State.enterStage3_keeps {s0 : State} {s : State} (h : Keeps s0 s) : Keeps s0 (State.enterStage3 s) := by
  unfold State.enterStage3
  try dsimp only
  repeat' first | with_reducible assumption | intro _ | with_reducible (first | apply State.beginStage_keeps | apply State.setBridge_keeps | apply State.loadBaseline_keeps | apply State.failStart_keeps | apply State.beginEnable_keeps) | with_reducible apply Keeps.cond | with_reducible apply Keeps.foldl | (fail_if_no_progress with_reducible refine Keeps.of_mk rfl rfl rfl rfl rfl rfl ?_) | with_reducible refine Keeps.of_free rfl rfl rfl rfl rfl (Nat.le_add_right _ _) ?_ | with_reducible refine Keeps.of_filter rfl rfl rfl rfl rfl rfl ?_ | split

theorem State.doStage3_keeps {s0 : State} {s : State} (h : Keeps s0 s) : Keeps s0 (State.doStage3 s) := by
  unfold State.doStage3
  try dsimp only
  repeat' first | with_reducible assumption | intro _ | with_reducible (first | apply State.beginStage_keeps | apply State.passStage_keeps) | with_reducible apply Keeps.cond | with_reducible apply Keeps.foldl | (fail_if_no_progress with_reducible refine Keeps.of_mk rfl rfl rfl rfl rfl rfl ?_) | with_reducible refine Keeps.of_free rfl rfl rfl rfl rfl (Nat.le_add_right _ _) ?_ | with_reducible refine Keeps.of_filter rfl rfl rfl rfl rfl rfl ?_ | split

theorem State.doStage2_keeps {s0 : State} {s : State} (x2 : _) (h : Keeps s0 s) : Keeps s0 (State.doStage2 s x2) := by
  unfold State.doStage2
  try dsimp only
  repeat' first | with_reducible assumption | intro _ | with_reducible (first | apply State.failStage_keeps | apply State.repairLanes_keeps | refine State.repairRows_keeps _ ?_ (by with_reducible assumption) | apply State.enterStage3_keeps | apply State.passStage_keeps | apply State.finishStage2_keeps) | with_reducible apply Keeps.cond | with_reducible apply Keeps.foldl | (fail_if_no_progress with_reducible refine Keeps.of_mk rfl rfl rfl rfl rfl rfl ?_) | with_reducible refine Keeps.of_free rfl rfl rfl rfl rfl (Nat.le_add_right _ _) ?_ | with_reducible refine Keeps.of_filter rfl rfl rfl rfl rfl rfl ?_ | split

theorem State.doStage1_keeps {s0 : State} {s : State} (x2 : _) (h : Keeps s0 s) : Keeps s0 (State.doStage1 s x2) := by
  unfold State.doStage1
  try dsimp only
  repeat' first | with_reducible assumption | intro _ | with_reducible (first | apply State.failStage_keeps | apply State.recordFatal_keeps | apply State.failStart_keeps | apply State.finishStage1_keeps | apply State.beginStage_keeps) | with_reducible apply Keeps.cond | with_reducible apply Keeps.foldl | (fail_if_no_progress with_reducible refine Keeps.of_mk rfl rfl rfl rfl rfl rfl ?_) | with_reducible refine Keeps.of_free rfl rfl rfl rfl rfl (Nat.le_add_right _ _) ?_ | with_reducible refine Keeps.of_filter rfl rfl rfl rfl rfl rfl ?_ | split

theorem State.mapRows_keeps {s0 s t u : State} (i : Stage4In) (l : List Nat) (h : Keeps s0 t) (e : s.mapRows i l t = some u) : Keeps s0 u := by
  induction l generalizing t with
  | nil => cases e; exact h
  | cons n l ih =>
    unfold State.mapRows at e
    split at e
    · cases e
    · refine ih ?_ e
      repeat' first | with_reducible assumption | with_reducible apply State.record_keeps | with_reducible apply Keeps.cond | intro _ | with_reducible refine Keeps.of_mk rfl rfl rfl rfl rfl rfl ?_

theorem State.stage4Rows_keeps {s0 s t : State} (i : Stage4In) (c : Bool) (h : Keeps s0 s) (e : s.stage4Rows i c = some t) : Keeps s0 t := by
  unfold State.stage4Rows at e
  split at e
  · exact State.mapRows_keeps i _ h e
  · cases e; exact h

theorem State.finishStage4_keeps {s0 : State} {s : State} (h : Keeps s0 s) : Keeps s0 (State.finishStage4 s) := by
  unfold State.finishStage4
  try dsimp only
  repeat' first | with_reducible assumption | intro _ | with_reducible apply Keeps.cond | with_reducible apply Keeps.foldl | (fail_if_no_progress with_reducible refine Keeps.of_mk rfl rfl rfl rfl rfl rfl ?_) | with_reducible refine Keeps.of_free rfl rfl rfl rfl rfl (Nat.le_add_right _ _) ?_ | with_reducible refine Keeps.of_filter rfl rfl rfl rfl rfl rfl ?_ | split

theorem State.doStage4_keeps {s0 : State} {s : State} (x2 : _) (h : Keeps s0 s) : Keeps s0 (State.doStage4 s x2) := by
  unfold State.doStage4
  try dsimp only
  repeat' first | with_reducible assumption | intro _ | with_reducible (first | refine State.stage4Rows_keeps _ _ ?_ (by with_reducible assumption) | apply State.failStage_keeps | apply State.finishStage4_keeps | apply State.passStage_keeps) | with_reducible apply Keeps.cond | with_reducible apply Keeps.foldl | (fail_if_no_progress with_reducible refine Keeps.of_mk rfl rfl rfl rfl rfl rfl ?_) | with_reducible refine Keeps.of_free rfl rfl rfl rfl rfl (Nat.le_add_right _ _) ?_ | with_reducible refine Keeps.of_filter rfl rfl rfl rfl rfl rfl ?_ | split

theorem State.resumeErase_keeps {s0 : State} {s : State} (h : Keeps s0 s) : Keeps s0 (State.resumeErase s) := by
  unfold State.resumeErase
  try dsimp only
  repeat' first | with_reducible assumption | intro _ | with_reducible (first | apply State.setUpd_keeps | apply State.record_keeps | apply State.takeFlash_keeps | apply State.storeBoot_keeps) | with_reducible apply Keeps.cond | with_reducible apply Keeps.foldl | (fail_if_no_progress with_reducible refine Keeps.of_mk rfl rfl rfl rfl rfl rfl ?_) | with_reducible refine Keeps.of_free rfl rfl rfl rfl rfl (Nat.le_add_right _ _) ?_ | with_reducible refine Keeps.of_filter rfl rfl rfl rfl rfl rfl ?_ | split

theorem State.doStartPassed_keeps {s0 : State} {s : State} (h : Keeps s0 s) : Keeps s0 (State.doStartPassed s) := by
  unfold State.doStartPassed
  try dsimp only
  repeat' first | with_reducible assumption | intro _ | with_reducible (first | apply State.resumeErase_keeps | apply State.setTiming_keeps | apply State.storeBoot_keeps) | with_reducible apply Keeps.cond | with_reducible apply Keeps.foldl | (fail_if_no_progress with_reducible refine Keeps.of_mk rfl rfl rfl rfl rfl rfl ?_) | with_reducible refine Keeps.of_free rfl rfl rfl rfl rfl (Nat.le_add_right _ _) ?_ | with_reducible refine Keeps.of_filter rfl rfl rfl rfl rfl rfl ?_ | split

theorem State.doStageWatchdog_keeps {s0 : State} {s : State} (h : Keeps s0 s) : Keeps s0 (State.doStageWatchdog s) := by
  unfold State.doStageWatchdog
  try dsimp only
  repeat' first | with_reducible assumption | intro _ | with_reducible (first | apply State.failStage_keeps) | with_reducible apply Keeps.cond | with_reducible apply Keeps.foldl | (fail_if_no_progress with_reducible refine Keeps.of_mk rfl rfl rfl rfl rfl rfl ?_) | with_reducible refine Keeps.of_free rfl rfl rfl rfl rfl (Nat.le_add_right _ _) ?_ | with_reducible refine Keeps.of_filter rfl rfl rfl rfl rfl rfl ?_ | split

theorem State.doRetryStart_keeps {s0 : State} {s : State} (x2 : _) (h : Keeps s0 s) : Keeps s0 (State.doRetryStart s x2) := by
  unfold State.doRetryStart
  try dsimp only
  repeat' first | with_reducible assumption | intro _ | with_reducible (first | apply State.coldStart_keeps) | with_reducible apply Keeps.cond | with_reducible apply Keeps.foldl | (fail_if_no_progress with_reducible refine Keeps.of_mk rfl rfl rfl rfl rfl rfl ?_) | with_reducible refine Keeps.of_free rfl rfl rfl rfl rfl (Nat.le_add_right _ _) ?_ | with_reducible refine Keeps.of_filter rfl rfl rfl rfl rfl rfl ?_ | split

theorem State.doJoinTimeout_keeps {s0 : State} {s : State} (h : Keeps s0 s) : Keeps s0 (State.doJoinTimeout s) := by
  unfold State.doJoinTimeout
  try dsimp only
  repeat' first | with_reducible assumption | intro _ | with_reducible (first | apply State.record_keeps) | with_reducible apply Keeps.cond | with_reducible apply Keeps.foldl | (fail_if_no_progress with_reducible refine Keeps.of_mk rfl rfl rfl rfl rfl rfl ?_) | with_reducible refine Keeps.of_free rfl rfl rfl rfl rfl (Nat.le_add_right _ _) ?_ | with_reducible refine Keeps.of_filter rfl rfl rfl rfl rfl rfl ?_ | split

theorem State.clearFails_keeps {s0 : State} {s : State} (h : Keeps s0 s) : Keeps s0 (State.clearFails s) := by
  unfold State.clearFails
  try dsimp only
  repeat' first | with_reducible assumption | intro _ | with_reducible (first | apply State.storeBoot_keeps) | with_reducible apply Keeps.cond | with_reducible apply Keeps.foldl | (fail_if_no_progress with_reducible refine Keeps.of_mk rfl rfl rfl rfl rfl rfl ?_) | with_reducible refine Keeps.of_free rfl rfl rfl rfl rfl (Nat.le_add_right _ _) ?_ | with_reducible refine Keeps.of_filter rfl rfl rfl rfl rfl rfl ?_ | split

theorem State.doRetry_keeps {s0 : State} {s : State} (x2 : _) (h : Keeps s0 s) : Keeps s0 (State.doRetry s x2) := by
  unfold State.doRetry
  try dsimp only
  repeat' first | with_reducible assumption | intro _ | with_reducible (first | apply State.coldStart_keeps | apply State.clearFails_keeps) | with_reducible apply Keeps.cond | with_reducible apply Keeps.foldl | (fail_if_no_progress with_reducible refine Keeps.of_mk rfl rfl rfl rfl rfl rfl ?_) | with_reducible refine Keeps.of_free rfl rfl rfl rfl rfl (Nat.le_add_right _ _) ?_ | with_reducible refine Keeps.of_filter rfl rfl rfl rfl rfl rfl ?_ | split

theorem State.doPermitTimeout_keeps {s0 : State} {s : State} (h : Keeps s0 s) : Keeps s0 (State.doPermitTimeout s) := by
  unfold State.doPermitTimeout
  try dsimp only
  repeat' first | with_reducible assumption | intro _ | with_reducible (first | apply State.failStage_keeps) | with_reducible apply Keeps.cond | with_reducible apply Keeps.foldl | (fail_if_no_progress with_reducible refine Keeps.of_mk rfl rfl rfl rfl rfl rfl ?_) | with_reducible refine Keeps.of_free rfl rfl rfl rfl rfl (Nat.le_add_right _ _) ?_ | with_reducible refine Keeps.of_filter rfl rfl rfl rfl rfl rfl ?_ | split

theorem State.keepTraining_keeps {s0 : State} {s : State} (x2 : _) (h : Keeps s0 s) : Keeps s0 (State.keepTraining s x2) := by
  unfold State.keepTraining
  try dsimp only
  repeat' first | with_reducible assumption | intro _ | with_reducible apply Keeps.cond | with_reducible apply Keeps.foldl | (fail_if_no_progress with_reducible refine Keeps.of_mk rfl rfl rfl rfl rfl rfl ?_) | with_reducible refine Keeps.of_free rfl rfl rfl rfl rfl (Nat.le_add_right _ _) ?_ | with_reducible refine Keeps.of_filter rfl rfl rfl rfl rfl rfl ?_ | split

theorem State.meshTrained_keeps {s0 : State} {s : State} (x2 : _) (h : Keeps s0 s) : Keeps s0 (State.meshTrained s x2) := by
  unfold State.meshTrained
  try dsimp only
  repeat' first | with_reducible assumption | intro _ | with_reducible (first | apply State.setBridge_keeps | apply State.keepTraining_keeps) | with_reducible apply Keeps.cond | with_reducible apply Keeps.foldl | (fail_if_no_progress with_reducible refine Keeps.of_mk rfl rfl rfl rfl rfl rfl ?_) | with_reducible refine Keeps.of_free rfl rfl rfl rfl rfl (Nat.le_add_right _ _) ?_ | with_reducible refine Keeps.of_filter rfl rfl rfl rfl rfl rfl ?_ | split

theorem State.meshFailed_keeps {s0 : State} {s : State} (x2 : _) (x3 : _) (h : Keeps s0 s) : Keeps s0 (State.meshFailed s x2 x3) := by
  unfold State.meshFailed
  try dsimp only
  repeat' first | with_reducible assumption | intro _ | with_reducible (first | apply State.setBridge_keeps | apply State.record_keeps) | with_reducible apply Keeps.cond | with_reducible apply Keeps.foldl | (fail_if_no_progress with_reducible refine Keeps.of_mk rfl rfl rfl rfl rfl rfl ?_) | with_reducible refine Keeps.of_free rfl rfl rfl rfl rfl (Nat.le_add_right _ _) ?_ | with_reducible refine Keeps.of_filter rfl rfl rfl rfl rfl rfl ?_ | split

theorem State.sendInit_keeps {s0 : State} {s : State} (x2 : _) (x3 : _) (h : Keeps s0 s) : Keeps s0 (State.sendInit s x2 x3) := by
  unfold State.sendInit
  try dsimp only
  repeat' first | with_reducible assumption | intro _ | with_reducible (first | apply State.emit_keeps) | with_reducible apply Keeps.cond | with_reducible apply Keeps.foldl | (fail_if_no_progress with_reducible refine Keeps.of_mk rfl rfl rfl rfl rfl rfl ?_) | with_reducible refine Keeps.of_free rfl rfl rfl rfl rfl (Nat.le_add_right _ _) ?_ | with_reducible refine Keeps.of_filter rfl rfl rfl rfl rfl rfl ?_ | split

theorem State.beginInit_keeps {s0 : State} {s : State} (x2 : _) (h : Keeps s0 s) : Keeps s0 (State.beginInit s x2) := by
  unfold State.beginInit
  try dsimp only
  repeat' first | with_reducible assumption | intro _ | with_reducible (first | apply State.sendInit_keeps) | with_reducible apply Keeps.cond | with_reducible apply Keeps.foldl | (fail_if_no_progress with_reducible refine Keeps.of_mk rfl rfl rfl rfl rfl rfl ?_) | with_reducible refine Keeps.of_free rfl rfl rfl rfl rfl (Nat.le_add_right _ _) ?_ | with_reducible refine Keeps.of_filter rfl rfl rfl rfl rfl rfl ?_ | split

theorem State.doBridge_keeps {s0 : State} {s : State} (x2 : _) (x3 : _) (h : Keeps s0 s) : Keeps s0 (State.doBridge s x2 x3) := by
  unfold State.doBridge
  try dsimp only
  repeat' first | with_reducible assumption | intro _ | with_reducible (first | apply State.meshTrained_keeps | apply State.failStage_keeps | apply State.beginInit_keeps | apply State.meshFailed_keeps) | with_reducible apply Keeps.cond | with_reducible apply Keeps.foldl | (fail_if_no_progress with_reducible refine Keeps.of_mk rfl rfl rfl rfl rfl rfl ?_) | with_reducible refine Keeps.of_free rfl rfl rfl rfl rfl (Nat.le_add_right _ _) ?_ | with_reducible refine Keeps.of_filter rfl rfl rfl rfl rfl rfl ?_ | split

theorem State.doTraining_keeps {s0 : State} {s : State} (x2 : _) (x3 : _) (x4 : _) (h : Keeps s0 s) : Keeps s0 (State.doTraining s x2 x3 x4) := by
  unfold State.doTraining
  try dsimp only
  repeat' first | with_reducible assumption | intro _ | with_reducible (first | apply State.chanTrained_keeps | apply State.doBridge_keeps) | with_reducible apply Keeps.cond | with_reducible apply Keeps.foldl | (fail_if_no_progress with_reducible refine Keeps.of_mk rfl rfl rfl rfl rfl rfl ?_) | with_reducible refine Keeps.of_free rfl rfl rfl rfl rfl (Nat.le_add_right _ _) ?_ | with_reducible refine Keeps.of_filter rfl rfl rfl rfl rfl rfl ?_ | split

theorem State.doInitAck_keeps {s0 : State} {s : State} (x2 : _) (x3 : _) (x4 : _) (h : Keeps s0 s) : Keeps s0 (State.doInitAck s x2 x3 x4) := by
  unfold State.doInitAck
  try dsimp only
  repeat' first | with_reducible assumption | intro _ | with_reducible (first | apply State.setBridge_keeps | apply State.keepTraining_keeps | apply State.chanStart_keeps) | with_reducible apply Keeps.cond | with_reducible apply Keeps.foldl | (fail_if_no_progress with_reducible refine Keeps.of_mk rfl rfl rfl rfl rfl rfl ?_) | with_reducible refine Keeps.of_free rfl rfl rfl rfl rfl (Nat.le_add_right _ _) ?_ | with_reducible refine Keeps.of_filter rfl rfl rfl rfl rfl rfl ?_ | split

theorem State.doInitTimeout_keeps {s0 : State} {s : State} (x2 : _) (h : Keeps s0 s) : Keeps s0 (State.doInitTimeout s x2) := by
  unfold State.doInitTimeout
  try dsimp only
  repeat' first | with_reducible assumption | intro _ | with_reducible (first | apply State.sendInit_keeps | apply State.failStage_keeps) | with_reducible apply Keeps.cond | with_reducible apply Keeps.foldl | (fail_if_no_progress with_reducible refine Keeps.of_mk rfl rfl rfl rfl rfl rfl ?_) | with_reducible refine Keeps.of_free rfl rfl rfl rfl rfl (Nat.le_add_right _ _) ?_ | with_reducible refine Keeps.of_filter rfl rfl rfl rfl rfl rfl ?_ | split

theorem State.testStart_keeps {s0 : State} {s : State} (x2 : _) (h : Keeps s0 s) : Keeps s0 (State.testStart s x2) := by
  unfold State.testStart
  try dsimp only
  repeat' first | with_reducible assumption | intro _ | with_reducible (first | apply State.setWord_keeps) | with_reducible apply Keeps.cond | with_reducible apply Keeps.foldl | (fail_if_no_progress with_reducible refine Keeps.of_mk rfl rfl rfl rfl rfl rfl ?_) | with_reducible refine Keeps.of_free rfl rfl rfl rfl rfl (Nat.le_add_right _ _) ?_ | with_reducible refine Keeps.of_filter rfl rfl rfl rfl rfl rfl ?_ | split

theorem State.addCount_keeps {s0 : State} {s : State} (x2 : _) (x3 : _) (x4 : _) (x5 : _) (x6 : _) (h : Keeps s0 s) : Keeps s0 (State.addCount s x2 x3 x4 x5 x6) := by
  unfold State.addCount
  try dsimp only
  repeat' first | with_reducible assumption | intro _ | with_reducible (first | apply State.setWord_keeps) | with_reducible apply Keeps.cond | with_reducible apply Keeps.foldl | (fail_if_no_progress with_reducible refine Keeps.of_mk rfl rfl rfl rfl rfl rfl ?_) | with_reducible refine Keeps.of_free rfl rfl rfl rfl rfl (Nat.le_add_right _ _) ?_ | with_reducible refine Keeps.of_filter rfl rfl rfl rfl rfl rfl ?_ | split

theorem State.testStop_keeps {s0 : State} {s : State} (x2 : _) (x3 : _) (h : Keeps s0 s) : Keeps s0 (State.testStop s x2 x3) := by
  unfold State.testStop
  try dsimp only
  repeat' first | with_reducible assumption | intro _ | with_reducible (first | apply State.addCount_keeps | apply State.setWord_keeps | apply State.record_keeps) | with_reducible apply Keeps.cond | with_reducible apply Keeps.foldl | (fail_if_no_progress with_reducible refine Keeps.of_mk rfl rfl rfl rfl rfl rfl ?_) | with_reducible refine Keeps.of_free rfl rfl rfl rfl rfl (Nat.le_add_right _ _) ?_ | with_reducible refine Keeps.of_filter rfl rfl rfl rfl rfl rfl ?_ | split

theorem State.testHalt_keeps {s0 : State} {s : State} (x2 : _) (h : Keeps s0 s) : Keeps s0 (State.testHalt s x2) := by
  unfold State.testHalt
  try dsimp only
  repeat' first | with_reducible assumption | intro _ | with_reducible (first | apply State.setWord_keeps) | with_reducible apply Keeps.cond | with_reducible apply Keeps.foldl | (fail_if_no_progress with_reducible refine Keeps.of_mk rfl rfl rfl rfl rfl rfl ?_) | with_reducible refine Keeps.of_free rfl rfl rfl rfl rfl (Nat.le_add_right _ _) ?_ | with_reducible refine Keeps.of_filter rfl rfl rfl rfl rfl rfl ?_ | split

theorem State.testMode_keeps {s0 : State} {s : State} (x2 : _) (x3 : _) (h : Keeps s0 s) : Keeps s0 (State.testMode s x2 x3) := by
  unfold State.testMode
  try dsimp only
  repeat' first | with_reducible assumption | intro _ | with_reducible (first | apply State.setWord_keeps) | with_reducible apply Keeps.cond | with_reducible apply Keeps.foldl | (fail_if_no_progress with_reducible refine Keeps.of_mk rfl rfl rfl rfl rfl rfl ?_) | with_reducible refine Keeps.of_free rfl rfl rfl rfl rfl (Nat.le_add_right _ _) ?_ | with_reducible refine Keeps.of_filter rfl rfl rfl rfl rfl rfl ?_ | split

theorem State.doAwlTest_keeps {s0 : State} {s : State} (x2 : _) (x3 : _) (h : Keeps s0 s) : Keeps s0 (State.doAwlTest s x2 x3) := by
  unfold State.doAwlTest
  try dsimp only
  repeat' first | with_reducible assumption | intro _ | with_reducible (first | apply State.emit_keeps | apply State.testMode_keeps) | with_reducible apply Keeps.cond | with_reducible apply Keeps.foldl | (fail_if_no_progress with_reducible refine Keeps.of_mk rfl rfl rfl rfl rfl rfl ?_) | with_reducible refine Keeps.of_free rfl rfl rfl rfl rfl (Nat.le_add_right _ _) ?_ | with_reducible refine Keeps.of_filter rfl rfl rfl rfl rfl rfl ?_ | split

theorem State.doColdReset_keeps {s0 : State} {s : State} (h : Keeps s0 s) : Keeps s0 (State.doColdReset s) := by
  unfold State.doColdReset
  try dsimp only
  repeat' first | with_reducible assumption | with_reducible (first | apply State.reset_keeps) | with_reducible apply Keeps.cond | with_reducible apply Keeps.foldl | (fail_if_no_progress with_reducible refine Keeps.of_mk rfl rfl rfl rfl rfl rfl ?_) | with_reducible refine Keeps.of_free rfl rfl rfl rfl rfl (Nat.le_add_right _ _) ?_ | with_reducible refine Keeps.of_filter rfl rfl rfl rfl rfl rfl ?_ | (with_reducible first | exact id | exact Mem.wf_clear _ _ | exact Mem.wf_filter _ | exact regsWf_filter _ | exact fun k => Mem.wf_setBytes _ _ (Mem.wf_clear _ _ k) | exact fun k => Mem.wf_foldl _ (Mem.wf_clear _ _ k) | exact fun _ => Keeps.reset_mem | exact fun _ => Keeps.reset_regs | exact fun _ => Keeps.nil_mem) | with_reducible refine Keeps.of_data rfl rfl ?_ ?_ rfl rfl ?_ | refine Keeps.of_data rfl rfl ?_ ?_ (by simp only [Fuses.fixed]) rfl ?_ | intro _ | split

theorem State.doRailLow_keeps {s0 : State} {s : State} (h : Keeps s0 s) : Keeps s0 (State.doRailLow s) := by
  unfold State.doRailLow
  try dsimp only
  repeat' first | with_reducible assumption | intro _ | with_reducible (first | apply State.doColdReset_keeps) | with_reducible apply Keeps.cond | with_reducible apply Keeps.foldl | (fail_if_no_progress with_reducible refine Keeps.of_mk rfl rfl rfl rfl rfl rfl ?_) | with_reducible refine Keeps.of_free rfl rfl rfl rfl rfl (Nat.le_add_right _ _) ?_ | with_reducible refine Keeps.of_filter rfl rfl rfl rfl rfl rfl ?_ | split

theorem State.doResetRelease_keeps {s0 : State} {s : State} (x2 : _) (h : Keeps s0 s) : Keeps s0 (State.doResetRelease s x2) := by
  unfold State.doResetRelease
  try dsimp only
  repeat' first | with_reducible assumption | intro _ | with_reducible (first | apply State.releaseStart_keeps) | with_reducible apply Keeps.cond | with_reducible apply Keeps.foldl | (fail_if_no_progress with_reducible refine Keeps.of_mk rfl rfl rfl rfl rfl rfl ?_) | with_reducible refine Keeps.of_free rfl rfl rfl rfl rfl (Nat.le_add_right _ _) ?_ | with_reducible refine Keeps.of_filter rfl rfl rfl rfl rfl rfl ?_ | split

theorem State.doRailRecovery_keeps {s0 : State} {s : State} (x2 : _) (h : Keeps s0 s) : Keeps s0 (State.doRailRecovery s x2) := by
  unfold State.doRailRecovery
  try dsimp only
  repeat' first | with_reducible assumption | intro _ | with_reducible (first | apply State.releaseStart_keeps) | with_reducible apply Keeps.cond | with_reducible apply Keeps.foldl | (fail_if_no_progress with_reducible refine Keeps.of_mk rfl rfl rfl rfl rfl rfl ?_) | with_reducible refine Keeps.of_free rfl rfl rfl rfl rfl (Nat.le_add_right _ _) ?_ | with_reducible refine Keeps.of_filter rfl rfl rfl rfl rfl rfl ?_ | split

theorem State.requestWarm_keeps {s0 : State} {s : State} (h : Keeps s0 s) : Keeps s0 (State.requestWarm s) := by
  unfold State.requestWarm
  try dsimp only
  repeat' first | with_reducible assumption | intro _ | with_reducible (first | apply State.record_keeps) | with_reducible apply Keeps.cond | with_reducible apply Keeps.foldl | (fail_if_no_progress with_reducible refine Keeps.of_mk rfl rfl rfl rfl rfl rfl ?_) | with_reducible refine Keeps.of_free rfl rfl rfl rfl rfl (Nat.le_add_right _ _) ?_ | with_reducible refine Keeps.of_filter rfl rfl rfl rfl rfl rfl ?_ | split

theorem State.doPkgReset_keeps {s0 : State} {s : State} (x2 : _) (x3 : _) (x4 : _) (h : Keeps s0 s) : Keeps s0 (State.doPkgReset s x2 x3 x4) := by
  unfold State.doPkgReset
  try dsimp only
  repeat' first | with_reducible assumption | intro _ | with_reducible (first | apply State.requestWarm_keeps | apply State.hifDrop_keeps | apply State.record_keeps) | with_reducible apply Keeps.cond | with_reducible apply Keeps.foldl | (fail_if_no_progress with_reducible refine Keeps.of_mk rfl rfl rfl rfl rfl rfl ?_) | with_reducible refine Keeps.of_free rfl rfl rfl rfl rfl (Nat.le_add_right _ _) ?_ | with_reducible refine Keeps.of_filter rfl rfl rfl rfl rfl rfl ?_ | split

theorem State.storeMark_keeps {s0 : State} {s : State} (h : Keeps s0 s) : Keeps s0 (State.storeMark s) := by
  unfold State.storeMark
  try dsimp only
  repeat' first | with_reducible assumption | intro _ | with_reducible (first | apply State.programMark_keeps | apply State.setKey_keeps) | with_reducible apply Keeps.cond | with_reducible apply Keeps.foldl | (fail_if_no_progress with_reducible refine Keeps.of_mk rfl rfl rfl rfl rfl rfl ?_) | with_reducible refine Keeps.of_free rfl rfl rfl rfl rfl (Nat.le_add_right _ _) ?_ | with_reducible refine Keeps.of_filter rfl rfl rfl rfl rfl rfl ?_ | split

theorem State.warmDropped_keeps {s0 : State} {s : State} (h : Keeps s0 s) : Keeps s0 (State.warmDropped s) := by
  unfold State.warmDropped
  try dsimp only
  repeat' first | with_reducible assumption | intro _ | with_reducible (first | apply State.bump_keeps | apply State.coldMsix_keeps | apply State.resetRings_keeps | apply State.storeMark_keeps | apply State.freeCtx_keeps) | with_reducible apply Keeps.cond | with_reducible apply Keeps.foldl | (fail_if_no_progress with_reducible refine Keeps.of_mk rfl rfl rfl rfl rfl rfl ?_) | with_reducible refine Keeps.of_free rfl rfl rfl rfl rfl (Nat.le_add_right _ _) ?_ | with_reducible refine Keeps.of_filter rfl rfl rfl rfl rfl rfl ?_ | split

theorem State.warmKept_keeps {s0 : State} {s : State} {t2 : State} (_h2 : Keeps s0 t2) (h : Keeps s0 s) : Keeps s0 (State.warmKept s t2) := by
  unfold State.warmKept
  try dsimp only
  repeat' first | with_reducible assumption | with_reducible (first | apply State.reset_keeps) | with_reducible apply Keeps.cond | with_reducible apply Keeps.foldl | (fail_if_no_progress with_reducible refine Keeps.of_mk rfl rfl rfl rfl rfl rfl ?_) | with_reducible refine Keeps.of_free rfl rfl rfl rfl rfl (Nat.le_add_right _ _) ?_ | with_reducible refine Keeps.of_filter rfl rfl rfl rfl rfl rfl ?_ | (with_reducible first | exact id | exact Mem.wf_clear _ _ | exact Mem.wf_filter _ | exact regsWf_filter _ | exact fun k => Mem.wf_setBytes _ _ (Mem.wf_clear _ _ k) | exact fun k => Mem.wf_foldl _ (Mem.wf_clear _ _ k) | exact fun _ => Keeps.reset_mem | exact fun _ => Keeps.reset_regs | exact fun _ => Keeps.nil_mem) | with_reducible refine Keeps.of_data rfl rfl ?_ ?_ rfl rfl ?_ | refine Keeps.of_data rfl rfl ?_ ?_ (by simp only [Fuses.fixed]) rfl ?_ | intro _ | split

theorem State.doWarmSequence_keeps {s0 : State} {s : State} (h : Keeps s0 s) : Keeps s0 (State.doWarmSequence s) := by
  unfold State.doWarmSequence
  try dsimp only
  repeat' first | with_reducible assumption | intro _ | with_reducible (first | apply State.warmKept_keeps | apply State.flushOwn_keeps | apply State.warmDropped_keeps) | with_reducible apply Keeps.cond | with_reducible apply Keeps.foldl | (fail_if_no_progress with_reducible refine Keeps.of_mk rfl rfl rfl rfl rfl rfl ?_) | with_reducible refine Keeps.of_free rfl rfl rfl rfl rfl (Nat.le_add_right _ _) ?_ | with_reducible refine Keeps.of_filter rfl rfl rfl rfl rfl rfl ?_ | split

theorem State.doWarmSelfRefresh_keeps {s0 : State} {s : State} (h : Keeps s0 s) : Keeps s0 (State.doWarmSelfRefresh s) := by
  unfold State.doWarmSelfRefresh
  try dsimp only
  repeat' first | with_reducible assumption | intro _ | with_reducible apply Keeps.cond | with_reducible apply Keeps.foldl | (fail_if_no_progress with_reducible refine Keeps.of_mk rfl rfl rfl rfl rfl rfl ?_) | with_reducible refine Keeps.of_free rfl rfl rfl rfl rfl (Nat.le_add_right _ _) ?_ | with_reducible refine Keeps.of_filter rfl rfl rfl rfl rfl rfl ?_ | split

theorem State.doWarmStage0_keeps {s0 : State} {s : State} (x2 : _) (h : Keeps s0 s) : Keeps s0 (State.doWarmStage0 s x2) := by
  unfold State.doWarmStage0
  try dsimp only
  repeat' first | with_reducible assumption | intro _ | with_reducible (first | apply State.stage0_keeps) | with_reducible apply Keeps.cond | with_reducible apply Keeps.foldl | (fail_if_no_progress with_reducible refine Keeps.of_mk rfl rfl rfl rfl rfl rfl ?_) | with_reducible refine Keeps.of_free rfl rfl rfl rfl rfl (Nat.le_add_right _ _) ?_ | with_reducible refine Keeps.of_filter rfl rfl rfl rfl rfl rfl ?_ | split

theorem State.doDarkIdle_keeps {s0 : State} {s : State} (h : Keeps s0 s) : Keeps s0 (State.doDarkIdle s) := by
  unfold State.doDarkIdle
  try dsimp only
  repeat' first | with_reducible assumption | intro _ | with_reducible apply Keeps.cond | with_reducible apply Keeps.foldl | (fail_if_no_progress with_reducible refine Keeps.of_mk rfl rfl rfl rfl rfl rfl ?_) | with_reducible refine Keeps.of_free rfl rfl rfl rfl rfl (Nat.le_add_right _ _) ?_ | with_reducible refine Keeps.of_filter rfl rfl rfl rfl rfl rfl ?_ | split

theorem State.doDarkTiles_keeps {s0 : State} {s : State} (x2 : _) (h : Keeps s0 s) : Keeps s0 (State.doDarkTiles s x2) := by
  unfold State.doDarkTiles
  try dsimp only
  repeat' first | with_reducible assumption | with_reducible (first | apply State.zeroRange_keeps | apply State.record_keeps) | with_reducible apply Keeps.cond | with_reducible apply Keeps.foldl | (fail_if_no_progress with_reducible refine Keeps.of_mk rfl rfl rfl rfl rfl rfl ?_) | with_reducible refine Keeps.of_free rfl rfl rfl rfl rfl (Nat.le_add_right _ _) ?_ | with_reducible refine Keeps.of_filter rfl rfl rfl rfl rfl rfl ?_ | (with_reducible first | exact id | exact Mem.wf_clear _ _ | exact Mem.wf_filter _ | exact regsWf_filter _ | exact fun k => Mem.wf_setBytes _ _ (Mem.wf_clear _ _ k) | exact fun k => Mem.wf_foldl _ (Mem.wf_clear _ _ k) | exact fun _ => Keeps.reset_mem | exact fun _ => Keeps.reset_regs | exact fun _ => Keeps.nil_mem) | with_reducible refine Keeps.of_data rfl rfl ?_ ?_ rfl rfl ?_ | refine Keeps.of_data rfl rfl ?_ ?_ (by simp only [Fuses.fixed]) rfl ?_ | intro _ | split

theorem State.doDarkResume_keeps {s0 : State} {s : State} (h : Keeps s0 s) : Keeps s0 (State.doDarkResume s) := by
  unfold State.doDarkResume
  try dsimp only
  repeat' first | with_reducible assumption | intro _ | with_reducible apply Keeps.cond | with_reducible apply Keeps.foldl | (fail_if_no_progress with_reducible refine Keeps.of_mk rfl rfl rfl rfl rfl rfl ?_) | with_reducible refine Keeps.of_free rfl rfl rfl rfl rfl (Nat.le_add_right _ _) ?_ | with_reducible refine Keeps.of_filter rfl rfl rfl rfl rfl rfl ?_ | split

theorem State.doTemperature_keeps {s0 : State} {s : State} (x2 : _) (x3 : _) (x4 : _) (h : Keeps s0 s) : Keeps s0 (State.doTemperature s x2 x3 x4) := by
  unfold State.doTemperature
  try dsimp only
  repeat' first | with_reducible assumption | intro _ | with_reducible (first | apply State.abortWith_keeps) | with_reducible apply Keeps.cond | with_reducible apply Keeps.foldl | (fail_if_no_progress with_reducible refine Keeps.of_mk rfl rfl rfl rfl rfl rfl ?_) | with_reducible refine Keeps.of_free rfl rfl rfl rfl rfl (Nat.le_add_right _ _) ?_ | with_reducible refine Keeps.of_filter rfl rfl rfl rfl rfl rfl ?_ | split

theorem State.doCrossing_keeps {s0 : State} {s : State} (x2 : _) (h : Keeps s0 s) : Keeps s0 (State.doCrossing s x2) := by
  unfold State.doCrossing
  try dsimp only
  repeat' first | with_reducible assumption | intro _ | with_reducible (first | apply State.abortWith_keeps) | with_reducible apply Keeps.cond | with_reducible apply Keeps.foldl | (fail_if_no_progress with_reducible refine Keeps.of_mk rfl rfl rfl rfl rfl rfl ?_) | with_reducible refine Keeps.of_free rfl rfl rfl rfl rfl (Nat.le_add_right _ _) ?_ | with_reducible refine Keeps.of_filter rfl rfl rfl rfl rfl rfl ?_ | split

theorem State.doLockLoss_keeps {s0 : State} {s : State} (x2 : _) (h : Keeps s0 s) : Keeps s0 (State.doLockLoss s x2) := by
  unfold State.doLockLoss
  try dsimp only
  repeat' first | with_reducible assumption | intro _ | with_reducible (first | apply State.abortWith_keeps) | with_reducible apply Keeps.cond | with_reducible apply Keeps.foldl | (fail_if_no_progress with_reducible refine Keeps.of_mk rfl rfl rfl rfl rfl rfl ?_) | with_reducible refine Keeps.of_free rfl rfl rfl rfl rfl (Nat.le_add_right _ _) ?_ | with_reducible refine Keeps.of_filter rfl rfl rfl rfl rfl rfl ?_ | split

end Sys2Proof.Machine
end

