-- ==== Sys2Proof/Laws/KeepsManage.lean ====
section
/-! SUPPORT. Every operation of the machine keeps what Keeps says: flash, registers, management, debug, validation. -/

set_option linter.unusedTactic false
set_option linter.unreachableTactic false

namespace Sys2Proof.Machine

/-- What a register write in progress keeps. -/
structure WKeeps (s0 : State) (w : Wr) : Prop where
  s : Keeps s0 w.s

theorem WKeeps.cond {s0 : State} {a b : Wr} {c : Prop} [Decidable c] (ha : c → WKeeps s0 a) (hb : ¬c → WKeeps s0 b) : WKeeps s0 (if c then a else b) := by
  split
  · exact ha ‹_›
  · exact hb ‹_›

theorem WKeeps.foldl {α : Type} {s0 : State} {w : Wr} {f : Wr → α → Wr} {l : List α} (hf : ∀ u a, WKeeps s0 u → WKeeps s0 (f u a)) (h : WKeeps s0 w) :
    WKeeps s0 (l.foldl f w) := by
  induction l generalizing w with
  | nil => exact h
  | cons a l ih => exact ih (hf w a h)

theorem WKeeps.of_mk {s0 s : State} {d : Bool} {c : Nat} (h : Keeps s0 s) : WKeeps s0 { s := s, drop := d, code := c } := ⟨h⟩

theorem State.lockRead_keeps {s0 : State} {s : State} (x2 : _) (x3 : _) (h : Keeps s0 s) : Keeps s0 (State.lockRead s x2 x3).1 := by
  unfold State.lockRead
  try dsimp only
  repeat' first | with_reducible assumption | intro _ | with_reducible apply Keeps.fst_cond | with_reducible (first | apply State.setLock_keeps | apply State.record_keeps) | with_reducible apply Keeps.cond | with_reducible apply Keeps.foldl | (fail_if_no_progress with_reducible refine Keeps.of_mk rfl rfl rfl rfl rfl rfl ?_) | with_reducible refine Keeps.of_free rfl rfl rfl rfl rfl (Nat.le_add_right _ _) ?_ | with_reducible refine Keeps.of_filter rfl rfl rfl rfl rfl rfl ?_ | split

theorem State.lockWrite_keeps {s0 : State} {s : State} (x2 : _) (x3 : _) (x4 : _) (h : Keeps s0 s) : Keeps s0 (State.lockWrite s x2 x3 x4) := by
  unfold State.lockWrite
  try dsimp only
  repeat' first | with_reducible assumption | intro _ | with_reducible (first | apply State.setLock_keeps) | with_reducible apply Keeps.cond | with_reducible apply Keeps.foldl | (fail_if_no_progress with_reducible refine Keeps.of_mk rfl rfl rfl rfl rfl rfl ?_) | with_reducible refine Keeps.of_free rfl rfl rfl rfl rfl (Nat.le_add_right _ _) ?_ | with_reducible refine Keeps.of_filter rfl rfl rfl rfl rfl rfl ?_ | split

theorem State.lockForce_keeps {s0 : State} {s : State} (x2 : _) (h : Keeps s0 s) : Keeps s0 (State.lockForce s x2) := by
  unfold State.lockForce
  try dsimp only
  repeat' first | with_reducible assumption | intro _ | with_reducible (first | apply State.record_keeps | apply State.setLock_keeps) | with_reducible apply Keeps.cond | with_reducible apply Keeps.foldl | (fail_if_no_progress with_reducible refine Keeps.of_mk rfl rfl rfl rfl rfl rfl ?_) | with_reducible refine Keeps.of_free rfl rfl rfl rfl rfl (Nat.le_add_right _ _) ?_ | with_reducible refine Keeps.of_filter rfl rfl rfl rfl rfl rfl ?_ | split

theorem State.doLockRead_keeps {s0 : State} {s : State} (x2 : _) (x3 : _) (h : Keeps s0 s) : Keeps s0 (State.doLockRead s x2 x3) := by
  unfold State.doLockRead
  try dsimp only
  repeat' first | with_reducible assumption | intro _ | with_reducible (first | apply State.lockRead_keeps | apply State.emit_keeps) | with_reducible apply Keeps.cond | with_reducible apply Keeps.foldl | (fail_if_no_progress with_reducible refine Keeps.of_mk rfl rfl rfl rfl rfl rfl ?_) | with_reducible refine Keeps.of_free rfl rfl rfl rfl rfl (Nat.le_add_right _ _) ?_ | with_reducible refine Keeps.of_filter rfl rfl rfl rfl rfl rfl ?_ | split

theorem State.doLockWrite_keeps {s0 : State} {s : State} (x2 : _) (x3 : _) (x4 : _) (h : Keeps s0 s) : Keeps s0 (State.doLockWrite s x2 x3 x4) := by
  unfold State.doLockWrite
  try dsimp only
  repeat' first | with_reducible assumption | intro _ | with_reducible (first | apply State.lockWrite_keeps) | with_reducible apply Keeps.cond | with_reducible apply Keeps.foldl | (fail_if_no_progress with_reducible refine Keeps.of_mk rfl rfl rfl rfl rfl rfl ?_) | with_reducible refine Keeps.of_free rfl rfl rfl rfl rfl (Nat.le_add_right _ _) ?_ | with_reducible refine Keeps.of_filter rfl rfl rfl rfl rfl rfl ?_ | split

theorem State.setFslot_keeps {s0 : State} {s : State} (x2 : _) (x3 : _) (h : Keeps s0 s) : Keeps s0 (State.setFslot s x2 x3) := by
  unfold State.setFslot
  try dsimp only
  repeat' first | with_reducible assumption | intro _ | with_reducible apply Keeps.cond | with_reducible apply Keeps.foldl | (fail_if_no_progress with_reducible refine Keeps.of_mk rfl rfl rfl rfl rfl rfl ?_) | with_reducible refine Keeps.of_free rfl rfl rfl rfl rfl (Nat.le_add_right _ _) ?_ | with_reducible refine Keeps.of_filter rfl rfl rfl rfl rfl rfl ?_ | split

theorem State.flashCode_keeps {s0 : State} {s : State} (x2 : _) (h : Keeps s0 s) : Keeps s0 (State.flashCode s x2) := by
  unfold State.flashCode
  try dsimp only
  repeat' first | with_reducible assumption | intro _ | with_reducible apply Keeps.cond | with_reducible apply Keeps.foldl | (fail_if_no_progress with_reducible refine Keeps.of_mk rfl rfl rfl rfl rfl rfl ?_) | with_reducible refine Keeps.of_free rfl rfl rfl rfl rfl (Nat.le_add_right _ _) ?_ | with_reducible refine Keeps.of_filter rfl rfl rfl rfl rfl rfl ?_ | split

theorem State.beginErase_keeps {s0 : State} {s : State} (x2 : _) (x3 : _) (h : Keeps s0 s) : Keeps s0 (State.beginErase s x2 x3) := by
  unfold State.beginErase
  try dsimp only
  repeat' first | with_reducible assumption | intro _ | with_reducible (first | apply State.takeFlash_keeps | apply State.setUpd_keeps | apply State.setFslot_keeps) | with_reducible apply Keeps.cond | with_reducible apply Keeps.foldl | (fail_if_no_progress with_reducible refine Keeps.of_mk rfl rfl rfl rfl rfl rfl ?_) | with_reducible refine Keeps.of_free rfl rfl rfl rfl rfl (Nat.le_add_right _ _) ?_ | with_reducible refine Keeps.of_filter rfl rfl rfl rfl rfl rfl ?_ | split

theorem State.flashBegin_keeps {s0 : State} {s : State} (x2 : _) (x3 : _) (h : Keeps s0 s) : Keeps s0 (State.flashBegin s x2 x3).1 := by
  unfold State.flashBegin
  try dsimp only
  repeat' first | with_reducible assumption | intro _ | with_reducible apply Keeps.fst_cond | with_reducible (first | apply State.flashCode_keeps | apply State.refuseEngine_keeps | apply State.record_keeps | apply State.beginErase_keeps) | with_reducible apply Keeps.cond | with_reducible apply Keeps.foldl | (fail_if_no_progress with_reducible refine Keeps.of_mk rfl rfl rfl rfl rfl rfl ?_) | with_reducible refine Keeps.of_free rfl rfl rfl rfl rfl (Nat.le_add_right _ _) ?_ | with_reducible refine Keeps.of_filter rfl rfl rfl rfl rfl rfl ?_ | split

theorem State.flashWrite_keeps {s0 : State} {s : State} (x2 : _) (x3 : _) (x4 : _) (h : Keeps s0 s) : Keeps s0 (State.flashWrite s x2 x3 x4).1 := by
  unfold State.flashWrite
  try dsimp only
  repeat' first | with_reducible assumption | intro _ | with_reducible apply Keeps.fst_cond | with_reducible (first | apply State.refuseEngine_keeps | apply State.record_keeps | apply State.flashCode_keeps | apply State.setFslot_keeps) | with_reducible apply Keeps.cond | with_reducible apply Keeps.foldl | (fail_if_no_progress with_reducible refine Keeps.of_mk rfl rfl rfl rfl rfl rfl ?_) | with_reducible refine Keeps.of_free rfl rfl rfl rfl rfl (Nat.le_add_right _ _) ?_ | with_reducible refine Keeps.of_filter rfl rfl rfl rfl rfl rfl ?_ | split

theorem State.flashEnd_keeps {s0 : State} {s : State} (x2 : _) (x3 : _) (h : Keeps s0 s) : Keeps s0 (State.flashEnd s x2 x3).1 := by
  unfold State.flashEnd
  try dsimp only
  repeat' first | with_reducible assumption | intro _ | with_reducible apply Keeps.fst_cond | with_reducible (first | apply State.refuseEngine_keeps | apply State.record_keeps | apply State.flashCode_keeps | apply State.setUpd_keeps | apply State.setFslot_keeps | apply State.freeFlash_keeps) | with_reducible apply Keeps.cond | with_reducible apply Keeps.foldl | (fail_if_no_progress with_reducible refine Keeps.of_mk rfl rfl rfl rfl rfl rfl ?_) | with_reducible refine Keeps.of_free rfl rfl rfl rfl rfl (Nat.le_add_right _ _) ?_ | with_reducible refine Keeps.of_filter rfl rfl rfl rfl rfl rfl ?_ | split

theorem State.flushRecs_keeps {s0 : State} {s : State} (h : Keeps s0 s) : Keeps s0 (State.flushRecs s) := by
  unfold State.flushRecs
  try dsimp only
  repeat' first | with_reducible assumption | intro _ | with_reducible (first | apply State.programRec_keeps) | with_reducible apply Keeps.cond | with_reducible apply Keeps.foldl | (fail_if_no_progress with_reducible refine Keeps.of_mk rfl rfl rfl rfl rfl rfl ?_) | with_reducible refine Keeps.of_free rfl rfl rfl rfl rfl (Nat.le_add_right _ _) ?_ | with_reducible refine Keeps.of_filter rfl rfl rfl rfl rfl rfl ?_ | split

theorem State.doSectorDone_keeps {s0 : State} {s : State} (h : Keeps s0 s) : Keeps s0 (State.doSectorDone s) := by
  unfold State.doSectorDone
  try dsimp only
  repeat' first | with_reducible assumption | intro _ | with_reducible (first | apply State.flushRecs_keeps | apply State.setFslot_keeps | apply State.nextSector_keeps) | with_reducible apply Keeps.cond | with_reducible apply Keeps.foldl | (fail_if_no_progress with_reducible refine Keeps.of_mk rfl rfl rfl rfl rfl rfl ?_) | with_reducible refine Keeps.of_free rfl rfl rfl rfl rfl (Nat.le_add_right _ _) ?_ | with_reducible refine Keeps.of_filter rfl rfl rfl rfl rfl rfl ?_ | split

theorem State.flashCommand_keeps {s0 : State} {s : State} (x2 : _) (h : Keeps s0 s) : Keeps s0 (State.flashCommand s x2) := by
  unfold State.flashCommand
  try dsimp only
  repeat' first | with_reducible assumption | intro _ | with_reducible (first | apply State.hifDrop_keeps | apply State.flashCode_keeps | apply State.setLock_keeps | apply State.flashBegin_keeps | apply State.flashWrite_keeps | apply State.flashEnd_keeps) | with_reducible apply Keeps.cond | with_reducible apply Keeps.foldl | (fail_if_no_progress with_reducible refine Keeps.of_mk rfl rfl rfl rfl rfl rfl ?_) | with_reducible refine Keeps.of_free rfl rfl rfl rfl rfl (Nat.le_add_right _ _) ?_ | with_reducible refine Keeps.of_filter rfl rfl rfl rfl rfl rfl ?_ | split

theorem State.doFlashCmd_keeps {s0 : State} {s : State} (x2 : _) (x3 : _) (x4 : _) (x5 : _) (h : Keeps s0 s) : Keeps s0 (State.doFlashCmd s x2 x3 x4 x5) := by
  unfold State.doFlashCmd
  try dsimp only
  repeat' first | with_reducible assumption | intro _ | with_reducible (first | apply State.holdInput_keeps | apply State.flashCommand_keeps) | with_reducible apply Keeps.cond | with_reducible apply Keeps.foldl | (fail_if_no_progress with_reducible refine Keeps.of_mk rfl rfl rfl rfl rfl rfl ?_) | with_reducible refine Keeps.of_free rfl rfl rfl rfl rfl (Nat.le_add_right _ _) ?_ | with_reducible refine Keeps.of_filter rfl rfl rfl rfl rfl rfl ?_ | split

theorem State.dropW_keeps {s0 : State} {w : Wr} (h : WKeeps s0 w) : WKeeps s0 (State.dropW w) := ⟨h.s⟩

theorem State.refuseW_keeps {s0 : State} {w : Wr} (x2 : _) (h : WKeeps s0 w) : WKeeps s0 (State.refuseW w x2) := by
  unfold State.refuseW
  try dsimp only
  repeat' first | with_reducible assumption | intro _ | with_reducible apply WKeeps.cond | with_reducible apply WKeeps.foldl | with_reducible exact h.s | with_reducible apply Keeps.cond | with_reducible apply Keeps.foldl | (fail_if_no_progress with_reducible refine Keeps.of_mk rfl rfl rfl rfl rfl rfl ?_) | with_reducible refine Keeps.of_free rfl rfl rfl rfl rfl (Nat.le_add_right _ _) ?_ | with_reducible refine Keeps.of_filter rfl rfl rfl rfl rfl rfl ?_ | split | with_reducible refine WKeeps.of_mk ?_ | with_reducible refine WKeeps.s ?_

theorem State.putRw_keeps {s0 : State} {w : Wr} (x2 : _) (x3 : _) (x4 : _) (h : WKeeps s0 w) : WKeeps s0 (State.putRw w x2 x3 x4) := by
  unfold State.putRw
  try dsimp only
  repeat' first | with_reducible assumption | intro _ | with_reducible (first | apply State.setWord_keeps) | with_reducible apply WKeeps.cond | with_reducible apply WKeeps.foldl | with_reducible exact h.s | with_reducible apply Keeps.cond | with_reducible apply Keeps.foldl | (fail_if_no_progress with_reducible refine Keeps.of_mk rfl rfl rfl rfl rfl rfl ?_) | with_reducible refine Keeps.of_free rfl rfl rfl rfl rfl (Nat.le_add_right _ _) ?_ | with_reducible refine Keeps.of_filter rfl rfl rfl rfl rfl rfl ?_ | split | with_reducible refine WKeeps.of_mk ?_ | with_reducible refine WKeeps.s ?_

theorem State.putW1c_keeps {s0 : State} {w : Wr} (x2 : _) (x3 : _) (x4 : _) (h : WKeeps s0 w) : WKeeps s0 (State.putW1c w x2 x3 x4) := by
  unfold State.putW1c
  try dsimp only
  repeat' first | with_reducible assumption | intro _ | with_reducible (first | apply State.clearBits_keeps) | with_reducible apply WKeeps.cond | with_reducible apply WKeeps.foldl | with_reducible exact h.s | with_reducible apply Keeps.cond | with_reducible apply Keeps.foldl | (fail_if_no_progress with_reducible refine Keeps.of_mk rfl rfl rfl rfl rfl rfl ?_) | with_reducible refine Keeps.of_free rfl rfl rfl rfl rfl (Nat.le_add_right _ _) ?_ | with_reducible refine Keeps.of_filter rfl rfl rfl rfl rfl rfl ?_ | split | with_reducible refine WKeeps.of_mk ?_ | with_reducible refine WKeeps.s ?_

theorem State.putRwe_keeps {s0 : State} {w : Wr} (x2 : _) (x3 : _) (x4 : _) (x5 : _) (h : WKeeps s0 w) : WKeeps s0 (State.putRwe w x2 x3 x4 x5) := by
  unfold State.putRwe
  try dsimp only
  repeat' first | with_reducible assumption | intro _ | with_reducible (first | apply State.refuseW_keeps | apply State.arm_keeps) | with_reducible apply WKeeps.cond | with_reducible apply WKeeps.foldl | with_reducible exact h.s | with_reducible apply Keeps.cond | with_reducible apply Keeps.foldl | (fail_if_no_progress with_reducible refine Keeps.of_mk rfl rfl rfl rfl rfl rfl ?_) | with_reducible refine Keeps.of_free rfl rfl rfl rfl rfl (Nat.le_add_right _ _) ?_ | with_reducible refine Keeps.of_filter rfl rfl rfl rfl rfl rfl ?_ | split | with_reducible refine WKeeps.of_mk ?_ | with_reducible refine WKeeps.s ?_

theorem State.putOwned_keeps {s0 : State} {w : Wr} (x2 : _) (x3 : _) (x4 : _) (x5 : _) (h : WKeeps s0 w) : WKeeps s0 (State.putOwned w x2 x3 x4 x5) := by
  unfold State.putOwned
  try dsimp only
  repeat' first | with_reducible assumption | intro _ | with_reducible (first | apply State.refuseW_keeps | apply State.dropW_keeps) | with_reducible apply WKeeps.cond | with_reducible apply WKeeps.foldl | with_reducible exact h.s | with_reducible apply Keeps.cond | with_reducible apply Keeps.foldl | (fail_if_no_progress with_reducible refine Keeps.of_mk rfl rfl rfl rfl rfl rfl ?_) | with_reducible refine Keeps.of_free rfl rfl rfl rfl rfl (Nat.le_add_right _ _) ?_ | with_reducible refine Keeps.of_filter rfl rfl rfl rfl rfl rfl ?_ | split | with_reducible refine WKeeps.of_mk ?_ | with_reducible refine WKeeps.s ?_

theorem State.putIf_keeps {s0 : State} {w : Wr} (x2 : _) (x3 : _) (x4 : _) (x5 : _) (h : WKeeps s0 w) : WKeeps s0 (State.putIf w x2 x3 x4 x5) := by
  unfold State.putIf
  try dsimp only
  repeat' first | with_reducible assumption | intro _ | with_reducible (first | apply State.putRw_keeps | apply State.dropW_keeps) | with_reducible apply WKeeps.cond | with_reducible apply WKeeps.foldl | with_reducible exact h.s | with_reducible apply Keeps.cond | with_reducible apply Keeps.foldl | (fail_if_no_progress with_reducible refine Keeps.of_mk rfl rfl rfl rfl rfl rfl ?_) | with_reducible refine Keeps.of_free rfl rfl rfl rfl rfl (Nat.le_add_right _ _) ?_ | with_reducible refine Keeps.of_filter rfl rfl rfl rfl rfl rfl ?_ | split | with_reducible refine WKeeps.of_mk ?_ | with_reducible refine WKeeps.s ?_

theorem State.setBank_keeps {s0 : State} {s : State} (x2 : _) (x3 : _) (h : Keeps s0 s) : Keeps s0 (State.setBank s x2 x3) := by
  unfold State.setBank
  try dsimp only
  repeat' first | with_reducible assumption | intro _ | with_reducible apply Keeps.cond | with_reducible apply Keeps.foldl | (fail_if_no_progress with_reducible refine Keeps.of_mk rfl rfl rfl rfl rfl rfl ?_) | with_reducible refine Keeps.of_free rfl rfl rfl rfl rfl (Nat.le_add_right _ _) ?_ | with_reducible refine Keeps.of_filter rfl rfl rfl rfl rfl rfl ?_ | split

theorem State.putLog_keeps {s0 : State} {w : Wr} (x2 : _) (x3 : _) (x4 : _) (x5 : _) (x6 : _) (h : WKeeps s0 w) : WKeeps s0 (State.putLog w x2 x3 x4 x5 x6) := by
  unfold State.putLog
  try dsimp only
  repeat' first | with_reducible assumption | intro _ | with_reducible (first | apply State.putIf_keeps) | with_reducible apply WKeeps.cond | with_reducible apply WKeeps.foldl | with_reducible exact h.s | with_reducible apply Keeps.cond | with_reducible apply Keeps.foldl | (fail_if_no_progress with_reducible refine Keeps.of_mk rfl rfl rfl rfl rfl rfl ?_) | with_reducible refine Keeps.of_free rfl rfl rfl rfl rfl (Nat.le_add_right _ _) ?_ | with_reducible refine Keeps.of_filter rfl rfl rfl rfl rfl rfl ?_ | split | with_reducible refine WKeeps.of_mk ?_ | with_reducible refine WKeeps.s ?_

theorem State.putRing_keeps {s0 : State} {w : Wr} (x2 : _) (x3 : _) (x4 : _) (x5 : _) (h : WKeeps s0 w) : WKeeps s0 (State.putRing w x2 x3 x4 x5) := by
  unfold State.putRing
  try dsimp only
  repeat' first | with_reducible assumption | intro _ | with_reducible (first | apply State.putIf_keeps | apply State.putLog_keeps | apply State.putRwe_keeps | apply State.putRw_keeps | apply State.tryInterrupt_keeps) | with_reducible apply WKeeps.cond | with_reducible apply WKeeps.foldl | with_reducible exact h.s | with_reducible apply Keeps.cond | with_reducible apply Keeps.foldl | (fail_if_no_progress with_reducible refine Keeps.of_mk rfl rfl rfl rfl rfl rfl ?_) | with_reducible refine Keeps.of_free rfl rfl rfl rfl rfl (Nat.le_add_right _ _) ?_ | with_reducible refine Keeps.of_filter rfl rfl rfl rfl rfl rfl ?_ | split | with_reducible refine WKeeps.of_mk ?_ | with_reducible refine WKeeps.s ?_

theorem State.putWindow_keeps {s0 : State} {w : Wr} (x2 : _) (x3 : _) (h : WKeeps s0 w) : WKeeps s0 (State.putWindow w x2 x3) := by
  unfold State.putWindow
  try dsimp only
  repeat' first | with_reducible assumption | intro _ | with_reducible (first | apply State.putIf_keeps) | with_reducible apply WKeeps.cond | with_reducible apply WKeeps.foldl | with_reducible exact h.s | with_reducible apply Keeps.cond | with_reducible apply Keeps.foldl | (fail_if_no_progress with_reducible refine Keeps.of_mk rfl rfl rfl rfl rfl rfl ?_) | with_reducible refine Keeps.of_free rfl rfl rfl rfl rfl (Nat.le_add_right _ _) ?_ | with_reducible refine Keeps.of_filter rfl rfl rfl rfl rfl rfl ?_ | split | with_reducible refine WKeeps.of_mk ?_ | with_reducible refine WKeeps.s ?_

theorem State.putMsix_keeps {s0 : State} {w : Wr} (x2 : _) (x3 : _) (x4 : _) (x5 : _) (x6 : _) (h : WKeeps s0 w) : WKeeps s0 (State.putMsix w x2 x3 x4 x5 x6) := by
  unfold State.putMsix
  try dsimp only
  repeat' first | with_reducible assumption | intro _ | with_reducible (first | apply State.doMsixUnmask_keeps | apply State.putRw_keeps) | with_reducible apply WKeeps.cond | with_reducible apply WKeeps.foldl | with_reducible exact h.s | with_reducible apply Keeps.cond | with_reducible apply Keeps.foldl | (fail_if_no_progress with_reducible refine Keeps.of_mk rfl rfl rfl rfl rfl rfl ?_) | with_reducible refine Keeps.of_free rfl rfl rfl rfl rfl (Nat.le_add_right _ _) ?_ | with_reducible refine Keeps.of_filter rfl rfl rfl rfl rfl rfl ?_ | split | with_reducible refine WKeeps.of_mk ?_ | with_reducible refine WKeeps.s ?_

theorem State.putJnlAck_keeps {s0 : State} {w : Wr} (x2 : _) (h : WKeeps s0 w) : WKeeps s0 (State.putJnlAck w x2) := by
  unfold State.putJnlAck
  try dsimp only
  repeat' first | with_reducible assumption | intro _ | with_reducible (first | apply State.dropW_keeps) | with_reducible apply WKeeps.cond | with_reducible apply WKeeps.foldl | with_reducible exact h.s | with_reducible apply Keeps.cond | with_reducible apply Keeps.foldl | (fail_if_no_progress with_reducible refine Keeps.of_mk rfl rfl rfl rfl rfl rfl ?_) | with_reducible refine Keeps.of_free rfl rfl rfl rfl rfl (Nat.le_add_right _ _) ?_ | with_reducible refine Keeps.of_filter rfl rfl rfl rfl rfl rfl ?_ | split | with_reducible refine WKeeps.of_mk ?_ | with_reducible refine WKeeps.s ?_

theorem State.putEvtAck_keeps {s0 : State} {w : Wr} (x2 : _) (h : WKeeps s0 w) : WKeeps s0 (State.putEvtAck w x2) := by
  unfold State.putEvtAck
  try dsimp only
  repeat' first | with_reducible assumption | intro _ | with_reducible (first | apply State.dropW_keeps) | with_reducible apply WKeeps.cond | with_reducible apply WKeeps.foldl | with_reducible exact h.s | with_reducible apply Keeps.cond | with_reducible apply Keeps.foldl | (fail_if_no_progress with_reducible refine Keeps.of_mk rfl rfl rfl rfl rfl rfl ?_) | with_reducible refine Keeps.of_free rfl rfl rfl rfl rfl (Nat.le_add_right _ _) ?_ | with_reducible refine Keeps.of_filter rfl rfl rfl rfl rfl rfl ?_ | split | with_reducible refine WKeeps.of_mk ?_ | with_reducible refine WKeeps.s ?_

theorem State.putBase_keeps {s0 : State} {w : Wr} (x2 : _) (x3 : _) (x4 : _) (h : WKeeps s0 w) : WKeeps s0 (State.putBase w x2 x3 x4) := by
  unfold State.putBase
  try dsimp only
  repeat' first | with_reducible assumption | intro _ | with_reducible (first | apply State.dropW_keeps | apply State.refuseW_keeps | apply State.bump_keeps) | with_reducible apply WKeeps.cond | with_reducible apply WKeeps.foldl | with_reducible exact h.s | with_reducible apply Keeps.cond | with_reducible apply Keeps.foldl | (fail_if_no_progress with_reducible refine Keeps.of_mk rfl rfl rfl rfl rfl rfl ?_) | with_reducible refine Keeps.of_free rfl rfl rfl rfl rfl (Nat.le_add_right _ _) ?_ | with_reducible refine Keeps.of_filter rfl rfl rfl rfl rfl rfl ?_ | split | with_reducible refine WKeeps.of_mk ?_ | with_reducible refine WKeeps.s ?_

theorem State.putPool_keeps {s0 : State} {w : Wr} (x2 : _) (x3 : _) (x4 : _) (h : WKeeps s0 w) : WKeeps s0 (State.putPool w x2 x3 x4) := by
  unfold State.putPool
  try dsimp only
  repeat' first | with_reducible assumption | intro _ | with_reducible (first | apply State.dropW_keeps | apply State.putRwe_keeps) | with_reducible apply WKeeps.cond | with_reducible apply WKeeps.foldl | with_reducible exact h.s | with_reducible apply Keeps.cond | with_reducible apply Keeps.foldl | (fail_if_no_progress with_reducible refine Keeps.of_mk rfl rfl rfl rfl rfl rfl ?_) | with_reducible refine Keeps.of_free rfl rfl rfl rfl rfl (Nat.le_add_right _ _) ?_ | with_reducible refine Keeps.of_filter rfl rfl rfl rfl rfl rfl ?_ | split | with_reducible refine WKeeps.of_mk ?_ | with_reducible refine WKeeps.s ?_

theorem State.putFab_keeps {s0 : State} {w : Wr} (x2 : _) (x3 : _) (x4 : _) (h : WKeeps s0 w) : WKeeps s0 (State.putFab w x2 x3 x4) := by
  unfold State.putFab
  try dsimp only
  repeat' first | with_reducible assumption | intro _ | with_reducible (first | apply State.refuseW_keeps | apply State.putRwe_keeps) | with_reducible apply WKeeps.cond | with_reducible apply WKeeps.foldl | with_reducible exact h.s | with_reducible apply Keeps.cond | with_reducible apply Keeps.foldl | (fail_if_no_progress with_reducible refine Keeps.of_mk rfl rfl rfl rfl rfl rfl ?_) | with_reducible refine Keeps.of_free rfl rfl rfl rfl rfl (Nat.le_add_right _ _) ?_ | with_reducible refine Keeps.of_filter rfl rfl rfl rfl rfl rfl ?_ | split | with_reducible refine WKeeps.of_mk ?_ | with_reducible refine WKeeps.s ?_

theorem State.putTiming_keeps {s0 : State} {w : Wr} (x2 : _) (x3 : _) (h : WKeeps s0 w) : WKeeps s0 (State.putTiming w x2 x3) := by
  unfold State.putTiming
  try dsimp only
  repeat' first | with_reducible assumption | intro _ | with_reducible (first | apply State.refuseW_keeps | apply State.dropW_keeps | apply State.putRwe_keeps) | with_reducible apply WKeeps.cond | with_reducible apply WKeeps.foldl | with_reducible exact h.s | with_reducible apply Keeps.cond | with_reducible apply Keeps.foldl | (fail_if_no_progress with_reducible refine Keeps.of_mk rfl rfl rfl rfl rfl rfl ?_) | with_reducible refine Keeps.of_free rfl rfl rfl rfl rfl (Nat.le_add_right _ _) ?_ | with_reducible refine Keeps.of_filter rfl rfl rfl rfl rfl rfl ?_ | split | with_reducible refine WKeeps.of_mk ?_ | with_reducible refine WKeeps.s ?_

theorem State.putWide_keeps {s0 : State} {w : Wr} (src : Src) (a b c d : Nat) (f : Wr → Nat → Wr)
    (hf : ∀ u x, WKeeps s0 u → WKeeps s0 (f u x)) (h : WKeeps s0 w) : WKeeps s0 (State.putWide w src a b c d f) := by
  unfold State.putWide
  try dsimp only
  repeat' first | with_reducible assumption | with_reducible (first | apply hf | apply State.dropW_keeps | apply State.setBank_keeps) | with_reducible apply WKeeps.cond | with_reducible exact h.s | with_reducible refine Keeps.of_mk rfl rfl rfl rfl rfl rfl ?_ | intro _ | split | with_reducible refine WKeeps.of_mk ?_

theorem State.putTil_keeps {s0 : State} {w : Wr} (x2 : _) (x3 : _) (x4 : _) (h : WKeeps s0 w) : WKeeps s0 (State.putTil w x2 x3 x4) := by
  unfold State.putTil
  try dsimp only
  repeat' first | with_reducible assumption | intro _ | with_reducible (first | apply State.putOwned_keeps | apply State.putW1c_keeps) | with_reducible apply WKeeps.cond | with_reducible apply WKeeps.foldl | with_reducible exact h.s | with_reducible apply Keeps.cond | with_reducible apply Keeps.foldl | (fail_if_no_progress with_reducible refine Keeps.of_mk rfl rfl rfl rfl rfl rfl ?_) | with_reducible refine Keeps.of_free rfl rfl rfl rfl rfl (Nat.le_add_right _ _) ?_ | with_reducible refine Keeps.of_filter rfl rfl rfl rfl rfl rfl ?_ | split | with_reducible refine WKeeps.of_mk ?_ | with_reducible refine WKeeps.s ?_

theorem State.putTest_keeps {s0 : State} {w : Wr} (x2 : _) (x3 : _) (x4 : _) (h : WKeeps s0 w) : WKeeps s0 (State.putTest w x2 x3 x4) := by
  unfold State.putTest
  try dsimp only
  repeat' first | with_reducible assumption | intro _ | with_reducible (first | apply State.dropW_keeps | apply State.testMode_keeps | apply State.testStart_keeps | apply State.testHalt_keeps | apply State.putIf_keeps) | with_reducible apply WKeeps.cond | with_reducible apply WKeeps.foldl | with_reducible exact h.s | with_reducible apply Keeps.cond | with_reducible apply Keeps.foldl | (fail_if_no_progress with_reducible refine Keeps.of_mk rfl rfl rfl rfl rfl rfl ?_) | with_reducible refine Keeps.of_free rfl rfl rfl rfl rfl (Nat.le_add_right _ _) ?_ | with_reducible refine Keeps.of_filter rfl rfl rfl rfl rfl rfl ?_ | split | with_reducible refine WKeeps.of_mk ?_ | with_reducible refine WKeeps.s ?_

theorem State.putBuf_keeps {s0 : State} {s : State} (x2 : _) (x3 : _) (h : Keeps s0 s) : Keeps s0 (State.putBuf s x2 x3) := by
  unfold State.putBuf
  try dsimp only
  repeat' first | with_reducible assumption | intro _ | with_reducible apply Keeps.cond | with_reducible apply Keeps.foldl | (fail_if_no_progress with_reducible refine Keeps.of_mk rfl rfl rfl rfl rfl rfl ?_) | with_reducible refine Keeps.of_free rfl rfl rfl rfl rfl (Nat.le_add_right _ _) ?_ | with_reducible refine Keeps.of_filter rfl rfl rfl rfl rfl rfl ?_ | split

theorem State.retryDue_keeps {s0 : State} {s : State} (h : Keeps s0 s) : Keeps s0 (State.retryDue s) := by
  unfold State.retryDue
  try dsimp only
  repeat' first | with_reducible assumption | intro _ | with_reducible (first | apply State.storeBoot_keeps) | with_reducible apply Keeps.cond | with_reducible apply Keeps.foldl | (fail_if_no_progress with_reducible refine Keeps.of_mk rfl rfl rfl rfl rfl rfl ?_) | with_reducible refine Keeps.of_free rfl rfl rfl rfl rfl (Nat.le_add_right _ _) ?_ | with_reducible refine Keeps.of_filter rfl rfl rfl rfl rfl rfl ?_ | split

theorem State.putMgt_keeps {s0 : State} {w : Wr} (x2 : _) (x3 : _) (x4 : _) (x5 : _) (h : WKeeps s0 w) : WKeeps s0 (State.putMgt w x2 x3 x4 x5) := by
  unfold State.putMgt
  try dsimp only
  repeat' first | with_reducible assumption | intro _ | with_reducible (first | apply State.lockWrite_keeps | apply State.doFlashCmd_keeps | apply State.putRw_keeps | apply State.putBuf_keeps | apply State.putW1c_keeps | apply State.putRwe_keeps) | with_reducible apply WKeeps.cond | with_reducible apply WKeeps.foldl | with_reducible exact h.s | with_reducible apply Keeps.cond | with_reducible apply Keeps.foldl | (fail_if_no_progress with_reducible refine Keeps.of_mk rfl rfl rfl rfl rfl rfl ?_) | with_reducible refine Keeps.of_free rfl rfl rfl rfl rfl (Nat.le_add_right _ _) ?_ | with_reducible refine Keeps.of_filter rfl rfl rfl rfl rfl rfl ?_ | split | with_reducible refine WKeeps.of_mk ?_ | with_reducible refine WKeeps.s ?_

theorem State.putWord_keeps {s0 : State} {w : Wr} (x2 : _) (x3 : _) (x4 : _) (x5 : _) (h : WKeeps s0 w) : WKeeps s0 (State.putWord w x2 x3 x4 x5) := by
  unfold State.putWord
  try dsimp only
  repeat' first | with_reducible assumption | intro _ | with_reducible (first | apply State.doPkgReset_keeps | apply State.putRwe_keeps | apply State.putRw_keeps | apply State.setBank_keeps | apply State.putWindow_keeps | apply State.putRing_keeps | apply State.putMsix_keeps | apply State.putPool_keeps | apply State.putOwned_keeps | apply State.putW1c_keeps | apply State.retryDue_keeps | apply State.putTest_keeps | apply State.dropW_keeps | apply State.putFab_keeps | apply State.putTil_keeps | apply State.putMgt_keeps) | with_reducible apply WKeeps.cond | with_reducible apply WKeeps.foldl | with_reducible exact h.s | with_reducible apply Keeps.cond | with_reducible apply Keeps.foldl | (fail_if_no_progress with_reducible refine Keeps.of_mk rfl rfl rfl rfl rfl rfl ?_) | with_reducible refine Keeps.of_free rfl rfl rfl rfl rfl (Nat.le_add_right _ _) ?_ | with_reducible refine Keeps.of_filter rfl rfl rfl rfl rfl rfl ?_ | split | with_reducible refine WKeeps.of_mk ?_ | with_reducible refine WKeeps.s ?_

theorem State.putReg_keeps {s0 : State} {w : Wr} (x2 : _) (x3 : _) (x4 : _) (x5 : _) (x6 : _) (x7 : _) (h : WKeeps s0 w) : WKeeps s0 (State.putReg w x2 x3 x4 x5 x6 x7) := by
  unfold State.putReg
  try dsimp only
  repeat' first | with_reducible assumption | intro _ | with_reducible (first | apply State.setBank_keeps | apply State.putJnlAck_keeps | apply State.putEvtAck_keeps | apply State.putWide_keeps | apply State.putBase_keeps | apply State.putTiming_keeps | apply State.putWord_keeps) | with_reducible apply WKeeps.cond | with_reducible apply WKeeps.foldl | with_reducible exact h.s | with_reducible apply Keeps.cond | with_reducible apply Keeps.foldl | (fail_if_no_progress with_reducible refine Keeps.of_mk rfl rfl rfl rfl rfl rfl ?_) | with_reducible refine Keeps.of_free rfl rfl rfl rfl rfl (Nat.le_add_right _ _) ?_ | with_reducible refine Keeps.of_filter rfl rfl rfl rfl rfl rfl ?_ | split | with_reducible refine WKeeps.of_mk ?_ | with_reducible refine WKeeps.s ?_

theorem State.endWrite_keeps {s0 : State} {w : Wr} (off : Nat) (h : Keeps s0 w.s) : Keeps s0 (State.endWrite w off).1 := by
  have h1 : Keeps s0 (if w.code = 0 then w.s else w.s.record w.code {} off) := Keeps.cond (fun _ => h) (fun _ => State.record_keeps _ _ _ h)
  exact Keeps.cond (fun _ => State.hifDrop_keeps h1) (fun _ => h1)

theorem State.localWrite_keeps {s0 : State} {s : State} (x2 : _) (x3 : _) (x4 : _) (h : Keeps s0 s) : Keeps s0 (State.localWrite s x2 x3 x4) := by
  unfold State.localWrite
  try dsimp only
  repeat' first | with_reducible assumption | intro _ | with_reducible (first | apply State.addLocal_keeps) | with_reducible apply Keeps.cond | with_reducible apply Keeps.foldl | (fail_if_no_progress with_reducible refine Keeps.of_mk rfl rfl rfl rfl rfl rfl ?_) | with_reducible refine Keeps.of_free rfl rfl rfl rfl rfl (Nat.le_add_right _ _) ?_ | with_reducible refine Keeps.of_filter rfl rfl rfl rfl rfl rfl ?_ | split

theorem State.markWrite_keeps {s0 : State} {s : State} (x2 : _) (x3 : _) (x4 : _) (h : Keeps s0 s) : Keeps s0 (State.markWrite s x2 x3 x4) := by
  unfold State.markWrite
  try dsimp only
  repeat' first | with_reducible assumption | intro _ | with_reducible apply Keeps.cond | with_reducible apply Keeps.foldl | (fail_if_no_progress with_reducible refine Keeps.of_mk rfl rfl rfl rfl rfl rfl ?_) | with_reducible refine Keeps.of_free rfl rfl rfl rfl rfl (Nat.le_add_right _ _) ?_ | with_reducible refine Keeps.of_filter rfl rfl rfl rfl rfl rfl ?_ | split

theorem State.writeReg_keeps {s0 s : State} (src : Src) (fn : Nat) (m : Option Nat) (off size v : Nat) (h : Keeps s0 s) :
    Keeps s0 (s.writeReg src fn m off size v).1 := by
  unfold State.writeReg
  refine Keeps.fst_cond (fun _ => h) (fun _ => Keeps.fst_cond (fun _ => State.hifDrop_keeps h) (fun _ => ?_))
  split
  · exact h
  · have h1 := State.localWrite_keeps off size v h
    refine Keeps.fst_cond (fun _ => h1) (fun _ => State.endWrite_keeps off (WKeeps.s ?_))
    have hw := fun k => State.putReg_keeps (w := { s := s.localWrite off size v }) src m k off size v ⟨h1⟩
    exact WKeeps.cond (fun _ => hw _) (fun _ => ⟨State.markWrite_keeps _ _ _ (hw _).s⟩)

theorem State.writeVf_keeps {s0 s : State} (src : Src) (a b c d : Nat) (h : Keeps s0 s) : Keeps s0 (s.writeVf src a b c d) := by
  have hp : ∀ (u : State) o x y z v, Keeps s0 u → Keeps s0 (State.putMsix { s := u } o x y z v).s :=
    fun u o x y z v k => (State.putMsix_keeps (w := { s := u }) o x y z v ⟨k⟩).s
  unfold State.writeVf
  refine Keeps.cond (fun _ => State.writeReg_keeps _ _ _ _ _ _ h) (fun _ => Keeps.cond (fun _ => ?_) (fun _ => h))
  refine Keeps.cond (fun _ => ?_) (fun _ => State.hifDrop_keeps h)
  exact Keeps.cond (fun _ => hp _ _ _ _ _ _ (hp _ _ _ _ _ _ h)) (fun _ => hp _ _ _ _ _ _ h)

theorem State.doWrite_keeps {s0 : State} {s : State} (x2 : _) (x3 : _) (x4 : _) (x5 : _) (x6 : _) (h : Keeps s0 s) : Keeps s0 (State.doWrite s x2 x3 x4 x5 x6) := by
  unfold State.doWrite
  try dsimp only
  repeat' first | with_reducible assumption | intro _ | with_reducible (first | apply State.writeReg_keeps | apply State.writeVf_keeps) | with_reducible apply Keeps.cond | with_reducible apply Keeps.foldl | (fail_if_no_progress with_reducible refine Keeps.of_mk rfl rfl rfl rfl rfl rfl ?_) | with_reducible refine Keeps.of_free rfl rfl rfl rfl rfl (Nat.le_add_right _ _) ?_ | with_reducible refine Keeps.of_filter rfl rfl rfl rfl rfl rfl ?_ | split

theorem State.slackReset_keeps {s0 : State} {s : State} (x2 : _) (h : Keeps s0 s) : Keeps s0 (State.slackReset s x2) := by
  unfold State.slackReset
  try dsimp only
  repeat' first | with_reducible assumption | intro _ | with_reducible (first | apply State.setWord_keeps) | with_reducible apply Keeps.cond | with_reducible apply Keeps.foldl | (fail_if_no_progress with_reducible refine Keeps.of_mk rfl rfl rfl rfl rfl rfl ?_) | with_reducible refine Keeps.of_free rfl rfl rfl rfl rfl (Nat.le_add_right _ _) ?_ | with_reducible refine Keeps.of_filter rfl rfl rfl rfl rfl rfl ?_ | split

theorem State.doSlackRead_keeps {s0 : State} {s : State} (x2 : _) (x3 : _) (h : Keeps s0 s) : Keeps s0 (State.doSlackRead s x2 x3) := by
  unfold State.doSlackRead
  try dsimp only
  repeat' first | with_reducible assumption | intro _ | with_reducible (first | apply State.emit_keeps | apply State.slackReset_keeps) | with_reducible apply Keeps.cond | with_reducible apply Keeps.foldl | (fail_if_no_progress with_reducible refine Keeps.of_mk rfl rfl rfl rfl rfl rfl ?_) | with_reducible refine Keeps.of_free rfl rfl rfl rfl rfl (Nat.le_add_right _ _) ?_ | with_reducible refine Keeps.of_filter rfl rfl rfl rfl rfl rfl ?_ | split

theorem State.doSclTimeout_keeps {s0 : State} {s : State} (h : Keeps s0 s) : Keeps s0 (State.doSclTimeout s) := by
  unfold State.doSclTimeout
  try dsimp only
  repeat' first | with_reducible assumption | intro _ | with_reducible (first | apply State.record_keeps) | with_reducible apply Keeps.cond | with_reducible apply Keeps.foldl | (fail_if_no_progress with_reducible refine Keeps.of_mk rfl rfl rfl rfl rfl rfl ?_) | with_reducible refine Keeps.of_free rfl rfl rfl rfl rfl (Nat.le_add_right _ _) ?_ | with_reducible refine Keeps.of_filter rfl rfl rfl rfl rfl rfl ?_ | split

theorem State.doAnswer_keeps {s0 : State} {s : State} (x2 : _) (h : Keeps s0 s) : Keeps s0 (State.doAnswer s x2) := by
  unfold State.doAnswer
  try dsimp only
  repeat' first | with_reducible assumption | intro _ | with_reducible (first | apply State.emit_keeps | apply State.record_keeps) | with_reducible apply Keeps.cond | with_reducible apply Keeps.foldl | (fail_if_no_progress with_reducible refine Keeps.of_mk rfl rfl rfl rfl rfl rfl ?_) | with_reducible refine Keeps.of_free rfl rfl rfl rfl rfl (Nat.le_add_right _ _) ?_ | with_reducible refine Keeps.of_filter rfl rfl rfl rfl rfl rfl ?_ | split

theorem State.doSetEid_keeps {s0 : State} {s : State} (x2 : _) (h : Keeps s0 s) : Keeps s0 (State.doSetEid s x2) := by
  unfold State.doSetEid
  try dsimp only
  repeat' first | with_reducible assumption | intro _ | with_reducible (first | apply State.answer_keeps) | with_reducible apply Keeps.cond | with_reducible apply Keeps.foldl | (fail_if_no_progress with_reducible refine Keeps.of_mk rfl rfl rfl rfl rfl rfl ?_) | with_reducible refine Keeps.of_free rfl rfl rfl rfl rfl (Nat.le_add_right _ _) ?_ | with_reducible refine Keeps.of_filter rfl rfl rfl rfl rfl rfl ?_ | split

theorem State.doVersions_keeps {s0 : State} {s : State} (x2 : _) (h : Keeps s0 s) : Keeps s0 (State.doVersions s x2) := by
  unfold State.doVersions
  try dsimp only
  repeat' first | with_reducible assumption | intro _ | with_reducible (first | apply State.answer_keeps) | with_reducible apply Keeps.cond | with_reducible apply Keeps.foldl | (fail_if_no_progress with_reducible refine Keeps.of_mk rfl rfl rfl rfl rfl rfl ?_) | with_reducible refine Keeps.of_free rfl rfl rfl rfl rfl (Nat.le_add_right _ _) ?_ | with_reducible refine Keeps.of_filter rfl rfl rfl rfl rfl rfl ?_ | split

theorem State.doVendorSupport_keeps {s0 : State} {s : State} (x2 : _) (h : Keeps s0 s) : Keeps s0 (State.doVendorSupport s x2) := by
  unfold State.doVendorSupport
  try dsimp only
  repeat' first | with_reducible assumption | intro _ | with_reducible (first | apply State.answer_keeps) | with_reducible apply Keeps.cond | with_reducible apply Keeps.foldl | (fail_if_no_progress with_reducible refine Keeps.of_mk rfl rfl rfl rfl rfl rfl ?_) | with_reducible refine Keeps.of_free rfl rfl rfl rfl rfl (Nat.le_add_right _ _) ?_ | with_reducible refine Keeps.of_filter rfl rfl rfl rfl rfl rfl ?_ | split

theorem State.doGetStatus_keeps {s0 : State} {s : State} (h : Keeps s0 s) : Keeps s0 (State.doGetStatus s) := by
  unfold State.doGetStatus
  try dsimp only
  repeat' first | with_reducible assumption | intro _ | with_reducible (first | apply State.answer_keeps) | with_reducible apply Keeps.cond | with_reducible apply Keeps.foldl | (fail_if_no_progress with_reducible refine Keeps.of_mk rfl rfl rfl rfl rfl rfl ?_) | with_reducible refine Keeps.of_free rfl rfl rfl rfl rfl (Nat.le_add_right _ _) ?_ | with_reducible refine Keeps.of_filter rfl rfl rfl rfl rfl rfl ?_ | split

theorem State.doRegRead_keeps {s0 : State} {s : State} (x2 : _) (h : Keeps s0 s) : Keeps s0 (State.doRegRead s x2) := by
  unfold State.doRegRead
  try dsimp only
  repeat' first | with_reducible assumption | intro _ | with_reducible (first | apply State.answer_keeps) | with_reducible apply Keeps.cond | with_reducible apply Keeps.foldl | (fail_if_no_progress with_reducible refine Keeps.of_mk rfl rfl rfl rfl rfl rfl ?_) | with_reducible refine Keeps.of_free rfl rfl rfl rfl rfl (Nat.le_add_right _ _) ?_ | with_reducible refine Keeps.of_filter rfl rfl rfl rfl rfl rfl ?_ | split

theorem State.doRegWrite_keeps {s0 : State} {s : State} (x2 : _) (h : Keeps s0 s) : Keeps s0 (State.doRegWrite s x2) := by
  unfold State.doRegWrite
  try dsimp only
  repeat' first | with_reducible assumption | intro _ | with_reducible (first | apply State.answer_keeps | apply State.hifDrop_keeps | apply State.writeReg_keeps) | with_reducible apply Keeps.cond | with_reducible apply Keeps.foldl | (fail_if_no_progress with_reducible refine Keeps.of_mk rfl rfl rfl rfl rfl rfl ?_) | with_reducible refine Keeps.of_free rfl rfl rfl rfl rfl (Nat.le_add_right _ _) ?_ | with_reducible refine Keeps.of_filter rfl rfl rfl rfl rfl rfl ?_ | split

theorem State.doEvtRead_keeps {s0 : State} {s : State} (x2 : _) (h : Keeps s0 s) : Keeps s0 (State.doEvtRead s x2) := by
  unfold State.doEvtRead
  try dsimp only
  repeat' first | with_reducible assumption | intro _ | with_reducible (first | apply State.answer_keeps) | with_reducible apply Keeps.cond | with_reducible apply Keeps.foldl | (fail_if_no_progress with_reducible refine Keeps.of_mk rfl rfl rfl rfl rfl rfl ?_) | with_reducible refine Keeps.of_free rfl rfl rfl rfl rfl (Nat.le_add_right _ _) ?_ | with_reducible refine Keeps.of_filter rfl rfl rfl rfl rfl rfl ?_ | split

theorem State.doCriticalMsg_keeps {s0 : State} {s : State} (x2 : _) (h : Keeps s0 s) : Keeps s0 (State.doCriticalMsg s x2) := by
  unfold State.doCriticalMsg
  try dsimp only
  repeat' first | with_reducible assumption | intro _ | with_reducible (first | apply State.answer_keeps | apply State.enterCrit_keeps) | with_reducible apply Keeps.cond | with_reducible apply Keeps.foldl | (fail_if_no_progress with_reducible refine Keeps.of_mk rfl rfl rfl rfl rfl rfl ?_) | with_reducible refine Keeps.of_free rfl rfl rfl rfl rfl (Nat.le_add_right _ _) ?_ | with_reducible refine Keeps.of_filter rfl rfl rfl rfl rfl rfl ?_ | split

theorem State.doWarmMsg_keeps {s0 : State} {s : State} (x2 : _) (h : Keeps s0 s) : Keeps s0 (State.doWarmMsg s x2) := by
  unfold State.doWarmMsg
  try dsimp only
  repeat' first | with_reducible assumption | intro _ | with_reducible (first | apply State.answer_keeps | apply State.requestWarm_keeps | apply State.emit_keeps | apply State.record_keeps) | with_reducible apply Keeps.cond | with_reducible apply Keeps.foldl | (fail_if_no_progress with_reducible refine Keeps.of_mk rfl rfl rfl rfl rfl rfl ?_) | with_reducible refine Keeps.of_free rfl rfl rfl rfl rfl (Nat.le_add_right _ _) ?_ | with_reducible refine Keeps.of_filter rfl rfl rfl rfl rfl rfl ?_ | split

theorem State.doFlashBegin_keeps {s0 : State} {s : State} (x2 : _) (h : Keeps s0 s) : Keeps s0 (State.doFlashBegin s x2) := by
  unfold State.doFlashBegin
  try dsimp only
  repeat' first | with_reducible assumption | intro _ | with_reducible (first | apply State.flashBegin_keeps | apply State.answer_keeps) | with_reducible apply Keeps.cond | with_reducible apply Keeps.foldl | (fail_if_no_progress with_reducible refine Keeps.of_mk rfl rfl rfl rfl rfl rfl ?_) | with_reducible refine Keeps.of_free rfl rfl rfl rfl rfl (Nat.le_add_right _ _) ?_ | with_reducible refine Keeps.of_filter rfl rfl rfl rfl rfl rfl ?_ | split

theorem State.doFlashWrite_keeps {s0 : State} {s : State} (x2 : _) (h : Keeps s0 s) : Keeps s0 (State.doFlashWrite s x2) := by
  unfold State.doFlashWrite
  try dsimp only
  repeat' first | with_reducible assumption | intro _ | with_reducible (first | apply State.flashWrite_keeps | apply State.answer_keeps) | with_reducible apply Keeps.cond | with_reducible apply Keeps.foldl | (fail_if_no_progress with_reducible refine Keeps.of_mk rfl rfl rfl rfl rfl rfl ?_) | with_reducible refine Keeps.of_free rfl rfl rfl rfl rfl (Nat.le_add_right _ _) ?_ | with_reducible refine Keeps.of_filter rfl rfl rfl rfl rfl rfl ?_ | split

theorem State.doFlashEnd_keeps {s0 : State} {s : State} (x2 : _) (h : Keeps s0 s) : Keeps s0 (State.doFlashEnd s x2) := by
  unfold State.doFlashEnd
  try dsimp only
  repeat' first | with_reducible assumption | intro _ | with_reducible (first | apply State.flashEnd_keeps | apply State.answer_keeps) | with_reducible apply Keeps.cond | with_reducible apply Keeps.foldl | (fail_if_no_progress with_reducible refine Keeps.of_mk rfl rfl rfl rfl rfl rfl ?_) | with_reducible refine Keeps.of_free rfl rfl rfl rfl rfl (Nat.le_add_right _ _) ?_ | with_reducible refine Keeps.of_filter rfl rfl rfl rfl rfl rfl ?_ | split

theorem State.doFlashStatus_keeps {s0 : State} {s : State} (h : Keeps s0 s) : Keeps s0 (State.doFlashStatus s) := by
  unfold State.doFlashStatus
  try dsimp only
  repeat' first | with_reducible assumption | intro _ | with_reducible (first | apply State.answer_keeps) | with_reducible apply Keeps.cond | with_reducible apply Keeps.foldl | (fail_if_no_progress with_reducible refine Keeps.of_mk rfl rfl rfl rfl rfl rfl ?_) | with_reducible refine Keeps.of_free rfl rfl rfl rfl rfl (Nat.le_add_right _ _) ?_ | with_reducible refine Keeps.of_filter rfl rfl rfl rfl rfl rfl ?_ | split

theorem State.doSoleRetry_keeps {s0 : State} {s : State} (x2 : _) (h : Keeps s0 s) : Keeps s0 (State.doSoleRetry s x2) := by
  unfold State.doSoleRetry
  try dsimp only
  repeat' first | with_reducible assumption | intro _ | with_reducible (first | apply State.doRetry_keeps | apply State.emit_keeps) | with_reducible apply Keeps.cond | with_reducible apply Keeps.foldl | (fail_if_no_progress with_reducible refine Keeps.of_mk rfl rfl rfl rfl rfl rfl ?_) | with_reducible refine Keeps.of_free rfl rfl rfl rfl rfl (Nat.le_add_right _ _) ?_ | with_reducible refine Keeps.of_filter rfl rfl rfl rfl rfl rfl ?_ | split

theorem State.doPldmVersion_keeps {s0 : State} {s : State} (x2 : _) (h : Keeps s0 s) : Keeps s0 (State.doPldmVersion s x2) := by
  unfold State.doPldmVersion
  try dsimp only
  repeat' first | with_reducible assumption | intro _ | with_reducible (first | apply State.answer_keeps) | with_reducible apply Keeps.cond | with_reducible apply Keeps.foldl | (fail_if_no_progress with_reducible refine Keeps.of_mk rfl rfl rfl rfl rfl rfl ?_) | with_reducible refine Keeps.of_free rfl rfl rfl rfl rfl (Nat.le_add_right _ _) ?_ | with_reducible refine Keeps.of_filter rfl rfl rfl rfl rfl rfl ?_ | split

theorem State.doPldmCommands_keeps {s0 : State} {s : State} (x2 : _) (h : Keeps s0 s) : Keeps s0 (State.doPldmCommands s x2) := by
  unfold State.doPldmCommands
  try dsimp only
  repeat' first | with_reducible assumption | intro _ | with_reducible (first | apply State.answer_keeps) | with_reducible apply Keeps.cond | with_reducible apply Keeps.foldl | (fail_if_no_progress with_reducible refine Keeps.of_mk rfl rfl rfl rfl rfl rfl ?_) | with_reducible refine Keeps.of_free rfl rfl rfl rfl rfl (Nat.le_add_right _ _) ?_ | with_reducible refine Keeps.of_filter rfl rfl rfl rfl rfl rfl ?_ | split

theorem State.doSensors_keeps {s0 : State} {s : State} (x2 : _) (h : Keeps s0 s) : Keeps s0 (State.doSensors s x2) := by
  unfold State.doSensors
  try dsimp only
  repeat' first | with_reducible assumption | intro _ | with_reducible apply Keeps.cond | with_reducible apply Keeps.foldl | (fail_if_no_progress with_reducible refine Keeps.of_mk rfl rfl rfl rfl rfl rfl ?_) | with_reducible refine Keeps.of_free rfl rfl rfl rfl rfl (Nat.le_add_right _ _) ?_ | with_reducible refine Keeps.of_filter rfl rfl rfl rfl rfl rfl ?_ | split

theorem State.doSensorReading_keeps {s0 : State} {s : State} (x2 : _) (h : Keeps s0 s) : Keeps s0 (State.doSensorReading s x2) := by
  unfold State.doSensorReading
  try dsimp only
  repeat' first | with_reducible assumption | intro _ | with_reducible (first | apply State.answer_keeps) | with_reducible apply Keeps.cond | with_reducible apply Keeps.foldl | (fail_if_no_progress with_reducible refine Keeps.of_mk rfl rfl rfl rfl rfl rfl ?_) | with_reducible refine Keeps.of_free rfl rfl rfl rfl rfl (Nat.le_add_right _ _) ?_ | with_reducible refine Keeps.of_filter rfl rfl rfl rfl rfl rfl ?_ | split

theorem State.doStateReading_keeps {s0 : State} {s : State} (x2 : _) (h : Keeps s0 s) : Keeps s0 (State.doStateReading s x2) := by
  unfold State.doStateReading
  try dsimp only
  repeat' first | with_reducible assumption | intro _ | with_reducible (first | apply State.answer_keeps) | with_reducible apply Keeps.cond | with_reducible apply Keeps.foldl | (fail_if_no_progress with_reducible refine Keeps.of_mk rfl rfl rfl rfl rfl rfl ?_) | with_reducible refine Keeps.of_free rfl rfl rfl rfl rfl (Nat.le_add_right _ _) ?_ | with_reducible refine Keeps.of_filter rfl rfl rfl rfl rfl rfl ?_ | split

theorem State.serve_keeps {s0 : State} {s : State} (x2 : _) (x3 : _) (h : Keeps s0 s) : Keeps s0 (State.serve s x2 x3) := by
  unfold State.serve
  try dsimp only
  repeat' first | with_reducible assumption | intro _ | with_reducible (first | apply State.doSetEid_keeps | apply State.answer_keeps | apply State.doVersions_keeps | apply State.doVendorSupport_keeps | apply State.doGetStatus_keeps | apply State.doRegRead_keeps | apply State.doRegWrite_keeps | apply State.doEvtRead_keeps | apply State.doWarmMsg_keeps | apply State.doFlashBegin_keeps | apply State.doFlashWrite_keeps | apply State.doFlashEnd_keeps | apply State.doFlashStatus_keeps | apply State.doSoleRetry_keeps | apply State.doPldmVersion_keeps | apply State.doPldmCommands_keeps | apply State.doSensorReading_keeps | apply State.doStateReading_keeps) | with_reducible apply Keeps.cond | with_reducible apply Keeps.foldl | (fail_if_no_progress with_reducible refine Keeps.of_mk rfl rfl rfl rfl rfl rfl ?_) | with_reducible refine Keeps.of_free rfl rfl rfl rfl rfl (Nat.le_add_right _ _) ?_ | with_reducible refine Keeps.of_filter rfl rfl rfl rfl rfl rfl ?_ | split

theorem State.message_keeps {s0 : State} {s : State} (x2 : _) (x3 : _) (h : Keeps s0 s) : Keeps s0 (State.message s x2 x3) := by
  unfold State.message
  try dsimp only
  repeat' first | with_reducible assumption | intro _ | with_reducible (first | apply State.answer_keeps | apply State.serve_keeps | apply State.holdInput_keeps) | with_reducible apply Keeps.cond | with_reducible apply Keeps.foldl | (fail_if_no_progress with_reducible refine Keeps.of_mk rfl rfl rfl rfl rfl rfl ?_) | with_reducible refine Keeps.of_free rfl rfl rfl rfl rfl (Nat.le_add_right _ _) ?_ | with_reducible refine Keeps.of_filter rfl rfl rfl rfl rfl rfl ?_ | split

theorem State.criticalMsg_keeps {s0 : State} {s : State} (x2 : _) (h : Keeps s0 s) : Keeps s0 (State.criticalMsg s x2) := by
  unfold State.criticalMsg
  try dsimp only
  repeat' first | with_reducible assumption | intro _ | with_reducible (first | apply State.answer_keeps | apply State.doCriticalMsg_keeps) | with_reducible apply Keeps.cond | with_reducible apply Keeps.foldl | (fail_if_no_progress with_reducible refine Keeps.of_mk rfl rfl rfl rfl rfl rfl ?_) | with_reducible refine Keeps.of_free rfl rfl rfl rfl rfl (Nat.le_add_right _ _) ?_ | with_reducible refine Keeps.of_filter rfl rfl rfl rfl rfl rfl ?_ | split

theorem State.releaseInput_keeps {s0 : State} {s : State} (x2 : _) (h : Keeps s0 s) : Keeps s0 (State.releaseInput s x2) := by
  unfold State.releaseInput
  try dsimp only
  repeat' first | with_reducible assumption | intro _ | with_reducible (first | apply State.enterCrit_keeps | apply State.acceptMsLoad_keeps | apply State.acceptSynSet_keeps | apply State.serve_keeps | apply State.flashCommand_keeps) | with_reducible apply Keeps.cond | with_reducible apply Keeps.foldl | (fail_if_no_progress with_reducible refine Keeps.of_mk rfl rfl rfl rfl rfl rfl ?_) | with_reducible refine Keeps.of_free rfl rfl rfl rfl rfl (Nat.le_add_right _ _) ?_ | with_reducible refine Keeps.of_filter rfl rfl rfl rfl rfl rfl ?_ | split

theorem State.doFirstOutput_keeps {s0 : State} {s : State} (h : Keeps s0 s) : Keeps s0 (State.doFirstOutput s) := by
  unfold State.doFirstOutput
  try dsimp only
  repeat' first | with_reducible assumption | intro _ | with_reducible (first | apply State.journalReset_keeps | apply State.releaseInput_keeps) | with_reducible apply Keeps.cond | with_reducible apply Keeps.foldl | (fail_if_no_progress with_reducible refine Keeps.of_mk rfl rfl rfl rfl rfl rfl ?_) | with_reducible refine Keeps.of_free rfl rfl rfl rfl rfl (Nat.le_add_right _ _) ?_ | with_reducible refine Keeps.of_filter rfl rfl rfl rfl rfl rfl ?_ | split

theorem State.doEventWrite_keeps {s0 : State} {s : State} (h : Keeps s0 s) : Keeps s0 (State.doEventWrite s) := by
  unfold State.doEventWrite
  try dsimp only
  repeat' first | with_reducible assumption | intro _ | with_reducible (first | apply State.bump_keeps) | with_reducible apply Keeps.cond | with_reducible apply Keeps.foldl | (fail_if_no_progress with_reducible refine Keeps.of_mk rfl rfl rfl rfl rfl rfl ?_) | with_reducible refine Keeps.of_free rfl rfl rfl rfl rfl (Nat.le_add_right _ _) ?_ | with_reducible refine Keeps.of_filter rfl rfl rfl rfl rfl rfl ?_ | split

theorem State.awl_keeps {s0 s : State} (f : State → State) (hf : ∀ u, Keeps s0 u → Keeps s0 (f u)) (h : Keeps s0 s) : Keeps s0 (s.awl f) := by
  unfold State.awl
  repeat' first | with_reducible assumption | with_reducible apply hf | with_reducible apply Keeps.cond | intro _ | split | with_reducible refine Keeps.of_mk rfl rfl rfl rfl rfl rfl ?_

theorem State.awlDone_keeps {s0 : State} {s : State} (x2 : _) (h : Keeps s0 s) : Keeps s0 (State.awlDone s x2) := by
  unfold State.awlDone
  try dsimp only
  repeat' first | with_reducible assumption | intro _ | with_reducible (first | apply State.emit_keeps) | with_reducible apply Keeps.cond | with_reducible apply Keeps.foldl | (fail_if_no_progress with_reducible refine Keeps.of_mk rfl rfl rfl rfl rfl rfl ?_) | with_reducible refine Keeps.of_free rfl rfl rfl rfl rfl (Nat.le_add_right _ _) ?_ | with_reducible refine Keeps.of_filter rfl rfl rfl rfl rfl rfl ?_ | split

theorem State.awlRefused_keeps {s0 : State} {s : State} (x2 : _) (h : Keeps s0 s) : Keeps s0 (State.awlRefused s x2) := by
  unfold State.awlRefused
  try dsimp only
  repeat' first | with_reducible assumption | intro _ | with_reducible (first | apply State.emit_keeps) | with_reducible apply Keeps.cond | with_reducible apply Keeps.foldl | (fail_if_no_progress with_reducible refine Keeps.of_mk rfl rfl rfl rfl rfl rfl ?_) | with_reducible refine Keeps.of_free rfl rfl rfl rfl rfl (Nat.le_add_right _ _) ?_ | with_reducible refine Keeps.of_filter rfl rfl rfl rfl rfl rfl ?_ | split

theorem State.awlError_keeps {s0 : State} {s : State} (x2 : _) (h : Keeps s0 s) : Keeps s0 (State.awlError s x2) := by
  unfold State.awlError
  try dsimp only
  repeat' first | with_reducible assumption | intro _ | with_reducible (first | apply State.emit_keeps) | with_reducible apply Keeps.cond | with_reducible apply Keeps.foldl | (fail_if_no_progress with_reducible refine Keeps.of_mk rfl rfl rfl rfl rfl rfl ?_) | with_reducible refine Keeps.of_free rfl rfl rfl rfl rfl (Nat.le_add_right _ _) ?_ | with_reducible refine Keeps.of_filter rfl rfl rfl rfl rfl rfl ?_ | split

theorem State.awlCore_keeps {s0 : State} {s : State} (x2 : _) (x3 : _) (x4 : _) (h : Keeps s0 s) : Keeps s0 (State.awlCore s x2 x3 x4) := by
  unfold State.awlCore
  try dsimp only
  repeat' first | with_reducible assumption | intro _ | with_reducible (first | apply State.awlRefused_keeps | apply State.awlDone_keeps) | with_reducible apply Keeps.cond | with_reducible apply Keeps.foldl | (fail_if_no_progress with_reducible refine Keeps.of_mk rfl rfl rfl rfl rfl rfl ?_) | with_reducible refine Keeps.of_free rfl rfl rfl rfl rfl (Nat.le_add_right _ _) ?_ | with_reducible refine Keeps.of_filter rfl rfl rfl rfl rfl rfl ?_ | split

theorem State.doAwlPeek_keeps {s0 : State} {s : State} (x2 : _) (x3 : _) (x4 : _) (h : Keeps s0 s) : Keeps s0 (State.doAwlPeek s x2 x3 x4) := by
  unfold State.doAwlPeek
  try dsimp only
  repeat' first | with_reducible assumption | intro _ | with_reducible (first | apply State.awlDone_keeps | apply State.awlError_keeps | apply State.awlCore_keeps) | with_reducible apply Keeps.cond | with_reducible apply Keeps.foldl | (fail_if_no_progress with_reducible refine Keeps.of_mk rfl rfl rfl rfl rfl rfl ?_) | with_reducible refine Keeps.of_free rfl rfl rfl rfl rfl (Nat.le_add_right _ _) ?_ | with_reducible refine Keeps.of_filter rfl rfl rfl rfl rfl rfl ?_ | split

theorem State.awlReadReg_keeps {s0 : State} {s : State} (x2 : _) (x3 : _) (h : Keeps s0 s) : Keeps s0 (State.awlReadReg s x2 x3) := by
  unfold State.awlReadReg
  try dsimp only
  repeat' first | with_reducible assumption | intro _ | with_reducible (first | apply State.awlDone_keeps | apply State.hifDrop_keeps | apply State.lockRead_keeps | apply State.slackReset_keeps) | with_reducible apply Keeps.cond | with_reducible apply Keeps.foldl | (fail_if_no_progress with_reducible refine Keeps.of_mk rfl rfl rfl rfl rfl rfl ?_) | with_reducible refine Keeps.of_free rfl rfl rfl rfl rfl (Nat.le_add_right _ _) ?_ | with_reducible refine Keeps.of_filter rfl rfl rfl rfl rfl rfl ?_ | split

theorem State.doAwlRead_keeps {s0 : State} {s : State} (x2 : _) (x3 : _) (x4 : _) (h : Keeps s0 s) : Keeps s0 (State.doAwlRead s x2 x3 x4) := by
  unfold State.doAwlRead
  try dsimp only
  repeat' first | with_reducible assumption | intro _ | with_reducible (first | apply State.awlReadReg_keeps | apply State.awlRefused_keeps | apply State.recordAccess_keeps | apply State.awlDone_keeps | apply State.touch_keeps | apply State.awlCore_keeps | apply State.awlError_keeps) | with_reducible apply Keeps.cond | with_reducible apply Keeps.foldl | (fail_if_no_progress with_reducible refine Keeps.of_mk rfl rfl rfl rfl rfl rfl ?_) | with_reducible refine Keeps.of_free rfl rfl rfl rfl rfl (Nat.le_add_right _ _) ?_ | with_reducible refine Keeps.of_filter rfl rfl rfl rfl rfl rfl ?_ | split

theorem State.doAwlWrite_keeps {s0 : State} {s : State} (x2 : _) (x3 : _) (x4 : _) (h : Keeps s0 s) : Keeps s0 (State.doAwlWrite s x2 x3 x4) := by
  unfold State.doAwlWrite
  try dsimp only
  repeat' first | with_reducible assumption | intro _ | with_reducible (first | apply State.writeReg_keeps | apply State.awlDone_keeps | apply State.awlRefused_keeps | apply State.recordAccess_keeps | apply State.queueOwn_keeps | apply State.store_keeps | apply State.awlCore_keeps | apply State.awlError_keeps) | with_reducible apply Keeps.cond | with_reducible apply Keeps.foldl | (fail_if_no_progress with_reducible refine Keeps.of_mk rfl rfl rfl rfl rfl rfl ?_) | with_reducible refine Keeps.of_free rfl rfl rfl rfl rfl (Nat.le_add_right _ _) ?_ | with_reducible refine Keeps.of_filter rfl rfl rfl rfl rfl rfl ?_ | split

theorem State.haltPair_keeps {s0 : State} {s : State} (x2 : _) (h : Keeps s0 s) : Keeps s0 (State.haltPair s x2) := by
  unfold State.haltPair
  try dsimp only
  repeat' first | with_reducible assumption | intro _ | with_reducible (first | apply State.loseStandby_keeps | apply State.record_keeps) | with_reducible apply Keeps.cond | with_reducible apply Keeps.foldl | (fail_if_no_progress with_reducible refine Keeps.of_mk rfl rfl rfl rfl rfl rfl ?_) | with_reducible refine Keeps.of_free rfl rfl rfl rfl rfl (Nat.le_add_right _ _) ?_ | with_reducible refine Keeps.of_filter rfl rfl rfl rfl rfl rfl ?_ | split

theorem State.doAwlHalt_keeps {s0 : State} {s : State} (x2 : _) (h : Keeps s0 s) : Keeps s0 (State.doAwlHalt s x2) := by
  unfold State.doAwlHalt
  try dsimp only
  repeat' first | with_reducible assumption | intro _ | with_reducible (first | apply State.awlDone_keeps | apply State.haltPair_keeps | apply State.awlError_keeps) | with_reducible apply Keeps.cond | with_reducible apply Keeps.foldl | (fail_if_no_progress with_reducible refine Keeps.of_mk rfl rfl rfl rfl rfl rfl ?_) | with_reducible refine Keeps.of_free rfl rfl rfl rfl rfl (Nat.le_add_right _ _) ?_ | with_reducible refine Keeps.of_filter rfl rfl rfl rfl rfl rfl ?_ | split

theorem State.lockHalts_keeps {s0 : State} {s : State} (x2 : _) (x3 : _) (h : Keeps s0 s) : Keeps s0 (State.lockHalts s x2 x3) := by
  unfold State.lockHalts
  try dsimp only
  repeat' first | with_reducible assumption | intro _ | with_reducible apply Keeps.cond | with_reducible apply Keeps.foldl | (fail_if_no_progress with_reducible refine Keeps.of_mk rfl rfl rfl rfl rfl rfl ?_) | with_reducible refine Keeps.of_free rfl rfl rfl rfl rfl (Nat.le_add_right _ _) ?_ | with_reducible refine Keeps.of_filter rfl rfl rfl rfl rfl rfl ?_ | split

theorem State.resumeActive_keeps {s0 : State} {s : State} (x2 : _) (h : Keeps s0 s) : Keeps s0 (State.resumeActive s x2) := by
  unfold State.resumeActive
  try dsimp only
  repeat' first | with_reducible assumption | intro _ | with_reducible (first | apply State.flushJournal_keeps | apply State.record_keeps | apply State.releaseInput_keeps | apply State.startWork_keeps | apply State.runChecks_keeps | apply State.nextSector_keeps) | with_reducible apply Keeps.cond | with_reducible apply Keeps.foldl | (fail_if_no_progress with_reducible refine Keeps.of_mk rfl rfl rfl rfl rfl rfl ?_) | with_reducible refine Keeps.of_free rfl rfl rfl rfl rfl (Nat.le_add_right _ _) ?_ | with_reducible refine Keeps.of_filter rfl rfl rfl rfl rfl rfl ?_ | split

theorem State.resumePair_keeps {s0 : State} {s : State} (x2 : _) (x3 : _) (h : Keeps s0 s) : Keeps s0 (State.resumePair s x2 x3) := by
  unfold State.resumePair
  try dsimp only
  repeat' first | with_reducible assumption | intro _ | with_reducible (first | apply State.lockHalts_keeps | apply State.resumeActive_keeps | apply State.startTraining_keeps) | with_reducible apply Keeps.cond | with_reducible apply Keeps.foldl | (fail_if_no_progress with_reducible refine Keeps.of_mk rfl rfl rfl rfl rfl rfl ?_) | with_reducible refine Keeps.of_free rfl rfl rfl rfl rfl (Nat.le_add_right _ _) ?_ | with_reducible refine Keeps.of_filter rfl rfl rfl rfl rfl rfl ?_ | split

theorem State.doAwlResume_keeps {s0 : State} {s : State} (x2 : _) (h : Keeps s0 s) : Keeps s0 (State.doAwlResume s x2) := by
  unfold State.doAwlResume
  try dsimp only
  repeat' first | with_reducible assumption | intro _ | with_reducible (first | apply State.awlDone_keeps | apply State.resumePair_keeps | apply State.awlError_keeps) | with_reducible apply Keeps.cond | with_reducible apply Keeps.foldl | (fail_if_no_progress with_reducible refine Keeps.of_mk rfl rfl rfl rfl rfl rfl ?_) | with_reducible refine Keeps.of_free rfl rfl rfl rfl rfl (Nat.le_add_right _ _) ?_ | with_reducible refine Keeps.of_filter rfl rfl rfl rfl rfl rfl ?_ | split

theorem State.doAwlStep_keeps {s0 : State} {s : State} (x2 : _) (h : Keeps s0 s) : Keeps s0 (State.doAwlStep s x2) := by
  unfold State.doAwlStep
  try dsimp only
  repeat' first | with_reducible assumption | intro _ | with_reducible (first | apply State.awlDone_keeps | apply State.awlError_keeps) | with_reducible apply Keeps.cond | with_reducible apply Keeps.foldl | (fail_if_no_progress with_reducible refine Keeps.of_mk rfl rfl rfl rfl rfl rfl ?_) | with_reducible refine Keeps.of_free rfl rfl rfl rfl rfl (Nat.le_add_right _ _) ?_ | with_reducible refine Keeps.of_filter rfl rfl rfl rfl rfl rfl ?_ | split

theorem State.setTap_keeps {s0 : State} {s : State} (x2 : _) (h : Keeps s0 s) : Keeps s0 (State.setTap s x2) := by
  unfold State.setTap
  try dsimp only
  repeat' first | with_reducible assumption | intro _ | with_reducible apply Keeps.cond | with_reducible apply Keeps.foldl | (fail_if_no_progress with_reducible refine Keeps.of_mk rfl rfl rfl rfl rfl rfl ?_) | with_reducible refine Keeps.of_free rfl rfl rfl rfl rfl (Nat.le_add_right _ _) ?_ | with_reducible refine Keeps.of_filter rfl rfl rfl rfl rfl rfl ?_ | split

theorem State.cacheUpset_keeps {s0 : State} {s : State} (x2 : _) (h : Keeps s0 s) : Keeps s0 (State.cacheUpset s x2) := by
  unfold State.cacheUpset
  try dsimp only
  repeat' first | with_reducible assumption | intro _ | with_reducible (first | apply State.trigger_keeps | apply State.endCtx_keeps | apply State.record_keeps) | with_reducible apply Keeps.cond | with_reducible apply Keeps.foldl | (fail_if_no_progress with_reducible refine Keeps.of_mk rfl rfl rfl rfl rfl rfl ?_) | with_reducible refine Keeps.of_free rfl rfl rfl rfl rfl (Nat.le_add_right _ _) ?_ | with_reducible refine Keeps.of_filter rfl rfl rfl rfl rfl rfl ?_ | split

theorem State.replayUpset_keeps {s0 : State} {s : State} (x2 : _) (h : Keeps s0 s) : Keeps s0 (State.replayUpset s x2) := by
  unfold State.replayUpset
  try dsimp only
  repeat' first | with_reducible assumption | intro _ | with_reducible (first | apply State.linkDown_keeps | apply State.record_keeps) | with_reducible apply Keeps.cond | with_reducible apply Keeps.foldl | (fail_if_no_progress with_reducible refine Keeps.of_mk rfl rfl rfl rfl rfl rfl ?_) | with_reducible refine Keeps.of_free rfl rfl rfl rfl rfl (Nat.le_add_right _ _) ?_ | with_reducible refine Keeps.of_filter rfl rfl rfl rfl rfl rfl ?_ | split

theorem State.struck_keeps {s0 : State} {s : State} (x2 : _) (h : Keeps s0 s) : Keeps s0 (State.struck s x2) := by
  unfold State.struck
  try dsimp only
  repeat' first | with_reducible assumption | intro _ | with_reducible (first | apply State.abortWith_keeps | apply State.cacheUpset_keeps | apply State.replayUpset_keeps | apply State.record_keeps | apply State.bump_keeps) | with_reducible apply Keeps.cond | with_reducible apply Keeps.foldl | (fail_if_no_progress with_reducible refine Keeps.of_mk rfl rfl rfl rfl rfl rfl ?_) | with_reducible refine Keeps.of_free rfl rfl rfl rfl rfl (Nat.le_add_right _ _) ?_ | with_reducible refine Keeps.of_filter rfl rfl rfl rfl rfl rfl ?_ | split

theorem State.softError_keeps {s0 : State} {s : State} (h : Keeps s0 s) : Keeps s0 (State.softError s) := by
  unfold State.softError
  try dsimp only
  repeat' first | with_reducible assumption | intro _ | with_reducible (first | apply State.struck_keeps) | with_reducible apply Keeps.cond | with_reducible apply Keeps.foldl | (fail_if_no_progress with_reducible refine Keeps.of_mk rfl rfl rfl rfl rfl rfl ?_) | with_reducible refine Keeps.of_free rfl rfl rfl rfl rfl (Nat.le_add_right _ _) ?_ | with_reducible refine Keeps.of_filter rfl rfl rfl rfl rfl rfl ?_ | split

theorem State.idle_keeps {s0 : State} {s : State} (h : Keeps s0 s) : Keeps s0 (State.idle s) := by
  unfold State.idle
  try dsimp only
  repeat' first | with_reducible assumption | intro _ | with_reducible (first | apply State.softError_keeps | apply State.powerLoops_keeps | apply State.tick_keeps | apply State.endCycle_keeps) | with_reducible apply Keeps.cond | with_reducible apply Keeps.foldl | (fail_if_no_progress with_reducible refine Keeps.of_mk rfl rfl rfl rfl rfl rfl ?_) | with_reducible refine Keeps.of_free rfl rfl rfl rfl rfl (Nat.le_add_right _ _) ?_ | with_reducible refine Keeps.of_filter rfl rfl rfl rfl rfl rfl ?_ | split

theorem State.stageLast_keeps {s0 : State} {s : State} (x2 : _) (x3 : _) (h : Keeps s0 s) : Keeps s0 (State.stageLast s x2 x3) := by
  unfold State.stageLast
  try dsimp only
  repeat' first | with_reducible assumption | intro _ | with_reducible (first | apply State.modLast_keeps | apply State.preloadRow_keeps | apply State.armSets_keeps | apply State.nameLeaving_keeps) | with_reducible apply Keeps.cond | with_reducible apply Keeps.foldl | (fail_if_no_progress with_reducible refine Keeps.of_mk rfl rfl rfl rfl rfl rfl ?_) | with_reducible refine Keeps.of_free rfl rfl rfl rfl rfl (Nat.le_add_right _ _) ?_ | with_reducible refine Keeps.of_filter rfl rfl rfl rfl rfl rfl ?_ | split

theorem State.settleLoad_keeps {s0 : State} {s : State} (x2 : _) (x3 : _) (x4 : _) (h : Keeps s0 s) : Keeps s0 (State.settleLoad s x2 x3 x4) := by
  unfold State.settleLoad
  try dsimp only
  repeat' first | with_reducible assumption | intro _ | with_reducible (first | apply State.stageLast_keeps) | with_reducible apply Keeps.cond | with_reducible apply Keeps.foldl | (fail_if_no_progress with_reducible refine Keeps.of_mk rfl rfl rfl rfl rfl rfl ?_) | with_reducible refine Keeps.of_free rfl rfl rfl rfl rfl (Nat.le_add_right _ _) ?_ | with_reducible refine Keeps.of_filter rfl rfl rfl rfl rfl rfl ?_ | split

theorem State.endLoad_keeps {s0 s : State} (c : Crit) (x : Sections) (h : Keeps s0 s) : Keeps s0 (s.endLoad c x) :=
  State.startWork_keeps (State.endWork_keeps _ _ (State.settleLoad_keeps _ _ _ h))

theorem State.doValidationDone_keeps {s0 : State} {s : State} (x2 : _) (h : Keeps s0 s) : Keeps s0 (State.doValidationDone s x2) := by
  unfold State.doValidationDone
  try dsimp only
  repeat' first | with_reducible assumption | intro _ | with_reducible (first | apply State.endLoad_keeps) | with_reducible apply Keeps.cond | with_reducible apply Keeps.foldl | (fail_if_no_progress with_reducible refine Keeps.of_mk rfl rfl rfl rfl rfl rfl ?_) | with_reducible refine Keeps.of_free rfl rfl rfl rfl rfl (Nat.le_add_right _ _) ?_ | with_reducible refine Keeps.of_filter rfl rfl rfl rfl rfl rfl ?_ | split

end Sys2Proof.Machine
end

