-- ==== Sys2Proof/Laws/State.lean ====
section
/-! SUPPORT. What each named update of the state leaves as it was, field by field, and what reading back gives. -/

namespace Sys2Proof.Machine

namespace State

/-! ### Reading back -/

@[simp] theorem tile_setTile_same (s : State) (k : Nat) (x : Tile) : (s.setTile k x).tile k = x := Tbl.get_set_same _ _ _ _
theorem tile_setTile_other (s : State) {j k : Nat} (x : Tile) (h : j ≠ k) : (s.setTile k x).tile j = s.tile j := Tbl.get_set_other _ _ _ h _
@[simp] theorem seq_setSeq_same (s : State) (k : Nat) (x : RowSeq) : (s.setSeq k x).seq k = x := Tbl.get_set_same _ _ _ _
theorem seq_setSeq_other (s : State) {j k : Nat} (x : RowSeq) (h : j ≠ k) : (s.setSeq k x).seq j = s.seq j := Tbl.get_set_other _ _ _ h _
@[simp] theorem chan_setChan_same (s : State) (k : Nat) (x : Chan) : (s.setChan k x).chan k = x := Tbl.get_set_same _ _ _ _
theorem chan_setChan_other (s : State) {j k : Nat} (x : Chan) (h : j ≠ k) : (s.setChan k x).chan j = s.chan j := Tbl.get_set_other _ _ _ h _
@[simp] theorem obj_setObj_same (s : State) (k : Nat) (x : SyObj) : (s.setObj k x).obj k = x := Tbl.get_set_same _ _ _ _
theorem obj_setObj_other (s : State) {j k : Nat} (x : SyObj) (h : j ≠ k) : (s.setObj k x).obj j = s.obj j := Tbl.get_set_other _ _ _ h _
@[simp] theorem lnk_setLnk_same (s : State) (k : Nat) (x : LinkLn) : (s.setLnk k x).lnk k = x := Tbl.get_set_same _ _ _ _
theorem lnk_setLnk_other (s : State) {j k : Nat} (x : LinkLn) (h : j ≠ k) : (s.setLnk k x).lnk j = s.lnk j := Tbl.get_set_other _ _ _ h _
@[simp] theorem lkk_setLkk_same (s : State) (k : Nat) (x : LinkLk) : (s.setLkk k x).lkk k = x := Tbl.get_set_same _ _ _ _
theorem lkk_setLkk_other (s : State) {j k : Nat} (x : LinkLk) (h : j ≠ k) : (s.setLkk k x).lkk j = s.lkk j := Tbl.get_set_other _ _ _ h _
@[simp] theorem dir_setDir_same (s : State) (k : Nat) (x : WDir) : (s.setDir k x).dir k = x := Tbl.get_set_same _ _ _ _
theorem dir_setDir_other (s : State) {j k : Nat} (x : WDir) (h : j ≠ k) : (s.setDir k x).dir j = s.dir j := Tbl.get_set_other _ _ _ h _
@[simp] theorem key_setKey_same (s : State) (k : Nat) (x : KeySlot) : (s.setKey k x).key k = x := Tbl.get_set_same _ _ _ _
theorem key_setKey_other (s : State) {j k : Nat} (x : KeySlot) (h : j ≠ k) : (s.setKey k x).key j = s.key j := Tbl.get_set_other _ _ _ h _
@[simp] theorem ring_setRing_same (s : State) (k : Nat) (x : RingQ) : (s.setRing k x).ring k = x := Tbl.get_set_same _ _ _ _
theorem ring_setRing_other (s : State) {j k : Nat} (x : RingQ) (h : j ≠ k) : (s.setRing k x).ring j = s.ring j := Tbl.get_set_other _ _ _ h _
@[simp] theorem lock_setLock_same (s : State) (k : Nat) (x : Lock) : (s.setLock k x).lock k = x := Tbl.get_set_same _ _ _ _
theorem lock_setLock_other (s : State) {j k : Nat} (x : Lock) (h : j ≠ k) : (s.setLock k x).lock j = s.lock j := Tbl.get_set_other _ _ _ h _
@[simp] theorem shutter_setShutter_same (s : State) (k : Nat) (x : Shutter) : (s.setShutter k x).shutter k = x := Tbl.get_set_same _ _ _ _
theorem shutter_setShutter_other (s : State) {j k : Nat} (x : Shutter) (h : j ≠ k) : (s.setShutter k x).shutter j = s.shutter j := Tbl.get_set_other _ _ _ h _
@[simp] theorem word_setWord_same (s : State) (off : Nat) (w : Word) : (s.setWord off w).word off = w := Tbl.get_set_same (coldWord off) w off _
theorem word_setWord_other (s : State) {a b : Nat} (w : Word) (h : a ≠ b) : (s.setWord b w).word a = s.word a := Tbl.get_set_other _ _ _ h _

/-! ### Field by field -/

@[simp] theorem setWord_clk (s : State) (off : Nat) (w : Word) : (s.setWord off w).clk = s.clk := rfl
@[simp] theorem setWord_abort (s : State) (off : Nat) (w : Word) : (s.setWord off w).abort = s.abort := rfl
@[simp] theorem setWord_abortRun (s : State) (off : Nat) (w : Word) : (s.setWord off w).abortRun = s.abortRun := rfl
@[simp] theorem setWord_abortHeld (s : State) (off : Nat) (w : Word) : (s.setWord off w).abortHeld = s.abortHeld := rfl
@[simp] theorem setWord_pend (s : State) (off : Nat) (w : Word) : (s.setWord off w).pend = s.pend := rfl
@[simp] theorem setWord_banks (s : State) (off : Nat) (w : Word) : (s.setWord off w).banks = s.banks := rfl
@[simp] theorem setWord_mem (s : State) (off : Nat) (w : Word) : (s.setWord off w).mem = s.mem := rfl
@[simp] theorem setWord_memErr (s : State) (off : Nat) (w : Word) : (s.setWord off w).memErr = s.memErr := rfl
@[simp] theorem setWord_tiles (s : State) (off : Nat) (w : Word) : (s.setWord off w).tiles = s.tiles := rfl
@[simp] theorem setWord_seqs (s : State) (off : Nat) (w : Word) : (s.setWord off w).seqs = s.seqs := rfl
@[simp] theorem setWord_work (s : State) (off : Nat) (w : Word) : (s.setWord off w).work = s.work := rfl
@[simp] theorem setWord_setNow (s : State) (off : Nat) (w : Word) : (s.setWord off w).setNow = s.setNow := rfl
@[simp] theorem setWord_wrote (s : State) (off : Nat) (w : Word) : (s.setWord off w).wrote = s.wrote := rfl
@[simp] theorem setWord_hbm (s : State) (off : Nat) (w : Word) : (s.setWord off w).hbm = s.hbm := rfl
@[simp] theorem setWord_ctx (s : State) (off : Nat) (w : Word) : (s.setWord off w).ctx = s.ctx := rfl
@[simp] theorem setWord_sync (s : State) (off : Nat) (w : Word) : (s.setWord off w).sync = s.sync := rfl
@[simp] theorem setWord_cmd (s : State) (off : Nat) (w : Word) : (s.setWord off w).cmd = s.cmd := rfl
@[simp] theorem setWord_host (s : State) (off : Nat) (w : Word) : (s.setWord off w).host = s.host := rfl
@[simp] theorem setWord_br (s : State) (off : Nat) (w : Word) : (s.setWord off w).br = s.br := rfl
@[simp] theorem setWord_opt (s : State) (off : Nat) (w : Word) : (s.setWord off w).opt = s.opt := rfl
@[simp] theorem setWord_ln (s : State) (off : Nat) (w : Word) : (s.setWord off w).ln = s.ln := rfl
@[simp] theorem setWord_lk (s : State) (off : Nat) (w : Word) : (s.setWord off w).lk = s.lk := rfl
@[simp] theorem setWord_fab (s : State) (off : Nat) (w : Word) : (s.setWord off w).fab = s.fab := rfl
@[simp] theorem setWord_fuse (s : State) (off : Nat) (w : Word) : (s.setWord off w).fuse = s.fuse := rfl
@[simp] theorem setWord_boot (s : State) (off : Nat) (w : Word) : (s.setWord off w).boot = s.boot := rfl
@[simp] theorem setWord_shk (s : State) (off : Nat) (w : Word) : (s.setWord off w).shk = s.shk := rfl
@[simp] theorem setWord_flash (s : State) (off : Nat) (w : Word) : (s.setWord off w).flash = s.flash := rfl
@[simp] theorem setWord_nor (s : State) (off : Nat) (w : Word) : (s.setWord off w).nor = s.nor := rfl
@[simp] theorem setWord_mgt (s : State) (off : Nat) (w : Word) : (s.setWord off w).mgt = s.mgt := rfl
@[simp] theorem setWord_freeNext (s : State) (off : Nat) (w : Word) : (s.setWord off w).freeNext = s.freeNext := rfl
@[simp] theorem setWord_out (s : State) (off : Nat) (w : Word) : (s.setWord off w).out = s.out := rfl
@[simp] theorem setWord_pending (s : State) (off : Nat) (w : Word) : (s.setWord off w).pending = s.pending := rfl

@[simp] theorem setTile_clk (s : State) (k : Nat) (x : Tile) : (s.setTile k x).clk = s.clk := rfl
@[simp] theorem setTile_abort (s : State) (k : Nat) (x : Tile) : (s.setTile k x).abort = s.abort := rfl
@[simp] theorem setTile_abortRun (s : State) (k : Nat) (x : Tile) : (s.setTile k x).abortRun = s.abortRun := rfl
@[simp] theorem setTile_abortHeld (s : State) (k : Nat) (x : Tile) : (s.setTile k x).abortHeld = s.abortHeld := rfl
@[simp] theorem setTile_regs (s : State) (k : Nat) (x : Tile) : (s.setTile k x).regs = s.regs := rfl
@[simp] theorem setTile_pend (s : State) (k : Nat) (x : Tile) : (s.setTile k x).pend = s.pend := rfl
@[simp] theorem setTile_banks (s : State) (k : Nat) (x : Tile) : (s.setTile k x).banks = s.banks := rfl
@[simp] theorem setTile_mem (s : State) (k : Nat) (x : Tile) : (s.setTile k x).mem = s.mem := rfl
@[simp] theorem setTile_memErr (s : State) (k : Nat) (x : Tile) : (s.setTile k x).memErr = s.memErr := rfl
@[simp] theorem setTile_seqs (s : State) (k : Nat) (x : Tile) : (s.setTile k x).seqs = s.seqs := rfl
@[simp] theorem setTile_work (s : State) (k : Nat) (x : Tile) : (s.setTile k x).work = s.work := rfl
@[simp] theorem setTile_setNow (s : State) (k : Nat) (x : Tile) : (s.setTile k x).setNow = s.setNow := rfl
@[simp] theorem setTile_wrote (s : State) (k : Nat) (x : Tile) : (s.setTile k x).wrote = s.wrote := rfl
@[simp] theorem setTile_hbm (s : State) (k : Nat) (x : Tile) : (s.setTile k x).hbm = s.hbm := rfl
@[simp] theorem setTile_ctx (s : State) (k : Nat) (x : Tile) : (s.setTile k x).ctx = s.ctx := rfl
@[simp] theorem setTile_sync (s : State) (k : Nat) (x : Tile) : (s.setTile k x).sync = s.sync := rfl
@[simp] theorem setTile_cmd (s : State) (k : Nat) (x : Tile) : (s.setTile k x).cmd = s.cmd := rfl
@[simp] theorem setTile_host (s : State) (k : Nat) (x : Tile) : (s.setTile k x).host = s.host := rfl
@[simp] theorem setTile_br (s : State) (k : Nat) (x : Tile) : (s.setTile k x).br = s.br := rfl
@[simp] theorem setTile_opt (s : State) (k : Nat) (x : Tile) : (s.setTile k x).opt = s.opt := rfl
@[simp] theorem setTile_ln (s : State) (k : Nat) (x : Tile) : (s.setTile k x).ln = s.ln := rfl
@[simp] theorem setTile_lk (s : State) (k : Nat) (x : Tile) : (s.setTile k x).lk = s.lk := rfl
@[simp] theorem setTile_fab (s : State) (k : Nat) (x : Tile) : (s.setTile k x).fab = s.fab := rfl
@[simp] theorem setTile_fuse (s : State) (k : Nat) (x : Tile) : (s.setTile k x).fuse = s.fuse := rfl
@[simp] theorem setTile_boot (s : State) (k : Nat) (x : Tile) : (s.setTile k x).boot = s.boot := rfl
@[simp] theorem setTile_shk (s : State) (k : Nat) (x : Tile) : (s.setTile k x).shk = s.shk := rfl
@[simp] theorem setTile_flash (s : State) (k : Nat) (x : Tile) : (s.setTile k x).flash = s.flash := rfl
@[simp] theorem setTile_nor (s : State) (k : Nat) (x : Tile) : (s.setTile k x).nor = s.nor := rfl
@[simp] theorem setTile_mgt (s : State) (k : Nat) (x : Tile) : (s.setTile k x).mgt = s.mgt := rfl
@[simp] theorem setTile_freeNext (s : State) (k : Nat) (x : Tile) : (s.setTile k x).freeNext = s.freeNext := rfl
@[simp] theorem setTile_out (s : State) (k : Nat) (x : Tile) : (s.setTile k x).out = s.out := rfl
@[simp] theorem setTile_pending (s : State) (k : Nat) (x : Tile) : (s.setTile k x).pending = s.pending := rfl

@[simp] theorem setSeq_clk (s : State) (r : Nat) (x : RowSeq) : (s.setSeq r x).clk = s.clk := rfl
@[simp] theorem setSeq_abort (s : State) (r : Nat) (x : RowSeq) : (s.setSeq r x).abort = s.abort := rfl
@[simp] theorem setSeq_abortRun (s : State) (r : Nat) (x : RowSeq) : (s.setSeq r x).abortRun = s.abortRun := rfl
@[simp] theorem setSeq_abortHeld (s : State) (r : Nat) (x : RowSeq) : (s.setSeq r x).abortHeld = s.abortHeld := rfl
@[simp] theorem setSeq_regs (s : State) (r : Nat) (x : RowSeq) : (s.setSeq r x).regs = s.regs := rfl
@[simp] theorem setSeq_pend (s : State) (r : Nat) (x : RowSeq) : (s.setSeq r x).pend = s.pend := rfl
@[simp] theorem setSeq_banks (s : State) (r : Nat) (x : RowSeq) : (s.setSeq r x).banks = s.banks := rfl
@[simp] theorem setSeq_mem (s : State) (r : Nat) (x : RowSeq) : (s.setSeq r x).mem = s.mem := rfl
@[simp] theorem setSeq_memErr (s : State) (r : Nat) (x : RowSeq) : (s.setSeq r x).memErr = s.memErr := rfl
@[simp] theorem setSeq_tiles (s : State) (r : Nat) (x : RowSeq) : (s.setSeq r x).tiles = s.tiles := rfl
@[simp] theorem setSeq_work (s : State) (r : Nat) (x : RowSeq) : (s.setSeq r x).work = s.work := rfl
@[simp] theorem setSeq_setNow (s : State) (r : Nat) (x : RowSeq) : (s.setSeq r x).setNow = s.setNow := rfl
@[simp] theorem setSeq_wrote (s : State) (r : Nat) (x : RowSeq) : (s.setSeq r x).wrote = s.wrote := rfl
@[simp] theorem setSeq_hbm (s : State) (r : Nat) (x : RowSeq) : (s.setSeq r x).hbm = s.hbm := rfl
@[simp] theorem setSeq_ctx (s : State) (r : Nat) (x : RowSeq) : (s.setSeq r x).ctx = s.ctx := rfl
@[simp] theorem setSeq_sync (s : State) (r : Nat) (x : RowSeq) : (s.setSeq r x).sync = s.sync := rfl
@[simp] theorem setSeq_cmd (s : State) (r : Nat) (x : RowSeq) : (s.setSeq r x).cmd = s.cmd := rfl
@[simp] theorem setSeq_host (s : State) (r : Nat) (x : RowSeq) : (s.setSeq r x).host = s.host := rfl
@[simp] theorem setSeq_br (s : State) (r : Nat) (x : RowSeq) : (s.setSeq r x).br = s.br := rfl
@[simp] theorem setSeq_opt (s : State) (r : Nat) (x : RowSeq) : (s.setSeq r x).opt = s.opt := rfl
@[simp] theorem setSeq_ln (s : State) (r : Nat) (x : RowSeq) : (s.setSeq r x).ln = s.ln := rfl
@[simp] theorem setSeq_lk (s : State) (r : Nat) (x : RowSeq) : (s.setSeq r x).lk = s.lk := rfl
@[simp] theorem setSeq_fab (s : State) (r : Nat) (x : RowSeq) : (s.setSeq r x).fab = s.fab := rfl
@[simp] theorem setSeq_fuse (s : State) (r : Nat) (x : RowSeq) : (s.setSeq r x).fuse = s.fuse := rfl
@[simp] theorem setSeq_boot (s : State) (r : Nat) (x : RowSeq) : (s.setSeq r x).boot = s.boot := rfl
@[simp] theorem setSeq_shk (s : State) (r : Nat) (x : RowSeq) : (s.setSeq r x).shk = s.shk := rfl
@[simp] theorem setSeq_flash (s : State) (r : Nat) (x : RowSeq) : (s.setSeq r x).flash = s.flash := rfl
@[simp] theorem setSeq_nor (s : State) (r : Nat) (x : RowSeq) : (s.setSeq r x).nor = s.nor := rfl
@[simp] theorem setSeq_mgt (s : State) (r : Nat) (x : RowSeq) : (s.setSeq r x).mgt = s.mgt := rfl
@[simp] theorem setSeq_freeNext (s : State) (r : Nat) (x : RowSeq) : (s.setSeq r x).freeNext = s.freeNext := rfl
@[simp] theorem setSeq_out (s : State) (r : Nat) (x : RowSeq) : (s.setSeq r x).out = s.out := rfl
@[simp] theorem setSeq_pending (s : State) (r : Nat) (x : RowSeq) : (s.setSeq r x).pending = s.pending := rfl

@[simp] theorem setChan_clk (s : State) (c : Nat) (x : Chan) : (s.setChan c x).clk = s.clk := rfl
@[simp] theorem setChan_abort (s : State) (c : Nat) (x : Chan) : (s.setChan c x).abort = s.abort := rfl
@[simp] theorem setChan_abortRun (s : State) (c : Nat) (x : Chan) : (s.setChan c x).abortRun = s.abortRun := rfl
@[simp] theorem setChan_abortHeld (s : State) (c : Nat) (x : Chan) : (s.setChan c x).abortHeld = s.abortHeld := rfl
@[simp] theorem setChan_regs (s : State) (c : Nat) (x : Chan) : (s.setChan c x).regs = s.regs := rfl
@[simp] theorem setChan_pend (s : State) (c : Nat) (x : Chan) : (s.setChan c x).pend = s.pend := rfl
@[simp] theorem setChan_banks (s : State) (c : Nat) (x : Chan) : (s.setChan c x).banks = s.banks := rfl
@[simp] theorem setChan_mem (s : State) (c : Nat) (x : Chan) : (s.setChan c x).mem = s.mem := rfl
@[simp] theorem setChan_memErr (s : State) (c : Nat) (x : Chan) : (s.setChan c x).memErr = s.memErr := rfl
@[simp] theorem setChan_tiles (s : State) (c : Nat) (x : Chan) : (s.setChan c x).tiles = s.tiles := rfl
@[simp] theorem setChan_seqs (s : State) (c : Nat) (x : Chan) : (s.setChan c x).seqs = s.seqs := rfl
@[simp] theorem setChan_work (s : State) (c : Nat) (x : Chan) : (s.setChan c x).work = s.work := rfl
@[simp] theorem setChan_setNow (s : State) (c : Nat) (x : Chan) : (s.setChan c x).setNow = s.setNow := rfl
@[simp] theorem setChan_wrote (s : State) (c : Nat) (x : Chan) : (s.setChan c x).wrote = s.wrote := rfl
@[simp] theorem setChan_ctx (s : State) (c : Nat) (x : Chan) : (s.setChan c x).ctx = s.ctx := rfl
@[simp] theorem setChan_sync (s : State) (c : Nat) (x : Chan) : (s.setChan c x).sync = s.sync := rfl
@[simp] theorem setChan_cmd (s : State) (c : Nat) (x : Chan) : (s.setChan c x).cmd = s.cmd := rfl
@[simp] theorem setChan_host (s : State) (c : Nat) (x : Chan) : (s.setChan c x).host = s.host := rfl
@[simp] theorem setChan_br (s : State) (c : Nat) (x : Chan) : (s.setChan c x).br = s.br := rfl
@[simp] theorem setChan_opt (s : State) (c : Nat) (x : Chan) : (s.setChan c x).opt = s.opt := rfl
@[simp] theorem setChan_ln (s : State) (c : Nat) (x : Chan) : (s.setChan c x).ln = s.ln := rfl
@[simp] theorem setChan_lk (s : State) (c : Nat) (x : Chan) : (s.setChan c x).lk = s.lk := rfl
@[simp] theorem setChan_fab (s : State) (c : Nat) (x : Chan) : (s.setChan c x).fab = s.fab := rfl
@[simp] theorem setChan_fuse (s : State) (c : Nat) (x : Chan) : (s.setChan c x).fuse = s.fuse := rfl
@[simp] theorem setChan_boot (s : State) (c : Nat) (x : Chan) : (s.setChan c x).boot = s.boot := rfl
@[simp] theorem setChan_shk (s : State) (c : Nat) (x : Chan) : (s.setChan c x).shk = s.shk := rfl
@[simp] theorem setChan_flash (s : State) (c : Nat) (x : Chan) : (s.setChan c x).flash = s.flash := rfl
@[simp] theorem setChan_nor (s : State) (c : Nat) (x : Chan) : (s.setChan c x).nor = s.nor := rfl
@[simp] theorem setChan_mgt (s : State) (c : Nat) (x : Chan) : (s.setChan c x).mgt = s.mgt := rfl
@[simp] theorem setChan_freeNext (s : State) (c : Nat) (x : Chan) : (s.setChan c x).freeNext = s.freeNext := rfl
@[simp] theorem setChan_out (s : State) (c : Nat) (x : Chan) : (s.setChan c x).out = s.out := rfl
@[simp] theorem setChan_pending (s : State) (c : Nat) (x : Chan) : (s.setChan c x).pending = s.pending := rfl

@[simp] theorem setObj_clk (s : State) (k : Nat) (x : SyObj) : (s.setObj k x).clk = s.clk := rfl
@[simp] theorem setObj_abort (s : State) (k : Nat) (x : SyObj) : (s.setObj k x).abort = s.abort := rfl
@[simp] theorem setObj_abortRun (s : State) (k : Nat) (x : SyObj) : (s.setObj k x).abortRun = s.abortRun := rfl
@[simp] theorem setObj_abortHeld (s : State) (k : Nat) (x : SyObj) : (s.setObj k x).abortHeld = s.abortHeld := rfl
@[simp] theorem setObj_regs (s : State) (k : Nat) (x : SyObj) : (s.setObj k x).regs = s.regs := rfl
@[simp] theorem setObj_pend (s : State) (k : Nat) (x : SyObj) : (s.setObj k x).pend = s.pend := rfl
@[simp] theorem setObj_banks (s : State) (k : Nat) (x : SyObj) : (s.setObj k x).banks = s.banks := rfl
@[simp] theorem setObj_mem (s : State) (k : Nat) (x : SyObj) : (s.setObj k x).mem = s.mem := rfl
@[simp] theorem setObj_memErr (s : State) (k : Nat) (x : SyObj) : (s.setObj k x).memErr = s.memErr := rfl
@[simp] theorem setObj_tiles (s : State) (k : Nat) (x : SyObj) : (s.setObj k x).tiles = s.tiles := rfl
@[simp] theorem setObj_seqs (s : State) (k : Nat) (x : SyObj) : (s.setObj k x).seqs = s.seqs := rfl
@[simp] theorem setObj_work (s : State) (k : Nat) (x : SyObj) : (s.setObj k x).work = s.work := rfl
@[simp] theorem setObj_setNow (s : State) (k : Nat) (x : SyObj) : (s.setObj k x).setNow = s.setNow := rfl
@[simp] theorem setObj_wrote (s : State) (k : Nat) (x : SyObj) : (s.setObj k x).wrote = s.wrote := rfl
@[simp] theorem setObj_hbm (s : State) (k : Nat) (x : SyObj) : (s.setObj k x).hbm = s.hbm := rfl
@[simp] theorem setObj_ctx (s : State) (k : Nat) (x : SyObj) : (s.setObj k x).ctx = s.ctx := rfl
@[simp] theorem setObj_cmd (s : State) (k : Nat) (x : SyObj) : (s.setObj k x).cmd = s.cmd := rfl
@[simp] theorem setObj_host (s : State) (k : Nat) (x : SyObj) : (s.setObj k x).host = s.host := rfl
@[simp] theorem setObj_br (s : State) (k : Nat) (x : SyObj) : (s.setObj k x).br = s.br := rfl
@[simp] theorem setObj_opt (s : State) (k : Nat) (x : SyObj) : (s.setObj k x).opt = s.opt := rfl
@[simp] theorem setObj_ln (s : State) (k : Nat) (x : SyObj) : (s.setObj k x).ln = s.ln := rfl
@[simp] theorem setObj_lk (s : State) (k : Nat) (x : SyObj) : (s.setObj k x).lk = s.lk := rfl
@[simp] theorem setObj_fab (s : State) (k : Nat) (x : SyObj) : (s.setObj k x).fab = s.fab := rfl
@[simp] theorem setObj_fuse (s : State) (k : Nat) (x : SyObj) : (s.setObj k x).fuse = s.fuse := rfl
@[simp] theorem setObj_boot (s : State) (k : Nat) (x : SyObj) : (s.setObj k x).boot = s.boot := rfl
@[simp] theorem setObj_shk (s : State) (k : Nat) (x : SyObj) : (s.setObj k x).shk = s.shk := rfl
@[simp] theorem setObj_flash (s : State) (k : Nat) (x : SyObj) : (s.setObj k x).flash = s.flash := rfl
@[simp] theorem setObj_nor (s : State) (k : Nat) (x : SyObj) : (s.setObj k x).nor = s.nor := rfl
@[simp] theorem setObj_mgt (s : State) (k : Nat) (x : SyObj) : (s.setObj k x).mgt = s.mgt := rfl
@[simp] theorem setObj_freeNext (s : State) (k : Nat) (x : SyObj) : (s.setObj k x).freeNext = s.freeNext := rfl
@[simp] theorem setObj_out (s : State) (k : Nat) (x : SyObj) : (s.setObj k x).out = s.out := rfl
@[simp] theorem setObj_pending (s : State) (k : Nat) (x : SyObj) : (s.setObj k x).pending = s.pending := rfl

@[simp] theorem emit_clk (s : State) (o : Out) : (s.emit o).clk = s.clk := rfl
@[simp] theorem emit_abort (s : State) (o : Out) : (s.emit o).abort = s.abort := rfl
@[simp] theorem emit_abortRun (s : State) (o : Out) : (s.emit o).abortRun = s.abortRun := rfl
@[simp] theorem emit_abortHeld (s : State) (o : Out) : (s.emit o).abortHeld = s.abortHeld := rfl
@[simp] theorem emit_regs (s : State) (o : Out) : (s.emit o).regs = s.regs := rfl
@[simp] theorem emit_pend (s : State) (o : Out) : (s.emit o).pend = s.pend := rfl
@[simp] theorem emit_banks (s : State) (o : Out) : (s.emit o).banks = s.banks := rfl
@[simp] theorem emit_mem (s : State) (o : Out) : (s.emit o).mem = s.mem := rfl
@[simp] theorem emit_memErr (s : State) (o : Out) : (s.emit o).memErr = s.memErr := rfl
@[simp] theorem emit_tiles (s : State) (o : Out) : (s.emit o).tiles = s.tiles := rfl
@[simp] theorem emit_seqs (s : State) (o : Out) : (s.emit o).seqs = s.seqs := rfl
@[simp] theorem emit_work (s : State) (o : Out) : (s.emit o).work = s.work := rfl
@[simp] theorem emit_setNow (s : State) (o : Out) : (s.emit o).setNow = s.setNow := rfl
@[simp] theorem emit_wrote (s : State) (o : Out) : (s.emit o).wrote = s.wrote := rfl
@[simp] theorem emit_hbm (s : State) (o : Out) : (s.emit o).hbm = s.hbm := rfl
@[simp] theorem emit_ctx (s : State) (o : Out) : (s.emit o).ctx = s.ctx := rfl
@[simp] theorem emit_sync (s : State) (o : Out) : (s.emit o).sync = s.sync := rfl
@[simp] theorem emit_cmd (s : State) (o : Out) : (s.emit o).cmd = s.cmd := rfl
@[simp] theorem emit_host (s : State) (o : Out) : (s.emit o).host = s.host := rfl
@[simp] theorem emit_br (s : State) (o : Out) : (s.emit o).br = s.br := rfl
@[simp] theorem emit_opt (s : State) (o : Out) : (s.emit o).opt = s.opt := rfl
@[simp] theorem emit_ln (s : State) (o : Out) : (s.emit o).ln = s.ln := rfl
@[simp] theorem emit_lk (s : State) (o : Out) : (s.emit o).lk = s.lk := rfl
@[simp] theorem emit_fab (s : State) (o : Out) : (s.emit o).fab = s.fab := rfl
@[simp] theorem emit_fuse (s : State) (o : Out) : (s.emit o).fuse = s.fuse := rfl
@[simp] theorem emit_boot (s : State) (o : Out) : (s.emit o).boot = s.boot := rfl
@[simp] theorem emit_shk (s : State) (o : Out) : (s.emit o).shk = s.shk := rfl
@[simp] theorem emit_flash (s : State) (o : Out) : (s.emit o).flash = s.flash := rfl
@[simp] theorem emit_nor (s : State) (o : Out) : (s.emit o).nor = s.nor := rfl
@[simp] theorem emit_mgt (s : State) (o : Out) : (s.emit o).mgt = s.mgt := rfl
@[simp] theorem emit_freeNext (s : State) (o : Out) : (s.emit o).freeNext = s.freeNext := rfl
@[simp] theorem emit_pending (s : State) (o : Out) : (s.emit o).pending = s.pending := rfl

@[simp] theorem poke_clk (s : State) (a : Nat) (b : List Byte) : (s.poke a b).clk = s.clk := rfl
@[simp] theorem poke_abort (s : State) (a : Nat) (b : List Byte) : (s.poke a b).abort = s.abort := rfl
@[simp] theorem poke_abortRun (s : State) (a : Nat) (b : List Byte) : (s.poke a b).abortRun = s.abortRun := rfl
@[simp] theorem poke_abortHeld (s : State) (a : Nat) (b : List Byte) : (s.poke a b).abortHeld = s.abortHeld := rfl
@[simp] theorem poke_regs (s : State) (a : Nat) (b : List Byte) : (s.poke a b).regs = s.regs := rfl
@[simp] theorem poke_pend (s : State) (a : Nat) (b : List Byte) : (s.poke a b).pend = s.pend := rfl
@[simp] theorem poke_banks (s : State) (a : Nat) (b : List Byte) : (s.poke a b).banks = s.banks := rfl
@[simp] theorem poke_tiles (s : State) (a : Nat) (b : List Byte) : (s.poke a b).tiles = s.tiles := rfl
@[simp] theorem poke_seqs (s : State) (a : Nat) (b : List Byte) : (s.poke a b).seqs = s.seqs := rfl
@[simp] theorem poke_work (s : State) (a : Nat) (b : List Byte) : (s.poke a b).work = s.work := rfl
@[simp] theorem poke_setNow (s : State) (a : Nat) (b : List Byte) : (s.poke a b).setNow = s.setNow := rfl
@[simp] theorem poke_wrote (s : State) (a : Nat) (b : List Byte) : (s.poke a b).wrote = s.wrote := rfl
@[simp] theorem poke_hbm (s : State) (a : Nat) (b : List Byte) : (s.poke a b).hbm = s.hbm := rfl
@[simp] theorem poke_ctx (s : State) (a : Nat) (b : List Byte) : (s.poke a b).ctx = s.ctx := rfl
@[simp] theorem poke_sync (s : State) (a : Nat) (b : List Byte) : (s.poke a b).sync = s.sync := rfl
@[simp] theorem poke_cmd (s : State) (a : Nat) (b : List Byte) : (s.poke a b).cmd = s.cmd := rfl
@[simp] theorem poke_host (s : State) (a : Nat) (b : List Byte) : (s.poke a b).host = s.host := rfl
@[simp] theorem poke_br (s : State) (a : Nat) (b : List Byte) : (s.poke a b).br = s.br := rfl
@[simp] theorem poke_opt (s : State) (a : Nat) (b : List Byte) : (s.poke a b).opt = s.opt := rfl
@[simp] theorem poke_ln (s : State) (a : Nat) (b : List Byte) : (s.poke a b).ln = s.ln := rfl
@[simp] theorem poke_lk (s : State) (a : Nat) (b : List Byte) : (s.poke a b).lk = s.lk := rfl
@[simp] theorem poke_fab (s : State) (a : Nat) (b : List Byte) : (s.poke a b).fab = s.fab := rfl
@[simp] theorem poke_fuse (s : State) (a : Nat) (b : List Byte) : (s.poke a b).fuse = s.fuse := rfl
@[simp] theorem poke_boot (s : State) (a : Nat) (b : List Byte) : (s.poke a b).boot = s.boot := rfl
@[simp] theorem poke_shk (s : State) (a : Nat) (b : List Byte) : (s.poke a b).shk = s.shk := rfl
@[simp] theorem poke_flash (s : State) (a : Nat) (b : List Byte) : (s.poke a b).flash = s.flash := rfl
@[simp] theorem poke_nor (s : State) (a : Nat) (b : List Byte) : (s.poke a b).nor = s.nor := rfl
@[simp] theorem poke_mgt (s : State) (a : Nat) (b : List Byte) : (s.poke a b).mgt = s.mgt := rfl
@[simp] theorem poke_freeNext (s : State) (a : Nat) (b : List Byte) : (s.poke a b).freeNext = s.freeNext := rfl
@[simp] theorem poke_out (s : State) (a : Nat) (b : List Byte) : (s.poke a b).out = s.out := rfl
@[simp] theorem poke_pending (s : State) (a : Nat) (b : List Byte) : (s.poke a b).pending = s.pending := rfl

@[simp] theorem setLnk_clk (s : State) (l : Nat) (x : LinkLn) : (s.setLnk l x).clk = s.clk := rfl
@[simp] theorem setLnk_abort (s : State) (l : Nat) (x : LinkLn) : (s.setLnk l x).abort = s.abort := rfl
@[simp] theorem setLnk_abortRun (s : State) (l : Nat) (x : LinkLn) : (s.setLnk l x).abortRun = s.abortRun := rfl
@[simp] theorem setLnk_abortHeld (s : State) (l : Nat) (x : LinkLn) : (s.setLnk l x).abortHeld = s.abortHeld := rfl
@[simp] theorem setLnk_regs (s : State) (l : Nat) (x : LinkLn) : (s.setLnk l x).regs = s.regs := rfl
@[simp] theorem setLnk_pend (s : State) (l : Nat) (x : LinkLn) : (s.setLnk l x).pend = s.pend := rfl
@[simp] theorem setLnk_banks (s : State) (l : Nat) (x : LinkLn) : (s.setLnk l x).banks = s.banks := rfl
@[simp] theorem setLnk_mem (s : State) (l : Nat) (x : LinkLn) : (s.setLnk l x).mem = s.mem := rfl
@[simp] theorem setLnk_memErr (s : State) (l : Nat) (x : LinkLn) : (s.setLnk l x).memErr = s.memErr := rfl
@[simp] theorem setLnk_tiles (s : State) (l : Nat) (x : LinkLn) : (s.setLnk l x).tiles = s.tiles := rfl
@[simp] theorem setLnk_seqs (s : State) (l : Nat) (x : LinkLn) : (s.setLnk l x).seqs = s.seqs := rfl
@[simp] theorem setLnk_work (s : State) (l : Nat) (x : LinkLn) : (s.setLnk l x).work = s.work := rfl
@[simp] theorem setLnk_setNow (s : State) (l : Nat) (x : LinkLn) : (s.setLnk l x).setNow = s.setNow := rfl
@[simp] theorem setLnk_wrote (s : State) (l : Nat) (x : LinkLn) : (s.setLnk l x).wrote = s.wrote := rfl
@[simp] theorem setLnk_hbm (s : State) (l : Nat) (x : LinkLn) : (s.setLnk l x).hbm = s.hbm := rfl
@[simp] theorem setLnk_ctx (s : State) (l : Nat) (x : LinkLn) : (s.setLnk l x).ctx = s.ctx := rfl
@[simp] theorem setLnk_sync (s : State) (l : Nat) (x : LinkLn) : (s.setLnk l x).sync = s.sync := rfl
@[simp] theorem setLnk_cmd (s : State) (l : Nat) (x : LinkLn) : (s.setLnk l x).cmd = s.cmd := rfl
@[simp] theorem setLnk_host (s : State) (l : Nat) (x : LinkLn) : (s.setLnk l x).host = s.host := rfl
@[simp] theorem setLnk_br (s : State) (l : Nat) (x : LinkLn) : (s.setLnk l x).br = s.br := rfl
@[simp] theorem setLnk_opt (s : State) (l : Nat) (x : LinkLn) : (s.setLnk l x).opt = s.opt := rfl
@[simp] theorem setLnk_lk (s : State) (l : Nat) (x : LinkLn) : (s.setLnk l x).lk = s.lk := rfl
@[simp] theorem setLnk_fab (s : State) (l : Nat) (x : LinkLn) : (s.setLnk l x).fab = s.fab := rfl
@[simp] theorem setLnk_fuse (s : State) (l : Nat) (x : LinkLn) : (s.setLnk l x).fuse = s.fuse := rfl
@[simp] theorem setLnk_boot (s : State) (l : Nat) (x : LinkLn) : (s.setLnk l x).boot = s.boot := rfl
@[simp] theorem setLnk_shk (s : State) (l : Nat) (x : LinkLn) : (s.setLnk l x).shk = s.shk := rfl
@[simp] theorem setLnk_flash (s : State) (l : Nat) (x : LinkLn) : (s.setLnk l x).flash = s.flash := rfl
@[simp] theorem setLnk_nor (s : State) (l : Nat) (x : LinkLn) : (s.setLnk l x).nor = s.nor := rfl
@[simp] theorem setLnk_mgt (s : State) (l : Nat) (x : LinkLn) : (s.setLnk l x).mgt = s.mgt := rfl
@[simp] theorem setLnk_freeNext (s : State) (l : Nat) (x : LinkLn) : (s.setLnk l x).freeNext = s.freeNext := rfl
@[simp] theorem setLnk_out (s : State) (l : Nat) (x : LinkLn) : (s.setLnk l x).out = s.out := rfl
@[simp] theorem setLnk_pending (s : State) (l : Nat) (x : LinkLn) : (s.setLnk l x).pending = s.pending := rfl

@[simp] theorem setLkk_clk (s : State) (l : Nat) (x : LinkLk) : (s.setLkk l x).clk = s.clk := rfl
@[simp] theorem setLkk_abort (s : State) (l : Nat) (x : LinkLk) : (s.setLkk l x).abort = s.abort := rfl
@[simp] theorem setLkk_abortRun (s : State) (l : Nat) (x : LinkLk) : (s.setLkk l x).abortRun = s.abortRun := rfl
@[simp] theorem setLkk_abortHeld (s : State) (l : Nat) (x : LinkLk) : (s.setLkk l x).abortHeld = s.abortHeld := rfl
@[simp] theorem setLkk_regs (s : State) (l : Nat) (x : LinkLk) : (s.setLkk l x).regs = s.regs := rfl
@[simp] theorem setLkk_pend (s : State) (l : Nat) (x : LinkLk) : (s.setLkk l x).pend = s.pend := rfl
@[simp] theorem setLkk_banks (s : State) (l : Nat) (x : LinkLk) : (s.setLkk l x).banks = s.banks := rfl
@[simp] theorem setLkk_mem (s : State) (l : Nat) (x : LinkLk) : (s.setLkk l x).mem = s.mem := rfl
@[simp] theorem setLkk_memErr (s : State) (l : Nat) (x : LinkLk) : (s.setLkk l x).memErr = s.memErr := rfl
@[simp] theorem setLkk_tiles (s : State) (l : Nat) (x : LinkLk) : (s.setLkk l x).tiles = s.tiles := rfl
@[simp] theorem setLkk_seqs (s : State) (l : Nat) (x : LinkLk) : (s.setLkk l x).seqs = s.seqs := rfl
@[simp] theorem setLkk_work (s : State) (l : Nat) (x : LinkLk) : (s.setLkk l x).work = s.work := rfl
@[simp] theorem setLkk_setNow (s : State) (l : Nat) (x : LinkLk) : (s.setLkk l x).setNow = s.setNow := rfl
@[simp] theorem setLkk_wrote (s : State) (l : Nat) (x : LinkLk) : (s.setLkk l x).wrote = s.wrote := rfl
@[simp] theorem setLkk_hbm (s : State) (l : Nat) (x : LinkLk) : (s.setLkk l x).hbm = s.hbm := rfl
@[simp] theorem setLkk_ctx (s : State) (l : Nat) (x : LinkLk) : (s.setLkk l x).ctx = s.ctx := rfl
@[simp] theorem setLkk_sync (s : State) (l : Nat) (x : LinkLk) : (s.setLkk l x).sync = s.sync := rfl
@[simp] theorem setLkk_cmd (s : State) (l : Nat) (x : LinkLk) : (s.setLkk l x).cmd = s.cmd := rfl
@[simp] theorem setLkk_host (s : State) (l : Nat) (x : LinkLk) : (s.setLkk l x).host = s.host := rfl
@[simp] theorem setLkk_br (s : State) (l : Nat) (x : LinkLk) : (s.setLkk l x).br = s.br := rfl
@[simp] theorem setLkk_opt (s : State) (l : Nat) (x : LinkLk) : (s.setLkk l x).opt = s.opt := rfl
@[simp] theorem setLkk_ln (s : State) (l : Nat) (x : LinkLk) : (s.setLkk l x).ln = s.ln := rfl
@[simp] theorem setLkk_fab (s : State) (l : Nat) (x : LinkLk) : (s.setLkk l x).fab = s.fab := rfl
@[simp] theorem setLkk_fuse (s : State) (l : Nat) (x : LinkLk) : (s.setLkk l x).fuse = s.fuse := rfl
@[simp] theorem setLkk_boot (s : State) (l : Nat) (x : LinkLk) : (s.setLkk l x).boot = s.boot := rfl
@[simp] theorem setLkk_shk (s : State) (l : Nat) (x : LinkLk) : (s.setLkk l x).shk = s.shk := rfl
@[simp] theorem setLkk_flash (s : State) (l : Nat) (x : LinkLk) : (s.setLkk l x).flash = s.flash := rfl
@[simp] theorem setLkk_nor (s : State) (l : Nat) (x : LinkLk) : (s.setLkk l x).nor = s.nor := rfl
@[simp] theorem setLkk_mgt (s : State) (l : Nat) (x : LinkLk) : (s.setLkk l x).mgt = s.mgt := rfl
@[simp] theorem setLkk_freeNext (s : State) (l : Nat) (x : LinkLk) : (s.setLkk l x).freeNext = s.freeNext := rfl
@[simp] theorem setLkk_out (s : State) (l : Nat) (x : LinkLk) : (s.setLkk l x).out = s.out := rfl
@[simp] theorem setLkk_pending (s : State) (l : Nat) (x : LinkLk) : (s.setLkk l x).pending = s.pending := rfl

@[simp] theorem setDir_clk (s : State) (k : Nat) (x : WDir) : (s.setDir k x).clk = s.clk := rfl
@[simp] theorem setDir_abort (s : State) (k : Nat) (x : WDir) : (s.setDir k x).abort = s.abort := rfl
@[simp] theorem setDir_abortRun (s : State) (k : Nat) (x : WDir) : (s.setDir k x).abortRun = s.abortRun := rfl
@[simp] theorem setDir_abortHeld (s : State) (k : Nat) (x : WDir) : (s.setDir k x).abortHeld = s.abortHeld := rfl
@[simp] theorem setDir_regs (s : State) (k : Nat) (x : WDir) : (s.setDir k x).regs = s.regs := rfl
@[simp] theorem setDir_pend (s : State) (k : Nat) (x : WDir) : (s.setDir k x).pend = s.pend := rfl
@[simp] theorem setDir_banks (s : State) (k : Nat) (x : WDir) : (s.setDir k x).banks = s.banks := rfl
@[simp] theorem setDir_mem (s : State) (k : Nat) (x : WDir) : (s.setDir k x).mem = s.mem := rfl
@[simp] theorem setDir_memErr (s : State) (k : Nat) (x : WDir) : (s.setDir k x).memErr = s.memErr := rfl
@[simp] theorem setDir_tiles (s : State) (k : Nat) (x : WDir) : (s.setDir k x).tiles = s.tiles := rfl
@[simp] theorem setDir_seqs (s : State) (k : Nat) (x : WDir) : (s.setDir k x).seqs = s.seqs := rfl
@[simp] theorem setDir_work (s : State) (k : Nat) (x : WDir) : (s.setDir k x).work = s.work := rfl
@[simp] theorem setDir_setNow (s : State) (k : Nat) (x : WDir) : (s.setDir k x).setNow = s.setNow := rfl
@[simp] theorem setDir_wrote (s : State) (k : Nat) (x : WDir) : (s.setDir k x).wrote = s.wrote := rfl
@[simp] theorem setDir_hbm (s : State) (k : Nat) (x : WDir) : (s.setDir k x).hbm = s.hbm := rfl
@[simp] theorem setDir_ctx (s : State) (k : Nat) (x : WDir) : (s.setDir k x).ctx = s.ctx := rfl
@[simp] theorem setDir_sync (s : State) (k : Nat) (x : WDir) : (s.setDir k x).sync = s.sync := rfl
@[simp] theorem setDir_cmd (s : State) (k : Nat) (x : WDir) : (s.setDir k x).cmd = s.cmd := rfl
@[simp] theorem setDir_host (s : State) (k : Nat) (x : WDir) : (s.setDir k x).host = s.host := rfl
@[simp] theorem setDir_opt (s : State) (k : Nat) (x : WDir) : (s.setDir k x).opt = s.opt := rfl
@[simp] theorem setDir_ln (s : State) (k : Nat) (x : WDir) : (s.setDir k x).ln = s.ln := rfl
@[simp] theorem setDir_lk (s : State) (k : Nat) (x : WDir) : (s.setDir k x).lk = s.lk := rfl
@[simp] theorem setDir_fab (s : State) (k : Nat) (x : WDir) : (s.setDir k x).fab = s.fab := rfl
@[simp] theorem setDir_fuse (s : State) (k : Nat) (x : WDir) : (s.setDir k x).fuse = s.fuse := rfl
@[simp] theorem setDir_boot (s : State) (k : Nat) (x : WDir) : (s.setDir k x).boot = s.boot := rfl
@[simp] theorem setDir_shk (s : State) (k : Nat) (x : WDir) : (s.setDir k x).shk = s.shk := rfl
@[simp] theorem setDir_flash (s : State) (k : Nat) (x : WDir) : (s.setDir k x).flash = s.flash := rfl
@[simp] theorem setDir_nor (s : State) (k : Nat) (x : WDir) : (s.setDir k x).nor = s.nor := rfl
@[simp] theorem setDir_mgt (s : State) (k : Nat) (x : WDir) : (s.setDir k x).mgt = s.mgt := rfl
@[simp] theorem setDir_freeNext (s : State) (k : Nat) (x : WDir) : (s.setDir k x).freeNext = s.freeNext := rfl
@[simp] theorem setDir_out (s : State) (k : Nat) (x : WDir) : (s.setDir k x).out = s.out := rfl
@[simp] theorem setDir_pending (s : State) (k : Nat) (x : WDir) : (s.setDir k x).pending = s.pending := rfl

@[simp] theorem setKey_clk (s : State) (k : Nat) (x : KeySlot) : (s.setKey k x).clk = s.clk := rfl
@[simp] theorem setKey_abort (s : State) (k : Nat) (x : KeySlot) : (s.setKey k x).abort = s.abort := rfl
@[simp] theorem setKey_abortRun (s : State) (k : Nat) (x : KeySlot) : (s.setKey k x).abortRun = s.abortRun := rfl
@[simp] theorem setKey_abortHeld (s : State) (k : Nat) (x : KeySlot) : (s.setKey k x).abortHeld = s.abortHeld := rfl
@[simp] theorem setKey_regs (s : State) (k : Nat) (x : KeySlot) : (s.setKey k x).regs = s.regs := rfl
@[simp] theorem setKey_pend (s : State) (k : Nat) (x : KeySlot) : (s.setKey k x).pend = s.pend := rfl
@[simp] theorem setKey_banks (s : State) (k : Nat) (x : KeySlot) : (s.setKey k x).banks = s.banks := rfl
@[simp] theorem setKey_mem (s : State) (k : Nat) (x : KeySlot) : (s.setKey k x).mem = s.mem := rfl
@[simp] theorem setKey_memErr (s : State) (k : Nat) (x : KeySlot) : (s.setKey k x).memErr = s.memErr := rfl
@[simp] theorem setKey_tiles (s : State) (k : Nat) (x : KeySlot) : (s.setKey k x).tiles = s.tiles := rfl
@[simp] theorem setKey_seqs (s : State) (k : Nat) (x : KeySlot) : (s.setKey k x).seqs = s.seqs := rfl
@[simp] theorem setKey_work (s : State) (k : Nat) (x : KeySlot) : (s.setKey k x).work = s.work := rfl
@[simp] theorem setKey_setNow (s : State) (k : Nat) (x : KeySlot) : (s.setKey k x).setNow = s.setNow := rfl
@[simp] theorem setKey_wrote (s : State) (k : Nat) (x : KeySlot) : (s.setKey k x).wrote = s.wrote := rfl
@[simp] theorem setKey_hbm (s : State) (k : Nat) (x : KeySlot) : (s.setKey k x).hbm = s.hbm := rfl
@[simp] theorem setKey_ctx (s : State) (k : Nat) (x : KeySlot) : (s.setKey k x).ctx = s.ctx := rfl
@[simp] theorem setKey_sync (s : State) (k : Nat) (x : KeySlot) : (s.setKey k x).sync = s.sync := rfl
@[simp] theorem setKey_host (s : State) (k : Nat) (x : KeySlot) : (s.setKey k x).host = s.host := rfl
@[simp] theorem setKey_br (s : State) (k : Nat) (x : KeySlot) : (s.setKey k x).br = s.br := rfl
@[simp] theorem setKey_opt (s : State) (k : Nat) (x : KeySlot) : (s.setKey k x).opt = s.opt := rfl
@[simp] theorem setKey_ln (s : State) (k : Nat) (x : KeySlot) : (s.setKey k x).ln = s.ln := rfl
@[simp] theorem setKey_lk (s : State) (k : Nat) (x : KeySlot) : (s.setKey k x).lk = s.lk := rfl
@[simp] theorem setKey_fab (s : State) (k : Nat) (x : KeySlot) : (s.setKey k x).fab = s.fab := rfl
@[simp] theorem setKey_fuse (s : State) (k : Nat) (x : KeySlot) : (s.setKey k x).fuse = s.fuse := rfl
@[simp] theorem setKey_boot (s : State) (k : Nat) (x : KeySlot) : (s.setKey k x).boot = s.boot := rfl
@[simp] theorem setKey_shk (s : State) (k : Nat) (x : KeySlot) : (s.setKey k x).shk = s.shk := rfl
@[simp] theorem setKey_flash (s : State) (k : Nat) (x : KeySlot) : (s.setKey k x).flash = s.flash := rfl
@[simp] theorem setKey_nor (s : State) (k : Nat) (x : KeySlot) : (s.setKey k x).nor = s.nor := rfl
@[simp] theorem setKey_mgt (s : State) (k : Nat) (x : KeySlot) : (s.setKey k x).mgt = s.mgt := rfl
@[simp] theorem setKey_freeNext (s : State) (k : Nat) (x : KeySlot) : (s.setKey k x).freeNext = s.freeNext := rfl
@[simp] theorem setKey_out (s : State) (k : Nat) (x : KeySlot) : (s.setKey k x).out = s.out := rfl
@[simp] theorem setKey_pending (s : State) (k : Nat) (x : KeySlot) : (s.setKey k x).pending = s.pending := rfl

@[simp] theorem setRing_clk (s : State) (q : Nat) (x : RingQ) : (s.setRing q x).clk = s.clk := rfl
@[simp] theorem setRing_abort (s : State) (q : Nat) (x : RingQ) : (s.setRing q x).abort = s.abort := rfl
@[simp] theorem setRing_abortRun (s : State) (q : Nat) (x : RingQ) : (s.setRing q x).abortRun = s.abortRun := rfl
@[simp] theorem setRing_abortHeld (s : State) (q : Nat) (x : RingQ) : (s.setRing q x).abortHeld = s.abortHeld := rfl
@[simp] theorem setRing_regs (s : State) (q : Nat) (x : RingQ) : (s.setRing q x).regs = s.regs := rfl
@[simp] theorem setRing_pend (s : State) (q : Nat) (x : RingQ) : (s.setRing q x).pend = s.pend := rfl
@[simp] theorem setRing_banks (s : State) (q : Nat) (x : RingQ) : (s.setRing q x).banks = s.banks := rfl
@[simp] theorem setRing_mem (s : State) (q : Nat) (x : RingQ) : (s.setRing q x).mem = s.mem := rfl
@[simp] theorem setRing_memErr (s : State) (q : Nat) (x : RingQ) : (s.setRing q x).memErr = s.memErr := rfl
@[simp] theorem setRing_tiles (s : State) (q : Nat) (x : RingQ) : (s.setRing q x).tiles = s.tiles := rfl
@[simp] theorem setRing_seqs (s : State) (q : Nat) (x : RingQ) : (s.setRing q x).seqs = s.seqs := rfl
@[simp] theorem setRing_work (s : State) (q : Nat) (x : RingQ) : (s.setRing q x).work = s.work := rfl
@[simp] theorem setRing_setNow (s : State) (q : Nat) (x : RingQ) : (s.setRing q x).setNow = s.setNow := rfl
@[simp] theorem setRing_wrote (s : State) (q : Nat) (x : RingQ) : (s.setRing q x).wrote = s.wrote := rfl
@[simp] theorem setRing_hbm (s : State) (q : Nat) (x : RingQ) : (s.setRing q x).hbm = s.hbm := rfl
@[simp] theorem setRing_ctx (s : State) (q : Nat) (x : RingQ) : (s.setRing q x).ctx = s.ctx := rfl
@[simp] theorem setRing_sync (s : State) (q : Nat) (x : RingQ) : (s.setRing q x).sync = s.sync := rfl
@[simp] theorem setRing_cmd (s : State) (q : Nat) (x : RingQ) : (s.setRing q x).cmd = s.cmd := rfl
@[simp] theorem setRing_br (s : State) (q : Nat) (x : RingQ) : (s.setRing q x).br = s.br := rfl
@[simp] theorem setRing_opt (s : State) (q : Nat) (x : RingQ) : (s.setRing q x).opt = s.opt := rfl
@[simp] theorem setRing_ln (s : State) (q : Nat) (x : RingQ) : (s.setRing q x).ln = s.ln := rfl
@[simp] theorem setRing_lk (s : State) (q : Nat) (x : RingQ) : (s.setRing q x).lk = s.lk := rfl
@[simp] theorem setRing_fab (s : State) (q : Nat) (x : RingQ) : (s.setRing q x).fab = s.fab := rfl
@[simp] theorem setRing_fuse (s : State) (q : Nat) (x : RingQ) : (s.setRing q x).fuse = s.fuse := rfl
@[simp] theorem setRing_boot (s : State) (q : Nat) (x : RingQ) : (s.setRing q x).boot = s.boot := rfl
@[simp] theorem setRing_shk (s : State) (q : Nat) (x : RingQ) : (s.setRing q x).shk = s.shk := rfl
@[simp] theorem setRing_flash (s : State) (q : Nat) (x : RingQ) : (s.setRing q x).flash = s.flash := rfl
@[simp] theorem setRing_nor (s : State) (q : Nat) (x : RingQ) : (s.setRing q x).nor = s.nor := rfl
@[simp] theorem setRing_mgt (s : State) (q : Nat) (x : RingQ) : (s.setRing q x).mgt = s.mgt := rfl
@[simp] theorem setRing_freeNext (s : State) (q : Nat) (x : RingQ) : (s.setRing q x).freeNext = s.freeNext := rfl
@[simp] theorem setRing_out (s : State) (q : Nat) (x : RingQ) : (s.setRing q x).out = s.out := rfl
@[simp] theorem setRing_pending (s : State) (q : Nat) (x : RingQ) : (s.setRing q x).pending = s.pending := rfl

@[simp] theorem setLock_clk (s : State) (k : Nat) (x : Lock) : (s.setLock k x).clk = s.clk := rfl
@[simp] theorem setLock_abort (s : State) (k : Nat) (x : Lock) : (s.setLock k x).abort = s.abort := rfl
@[simp] theorem setLock_abortRun (s : State) (k : Nat) (x : Lock) : (s.setLock k x).abortRun = s.abortRun := rfl
@[simp] theorem setLock_abortHeld (s : State) (k : Nat) (x : Lock) : (s.setLock k x).abortHeld = s.abortHeld := rfl
@[simp] theorem setLock_regs (s : State) (k : Nat) (x : Lock) : (s.setLock k x).regs = s.regs := rfl
@[simp] theorem setLock_pend (s : State) (k : Nat) (x : Lock) : (s.setLock k x).pend = s.pend := rfl
@[simp] theorem setLock_banks (s : State) (k : Nat) (x : Lock) : (s.setLock k x).banks = s.banks := rfl
@[simp] theorem setLock_mem (s : State) (k : Nat) (x : Lock) : (s.setLock k x).mem = s.mem := rfl
@[simp] theorem setLock_memErr (s : State) (k : Nat) (x : Lock) : (s.setLock k x).memErr = s.memErr := rfl
@[simp] theorem setLock_tiles (s : State) (k : Nat) (x : Lock) : (s.setLock k x).tiles = s.tiles := rfl
@[simp] theorem setLock_seqs (s : State) (k : Nat) (x : Lock) : (s.setLock k x).seqs = s.seqs := rfl
@[simp] theorem setLock_work (s : State) (k : Nat) (x : Lock) : (s.setLock k x).work = s.work := rfl
@[simp] theorem setLock_setNow (s : State) (k : Nat) (x : Lock) : (s.setLock k x).setNow = s.setNow := rfl
@[simp] theorem setLock_wrote (s : State) (k : Nat) (x : Lock) : (s.setLock k x).wrote = s.wrote := rfl
@[simp] theorem setLock_hbm (s : State) (k : Nat) (x : Lock) : (s.setLock k x).hbm = s.hbm := rfl
@[simp] theorem setLock_ctx (s : State) (k : Nat) (x : Lock) : (s.setLock k x).ctx = s.ctx := rfl
@[simp] theorem setLock_sync (s : State) (k : Nat) (x : Lock) : (s.setLock k x).sync = s.sync := rfl
@[simp] theorem setLock_cmd (s : State) (k : Nat) (x : Lock) : (s.setLock k x).cmd = s.cmd := rfl
@[simp] theorem setLock_host (s : State) (k : Nat) (x : Lock) : (s.setLock k x).host = s.host := rfl
@[simp] theorem setLock_br (s : State) (k : Nat) (x : Lock) : (s.setLock k x).br = s.br := rfl
@[simp] theorem setLock_opt (s : State) (k : Nat) (x : Lock) : (s.setLock k x).opt = s.opt := rfl
@[simp] theorem setLock_ln (s : State) (k : Nat) (x : Lock) : (s.setLock k x).ln = s.ln := rfl
@[simp] theorem setLock_lk (s : State) (k : Nat) (x : Lock) : (s.setLock k x).lk = s.lk := rfl
@[simp] theorem setLock_fab (s : State) (k : Nat) (x : Lock) : (s.setLock k x).fab = s.fab := rfl
@[simp] theorem setLock_fuse (s : State) (k : Nat) (x : Lock) : (s.setLock k x).fuse = s.fuse := rfl
@[simp] theorem setLock_boot (s : State) (k : Nat) (x : Lock) : (s.setLock k x).boot = s.boot := rfl
@[simp] theorem setLock_shk (s : State) (k : Nat) (x : Lock) : (s.setLock k x).shk = s.shk := rfl
@[simp] theorem setLock_flash (s : State) (k : Nat) (x : Lock) : (s.setLock k x).flash = s.flash := rfl
@[simp] theorem setLock_nor (s : State) (k : Nat) (x : Lock) : (s.setLock k x).nor = s.nor := rfl
@[simp] theorem setLock_freeNext (s : State) (k : Nat) (x : Lock) : (s.setLock k x).freeNext = s.freeNext := rfl
@[simp] theorem setLock_out (s : State) (k : Nat) (x : Lock) : (s.setLock k x).out = s.out := rfl
@[simp] theorem setLock_pending (s : State) (k : Nat) (x : Lock) : (s.setLock k x).pending = s.pending := rfl

@[simp] theorem setShutter_clk (s : State) (l : Nat) (x : Shutter) : (s.setShutter l x).clk = s.clk := rfl
@[simp] theorem setShutter_abort (s : State) (l : Nat) (x : Shutter) : (s.setShutter l x).abort = s.abort := rfl
@[simp] theorem setShutter_abortRun (s : State) (l : Nat) (x : Shutter) : (s.setShutter l x).abortRun = s.abortRun := rfl
@[simp] theorem setShutter_abortHeld (s : State) (l : Nat) (x : Shutter) : (s.setShutter l x).abortHeld = s.abortHeld := rfl
@[simp] theorem setShutter_regs (s : State) (l : Nat) (x : Shutter) : (s.setShutter l x).regs = s.regs := rfl
@[simp] theorem setShutter_pend (s : State) (l : Nat) (x : Shutter) : (s.setShutter l x).pend = s.pend := rfl
@[simp] theorem setShutter_banks (s : State) (l : Nat) (x : Shutter) : (s.setShutter l x).banks = s.banks := rfl
@[simp] theorem setShutter_mem (s : State) (l : Nat) (x : Shutter) : (s.setShutter l x).mem = s.mem := rfl
@[simp] theorem setShutter_memErr (s : State) (l : Nat) (x : Shutter) : (s.setShutter l x).memErr = s.memErr := rfl
@[simp] theorem setShutter_tiles (s : State) (l : Nat) (x : Shutter) : (s.setShutter l x).tiles = s.tiles := rfl
@[simp] theorem setShutter_seqs (s : State) (l : Nat) (x : Shutter) : (s.setShutter l x).seqs = s.seqs := rfl
@[simp] theorem setShutter_work (s : State) (l : Nat) (x : Shutter) : (s.setShutter l x).work = s.work := rfl
@[simp] theorem setShutter_setNow (s : State) (l : Nat) (x : Shutter) : (s.setShutter l x).setNow = s.setNow := rfl
@[simp] theorem setShutter_wrote (s : State) (l : Nat) (x : Shutter) : (s.setShutter l x).wrote = s.wrote := rfl
@[simp] theorem setShutter_hbm (s : State) (l : Nat) (x : Shutter) : (s.setShutter l x).hbm = s.hbm := rfl
@[simp] theorem setShutter_ctx (s : State) (l : Nat) (x : Shutter) : (s.setShutter l x).ctx = s.ctx := rfl
@[simp] theorem setShutter_sync (s : State) (l : Nat) (x : Shutter) : (s.setShutter l x).sync = s.sync := rfl
@[simp] theorem setShutter_cmd (s : State) (l : Nat) (x : Shutter) : (s.setShutter l x).cmd = s.cmd := rfl
@[simp] theorem setShutter_host (s : State) (l : Nat) (x : Shutter) : (s.setShutter l x).host = s.host := rfl
@[simp] theorem setShutter_br (s : State) (l : Nat) (x : Shutter) : (s.setShutter l x).br = s.br := rfl
@[simp] theorem setShutter_ln (s : State) (l : Nat) (x : Shutter) : (s.setShutter l x).ln = s.ln := rfl
@[simp] theorem setShutter_lk (s : State) (l : Nat) (x : Shutter) : (s.setShutter l x).lk = s.lk := rfl
@[simp] theorem setShutter_fab (s : State) (l : Nat) (x : Shutter) : (s.setShutter l x).fab = s.fab := rfl
@[simp] theorem setShutter_fuse (s : State) (l : Nat) (x : Shutter) : (s.setShutter l x).fuse = s.fuse := rfl
@[simp] theorem setShutter_boot (s : State) (l : Nat) (x : Shutter) : (s.setShutter l x).boot = s.boot := rfl
@[simp] theorem setShutter_shk (s : State) (l : Nat) (x : Shutter) : (s.setShutter l x).shk = s.shk := rfl
@[simp] theorem setShutter_flash (s : State) (l : Nat) (x : Shutter) : (s.setShutter l x).flash = s.flash := rfl
@[simp] theorem setShutter_nor (s : State) (l : Nat) (x : Shutter) : (s.setShutter l x).nor = s.nor := rfl
@[simp] theorem setShutter_mgt (s : State) (l : Nat) (x : Shutter) : (s.setShutter l x).mgt = s.mgt := rfl
@[simp] theorem setShutter_freeNext (s : State) (l : Nat) (x : Shutter) : (s.setShutter l x).freeNext = s.freeNext := rfl
@[simp] theorem setShutter_out (s : State) (l : Nat) (x : Shutter) : (s.setShutter l x).out = s.out := rfl
@[simp] theorem setShutter_pending (s : State) (l : Nat) (x : Shutter) : (s.setShutter l x).pending = s.pending := rfl

@[simp] theorem addWork_clk (s : State) (l : List Job) : (s.addWork l).clk = s.clk := rfl
@[simp] theorem addWork_abort (s : State) (l : List Job) : (s.addWork l).abort = s.abort := rfl
@[simp] theorem addWork_abortRun (s : State) (l : List Job) : (s.addWork l).abortRun = s.abortRun := rfl
@[simp] theorem addWork_abortHeld (s : State) (l : List Job) : (s.addWork l).abortHeld = s.abortHeld := rfl
@[simp] theorem addWork_regs (s : State) (l : List Job) : (s.addWork l).regs = s.regs := rfl
@[simp] theorem addWork_pend (s : State) (l : List Job) : (s.addWork l).pend = s.pend := rfl
@[simp] theorem addWork_banks (s : State) (l : List Job) : (s.addWork l).banks = s.banks := rfl
@[simp] theorem addWork_mem (s : State) (l : List Job) : (s.addWork l).mem = s.mem := rfl
@[simp] theorem addWork_memErr (s : State) (l : List Job) : (s.addWork l).memErr = s.memErr := rfl
@[simp] theorem addWork_tiles (s : State) (l : List Job) : (s.addWork l).tiles = s.tiles := rfl
@[simp] theorem addWork_seqs (s : State) (l : List Job) : (s.addWork l).seqs = s.seqs := rfl
@[simp] theorem addWork_setNow (s : State) (l : List Job) : (s.addWork l).setNow = s.setNow := rfl
@[simp] theorem addWork_wrote (s : State) (l : List Job) : (s.addWork l).wrote = s.wrote := rfl
@[simp] theorem addWork_hbm (s : State) (l : List Job) : (s.addWork l).hbm = s.hbm := rfl
@[simp] theorem addWork_ctx (s : State) (l : List Job) : (s.addWork l).ctx = s.ctx := rfl
@[simp] theorem addWork_sync (s : State) (l : List Job) : (s.addWork l).sync = s.sync := rfl
@[simp] theorem addWork_cmd (s : State) (l : List Job) : (s.addWork l).cmd = s.cmd := rfl
@[simp] theorem addWork_host (s : State) (l : List Job) : (s.addWork l).host = s.host := rfl
@[simp] theorem addWork_br (s : State) (l : List Job) : (s.addWork l).br = s.br := rfl
@[simp] theorem addWork_opt (s : State) (l : List Job) : (s.addWork l).opt = s.opt := rfl
@[simp] theorem addWork_ln (s : State) (l : List Job) : (s.addWork l).ln = s.ln := rfl
@[simp] theorem addWork_lk (s : State) (l : List Job) : (s.addWork l).lk = s.lk := rfl
@[simp] theorem addWork_fab (s : State) (l : List Job) : (s.addWork l).fab = s.fab := rfl
@[simp] theorem addWork_fuse (s : State) (l : List Job) : (s.addWork l).fuse = s.fuse := rfl
@[simp] theorem addWork_boot (s : State) (l : List Job) : (s.addWork l).boot = s.boot := rfl
@[simp] theorem addWork_shk (s : State) (l : List Job) : (s.addWork l).shk = s.shk := rfl
@[simp] theorem addWork_flash (s : State) (l : List Job) : (s.addWork l).flash = s.flash := rfl
@[simp] theorem addWork_nor (s : State) (l : List Job) : (s.addWork l).nor = s.nor := rfl
@[simp] theorem addWork_mgt (s : State) (l : List Job) : (s.addWork l).mgt = s.mgt := rfl
@[simp] theorem addWork_freeNext (s : State) (l : List Job) : (s.addWork l).freeNext = s.freeNext := rfl
@[simp] theorem addWork_out (s : State) (l : List Job) : (s.addWork l).out = s.out := rfl
@[simp] theorem addWork_pending (s : State) (l : List Job) : (s.addWork l).pending = s.pending := rfl
@[simp] theorem addWork_work (s : State) (l : List Job) : (s.addWork l).work = s.work ++ l := rfl

@[simp] theorem orWord_clk (s : State) (off : Nat) (m : Word) : (s.orWord off m).clk = s.clk := rfl
@[simp] theorem orWord_abort (s : State) (off : Nat) (m : Word) : (s.orWord off m).abort = s.abort := rfl
@[simp] theorem orWord_abortRun (s : State) (off : Nat) (m : Word) : (s.orWord off m).abortRun = s.abortRun := rfl
@[simp] theorem orWord_abortHeld (s : State) (off : Nat) (m : Word) : (s.orWord off m).abortHeld = s.abortHeld := rfl
@[simp] theorem orWord_pend (s : State) (off : Nat) (m : Word) : (s.orWord off m).pend = s.pend := rfl
@[simp] theorem orWord_banks (s : State) (off : Nat) (m : Word) : (s.orWord off m).banks = s.banks := rfl
@[simp] theorem orWord_mem (s : State) (off : Nat) (m : Word) : (s.orWord off m).mem = s.mem := rfl
@[simp] theorem orWord_memErr (s : State) (off : Nat) (m : Word) : (s.orWord off m).memErr = s.memErr := rfl
@[simp] theorem orWord_tiles (s : State) (off : Nat) (m : Word) : (s.orWord off m).tiles = s.tiles := rfl
@[simp] theorem orWord_seqs (s : State) (off : Nat) (m : Word) : (s.orWord off m).seqs = s.seqs := rfl
@[simp] theorem orWord_wrote (s : State) (off : Nat) (m : Word) : (s.orWord off m).wrote = s.wrote := rfl
@[simp] theorem orWord_hbm (s : State) (off : Nat) (m : Word) : (s.orWord off m).hbm = s.hbm := rfl
@[simp] theorem orWord_ctx (s : State) (off : Nat) (m : Word) : (s.orWord off m).ctx = s.ctx := rfl
@[simp] theorem orWord_sync (s : State) (off : Nat) (m : Word) : (s.orWord off m).sync = s.sync := rfl
@[simp] theorem orWord_cmd (s : State) (off : Nat) (m : Word) : (s.orWord off m).cmd = s.cmd := rfl
@[simp] theorem orWord_host (s : State) (off : Nat) (m : Word) : (s.orWord off m).host = s.host := rfl
@[simp] theorem orWord_br (s : State) (off : Nat) (m : Word) : (s.orWord off m).br = s.br := rfl
@[simp] theorem orWord_opt (s : State) (off : Nat) (m : Word) : (s.orWord off m).opt = s.opt := rfl
@[simp] theorem orWord_ln (s : State) (off : Nat) (m : Word) : (s.orWord off m).ln = s.ln := rfl
@[simp] theorem orWord_lk (s : State) (off : Nat) (m : Word) : (s.orWord off m).lk = s.lk := rfl
@[simp] theorem orWord_fab (s : State) (off : Nat) (m : Word) : (s.orWord off m).fab = s.fab := rfl
@[simp] theorem orWord_fuse (s : State) (off : Nat) (m : Word) : (s.orWord off m).fuse = s.fuse := rfl
@[simp] theorem orWord_boot (s : State) (off : Nat) (m : Word) : (s.orWord off m).boot = s.boot := rfl
@[simp] theorem orWord_shk (s : State) (off : Nat) (m : Word) : (s.orWord off m).shk = s.shk := rfl
@[simp] theorem orWord_flash (s : State) (off : Nat) (m : Word) : (s.orWord off m).flash = s.flash := rfl
@[simp] theorem orWord_nor (s : State) (off : Nat) (m : Word) : (s.orWord off m).nor = s.nor := rfl
@[simp] theorem orWord_mgt (s : State) (off : Nat) (m : Word) : (s.orWord off m).mgt = s.mgt := rfl
@[simp] theorem orWord_freeNext (s : State) (off : Nat) (m : Word) : (s.orWord off m).freeNext = s.freeNext := rfl
@[simp] theorem orWord_out (s : State) (off : Nat) (m : Word) : (s.orWord off m).out = s.out := rfl
@[simp] theorem orWord_pending (s : State) (off : Nat) (m : Word) : (s.orWord off m).pending = s.pending := rfl
@[simp] theorem orWord_work (s : State) (off : Nat) (m : Word) : (s.orWord off m).work = s.work := rfl

@[simp] theorem addNote_clk (s : State) : s.addNote.clk = s.clk := by
  unfold addNote
  split <;> rfl
@[simp] theorem addNote_abort (s : State) : s.addNote.abort = s.abort := by
  unfold addNote
  split <;> rfl
@[simp] theorem addNote_abortRun (s : State) : s.addNote.abortRun = s.abortRun := by
  unfold addNote
  split <;> rfl
@[simp] theorem addNote_abortHeld (s : State) : s.addNote.abortHeld = s.abortHeld := by
  unfold addNote
  split <;> rfl
@[simp] theorem addNote_pend (s : State) : s.addNote.pend = s.pend := by
  unfold addNote
  split <;> rfl
@[simp] theorem addNote_banks (s : State) : s.addNote.banks = s.banks := by
  unfold addNote
  split <;> rfl
@[simp] theorem addNote_mem (s : State) : s.addNote.mem = s.mem := by
  unfold addNote
  split <;> rfl
@[simp] theorem addNote_memErr (s : State) : s.addNote.memErr = s.memErr := by
  unfold addNote
  split <;> rfl
@[simp] theorem addNote_tiles (s : State) : s.addNote.tiles = s.tiles := by
  unfold addNote
  split <;> rfl
@[simp] theorem addNote_seqs (s : State) : s.addNote.seqs = s.seqs := by
  unfold addNote
  split <;> rfl
@[simp] theorem addNote_work (s : State) : s.addNote.work = s.work := by
  unfold addNote
  split <;> rfl
@[simp] theorem addNote_setNow (s : State) : s.addNote.setNow = s.setNow := by
  unfold addNote
  split <;> rfl
@[simp] theorem addNote_wrote (s : State) : s.addNote.wrote = s.wrote := by
  unfold addNote
  split <;> rfl
@[simp] theorem addNote_hbm (s : State) : s.addNote.hbm = s.hbm := by
  unfold addNote
  split <;> rfl
@[simp] theorem addNote_ctx (s : State) : s.addNote.ctx = s.ctx := by
  unfold addNote
  split <;> rfl
@[simp] theorem addNote_sync (s : State) : s.addNote.sync = s.sync := by
  unfold addNote
  split <;> rfl
@[simp] theorem addNote_cmd (s : State) : s.addNote.cmd = s.cmd := by
  unfold addNote
  split <;> rfl
@[simp] theorem addNote_host (s : State) : s.addNote.host = s.host := by
  unfold addNote
  split <;> rfl
@[simp] theorem addNote_br (s : State) : s.addNote.br = s.br := by
  unfold addNote
  split <;> rfl
@[simp] theorem addNote_opt (s : State) : s.addNote.opt = s.opt := by
  unfold addNote
  split <;> rfl
@[simp] theorem addNote_ln (s : State) : s.addNote.ln = s.ln := by
  unfold addNote
  split <;> rfl
@[simp] theorem addNote_lk (s : State) : s.addNote.lk = s.lk := by
  unfold addNote
  split <;> rfl
@[simp] theorem addNote_fab (s : State) : s.addNote.fab = s.fab := by
  unfold addNote
  split <;> rfl
@[simp] theorem addNote_fuse (s : State) : s.addNote.fuse = s.fuse := by
  unfold addNote
  split <;> rfl
@[simp] theorem addNote_flash (s : State) : s.addNote.flash = s.flash := by
  unfold addNote
  split <;> rfl
@[simp] theorem addNote_nor (s : State) : s.addNote.nor = s.nor := by
  unfold addNote
  split <;> rfl
@[simp] theorem addNote_freeNext (s : State) : s.addNote.freeNext = s.freeNext := by
  unfold addNote
  split <;> rfl
@[simp] theorem addNote_out (s : State) : s.addNote.out = s.out := by
  unfold addNote
  split <;> rfl
@[simp] theorem addNote_pending (s : State) : s.addNote.pending = s.pending := by
  unfold addNote
  split <;> rfl

end State

end Sys2Proof.Machine
end

