-- ==== Sys2Proof/Tests/Slice0.lean ====
section
/-! SUPPORT. Tests: for every statement with hypotheses a named theorem that concrete states and operands meet them, clause by clause; ill-formed commands that Instr.wf refuses; and single steps whose results the spec's own tables give. -/

namespace Sys2Proof.Tests

open Sys2Proof.Machine

set_option Elab.async false

/-! ### Small states -/

/-- A started package in cycle 1,000 of epoch 0, with nothing else. -/
def up : State := { State.reset with boot := { phase := .started, islands := List.range 224 }, mgt := { resetLow := false }, clk := { cycle := 1000, now := 50000000 } }

/-- A sequencer word of fields, by lowest bit and value (03, word layout). -/
def word (fs : List (Nat × Nat)) : Nat := fs.foldl (fun n f => n + f.2 * 2 ^ f.1) 0

/-- Page 0 of a row program, fetched, of the given bytes. -/
def page0 (bs : List Byte) : Page := { page := 0, usable := true, bytes := bs }

/-- `up` with row 0 (serving) and row 1 (training), both with the sequencer `q`. -/
def rows (q : RowSeq) : State := { up with regs := [(tilBase 0 + 0x10, 1#32)], seqs := [(0, q), (1, q)] }

/-- Both rows issue a word in this cycle. -/
def seqOf (w : Nat) : RowSeq := { running := true, since := 1000, pages := [(0, page0 (toBytes 16 w))] }
def issue (w : Nat) : State := rows (seqOf w)

/-- A word of both rows, which issued 3 cycles ago, reaches its tiles in this cycle; it did with N = 4, ACCBASE = 8 and address A. -/
def flightOf (w a : Nat) : Flight := ⟨1000, w, true, 4, a, 8, none⟩
def fly (w : Nat) (a : Nat := 0) : State := rows { running := true, flight := [flightOf w a] }

/-- Quarter 0 of tile 0, and the whole of tile 4: TMASK and QMASK of their words. -/
def sel0 : Sel := ⟨0, 1#4, 1#4⟩
def sel1 : Sel := ⟨1, 1#4, 0#4⟩
def slot0 (fs : List (Nat × Nat)) : Nat := word ([(12, 1), (36, 1)] ++ fs)
def slot1 (fs : List (Nat × Nat)) : Nat := word ((12, 1) :: fs)

/-- The state after a command, as it was where the command stops. -/
def after (c : Instr) (s : State) : State :=
  match exec c s with
  | .next t => t
  | _ => s

/-- What holds of every listed value and of the default holds of every value of a table. -/
theorem get_of_all {α : Type} (P : α → Prop) (t : Tbl α) (d : α) (hd : P d) (h : ∀ p ∈ t, P p.2) (k : Nat) : P (t.get d k) := by
  induction t with
  | nil => exact hd
  | cons p t ih =>
    obtain ⟨a, v⟩ := p
    by_cases e : k = a
    · have hv := h (a, v) (by simp)
      simpa [Tbl.get, Tbl.find, e] using hv
    · have ht := ih (fun q hq => h q (by simp [hq]))
      simpa [Tbl.get, Tbl.find, e] using ht

/-- A unit of a tile in which nothing goes on by itself. -/
def still (x : AUnit) : Bool := x.running.isNone && x.queued.isNone && x.swapAt.isNone

/-- Where every listed unit and every request is still, nothing happens by itself at the end of the cycle. -/
theorem quiet_of (s : State) (hm : s.memErr = []) (ht : ∀ p ∈ s.tiles, ∀ q ∈ p.2.units, still q.2 = true)
    (hc : ∀ p ∈ s.hbm.chans, p.2.reqs = []) : Claims.Quiet s := by
  have hu : ∀ k u, still ((s.tile k).unit u) = true := fun k u =>
    get_of_all (fun (t : Tile) => ∀ u, still (t.unit u) = true) s.tiles {} (fun _ => rfl)
      (fun p hp u => get_of_all (fun x => still x = true) p.2.units {} rfl (fun q hq => ht p hp q hq) u) k u
  have hx : ∀ x, still x = true → x.running = none ∧ x.queued = none ∧ x.swapAt = none := by
    intro x h
    simpa [still, Bool.and_eq_true, Option.isNone_iff_eq_none, and_assoc] using h
  refine ⟨hm, fun k u => ⟨(hx _ (hu k u)).1, (hx _ (hu k u)).2.1⟩, fun k u _ => (hx _ (hu k u)).2.2, fun c q hq => ?_⟩
  have hr : (s.chan c).reqs = [] := get_of_all (fun (x : Chan) => x.reqs = []) s.hbm.chans {} rfl (fun p hp => hc p hp) c
  rw [hr] at hq
  cases hq

/-! ### Witnesses: the queue and the sequencers -/

theorem test_witness_StepRunsTheFront : ({ up with pending := [.coldReset] } : State).pending = .coldReset :: [] := rfl
theorem test_witness_StepsKeepTheCanonicalForm : State.reset.canonical = true ∧ step State.reset = .next (match step State.reset with | .next t => t | _ => State.reset) := by
  exact ⟨by decide, rfl⟩

theorem test_witness_CommandsLeaveTheQueue : exec .coldReset up = .next (up.doColdReset) := rfl

/-- The word of a CTL operation with ARG 5. -/
def ctlWord (op : Nat) : Nat := word [(16, op), (20, 5)]

theorem test_witness_CtlWords : ((List.range 16).all (fun op => (issue (ctlWord op)).issuing 0 == some (ctlWord op) && (issue (ctlWord op)).issuing 1 == some (ctlWord op) &&
      isCtl op (ctlWord op) && isCtlArg op 5 (ctlWord op))) = true ∧
    (issue (ctlWord 9)).serving 0 = true ∧ (issue (ctlWord 9)).serving 1 = false ∧ ((issue (ctlWord 9)).seq 0).gated = false ∧ ((issue (ctlWord 6)).seq 0).loops.length < 4 := by decide +kernel

/-- Both rows at a word in loops: the innermost in its last repetition, or with more to come; behind a closed gate. -/
def loops (w left : Nat) : State := rows { seqOf w with loops := [(3, left), (2, 1), (1, 1), (0, 1)], gated := true }

theorem test_witness_CtlWords_loops : (loops (ctlWord 7) 0).issuing 0 = some (ctlWord 7) ∧ ((loops (ctlWord 7) 0).seq 0).loops = (3, 0) :: [(2, 1), (1, 1), (0, 1)] ∧
    (loops (ctlWord 7) 1).issuing 0 = some (ctlWord 7) ∧ ((loops (ctlWord 7) 1).seq 0).loops = (3, 0 + 1) :: [(2, 1), (1, 1), (0, 1)] ∧
    ((loops (ctlWord 9) 0).seq 0).gated = true := by decide +kernel

/-! ### Witnesses: the tiles -/

/-- A VEC word of quarter 0 and one of a full tile: VD = 3, VS1 = 1, VS2 = 2, FN = 0. -/
def vec (op : Nat) (fn : Nat := 0) : List (Nat × Nat) := [(64, op), (70, 3), (76, 1), (82, 2), (88, fn)]

theorem test_witness_SfuWords : ((fly (slot0 (vec 0x18))).slotTargets sel0 (isSfu 0 [(70, 6, 3), (76, 6, 1)]) = [(0, 0)]) ∧
    ((fly (slot1 (vec 0x18 0x13))).slotTargets sel1 (isSfu 0x13 []) = [(4, 4)]) ∧
    (∀ p ∈ (fly (slot0 (vec 0x18))).slotTargets sel0 (isSfu 0 [(70, 6, 3), (76, 6, 1)]), ∀ l ∈ lanesOf p.2, ((fly (slot0 (vec 0x18))).tile p.1).sfuWait.find l = none) ∧
    (fly (slot0 (vec 0x18 0x1F))).slotTargets sel0 (fun w => isSfu (eb w 88 5) [] w && !fnListed (eb w 88 5)) = [(0, 0)] ∧
    (fly (slot0 (vec 0))).slotWord sel0 (fun w => isSfu (eb w 88 5) [] w && !fnListed (eb w 88 5)) = none := by decide +kernel

/-- `up` with tile 0 at work: a result of each kind due, lane 0 waiting for EXP, a reduction over quarter 0 due. -/
def busy : State := { rows { running := true } with tiles := [(0, { vres := [⟨1000, 3, [(0, 5#32)]⟩], sfuRes := [⟨1000, 0, 3, 5#32⟩], sfuWait := [(0, ⟨.fn .exp, 3, 0#32⟩)], red := [(0, 1000)] })] }

theorem test_witness_TileResults :
    takeDue VRes.due busy.clk.cycle (busy.tile 0).vres = some (⟨1000, 3, [(0, 5#32)]⟩, []) ∧
    takeDue SfuRes.due busy.clk.cycle (busy.tile 0).sfuRes = some (⟨1000, 0, 3, 5#32⟩, []) ∧
    (busy.tile 0).sfuWait.find (8 * 0 + busy.clk.cycle % 8) = some ⟨.fn .exp, 3, 0#32⟩ ∧ (SfuOp.fn .exp).isStat = false ∧
    (busy.tile 0).red.find (busy.unitOf 0 0) = some 1000 ∧ 1000 ≤ busy.clk.cycle := by decide

theorem test_witness_BlockConversions : ∀ k < 6, mxPosOk (mxElem k) (fnPos 0#5) = true := by decide

/-- An ARR word of quarter 0 and of a full tile: BF16 at 0x800, ACC = 1. -/
def arr (op : Nat) : List (Nat × Nat) := [(32, op), (40, 0), (44, 0x800), (58, 1)]

theorem test_witness_ArrayLoads :
    (let s := fly (slot0 (arr 1))
     s.memErr = [] ∧ s.slotTargets sel0 (isLoadw 0 0x800) = [(0, 0)] ∧ s.inSwap 0 0 = false ∧ ((s.tile 0).unit 0).queued = none) ∧
    (let s := fly (slot1 (vec 0x10))
     s.slotWord sel1 (isVop 0x10 3 1 2) = some (flightOf (slot1 (vec 0x10)) 0) ∧ s.unitsNamed sel1 = [(4, 4)] ∧ s.inSwap 4 4 = false ∧ (s.tile 4).accErr = []) := by decide +kernel

/-- A weight block of BF16; a STREAM or STREAMW of 4 vectors that reaches quarter 0 of tile 0 in this cycle, with the unit in a state. -/
def block : WBlock := { fmt := 0, cols := [] }
def starts (op : Nat) (x : AUnit) : State := { fly (slot0 (arr op)) with tiles := [(0, { units := [(0, x)] })] }
/-- A stream of 4 vectors from a cycle on, of which `n` have entered. -/
def stream (start n : Nat) : AStream := { start := start, n := 4, fmt := 0, base := scratchAddr 0, west := false, acc := 1, accbase := 0, weights := some block, vecs := List.replicate n ([], []), delivered := 0 }

theorem test_witness_ArrayStreams :
    ([2, 3].all (fun op => (starts op { shadow := some block, ready := 990 }).slotWord sel0 (isStream op 0 0x800 1) == some (flightOf (slot0 (arr op)) 0))) = true ∧
    (let s := starts 2 { shadow := some block, ready := 990 }
     let x := (s.tile 0).unit 0
     s.unitsNamed sel0 = [(0, 0)] ∧ s.inSwap 0 0 = false ∧ (arrayFmt (0#4).toNat).isSome = true ∧ x.queued = none ∧ unitBusy x s.clk.cycle = false ∧
      (s.streamStart 0 0 (stream 0 0) 1000).waits = false ∧ x.shadow.or x.active = some block ∧ fmtPairs 0 block.fmt = true ∧ x.ready ≤ 1000 ∧
      (∀ r, ((s.tile 1).unit 0).running = some r → r.waits = false)) ∧
    unitBusy (((starts 2 { running := some (stream 999 1) }).tile 0).unit 0) 1000 = true := by decide +kernel

/-- A STREAMW that reaches quarter 0 of tile 1, whose west neighbour has no stream: it waits. -/
theorem test_witness_ArrayStreams_west : (let s := fly (word ([(12, 2), (36, 1)] ++ arr 3))
    s.slotWord ⟨0, 2#4, 1#4⟩ (isStream 3 0 0x800 1) = some (flightOf (word ([(12, 2), (36, 1)] ++ arr 3)) 0) ∧ s.unitsNamed ⟨0, 2#4, 1#4⟩ = [(1, 0)] ∧
      (s.streamStart 1 0 { stream 0 0 with west := true } 1000).waits = true ∧ unitBusy ((s.tile 1).unit 0) 1000 = false) := by decide +kernel

/-- A running stream whose last vector has entered, with one queued behind it. -/
def drained : State := starts 2 { active := some block, running := some (stream 996 4), queued := some (stream 0 0) }
theorem test_witness_ArrayStreams_queue : (let x := (drained.tile 0).unit 0
    drained.unitOf 0 0 = 0 ∧ x.queued = some (stream 0 0) ∧ unitBusy x drained.clk.cycle = false ∧ x.running = some (stream 996 4) ∧
      (drained.streamStart 0 0 (stream 0 0) (996 + 4)).waits = false ∧ x.shadow.or x.active = some block ∧ fmtPairs (stream 0 0).fmt block.fmt = true ∧ x.shadow = none) := by decide +kernel

/-- A stream whose first vector of zeros entered 520 cycles ago, against a block of one column of zeros. -/
def column : WBlock := { fmt := 0, cols := [(List.replicate 128 0#8, [])] }
def first : AStream := { stream 480 0 with weights := some column, vecs := List.replicate 4 (List.replicate 128 0#8, []) }
def passing : State := { up with tiles := [(0, { units := [(4, { running := some first })] })] }

theorem test_witness_ArrayResults : passing.unitOf 0 0 = 4 ∧ State.nextPass ((passing.tile 0).unit 4) = some (first, false) ∧ first.waits = false ∧
    first.vecs[first.delivered]? = some (List.replicate 128 0#8, []) ∧ first.weights = some column ∧ 480 + 0 + passLatency 4 ≤ passing.clk.cycle ∧
    (accRow (passing.tile 0) 4 (0 + 0) 1 (intFmt 0) (passSums 4 first column (List.replicate 128 0#8, [])).1).2.2 = false := by decide +kernel

/-- A MOV word of quarter 0: VREG = 3, MADDR = 0x800, LEN = 0. -/
def mov (op : Nat) : List (Nat × Nat) := [(96, op), (100, 3), (106, 0x800), (120, 0)]

theorem test_witness_ScratchMoves :
    ([1, 2].all (fun op => (fly (slot0 (mov op))).slotWord sel0 (isVmove op 3 0x800 0) == some (flightOf (slot0 (mov op)) 0))) = true ∧
    ([3, 4].all (fun op => [0, 0x40000000].all (fun a => (fly (slot0 (mov op)) a).slotWord sel0 (isFill op 0x800 0) == some (flightOf (slot0 (mov op)) a)))) = true ∧
    (fly (slot0 (mov 3))).unitsNamed sel0 = [(0, 0)] ∧ (fly (slot0 (mov 3))).hitsActive 0 0 (State.slotAddr 0 0 0x800) 1024 = false ∧
    placeOf (1024 * 0x40000000) = .dbuf (State.dieOf 0) ∧ placeOf (1024 * 0) = .hbm 0 := by decide +kernel

/-- `up` with parts of transfers that are due. -/
def doing (l : List Work) : State := { up with regs := [(tilBase 0 + 0x10, 1#32)], work := l.map (fun w => ⟨1000, w⟩) }

theorem test_witness_ScratchMoves_parts (l : List Work) : Claims.Quiet (doing l) ∧ (doing l).work = l.map (fun w => ⟨1000, w⟩) ∧ 1000 ≤ (doing l).clk.cycle :=
  ⟨quiet_of _ rfl (by intro p hp; cases hp) (by intro p hp; cases hp), rfl, Nat.le_refl 1000⟩

/-- A running last that claims row 0, object 5, link L0 and the first 64 KiB of HBM3E, with a row program of one page and a MEM table for channel 0. -/
def last : Last := { id := 1, start := 0, run := 10, rowMask := 1, pkgCount := 1, rank := 0, ek := 20, afab := 0, energy := 0, st := .running, jseq := 0, imgAddr := 0x100000, imgLen := 0x2000, leave := none, replaces := none, replaceAll := false,
                     sections := { streams := [], groups := [], claims := { sync := [5], barriers := [], modelSlots := [], links := [0], hbm := [(0, 65536)] }, sets := [] }, slots := [], seqs := [⟨0, 1, 0x100000, 4096⟩], mems := [⟨0, 1, 0x1000, 24⟩], brgs := [] }

/-- `up` in cycle 16 with that last running and page 0 of its program fetched: start-table entry 0 says word 1. -/
def ready : State := { up with cmd := { lasts := [(0, last)] }, clk := { cycle := 16 }, seqs := [(0, { pages := [(0, page0 [1#8, 0#8, 0#8, 0#8])] })] }

theorem test_witness_SequencerEvents : ready.inEpoch = true ∧ ready.notStopped = true ∧ ready.clk.cycle = 16 ∧ (ready.seq 0).ran = false ∧ ready.lastOfRow 0 = some (0, last) ∧
    ready.seqEnt 0 = some ⟨0, 1, 0x100000, 4096⟩ ∧ State.pageBytes (ready.seq 0) (4 * ((ready.clk.epoch - last.start) % 1)) 4 = some 1 ∧
    (let s : State := { issue (ctlWord 8) with cmd := { lasts := [(0, last)] } }
     s.issuing 0 = some (ctlWord 8) ∧ isCtlArg 8 5 (ctlWord 8) = true ∧ s.seqEnt 0 = some ⟨0, 1, 0x100000, 4096⟩ ∧
      (s.seq 0).pages.find 0 = some (page0 (toBytes 16 (ctlWord 8))) ∧ s.pageFetched 0 0 = true) := by decide +kernel

/-- A SWAP of quarter 0 of tile 0 that arrived `n` cycles ago. -/
def swapping (n : Nat) : State := { up with tiles := [(0, { units := [(0, { swapAt := some (1000 - n) })] })] }

theorem test_witness_ModelSwap : (let w := word [(12, 1), (16, 0xB), (20, 5)]
     (issue w).issuing 0 = some w ∧ wordHas [(12, 4, 1), (16, 4, 0xB), (20, 12, 5)] w = true ∧ ((issue w).seq 0).gated = false) ∧
    (doing [.swap 0 0 5]).swapOk 0 0 = true ∧
    ([16, 271, 272, 400].all (fun n => ((swapping n).tile 0).unit 0 == { swapAt := some (1000 - n) } && decide ((swapping n).clk.cycle = 1000 - n + n))) = true ∧
    (swapping 16).work = [] ∧ (swapping 16).tiles.sorted = true ∧
    (let s : State := { swapping 900 with clk := { cycle := 2148 } }; ((s.tile 0).unit 0).swapAt = some 100 ∧ 100 + 2048 ≤ s.clk.cycle) := by decide +kernel

/-- The unit that swaps is the only one in which something goes on. -/
theorem test_witness_ModelSwap_quiet (n : Nat) : Claims.Quiet (swapping n) (fun j u => j == 0 && u == 0) := by
  have hu : ∀ k u, ((swapping n).tile k).unit u = if k = 0 ∧ u = 0 then { swapAt := some (1000 - n) } else {} := by
    intro k u
    by_cases hk : k = 0
    · subst hk
      by_cases h0 : u = 0
      · subst h0; rfl
      · simp [swapping, State.tile, Tile.unit, Tbl.get, Tbl.find, h0]
    · simp [swapping, State.tile, Tile.unit, Tbl.get, Tbl.find, hk]
  refine ⟨rfl, fun k u => ?_, fun k u hb => ?_, fun c q hq => by cases hq⟩
  · rw [hu]; split <;> exact ⟨rfl, rfl⟩
  · rw [hu, if_neg]
    rintro ⟨rfl, rfl⟩
    cases hb

/-- `s` with an increment and a wait of row 0 on object 5 that have reached it, whose allowance is `n`, and a miss of row 1 that has come back. -/
def signals (n : Nat) (s : State := up) : State := { s with sync := { objs := [(5, { c := 0xFFFFFFFE, allow := n })], sigs := [⟨1000, 0, 5⟩], semWaits := [⟨1000, 0, 5⟩], misses := [⟨1000, 1, 5⟩] } }

theorem test_witness_SynchronisationWords : (issue (ctlWord 0xC)).issuing 0 = some (ctlWord 0xC) ∧ isCtlArg 0xC 5 (ctlWord 0xC) = true ∧ isCtlArg 0xD 5 (ctlWord 0xD) = true ∧
    ((issue (ctlWord 0xC)).seq 0).gated = false ∧
    (signals 1).sync.sigs.find? (fun x => (x.obj == 5) && decide (x.due ≤ 1000)) = some ⟨1000, 0, 5⟩ ∧ ((signals 1).obj 5).c + 1 ≤ 0xFFFFFFFF ∧
    (signals 1).sync.semWaits.find? (fun x => (x.row == 0 && x.obj == 5) && decide (x.due ≤ 1000)) = some ⟨1000, 0, 5⟩ ∧
    (∀ y ∈ (signals 1).sync.semWaits, y.obj = 5 → 1000 ≤ y.due ∧ (y.due = 1000 → 0 ≤ y.row)) ∧ 1 ≤ ((signals 1).obj 5).allow ∧ ((signals 0).obj 5).allow = 0 ∧
    (signals 0).sync.misses.find? (fun x => (x.row == 1) && decide (x.due ≤ 1000)) = some ⟨1000, 1, 5⟩ := by decide +kernel

/-- `up` with the last running and a MEM list for channel 0 whose one entry is a command in cycle 1,000, of bank 1. -/
def listed (cmd : Nat) : State := { up with cmd := { lasts := [(0, last)] }, mem := Mem.setBytes [] 0x1008 (toBytes 8 (1000 + cmd * 2 ^ 26 + 2 ^ 33)) }

theorem test_witness_ChannelRuns_lists : (listed 1).outOfService 0 = false ∧
    ([1, 2].all (fun cmd => (listed cmd).entryNow 0 [(26, 3, cmd), (29, 2, 0), (31, 2, 0), (33, 2, 1), (35, 15, 0), (50, 5, 0), (55, 5, 0)])) = true ∧
    (listed 3).entryNow 0 [(26, 3, 3), (29, 2, 0), (31, 2, 0), (33, 2, 1)] = true := by decide +kernel

/-- The data slot of a unit at address 0 of channel 0, and a request at the head of the channel that arrived 66 cycles ago. -/
def request (k : ReqKind) (rd : Bool) : State := { doing [.unit 0 rd 0 940] with hbm := { chans := [(0, { reqs := [⟨k, 934, 0, 0, none⟩] })] } }

theorem request_quiet (k : ReqKind) (rd : Bool) : Claims.Quiet (request k rd) := by
  have hl : ∀ c, (request k rd).listUnits c = [] := fun _ => rfl
  refine ⟨rfl, fun _ _ => ⟨rfl, rfl⟩, fun _ _ _ => rfl, fun c q _ => ?_⟩
  unfold State.leavesNow
  rw [hl]
  cases q.kind <;> simp

theorem test_witness_ChannelRuns : ((request (.page 0 0) true).chan 0).reqs = ⟨.page 0 0, 934, 0, 0, none⟩ :: [] ∧ 934 ≤ 940 ∧ 1000 ≤ up.clk.cycle ∧
    ((request (.fill 0 0) true).chan 0).reqs = ⟨.fill 0 0, 934, 0, 0, none⟩ :: [] ∧ ((request (.spill 0) false).chan 0).reqs = ⟨.spill 0, 934, 0, 0, none⟩ :: [] ∧
    (request (.page 0 0) true).work = [⟨1000, .unit 0 true 0 940⟩] ∧ (request (.spill 0) false).work = [⟨1000, .unit 0 false 0 940⟩] ∧
    up.started = true ∧ up.mgt.staging.length < 64 ∧ up.abort = none ∧ up.clk.pauseFrom = none ∧ (500 ≠ 0 ∨ 940 < 934) ∧
    ((issue 0).seq 0).pages.find 0 = some (page0 (toBytes 16 0)) := by decide +kernel

/-- `up` with a COPY of 64 bytes to the host, or a write of the package's own, waiting in channel 0; and the channel retraining. The package is in a pause, where every slot is open. -/
def pause : State := { up with clk := { up.clk with cycle := 1048576, pauseFrom := some 0 } }
def copying (o : OpenReq) : State := { pause with hbm := { chans := [(0, { queue := [o] })] }, host := { copies := [⟨0, 0, 7, 0, false, true, 0, 0x1000, 64, 0, []⟩] } }
def retraining (n : Nat) : State := { up with hbm := { chans := [(0, { training := true, attempts := n })] } }

theorem test_witness_ChannelUpkeep : up.outOfService 0 = false ∧ up.started = true ∧ (up.chan 0).training = false ∧ up.groupClaimed 0 = false ∧ up.awlHalted 0 = false ∧
    pause.clk.pauseFrom.isSome = true ∧ ({ up with cmd := { lasts := [(0, last)] } } : State).groupClaimed 0 = true ∧
    ((retraining 1).chan 0).training = true ∧ ((retraining 1).chan 0).attempts + 1 < 3 ∧
    (let s := copying (.copy 0 0)
     (s.chan 0).queue = .copy 0 0 :: [] ∧ s.openSlots 0 = true ∧ s.host.copies.find? (fun k => k.job == 0) = some ⟨0, 0, 7, 0, false, true, 0, 0x1000, 64, 0, []⟩ ∧
      s.host.d3.contains (s.owner 0) = false ∧ s.memErr = [] ∧ s.gapKept 0 0 false = true ∧ s.lateCode ⟨0, 0, 7, 0, false, true, 0, 0x1000, 64, 0, []⟩ 0 64 = 0) ∧
    (let s := copying (.own 0 [1#8]); (s.chan 0).queue = .own 0 [1#8] :: [] ∧ s.openSlots 0 = true ∧ s.gapKept 0 0 true = true) := by decide +kernel

/-- A descriptor of bytes at offsets. -/
def desc (fs : List (Nat × Nat)) : BitVec 512 := BitVec.ofNat 512 (fs.foldl (fun n f => n + f.2 * 2 ^ (8 * f.1)) 0)

/-- `up` with port A in L0 and ring 0 enabled, of 64 entries each, one descriptor waiting. -/
def ringUp : State := { up with regs := [(ringReg 0 + 0x10, 0x10606#32)], host := { portA := ⟨.l0, false⟩, rings := [(0, { sqTail := 1 })] }, ctx := { slots := [(3, { inMax := 32768, outLen := 64, loaded := true })] } }

theorem test_witness_RingCommands : ringUp.readsFrom 0 = true ∧
    ([desc [(0, 1), (0xC, 3), (0x28, 1)], desc [(0, 2), (0xB, 1), (0x28, 2)], desc [(0, 3), (0x18, 64), (0x1C, 1)], desc [(0, 4), (8, 5), (0xC, 65535)], desc [(0, 5), (8, 4095)],
      desc [(0, 6), (0x10, 1)], desc [(0, 7), (8, 1)], desc [(0, 7)]].all (fun d => ringUp.fenceOpen 0 d && ringUp.firstChecks 0 d == 0)) = true := by decide +kernel

theorem test_witness_RingCommands_checks : (let s1 := ringUp.takeDescriptor 0
    s1.submitCheck 0 (desc [(0, 1), (0xC, 3), (0x28, 1)]) = 0 ∧ s1.msLoadCheck 0 (desc [(0, 2), (0xB, 1), (0x28, 2)]) = 0 ∧ s1.gateHolds = false ∧
    s1.vfObj (s1.owner 0) 4095 = true ∧ s1.claimsObj 4095 = false ∧ s1.dieCut (s1.ringPort 0) (4095 / 1024) = false ∧ s1.dieCut (s1.ringPort 0) (5 / 1024) = false ∧ (s1.obj 5).c + 65535 ≤ 0xFFFFFFFF ∧ ringUp.clk.epoch < 1 ∧
    s1.vfHbm (s1.owner 0) 0 64 = true ∧ s1.accessCode (s1.ringPort 0) 0 64 false = 0) := by decide +kernel

theorem test_witness_RefusedDescriptors : ringUp.readsFrom 0 = true ∧
    ([desc [(0, 8)], desc [(0, 1), (0xC, 3)], desc [(0, 2)], desc [(0, 3)], desc [(0, 4)], desc [(0, 5), (8, 4096)], desc [(0, 6)], desc [(0, 7), (0x10, 1)]].all
      (fun d => ringUp.fenceOpen 0 d && ringUp.firstChecks 0 d != 0)) = true ∧ knownOpc (dOpc (desc [(0, 8)])) = false ∧ ringUp.gateFull = false ∧
    ({ ringUp with shk := { promoted := some 0x1001, gate := List.replicate 256 (.message .getStatus []) } } : State).gateFull = true := by decide +kernel
/-- `ringUp` with context 0 in a phase, submitted on ring 0 as CID 7. -/
def ctxAt (p : CtxPhase) (die : Nat) : State := { ringUp with ctx := { slots := [(0, { inMax := 32768, outLen := 64, loaded := true })], live := [{ idx := 1048576 * die, sq := 0, cid := 7, phase := p, outLen := 32768 }] } }

theorem pick_some (s : State) (l : List Nat) (h : l ≠ []) : ∃ x ∈ l, s.pickPlace l = some x := by
  cases l with
  | nil => exact absurd rfl h
  | cons a t =>
    refine ⟨_, ?_, rfl⟩
    have hlt : Config.poolPick s.freeNext % (a :: t).length < (a :: t).length := Nat.mod_lt _ (by simp)
    rw [List.getD_eq_getElem _ _ hlt]
    exact List.getElem_mem hlt

theorem test_witness_CommandEnds_fetch : (ctxAt .posted 0).started = true ∧ (ctxAt .posted 0).mgt.dark ≠ .idle ∧
    (ctxAt .posted 0).nextPosted 0 0 = some { idx := 0, sq := 0, cid := 7, phase := .posted, outLen := 32768 } ∧ (ctxAt .posted 0).cacheUsed 0 < 16384 ∧ (ctxAt .posted 0).rangeTrains ((ctxAt .posted 0).recAddr 0) 64 = false := by decide +kernel

/-- `ctxAt .posted 0` with a pool of 2 MiB. -/
def pool : State := { ctxAt .posted 0 with regs := [(ctxBase + 0x120, 1#32)] }

theorem pool_second : ((pool.poolFree 0 32768 (0, 0)).all (fun x => !(pool.poolFree 0 32768 (x, 32768)).isEmpty)) = true := by decide +kernel

/-- Whichever places the free value picks, both buffers of a context of 32 KiB and 64 bytes fit into an empty pool. -/
theorem test_witness_CommandEnds_allocate : ∃ p, pool.allocate 0 (roundUp (pool.slot (pool.ctxField 0 2 2)).inMax 32768) (roundUp (pool.slot (pool.ctxField 0 2 2)).outLen 32768) = some p := by
  have e1 : roundUp (pool.slot (pool.ctxField 0 2 2)).inMax 32768 = 32768 := by decide +kernel
  have e2 : roundUp (pool.slot (pool.ctxField 0 2 2)).outLen 32768 = 32768 := by decide +kernel
  rw [e1, e2]
  obtain ⟨x, hm, hx⟩ := pick_some pool (pool.poolFree 0 32768 (0, 0)) (by decide +kernel)
  have hne : pool.poolFree 0 32768 (x, 32768) ≠ [] := by
    have h := List.all_eq_true.mp pool_second x hm
    intro h0
    rw [h0] at h
    cases h
  obtain ⟨y, _, hy⟩ := pick_some { pool with freeNext := pool.freeNext + 1 } (pool.poolFree 0 32768 (x, 32768)) hne
  exact ⟨(x, y), by rw [State.allocate, hx]; dsimp only; rw [hy]⟩

/-- `up` in the queue snapshot's time of epoch 7. -/
def late (s : State) : State := { s with clk := { s.clk with cycle := 1047808, epoch := 7 } }

theorem test_witness_CommandEnds :
    ({ up with sync := { waits := [⟨5, 1, 0, 0, 7, 0, none⟩] } } : State).sync.waits.find? (fun w => w.sq == 0 && w.cid == 7 && w.left == 0 && w.sat.isNone) = some ⟨5, 1, 0, 0, 7, 0, none⟩ ∧
    ({ up with host := { copies := [⟨0, 0, 7, 0, false, true, 0, 0x1000, 64, 64, []⟩] } } : State).host.copies.find? (fun j => j.sq == 0 && j.cid == 7) = some ⟨0, 0, 7, 0, false, true, 0, 0x1000, 64, 64, []⟩ ∧
    (ctxAt .staging 3).ctxInfo 3145728 = some { idx := 3145728, sq := 0, cid := 7, phase := .staging, outLen := 32768 } ∧ (ctxAt .staging 3).localIn 3145728 = false ∧
    ([] : List Byte).length = (ctxAt .staging 3).ctxField 3145728 0x20 4 ∧
    (late (ctxAt .queued 3)).ctxInfo 3145728 = some { idx := 3145728, sq := 0, cid := 7, phase := .queued, outLen := 32768 } ∧ (late (ctxAt .queued 3)).snapTime = true ∧
    (late (ctxAt .queued 3)).clk.latched = false ∧ (late (ctxAt .queued 3)).ctxField 3145728 0x28 8 < (late (ctxAt .queued 3)).clk.epoch + 1 := by decide +kernel

/-- `ringUp` with MOD_TIME set and a completion that waits. -/
def comp : Completion := ⟨7, 0, 0, 0, 0, 0, 7⟩
def waiting (tail : Nat) : State := { ringUp with regs := [(ringReg 0 + 0x10, 0x10606#32), (ringReg 0 + 0x18, 1#32)], host := { ringUp.host with rings := [(0, { cqTail := tail, p := 1, due := [⟨comp, none, none⟩] })], msix := [(5, { pend := true })] } }

theorem test_witness_DoorbellsAndCompletions : ringUp.doorbellReaches .a 0 0 = true ∧ ringUp.doorbellDrops 0 0 = false ∧ (63#32).toNat % 65536 < ringUp.sqSize 0 ∧
    ringUp.doorbellReaches .a 0 64 = true ∧ ringUp.doorbellDrops 0 64 = true ∧ (3#32).toNat % 65536 < (waiting 3).cqSize 0 ∧
    ((3#32).toNat % 65536 + (waiting 3).cqSize 0 - ((waiting 3).ring 0).cqHead) % (waiting 3).cqSize 0 ≤ (waiting 3).cqUsed 0 ∧ (3#32).toNat / 2 ^ 31 = 0 ∧
    ((waiting 62).ring 0).due = ⟨comp, none, none⟩ :: [] ∧ (waiting 62).mayWrite 0 = true ∧ (waiting 62).cqUsed 0 + 1 < (waiting 62).cqSize 0 ∧
    ((waiting 62).port ((waiting 62).ringPort 0)).st ≠ .l1 ∧ (⟨comp, none, none⟩ : Due).result = none ∧ (⟨comp, none, none⟩ : Due).frees = none ∧ ((waiting 63).ring 0).due ≠ [] ∧ (waiting 63).cqSize 0 ≤ (waiting 63).cqUsed 0 + 1 ∧
    ((waiting 63).ring 0).waited = false ∧ (({ up with host := { rings := [(0, { waited := true })] } } : State).ring 0).waited = true ∧ (waiting 63).bits (ringReg 0 + 0x18) 0 16 ≠ 0 ∧ 0 < ((waiting 63).ring 0).p ∧
    ((waiting 0).host.msix.get {} 5).pend = true := by decide +kernel

theorem test_witness_FunctionsAndPorts : up.started = true ∧ (Port.a == .b) = up.controlB ∧ up.host.vfs = 0 ∧
    (let s : State := { up with host := { vfs := 63, d3 := [63], portA := ⟨.l1, false⟩ } }
     63 ≤ s.host.vfs ∧ 63 ∈ s.host.d3 ∧ (s.port (portNo .a)).st = .l1) ∧
    (let s : State := { up with host := { vfs := 1, portA := ⟨.l0, true⟩ }, regs := [(hifBase, 1#32)] }
     1 ≤ s.host.vfs ∧ 1 ∉ s.host.d3 ∧ (s.port (portNo .a)).st = .l0 ∧ (s.port (portNo .a)).reset = true ∧ s.portAllowed .a = true ∧ s.bits hifBase 0 1 = 1) := by decide +kernel

theorem test_witness_FunctionsAndPorts_d3 : ∀ q < 4096, up.owner q = 1 → up.ringActive q = false := by
  intro q _ h
  have : up.host.vfs = 0 := by decide
  unfold State.owner at h
  split at h <;> omega

/-- A CTXIN or CTXOUT word that reaches quarter 0 with the context at entry 0 of the last's slot table, bound into this epoch. -/
def bound (op : Nat) (work : List Work := []) : State :=
  { doing work with cmd := { lasts := [(0, last)] }
                    seqs := [(0, { running := true, flight := [{ flightOf (slot0 (mov op)) 0 with ctx := some 0 }] })]
                    ctx := { slots := [(0, { outLen := 64, loaded := true })], bindNow := [⟨0, 0, 0, [(0, 0)]⟩], live := [{ idx := 0, sq := 0, cid := 7, phase := .bound, outLen := 32768 }] } }

theorem test_witness_ContextMoves : ([5, 6].all (fun op => (bound op).slotWord sel0 (isCtxMove op 0x800) == some { flightOf (slot0 (mov op)) 0 with ctx := some 0 })) = true ∧
    (bound 5).unitsNamed sel0 = [(0, 0)] ∧
    (bound 5).wordCtx sel0 { flightOf (slot0 (mov 5)) 0 with ctx := some 0 } = some { idx := 0, sq := 0, cid := 7, phase := .bound, outLen := 32768 } := by decide +kernel

theorem test_witness_ContextMoves_done : (let s := bound 6 [.ctxDone 0]
    Claims.Quiet s ∧ 1000 ≤ s.clk.cycle ∧ s.work = [⟨1000, .ctxDone 0⟩] ∧ s.ctxInfo 0 = some { idx := 0, sq := 0, cid := 7, phase := .bound, outLen := 32768 } ∧
      placeOf (s.recAddr 0) = .hbm 0 ∧ s.rangeOut (s.recAddr 0) 1 = false) :=
  ⟨quiet_of _ rfl (by intro p hp; cases hp) (by intro p hp; cases hp), by decide +kernel⟩

theorem test_witness_BeforeTheBoundary : (late up).started = true ∧ (late up).snapTime = true ∧ (late up).clk.snapped = false ∧
    (let s : State := { up with clk := { cycle := 1048064, snapped := true } }
     s.abort = none ∧ s.epochN ≤ s.clk.cycle + 512 ∧ s.clk.snapped = true ∧ s.clk.latched = false ∧ s.cmd.lasts = [] ∧ ∀ l < 128, (s.lnk l).txMove = none ∧ (s.lkk l).proposed = none) ∧
    (let l := { last with st := .staged, start := 1, later := [0] }
     let s : State := { up with clk := { cycle := 1048560, preload := [0] }, cmd := { lasts := [(0, l)] } }
     0 ∈ s.clk.preload ∧ s.epochN ≤ s.clk.cycle + 16 ∧ s.cmd.lasts.find? (fun p => p.2.st == .staged && p.2.start == s.clk.epoch + 1 && p.2.later.contains 0) = some (0, l) ∧
      l.seqs.find? (fun e => e.row == 0) = some ⟨0, 1, 0x100000, 4096⟩ ∧ s.rangeOut 0x100000 4096 = false) ∧
    (let s : State := { up with clk := { cycle := 1048512 } }
     s.checkC ≤ s.clk.cycle ∧ s.clk.checked = false ∧ s.claimedBarriers = [] ∧ s.allLanded = true ∧ s.joined = false ∧ s.clk.release = none) ∧
    (let l := { last with sections := { last.sections with streams := [⟨0, false, 1, 100, 0, 0, 0, [[⟨2000, 0, 0⟩]]⟩] } }
     let s : State := { up with clk := { cycle := 1048512 }, cmd := { lasts := [(0, l)] }, lk := [(0, { st := .inSched })] }
     s.checkC ≤ s.clk.cycle ∧ s.claimedBarriers = [] ∧ s.allLanded = false ∧ (s.lkk 0).landed < s.owed 0) := by decide +kernel

theorem test_witness_EnteringAnEpoch : (let s : State := { up with clk := { cycle := 1048576, release := some { epoch := 1 } } }
    s.boundaryOpen = true ∧ s.clk.release = some { epoch := 1 }) ∧
    (let s : State := { up with clk := { cycle := 1048576, pauseFrom := some 0, now := 50000000 } }; s.boundaryOpen = true ∧ s.clk.release = none ∧ s.waitedOut = true) := by decide +kernel

/-- `up` in the recovery of an abort of epoch 0. -/
def aborted (a : Abort) : State := { up with abort := some a }

theorem test_witness_AbortTriggers : up.started = true ∧ up.mgt.staging.length < 64 ∧ 223 ∈ up.boot.islands ∧ up.abort = none ∧ up.clk.pauseFrom = none ∧
    (aborted { epoch := 0, code := 0x105, start := 0, taken := true }).abort = some { epoch := 0, code := 0x105, start := 0, taken := true } ∧
    0 + 30000000 < (aborted { epoch := 0, code := 0x105, start := 0, taken := true }).clk.now := by decide +kernel

theorem test_witness_AbortRecovery : (aborted { epoch := 0, code := 0x105, start := 0, taken := true, restored := true }).recovered { epoch := 0, code := 0x105, start := 0, taken := true, restored := true } = true ∧
    up.joined = false ∧ up.clk.release = none := by decide +kernel
/-- What a stage 0 finds where all is well. -/
def fine : Stage0In := { straps := [List.replicate 8 0#2, List.replicate 8 1#2, List.replicate 8 2#2, List.replicate 8 3#2], romFail := [], fuseFail := [], pkgFail0 := false, pkgFail2 := false, bootRecordFails := false, keyRecordOpens := true, suspendable := true, sfdpReadable := true, badRecords := [] }

theorem fine_wf : fine.wf = true := by decide

/-- A package in a phase of its start. -/
def phase (p : Phase) : State := { State.reset with boot := { phase := p, straps := [some 0, some 1, some 2, some 3], record := { fails := 2 } } }

theorem test_witness_StartsBegin : State.reset.boot.phase = .heldReset ∧ State.reset.mgt.resetLow = true ∧ State.reset.mgt.railLow = false ∧
    (let s : State := { State.reset with mgt := { resetLow := false, railLow := true } }; s.boot.phase = .heldReset ∧ s.mgt.resetLow = false ∧ s.mgt.railLow = true) ∧
    (phase .waitRetry).boot.phase = .waitRetry ∧ (phase .sole).boot.phase = .sole ∧ (phase .sole).mctpServes = true ∧
    ({ phase (.stage 0) with mgt := { warmDue := true } } : State).mgt.warmDue = true ∧ fine.romFail = [] ∧ State.reset.fuseFail fine = none ∧ State.reset.readBoot.fails < 3 ∧
    0 ∈ ({ fine with romFail := [0] } : Stage0In).romFail ∧ (phase .waitRetry).boot.record.fails < 3 := by decide

theorem test_witness_Stages : (phase (.stage 1)).boot.phase = .stage 1 ∧ (phase (.stage 1)).testHolds = false ∧ ({ phase (.stage 1) with regs := [(testReg 0, 1#32)] } : State).testHolds = true ∧ State.stage1Fail ⟨false, [], [], true⟩ = none ∧ none ∉ (phase (.stage 1)).boot.straps ∧
    (phase (.stage 1)).identityFails = [] ∧ ({ phase (.stage 1) with br := { st := [(0, .active), (1, .active), (2, .active), (3, .down)] } } : State).meshReady = true ∧
    (phase (.stage 2)).boot.phase = .stage 2 ∧ (phase (.stage 2)).boot.warm = false ∧ (∀ y < 4, (State.baseVersion ((phase (.stage 2)).opt.base.get {} y)).isSome = true) ∧
    (phase (.stage 4)).boot.phase = .stage 4 ∧ (phase (.stage 4)).boot.reports.find 4 = none ∧ (phase (.stage 4)).fuse.rowSpare = [] ∧
    ({ phase (.stage 3) with opt := { enable := .waiting } } : State).opt.enable = .waiting ∧ (phase (.stage 0)).boot.reports.find 0 = none ∧
    (let s : State := { up with shk := { standby := .resync } }; s.started = true ∧ s.shk.headless = false ∧ s.shk.standby = .resync ∧ s.mgt.staging.length < 64) := by decide

/-- The row repairs of a stage 2 with nothing to repair; a trial slot whose start is cut off. -/
theorem test_witness_Stages_repairs : (let s := phase (.stage 2)
    let i : Stage2In := { selfTestBad := false, sramBad := false, phyFail := none, badRows := [], lanesRepaired := [], retention := [] }
    ∃ u, (s.repairLanes (s.stage2Lanes i true)).repairRows (s.stage2Rows i true) = .inr u) := ⟨_, rfl⟩
theorem test_witness_ColdResets : (let s : State := { phase (.stage 2) with boot := { (phase (.stage 2)).boot with record := { trial := true } } }
    s.boot.phase = .stage 2 ∧ s.mgt.warmDue = false ∧ s.boot.record.trial = true) ∧ ∀ n, up.boot.phase ≠ .stage n := ⟨by decide, fun _ h => by cases h⟩

/-- `s` with the resident microcode in the regions of the four dies. -/
def resident (s : State) : State := { s with
  mem := ((((Mem.setBytes [] (residentAddr 0) s.microcode).setBytes (residentAddr 1) s.microcode).setBytes (residentAddr 2) s.microcode).setBytes (residentAddr 3) s.microcode) }

/-- A range outside the stored one reads as before. -/
theorem bytes_setBytes_other (m : Mem) (a : Nat) (bs : List Byte) : ∀ n c, (c + n ≤ a ∨ a + bs.length ≤ c) → (m.setBytes a bs).bytes c n = m.bytes c n
  | 0, _, _ => rfl
  | n + 1, c, h => by
    rw [Mem.bytes, Mem.bytes, Mem.byte_setBytes_other m a bs c (by omega), bytes_setBytes_other m a bs n (c + 1) (by omega)]

/-- Whatever the microcode is, all four regions can hold it. -/
theorem test_witness_digests (s : State) : ∀ d < 4, (resident s).digestChecks d = true := by
  have hn : s.microcode.length ≤ 0x4000000 := by
    unfold State.microcode
    rw [List.length_take]
    exact Nat.min_le_left _ _
  have hs : ∀ d < 4, (resident s).mem.bytes (residentAddr d) s.microcode.length = s.microcode := by
    intro d hd
    have hd' : d = 0 ∨ d = 1 ∨ d = 2 ∨ d = 3 := by omega
    have h0 : residentAddr 0 = 38587596800 := by decide
    have h1 : residentAddr 1 = 115897008128 := by decide
    have h2 : residentAddr 2 = 193206419456 := by decide
    have h3 : residentAddr 3 = 270515830784 := by decide
    rcases hd' with rfl | rfl | rfl | rfl <;> simp only [resident, h0, h1, h2, h3]
    · rw [bytes_setBytes_other _ _ _ _ _ ?_, bytes_setBytes_other _ _ _ _ _ ?_, bytes_setBytes_other _ _ _ _ _ ?_, Mem.bytes_setBytes_same] <;> omega
    · rw [bytes_setBytes_other _ _ _ _ _ ?_, bytes_setBytes_other _ _ _ _ _ ?_, Mem.bytes_setBytes_same] <;> omega
    · rw [bytes_setBytes_other _ _ _ _ _ ?_, Mem.bytes_setBytes_same]; omega
    · rw [Mem.bytes_setBytes_same]
  intro d hd
  have e : (resident s).digestChecks d = (sha256 ((resident s).mem.bytes (residentAddr d) s.microcode.length) == sha256 s.microcode) := rfl
  rw [e, hs d hd]
  exact beq_self_eq_true _

/-- Stage 3 with every bridge up, the lasers lit and no link enabled. -/
def dark3 : State := { phase (.stage 3) with br := { st := [(4, .active), (5, .active), (6, .active), (7, .active)] }, opt := { lit := true }, ln := (List.range 128).map (fun l => (l, { st := .detect, duty := true })) }

theorem test_witness_Stages_3 : dark3.boot.phase = .stage 3 ∧ (∀ y < 4, dark3.bridge (4 + y) = .active) ∧ dark3.opt.lit = true ∧ (∀ l < 128, dark3.linkSettled l = true) := by decide +kernel

/-- Stage 4 of a cold start, and dark-idle left, with the regions filled. -/
theorem test_witness_Stages_4 : (resident (phase (.stage 4))).boot.phase = .stage 4 ∧ (resident (phase (.stage 4))).boot.reports.find 4 = none ∧
    (resident (phase (.stage 4))).boot.warm = false ∧ (resident (phase (.stage 4))).fuse.rowSpare = [] ∧ (∀ d < 4, (resident (phase (.stage 4))).digestChecks d = true) ∧
    (resident { up with mgt := { dark := .leaving } }).mgt.dark = .leaving ∧ ∀ d < 4, (resident { up with mgt := { dark := .leaving } }).digestChecks d = true :=
  ⟨rfl, rfl, rfl, rfl, test_witness_digests _, rfl, test_witness_digests _⟩

/-- A report that passed, and a package whose stage 4 has one. -/
def report : Report := ⟨4, 0, 0, 0, false, 1, 0, 0, 1, {}, 0⟩
theorem test_witness_Stages_passed : (let s : State := { State.reset with boot := { phase := .stage 4, reports := [(4, report)] } }
    s.boot.phase = .stage 4 ∧ s.boot.reports.find 4 = some report ∧ report.result ≠ 1) := by decide

theorem test_witness_WarmResets : up.started = true ∧ up.shk.headless = false ∧ up.mgt.warmDue = false ∧ up.mgt.staging.length < 64 ∧ up.mctpServes = true ∧
    [0x52#8, 0x57#8, 0#8, 0#8].length = 4 ∧ msgField [0x52#8, 0x57#8, 0#8, 0#8] 0 4 = 0x5752 ∧ (phase .sole).boot.phase = .sole ∧
    ({ up with mgt := { warmDue := true } } : State).mgt.warmDue = true ∧ (1#32) ≠ 0x5752#32 := by decide

theorem test_witness_DarkIdle : ({ up with mgt := { dark := .entered } } : State).mgt.dark = .entered ∧ ({ up with mgt := { dark := .leaving } } : State).mgt.dark = .leaving ∧
    ({ up with mgt := { dark := .tiles } } : State).mgt.dark = .tiles := by decide

/-- A parameter block of bytes at offsets. -/
def param (fs : List (Nat × Nat)) : BitVec 1024 := BitVec.ofNat 1024 (fs.foldl (fun n f => n + f.2 * 2 ^ (8 * f.1)) 0)

theorem test_witness_CriticalCommands : ringUp.readsFrom 0 = true ∧ ringUp.fenceOpen 0 (desc [(0, 0x40)]) = true ∧ ringUp.gateHolds = false ∧ ringUp.cmd.queue = [] ∧
    ringUp.cmd.marking = none ∧ dOpc (desc [(0, 0x40)]) = 0x40 ∧ dOpc (desc [(0, 0x45)]) = 0x45 := by decide +kernel

/-- A critical command of an opcode with parameters, from MCTP; and `up` with one at a place. -/
def crit (opc : Nat) (fs : List (Nat × Nat)) : Crit := { src := .mctp, d := desc [(0, opc)], param := some (param fs) }
def marking (c : Crit) : State := { up with cmd := { marking := some c, current := some (crit 0x43 []) } }
def queuedWork (c : Crit) : State := { up with shk := { standby := .inStep }, cmd := { work := [c] } }
def working (c : Crit) : State := { up with cmd := { current := some c, lasts := [(3, { last with st := .validating })] } }

theorem test_witness_CriticalWork : up.activeHalted = false ∧ (marking (crit 0x41 [])).cmd.marking = some (crit 0x41 []) ∧ (marking (crit 0x41 [])).cmd.queue = [] ∧
    (marking (crit 0x41 [])).cmd.current ≠ none ∧ dOpc (crit 0x41 []).d ≠ 0x40 ∧
    (queuedWork (crit 0x41 [])).cmd.current = none ∧ (queuedWork (crit 0x41 [])).cmd.work = crit 0x41 [] :: [] ∧ dOpc (crit 0x41 []).d = 0x41 ∧
    ({ up with cmd := { keys := [(3, { st := .locked })] } } : State).activeHalted = false ∧ (({ up with cmd := { keys := [(3, { st := .locked })] } } : State).key 3).st = .locked ∧
    up.nor.storeWaits = false ∧ ({ up with nor := { storeWaits := true } } : State).nor.storeWaits = true := by decide +kernel

theorem test_witness_CriticalWork_kinds :
    (dOpc (crit 0x40 [(0, 1)]).d = 0x40 ∧ State.namesImage (crit 0x40 [(0, 1)]) = true) ∧
    (dOpc (crit 0x43 [(0, 1), (1, 1)]).d = 0x43 ∧ (queuedWork (crit 0x43 [(0, 1), (1, 1)])).keyChangeBad (crit 0x43 [(0, 1), (1, 1)]) = false ∧
      (queuedWork (crit 0x43 [(0, 8), (1, 1)])).keyChangeBad (crit 0x43 [(0, 8), (1, 1)]) = true) ∧
    (dOpc (crit 0x42 [(0, 2), (1, 3), (2, 8)]).d = 0x42 ∧ ((queuedWork (crit 0x42 [])).lock 1).refuse = none ∧ pField (crit 0x42 [(0, 2)]).p 0 1 = 2) ∧
    (dOpc (crit 0x44 [(8, 1)]).d = 0x44 ∧ (queuedWork (crit 0x44 [(8, 1)])).latchedEpoch < pField (crit 0x44 [(8, 1)]).p 8 8) ∧
    (dOpc (crit 0x45 [(0, 1)]).d = 0x45 ∧ (queuedWork (crit 0x45 [(0, 1)])).shk.standby = .inStep ∧ (queuedWork (crit 0x45 [(0, 1)])).latchedEpoch < pField (crit 0x45 [(0, 1)]).p 0 8) ∧
    (let c := crit 0x40 [(0x10, 2), (0x20, 4)]
     State.namesImage c = false ∧ c.accepted + 2 ≤ pField c.p 0x10 8 ∧ (queuedWork c).latchedEpoch < pField c.p 0x10 8 ∧ pField c.p 0x20 1 = 4) := by decide +kernel

theorem test_witness_CriticalEnds :
    (let c := crit 0x40 [(0, 1)]
     (working c).activeHalted = false ∧ (working c).cmd.current = some c ∧ (working c).cmd.work = [] ∧ dOpc c.d = 0x40 ∧ State.namesImage c = true ∧
      (working c).loadEntry c = some (3, { last with st := .validating })) ∧
    (let c := crit 0x43 [(0, 7), (1, 1)]; dOpc c.d = 0x43 ∧ pField c.p 1 1 = 1) ∧ (let c := crit 0x43 [(0, 7), (1, 2)]; dOpc c.d = 0x43 ∧ pField c.p 1 1 = 2) ∧
    (let c := crit 0x41 []; dOpc c.d = 0x41) ∧ (let c := crit 0x42 [(0, 2), (1, 3), (2, 8)]; dOpc c.d = 0x42 ∧ pField c.p 0 1 = 2) ∧
    (let c := crit 0x42 [(0, 1), (1, 3), (8, 7)]; dOpc c.d = 0x42 ∧ pField c.p 0 1 = 1) := by decide +kernel
/-! ### Light, bridges and lanes -/

/-- Channel 0 of chiplet Y0, group 0, in a state. -/
def laser0 : LaserId := ⟨0, 0, 0⟩
def lit (c : Channel) : State := { up with opt := { lit := true, channels := [(0, c)] } }

theorem test_witness_Lasers : chanOf laser0.chip laser0.group laser0.chan = 0 ∧ ((lit { primary := .bus }).chOf 0).primary = .bus ∧ ((lit { primary := .bus }).chOf 0).spare = .dark ∧
    ((lit { primary := .bus }).chOf 0).primaryHi = false ∧ ((lit { primary := .bus }).chOf 0).exchange = none ∧ (lit {}).opt.lit = true ∧ ({ up with opt := { enable := .running } } : State).opt.enable = .running ∧ (lit { primary := .bringup, spare := .bus }).opt.lit = true ∧
    ((lit { primary := .bus, spare := .ready }).chOf 0).spare = .ready ∧ ((lit { primary := .bus, spare := .dead }).chOf 0).spare = .dead ∧
    ((lit { primary := .failed, spare := .bus }).chOf 0).spare = .bus ∧ ((lit { primary := .failed, spare := .bringup }).chOf 0).primary = .failed ∧
    ((lit { primary := .bus, spare := .bringup }).chOf 0).spare = .bringup ∧ ((lit { primary := .bringup, retries := 14 }).chOf 0).retries < 15 ∧
    15 ≤ ((lit { primary := .bringup, retries := 15 }).chOf 0).retries ∧ ((lit { primary := .bringup, retries := 15 }).chOf 0).spare ≠ .dead ∧ (lit { primary := .bus, exchange := some .toSpare }).chOf 0 = { primary := .bus, exchange := some .toSpare } ∧ (up.chOf 0).primary = .dark ∧ ((lit { primary := .bringup }).chOf 0).primary = .bringup ∧
    ((lit { primary := .ready, spare := .bus }).chOf 0).primary = .ready ∧ ((lit { primary := .ready, spare := .bus }).chOf 0).spareHi = false := by decide

/-- `up` with link L0 in a state, and its shutter. -/
def link (r : LinkLn) (sh : Shutter) : State := { up with opt := { lit := true, shutters := [(0, sh)], channels := [(0, { primary := .bus })] }, ln := [(0, r)] }

theorem test_witness_Interlock : up.cmd.override = false ∧ up.opt.lit = false ∧ up.opt.enable ≠ .running ∧ (lit {}).cmd.override = false ∧ (lit {}).opt.lit = true ∧
    ({ up with opt := { enable := .running, enableAt := 44000000 } } : State).seqLit = true ∧ ({ up with opt := { enable := .running, enableAt := 49000000 } } : State).seqLit = false ∧
    ({ up with opt := { enable := .running } } : State).opt.enable = .running ∧ ({ up with cmd := { override := true } } : State).cmd.override = true ∧ (up.chOf 271).primary = .dark ∧ (up.lnk 127).st = .off ∧ up.lnEnabled 127 = true ∧
    (link { st := .active } .opened).shutter 0 = .opened ∧ (link { st := .active } .opened).lnEnabled 0 = true ∧ (link { st := .active } .opened).opt.lit = true ∧ ((link { st := .active } .opened).lnk 0).st ≠ .off ∧
    ((link { st := .detect, duty := true } .closed).lnk 0).duty = true ∧ ((link { st := .detect, duty := true } .closed).lnk 0).held = false ∧
    ((link { st := .detect, duty := true } .closed).lnk 0).found = false := by decide

/-- Link L0 ACTIVE with its rings, lane 0 deferred and detuned past its guard band. -/
def tuned : State := { up with ln := [(0, { st := .active, rxSpare := 0 })], opt := { lit := true, rings := [(0, { code := 2000, est := 158 })], lanes := [(0, { deferred := true })] } }

theorem test_witness_Heaters : up.opt.lit = false ∧ up.opt.enable ≠ .running ∧
    (let s : State := { up with ln := [(0, { st := .active })], opt := { lit := true, rings := (List.range 34).map (fun i => (i, { code := if i = 0 then 5 else 4090 })) } }
     s.opt.lit = true ∧ s.linkUp 0 = true ∧ ∀ i < 34, 4 < (s.ringOf (34 * 0 + i)).code ∧ (s.ringOf (34 * 0 + i)).code < 4091) ∧
    (tuned.linkUp 0 = true ∧ 2 * (-104 : Int).natAbs ≤ (tuned.bandOf 0).1 ∧ (tuned.bandOf 0).2.1 < 2 * (63 : Int).natAbs) := by decide +kernel

theorem test_witness_Calibration : tuned.linkUp 0 = true ∧ (tuned.calGroup (linkGroup 0)).run = none ∧ laneOf 0 (tuned.lnk 0).spareCh ≠ 31 ∧
    (tuned.lnk 0).rxSpare = laneOf 0 (tuned.lnk 0).spareCh := by decide +kernel

theorem test_witness_GuardBand : (let s : State := { tuned with opt := { tuned.opt with rings := [(ringKey 0 0 true, { est := 158 })] } }
    (s.laneCal 0 0).deferred = true ∧ (s.laneCal 0 0).guardOut = false ∧ (s.bandOf 0).2.2.1 < (s.ringOf (ringKey 0 0 true)).est) := by decide +kernel

theorem test_witness_CalTurn : (let s : State := { tuned with regs := [(yzBase 0 + 0x10, 0#32)] }
    s.started = true ∧ s.opt.lit = true ∧ (s.calGroup (4 * 0 + 0)).run = none ∧ s.bits (yzBase 0 + 0x10) 0 1 = 0 ∧ s.turnLane 0 0 = some (0, 0)) ∧
    (let s : State := { tuned with opt := { tuned.opt with groups := [(0, { run := some ⟨0, 16, false⟩ })] } }
     s.linkUp 0 = true ∧ (s.calGroup (linkGroup 0)).run = some ⟨0, 16, false⟩ ∧ s.txIdle 0 16 = true) := by decide +kernel

/-- Link L0 ACTIVE with its spare lane free or in use, and lane 0 overloaded. -/
def overloaded (spare : Nat) : State := { up with ln := [(0, { st := .active, rxSpare := spare, rxLock := 0x1FFFF#17 })], opt := { lit := true, lanes := [(0, { overload := true })] } }

theorem test_witness_AmbientLight : (up.laneCal 0 0).overload = false ∧ ((overloaded 31).laneCal 0 0).overload = true ∧ ((overloaded 31).laneCal 0 0).overloadRetired = false ∧
    (overloaded 31).linkUp 0 = true ∧ laneOf 0 ((overloaded 31).lnk 0).spareCh ≠ 31 ∧ ((overloaded 31).lnk 0).retired.getLsbD 0 = false ∧ (overloaded 31).rxFree 0 = true ∧
    ((overloaded 15).lnk 0).rxSpare ≠ 31 ∧ ((overloaded 15).lnk 0).rxSpare ≠ laneOf 0 ((overloaded 15).lnk 0).spareCh ∧
    ({ up with opt := { lanes := [(0, { overloadRetired := true })] } } : State).laneCal 0 0 = { overloadRetired := true } ∧
    (up.laneCal 0 0).prbs = false ∧
    (let s : State := { up with ln := [(0, { st := .active, txSpare := laneOf 0 16 })], opt := { lit := true, channels := [(0, { primary := .bus })], lanes := [(0, { prbs := true })] } }
     let r := s.lnk 0
     let j := laneOf 0 r.spareCh
     (s.laneCal 0 0).prbs = true ∧ j ≠ 31 ∧ r.st = .active ∧ r.txSpare = j ∧ r.txMove = none ∧ (j, true) ∉ r.want ∧
      s.channelLit (chanOf (0 / 32) (0 % 32 / 8) 0) = true ∧ (s.calGroup (linkGroup 0)).run = none ∧ (s.laneCal 0 0).retired = false) ∧
    (let s : State := { up with ln := [(0, { st := .active })], opt := { lanes := [(16, { prbs := true })] } }
     (s.laneCal 0 16).prbs = true ∧ laneOf 16 (s.lnk 0).spareCh = 31) := by decide +kernel

/-- A package in a phase with bridge `b` in a state. -/
def bridge (p : Phase) (b : Nat) (st : BridgeState) (tries : Nat) : State := { phase p with br := { st := [(b, st)], initTries := [(b, tries)] } }

theorem test_witness_Bridges : (bridge (.stage 1) 3 .training 0).bridge 3 = .training ∧ (bridge (.stage 1) 3 .training 0).boot.phase = .stage 1 ∧
    (bridge .started 0 .training 0).boot.phase = .started ∧ (bridge (.stage 3) 4 .training 0).bridge 4 = .training ∧ (bridge (.stage 3) 4 .training 0).boot.phase = .stage 3 ∧
    (let s : State := { up with br := { st := [(7, .active)], dirs := [(64 * 3 + 2 * 31, { down := true })] } }
     s.started = true ∧ s.chanDown 3 31 = true ∧ s.bridge 7 = .active) ∧
    (bridge (.stage 3) 4 .training 1).initOpen 0 = true ∧ (bridge (.stage 3) 7 .training 2).initOpen 3 = true ∧ (bridge (.stage 3) 7 .training 2).br.initTries.get 0 (4 + 3) < 3 ∧
    3 ≤ (bridge (.stage 3) 7 .training 3).br.initTries.get 0 (4 + 3) ∧
    (let s : State := { up with br := { st := [(3, .active)], ceEpoch := [(6, 1025)] } }
     s.bridge 3 = .active ∧ s.started = true ∧ s.abort = none ∧ s.clk.pauseFrom = none ∧ s.ceOver (2 * 3) = true ∧ s.ceOver (2 * 3 + 1) = false ∧ s.mgt.staging.length < 64) ∧
    (bridge (.stage 1) 3 .training 0).testHolds = false ∧ (phase (.stage 1)).testOpen = true ∧ (phase (.stage 1)).testRuns 7 = false ∧ up.testOpen = false ∧
    (let s : State := { phase (.stage 1) with regs := [(testReg 7, 0x151#32)] }
     s.testRuns 7 = true ∧ s.mismatches 7 255 37 [true, true, false] = 2 ∧ s.bits (State.countAt 7 true 255 37) (countShift 255 37) 16 = 0) := by decide +kernel

/-- The last with a stream of one stitch on L0 in each direction, line 5, cycle 2,000; and `up` running it. -/
def streaming (st : LkState) (r : LinkLn) : State :=
  let x : StreamSpec := ⟨0, true, 1, 100, 0, 0, 0, [[⟨2000, 5, 0⟩]]⟩
  { up with clk := { cycle := 2000 }, cmd := { lasts := [(0, { last with sections := { last.sections with streams := [x, { x with send := false }] } })] }
            lk := [(0, { st := st })], ln := [(0, r)], br := { st := [(4, .active)] } }

theorem test_witness_WnFlits : (let s := streaming .inSched {}
    (s.stitchList 0 true)[(s.lkk 0).released]? = some ⟨2000, 5, 0⟩ ∧ s.inEpoch = true ∧ s.notStopped = true ∧ gridBefore (wnGrid s.fuse.variant) (2000 - 101) ≤ s.clk.cycle ∧
    (s.lkk 0).st = .inSched ∧ s.chanRuns 0 0 = true ∧ (s.dir 0).resend = [] ∧ (s.dir 0).stitches = [] ∧ (s.dir 0).packets = [] ∧
    (∀ j < 32, (s.dir (64 * 0 + 2 * j)).locals = []) ∧ (s.lkk 0).poison = [] ∧ hField (BitVec.ofNat 256 (1 + 2 ^ 16)) 0 2 = 1 ∧
    wrapDiff 12 (hField (BitVec.ofNat 256 (1 + 2 ^ 16)) 16 12) (s.dir 0).expect = 0) ∧
    (let f : Flit := { idleFlit with kind := 1 }
     let s : State := { up with br := { st := [(4, .active)], dirs := [(0, { stitches := [f], replay := List.replicate 63 f, tries := 8 })] } }
     s.chanRuns 0 0 = true ∧ (s.dir 0).resend = [] ∧ (s.dir 0).stitches = f :: [] ∧ (s.dir 0).replay.length < 64 ∧ (s.dir 0).replay ≠ [] ∧ 8 ≤ (s.dir 0).tries) ∧
    (let s : State := { up with br := { st := [(4, .active)], dirs := [(0, { locals := [{ idleFlit with kind := 3 }], credits := startCredits initAdv })] } }
     s.chanRuns 0 0 = true ∧ (s.dir 0).resend = [] ∧ (s.dir 0).stitches = [] ∧ (s.dir 0).packets = [] ∧ s.slotReserved 0 0 false = false ∧
      s.localNext 0 false = some 0 ∧ (s.dir 0).locals = { idleFlit with kind := 3 } :: []) ∧
    (let s : State := { up with shk := { standby := .inStep } }; s.shanksRun = true ∧ s.shk.standby = .inStep) := by decide +kernel

theorem test_witness_LaneBringUp : ((link { st := .detect } .probe).lnk 0).st = .detect ∧ ((link { st := .detect } .probe).lnk 0).held = false ∧ (link { st := .detect } .probe).shutter 0 = .probe ∧
    (link { st := .detect } .probe).flooded 0 = false ∧ ((link { st := .detect, found := true, partnerFound := true } .probe).lnk 0).found = true ∧
    ((link { st := .detect, found := true, partnerFound := true } .probe).lnk 0).partnerFound = true ∧ ((link { st := .detect } .probe).lnk 0).duty = false ∧
    ((link { st := .detect } .probe).lnk 0).found = false ∧ ((link { st := .detect, held := true } .closed).lnk 0).held = true ∧
    ((link { st := .align } .opened).lnk 0).st = .align ∧ ((link { st := .align } .opened).lnk 0).phase2 = false ∧ ((link { st := .align, phase2 := true } .opened).lnk 0).phase2 = true ∧
    ((link { st := .bitlock } .opened).lnk 0).st = .bitlock := by decide

/-- A capability block of zeros. -/
def block0 : BitVec 2048 := 0#2048
theorem test_witness_LaneService :
    (let r := (link { st := .frame, frameTries := 1, hunt := [(0, { run := 30, fcnt := 5 })] } .opened).lnk 0
     r.st = .frame ∧ r.rxLock.getLsbD 0 = false ∧ (r.hunt.get {} 0).run < 31 ∧ r.frameTries < 2) ∧
    (let r := (link { st := .active, rxLock := 1#17 } .opened).lnk 0
     r.st = .active ∧ r.rxLock.getLsbD 0 = true ∧ kField (0#132) 89 1 = 0 ∧ r.txMove = none ∧ markerGood (0#132) = false ∧ (r.hunt.get {} 0).bad < 3) ∧
    markerGood (0x67000000001f18009c6b4a71e25d0f83e#132) = true ∧ kField (0x67000000001f18009c6b4a71e25d0f83e#132) 89 1 = 0 ∧
    (let s := link { st := .active, rxLock := 0x1FFFF#17, hunt := [(0, { bad := 3 })] } .opened
     let r := s.lnk 0
     3 ≤ (r.hunt.get {} 0).bad ∧ (s.laneCal 0 0).overload = false ∧ 0 ≠ r.spareCh ∧ s.rxFree 0 = true ∧ r.rxSpare ≠ laneOf 0 r.spareCh) ∧
    (let r := (link { st := .capx, capFails := 1 } .opened).lnk 0; r.st = .capx ∧ r.capLast ≠ some block0 ∧ r.capFails < 2) ∧
    (let r := (link { st := .capx, capLast := some block0, capSeen := true, capPartner := true, capSent := 16, capFails := 2 } .opened).lnk 0
     r.capLast = some block0 ∧ r.capSeen = true ∧ r.capPartner = true ∧ 16 ≤ r.capSent ∧ 2 ≤ r.capFails) ∧ up.chanDown 0 0 = false := by decide +kernel

theorem test_witness_LossOfLock :
    (let s := link { st := .capx, rxLock := 0x1FFFF#17 } .opened; (s.lnk 0).rxLock.getLsbD 0 = true ∧ (s.laneCal 0 0).overload = false ∧ (s.lnk 0).st = .capx) ∧
    (let s := link { st := .active, rxLock := 0x1FFFF#17 } .opened; (s.lnk 0).st = .active ∧ 0 ≠ (s.lnk 0).spareCh ∧ s.rxFree 0 = true) ∧
    (let s := link { st := .active, rxLock := 0x1FFFF#17, rxSpare := 15 } .opened; (s.lnk 0).rxSpare ≠ 31 ∧ (s.lnk 0).rxSpare ≠ laneOf 0 (s.lnk 0).spareCh) := by decide
/-! ### Links and fabric -/

/-- `streaming` with L0 ACTIVE, its stitch ready to go. -/
def rowReady : State := { streaming .inSched { st := .active } with lk := [(0, { st := .inSched, ready := [0#2048] })] }
/-- `up` with L0 ACTIVE and outside the schedule, in a link state. -/
def linkLk (r : LinkLk) : State := { up with ln := [(0, { st := .active })], lk := [(0, r)] }

theorem test_witness_Rows : rowReady.linkUp 0 = true ∧ rowReady.slotDue 0 = true ∧ (rowReady.lkk 0).ready = 0#2048 :: [] ∧ (rowReady.lkk 0).queue = [] ∧ (rowReady.lkk 0).poison = [] ∧
    (rowReady.lkk 0).kept = [] ∧ ((rowReady.lkk 0).kept.length + (rowReady.lkk 0).keptPkt.length + (rowReady.lkk 0).keptRr.length) < 4096 ∧
    (let s := linkLk {}; let r := s.lkk 0
     s.linkUp 0 = true ∧ s.slotDue 0 = false ∧ r.ctlDue = false ∧ r.nakDue = false ∧ r.queue = [] ∧ r.rrQueue = [] ∧ r.pktReplay = [] ∧ r.newPkt = [] ∧ r.kept.length + r.keptPkt.length + r.keptRr.length < 4096) ∧
    (let s := linkLk { ctlDue := true }; let r := s.lkk 0
     s.slotDue 0 = false ∧ r.ctlDue = true ∧ r.nakDue = false ∧ r.queue = [] ∧ r.fencing = false ∧ r.markers = [] ∧ r.kept.length + r.keptPkt.length + r.keptRr.length < 4096) ∧
    ((link { st := .active, word := 1 } .opened).lnk 0).word ≠ 0 ∧
    (let n := (link { st := .frame } .opened).lnk 0
     n.st = .frame ∧ n.capFails = 0 ∧ n.word = 0 ∧ ((link { st := .frame } .opened).calGroup (linkGroup 0)).run = none) ∧
    (rowReady.stitchList 0 false)[(rowReady.lkk 0).rx - (rowReady.lkk 0).rx0]? = some ⟨2000, 5, 0⟩ ∧ (rowReady.lkk 0).rx < 2 ^ 30 := by decide +kernel

/-- 10 R417, R448, R905: a marker of frame 5 with lane 3 on the spare, every wavelength locked and a move of lane 3 asked for; computed by hand from the layout. -/
theorem test_sent_marker : sentMarker { fcnt := 5, frameMap := some 3, rxLock := 0x1FFFF#17, txMove := some ⟨3, false, 0x102, false, true⟩ } 16 =
    0x7b0121ffffdf18059c6b4a71e25d0f83e#132 := by decide +kernel
/-- 10 R416, R419: the second payload word of frame 5 on λ16, and what a lane shows while its link trains (R421, R425, R431). -/
theorem test_lane_words : payloadWord 16 5 2 (2 ^ 128 - 3) 2 = 0xf345f6efe5cda6ffcddf5924fb25f3cd9#132 ∧
    (link { st := .detect, found := true } .probe).lightOf 0 0 = .tone 0x2C59 ∧ (link { st := .bitlock } .opened).lightOf 0 0 = .prbs 0x40000000 ∧
    (link { st := .active } .opened).lightOf 0 0 = .frame ∧ (link { st := .active } .closed).lightOf 0 0 = .dark := by decide +kernel

theorem test_witness_Landings :
    (let s : State := { rowReady with lk := [(0, { st := .inSched, landing := [(0, 0#2048), (256, 0#2048)], landed := 1 })] }
     let r := s.lkk 0; r.landing = (0, 0#2048) :: [(256, 0#2048)] ∧ r.landed + 1 ≠ s.owed 0 ∧ s.clk.checked = false) ∧
    (let g : GroupSpec := ⟨1, 3, 0, 1, [0, 1], 1⟩
     let s : State := { up with cmd := { lasts := [(0, { last with sections := { last.sections with groups := [g] } })] }, opt := { reduce := [(6, [⟨0, [(24, 0#2048), (25, 0#2048)]⟩])] } }
     s.groupSpec 3 (0 + 1) = some g ∧ 0 = 3 / 4 ∧
      (s.opt.reduce.get [] (2 * 3 + 0)).find? (fun z => (State.groupMembers g).all (fun m => (z.ops.find m).isSome)) = some ⟨0, [(24, 0#2048), (25, 0#2048)]⟩) := by decide +kernel

theorem test_witness_LinkUpkeep :
    (let r := (linkLk { kept := [⟨9, 0#2048⟩], expiries := [(0, (9, 2))] }).lkk 0; r.kept = ⟨9, 0#2048⟩ :: [] ∧ r.queue = [] ∧ State.expiredFor r 0 9 < 3) ∧
    (let r := (linkLk { kept := [⟨9, 0#2048⟩], expiries := [(0, (9, 3))] }).lkk 0; r.kept = ⟨9, 0#2048⟩ :: [] ∧ 3 ≤ State.expiredFor r 0 9) ∧
    (let s := linkLk { st := .rerouted }; (s.lkk 0).st = .rerouted ∧ (s.lkk (twin 0)).rrExpect = none ∧ (s.lkk (twin 0)).rrHeld = []) ∧
    (let s := linkLk { st := .down }; s.mayRejoin 0 = true ∧ s.latchedEpoch < (1#64).toNat) ∧
    (let s := linkLk { proposed := some 1 }; (s.lkk 0).proposed = some (1#64).toNat ∧ s.latchedEpoch < (1#64).toNat) ∧
    (let s := linkLk { proposed := some 0 }; (s.lkk 0).proposed = some (0#64).toNat ∧ (0#64).toNat ≤ s.latchedEpoch) ∧
    ringUp.regReach .portA 0 = true ∧ ringUp.started = true ∧ Src.portA ≠ .mctp := by decide +kernel

/-- `up` on the Lace line, as a member or as the leader, and in the tree of links with parent L3 or child L5. -/
def lace (cfg : Word) (c : Clock) : State := { up with clk := c, regs := [(fabBase + 0x10, cfg)], ln := [(3, { st := .active }), (5, { st := .active })] }
def here : Clock := { cycle := 1000 }

theorem test_witness_LaceLine : (lace 1#32 here).joined = true ∧ (lace 1#32 here).started = true ∧ (lace 1#32 here).shk.headless = false ∧ (lace 1#32 here).isLeader = false ∧
    0 = (lace 1#32 here).laceSlot ∧ 15 ≠ (lace 1#32 here).laceSlot ∧ (lace 3#32 here).isLeader = true ∧ 15 ≠ (lace 3#32 here).laceSlot ∧ (lace 3#32 here).clk.ready = false ∧
    (0x1#16).toNat.testBit 0 = true ∧ (0x1#16).toNat.testBit 3 = false ∧ (lace 1#32 here).aborting = false ∧ (lace 1#32 here).clk.release = none ∧
    State.gatherRelease [(0, 1#16), (1, 1#16)] = some { epoch := 1 } ∧ 1 = (lace 1#32 here).nextEpoch ∧ (lace 1#32 here).fab.stopped = false ∧ ({ lace 1#32 here with fab := { stopped := true } } : State).fab.stopped = true ∧
    State.gatherRelease [(0, 1#16)] = some { epoch := 0 } ∧ (lace 1#32 here).clk.epoch = 0 ∧ (lace 1#32 here).mgt.staging.length < 64 ∧ (lace 1#32 here).chunks.any (fun w => decide (11 ≤ w)) = false ∧
    ({ lace 1#32 here with fab := { part := some { epoch := 1 } } } : State).fab.part = some { epoch := 1 } := by decide +kernel

/-- A marker of a kind for an epoch of fabric 0. -/
def markerOf (kind epoch : Nat) : BitVec 512 := BitVec.ofNat 512 (kind + epoch * 2 ^ 64)

theorem test_witness_EpochMarkers : (lace 1#32 { cycle := 16 }).started = true ∧ (lace 1#32 { cycle := 16 }).clk.synced = false ∧ (lace 1#32 here).linkUp 3 = true ∧
    (lace 1#32 here).ownFabric (markerOf 2 0) = true ∧
    (let s : State := { lace 3#32 here with regs := [(fabBase + 0x10, 3#32), (fabBase + 0x20, 0x20#32)] }
     s.joined = true ∧ s.isLeader = true ∧ s.treeLink 5 (fun i => s.childLinks.contains i) = some 5 ∧ (decodeMarker (markerOf 2 0)).flags.testBit 1 = false ∧
      (decodeMarker (markerOf 2 0)).epoch = s.doneEpoch ∧ s.clk.ready = false) ∧
    (let s := lace 0x00830001#32 here
     s.joined = true ∧ s.isLeader = false ∧ s.treeLink 3 (fun i => s.parentLink == some i) = some 3 ∧ (decodeMarker (markerOf 3 1)).epoch = s.clk.epoch + 1 ∧
      s.nextEpoch = s.clk.epoch + 1 ∧ s.aborting = false ∧ s.clk.release = none) ∧
    (let s : State := { lace 1#32 here with abort := some { epoch := 0, code := 0x105, start := 0, taken := true } }
     s.abort.isSome = true ∧ mField (markerOf 4 0) 8 8 = s.clk.epoch ∧ (s.lkk 3).rrExpect = none) ∧
    (let s := linkLk { repeats := [⟨⟨2, 0, 0, 0, 0⟩, 6⟩] }; s.linkUp 0 = true ∧ (s.lkk 0).repeats = [⟨⟨2, 0, 0, 0, 0⟩, 6⟩] ∧ 6 < 7) := by decide +kernel

/-! ### Shanks and management -/

/-- `up` with a standby in a state. -/
def shanks (st : Standby) (f : Nat) : State := { up with shk := { standby := st, fails := f } }

theorem test_witness_ShankFaults : (shanks .inStep 0).shanksRun = true ∧ (shanks .inStep 0).pair 0 = .running ∧ (shanks .inStep 0).awlHalted 0 = false ∧ 0 = (shanks .inStep 0).activePos ∧
    (shanks .failed 3).shk.standby ≠ .inStep ∧ 2 = (shanks .inStep 0).standbyPos ∧ 2 ≠ (shanks .inStep 0).activePos ∧ (shanks .inStep 0).pair 2 = .running ∧
    (let s : State := { up with shk := { standby := .inStep, fault := some 0x1001 } }; s.shk.fault = some 0x1001 ∧ s.shk.headless = false ∧ s.shk.standby = .inStep) ∧
    (let s : State := { up with shk := { promoted := some 0x1001 } }; s.shk.promoted = some 0x1001 ∧ s.shk.gate = [] ∧
      s.shanksRun = true ∧ s.gateHolds = true ∧ s.shk.gate.length < 256) ∧
    (shanks .resync 2).shk.standby = .resync ∧ (shanks .resync 2).activeHalted = false ∧ (shanks .resync 2).awlHalted (shanks .resync 2).standbyPos = false ∧
    (shanks .none 2).shk.standby = .none ∧ 0 < (shanks .none 2).shk.fails ∧ (shanks .none 2).shk.fails < 3 ∧ up.boot.phase ≠ .sole ∧ (phase .shankFailed).boot.phase = .shankFailed := by decide

/-- 16 R718: a message that waited in the gate is answered once the new active shank's first output has left. -/
theorem test_gate_message : (let s : State := { up with shk := { promoted := some 0x1001, gate := [.message .getTypes []] } }
    s.mctpServes = false ∧ s.doFirstOutput.shk.gate = [] ∧ s.doFirstOutput.mgt.answers.map (fun a => a.bytes) = [[2#8, 1#8, 0x7F#8]]) := by decide +kernel

theorem test_witness_Mctp : up.mctpServes = true ∧ up.started = true ∧ up.mgt.staging.length < 64 ∧
    (let s : State := { up with mgt := { answers := [{ status := 0, bytes := [], start := 49999999, losses := 6 }] } }
     s.mctpServes = true ∧ s.mgt.answers = { status := 0, bytes := [], start := 49999999, losses := 6 } :: [] ∧ 6 < 7 ∧ s.clk.now < 49999999 + 100000000) ∧
    msgField [1#8, 254#8] 0 1 % 4 < 2 ∧ 8 ≤ msgField [1#8, 254#8] 1 1 ∧ msgField [1#8, 254#8] 1 1 < 255 ∧ msgField [0x7F#8] 0 1 ∈ [0xFF, 0, 1, 0x7F] ∧ msgField [0#8] 0 1 = 0 ∧
    [0#8, 0#8, 0#8, 0#8, 64#8].length = 5 ∧ msgField [0#8, 0#8, 0#8, 0#8, 64#8] 4 1 = 64 ∧
    (List.replicate 16 0#8).length = 16 ∧ regWriteRefused (msgField (List.replicate 16 0#8) 0 4) = false ∧ regWriteRefused (mgtBase + 0x4000) = true ∧
    (List.replicate 8 0#8 ++ [14#8]).length = 9 ∧ msgField (List.replicate 8 0#8 ++ [14#8]) 8 1 = 14 ∧
    ({ up with mgt := { dark := .idle } } : State).criticalBusy = true ∧ up.criticalBusy = false ∧ (List.replicate 192 0#8).length = 192 ∧ up.gateHolds = false ∧
    up.cmd.queue = [] ∧ up.cmd.marking = none := by decide +kernel

theorem test_witness_PldmAndSensors : up.mctpServes = true ∧ msgField [0#8, 0#8, 0#8, 0#8, 0#8, 2#8] 5 1 = 2 ∧ msgField [2#8] 0 1 = 2 ∧ msgField [37#8, 0#8] 0 2 = 37 ∧
    up.sensorUp 37 = true ∧ (phase (.stage 3)).sensorUp 37 = false ∧ (phase (.stage 3)).mctpServes = true ∧ msgField [12#8] 0 2 = 12 ∧ up.shanksRun = true ∧
    State.tripped dieTrip up.mgt.dieTemps [dieTrip, 0, 0, 0] = [] ∧ State.tripped dieTrip up.mgt.dieTemps [dieTrip + 1, 0, 0, 0] = [0] ∧ stateSensor 10 = true ∧ stateSensor 37 = false ∧ State.reset.boot.phase = .heldReset ∧
    State.tripped stackTrip up.mgt.stackTemps [stackTrip + 1, 0, 0, 0, 0, 0, 0, 0] ≠ [] ∧ up.started = true ∧ up.abort = none ∧ up.clk.pauseFrom = none := by decide +kernel

theorem test_witness_EventLog : ringUp.started = true ∧ ringUp.regReach .portA 0 = true ∧
    ({ ringUp with mgt := { staging := [⟨0, 0, 0, 1, {}, 0⟩] } } : State).mgt.staging = ⟨0, 0, 0, 1, {}, 0⟩ :: [] ∧
    (0#64).toNat < ({ ringUp with mgt := { evtNext := 1 } } : State).mgt.evtNext ∧ ringUp.mgt.evtNext ≤ (1#64).toNat ∧ (1#64).toNat ≠ ringUp.mgt.evtAck ∧
    (0#64).toNat < ({ ringUp with cmd := { jnlNext := 1 } } : State).cmd.jnlNext ∧ ringUp.cmd.jnlNext ≤ (1#64).toNat ∧ (1#64).toNat ≠ ringUp.cmd.jnlAck ∧
    ringUp.overtakenWrite .portA (mgtBase + 0x3008) = false ∧ ringUp.overtakenWrite .portA (cmdBase + 0x80010) = false ∧
    ({ ringUp with wrote := [(mgtBase + 0x3008, bankOf .mctp)] } : State).overtakenWrite .portA (mgtBase + 0x3008) = true ∧
    ({ ringUp with wrote := [(cmdBase + 0x80010, bankOf .mctp)] } : State).overtakenWrite .portA (cmdBase + 0x80010) = true := by decide

/-- `ringUp` with the flash in a session on slot B. -/
def flashing (st : FlashSt) (mctp : Bool) (sector : Nat) (u : UpdState) : State := { ringUp with flash := { st := st, slot := true, sector := sector, session := some mctp }, boot := { phase := .started, record := { updState := u } } }

theorem test_witness_FlashUpdates : ringUp.mctpServes = true ∧ (ringUp.lock 0).refuse = none ∧ ringUp.flash.session = none ∧ ringUp.flash.st = .idle ∧ ringUp.flash.readOnly = false ∧
    ringUp.inactiveSlot true = true ∧ ringUp.inactiveSlot false = false ∧ (ringUp.lock 0).holder = none ∧ ringUp.flashCmdReaches .portA 0 = true ∧
    (flashing .erasing true 1 .erasing).flash.st = .erasing ∧ (flashing .erasing true 1 .erasing).flash.stalled = false ∧ (flashing .erasing true 1 .erasing).flash.sector ≠ 0 ∧ ringUp.nor.suspended = false ∧ ringUp.nor.storeWaits = false ∧
    ({ flashing .erasing true 1 .erasing with nor := { suspended := true } } : State).nor.suspended = true ∧ ({ flashing .erasing true 1 .erasing with nor := { storeWaits := true } } : State).nor.storeWaits = true ∧
    (flashing .erasing true 0 .erasing).flash.sector = 0 ∧ (flashing .erased true 0 .erased).flashFree = true ∧ (flashing .erased true 0 .erased).flash.st = .erased ∧
    (flashing .erased true 0 .erased).boot.record.updState = .erased ∧ (flashing .erased true 0 .erased).inactiveSlot true = true ∧
    (flashing .erased true 0 .erased).flash.session = some true ∧ (List.replicate 512 0#8).length ≤ 512 ∧ (flashing .erased false 0 .erased).flash.session = some false ∧
    (flashing .erased false 0 .erased).flashCmdReaches .portA 0 = true ∧
    (({ flashing .erased false 0 .erased with regs := [(mgtBase + 0x5008, 4096#32)] } : State).word (mgtBase + 0x5008)).toNat = 4096 := by decide +kernel

theorem test_witness_DebugAndLocks : up.mgt.railLow = false ∧ State.mapped (8 * 0x900000000 - 8) 8 = true ∧ up.rangeOut (8 * 0x900000000 - 8) 8 = false ∧ up.started = true ∧
    up.accessCode 0 0 8 false = 0 ∧ up.memErr = [] ∧ up.accessCode 0 0 1 true = 0 ∧ placeOf 0 = .hbm 0 ∧ placeOf (dbufAddr 0) = .dbuf 0 ∧ up.accessCode 0 (dbufAddr 0) 1 true = 0 ∧ up.shanksRun = true ∧ up.pair 3 = .running ∧ up.awlHalted 3 = false ∧ 3 ≠ up.standbyPos ∧
    ({ up with shk := { awlHalt := [(3, 5)] } } : State).awlHalted 3 = true ∧ (({ up with mgt := { locks := [(15, { holder := some 5 })] } } : State).lock 15).holder = some (agentCode .awl) ∧
    (up.lock 15).holder = none ∧ up.agentActs .awl = true ∧ up.agentActs (.shank 1) = true ∧ (up.lock 15).holder ≠ some (agentCode .awl) := by decide +kernel

theorem test_witness_RegisterWrites : ringUp.started = true ∧ ringUp.regReach .portA 0 = true ∧ ringUp.wouldArm (mgtBase + 0x10108) 0x7F#32 1#32 = true ∧
    ringUp.latchedEpoch < (({ ringUp with banks := [(bankOf .portA, { pendEpoch := 1 })] } : State).banks.get {} (bankOf .portA)).pendEpoch ∧
    (ringUp.banks.get {} (bankOf .portA)).pendEpoch ≤ ringUp.latchedEpoch ∧
    ([hifBase, mgtBase + 0x10108, 0x8].all (fun o => !ringUp.overtakenWrite .portA o)) = true ∧
    ({ ringUp with wrote := [(hifBase, bankOf .mctp)] } : State).overtakenWrite .portA hifBase = true := by decide +kernel
/-! ### Ill-formed commands -/

theorem test_wf_straps : Instr.wf (.resetNRelease { fine with straps := [] }) = false ∧ Instr.wf (.failedStartRetry { fine with straps := [[], [], [], []] }) = false ∧
    Instr.wf (.retry { fine with straps := [[], [], [], []] }) = false ∧ Instr.wf (.warmStage0Start { fine with straps := [] }) = false ∧
    Instr.wf (.railRecovery { fine with straps := [] }) = false ∧ Instr.wf (.soleRetry [] { fine with straps := [] }) = false ∧ Instr.wf (.resetNRelease fine) = true := by decide

def long : List Byte := List.replicate 1025 0#8

theorem test_wf_bodies : Instr.wf (.soleRetry long fine) = false ∧ Instr.wf (.setEndpointId long) = false ∧ Instr.wf (.getStatus long) = false ∧ Instr.wf (.regRead long) = false ∧
    Instr.wf (.regWrite long) = false ∧ Instr.wf (.evtRead long) = false ∧ Instr.wf (.critical long) = false ∧ Instr.wf (.warmReset long) = false ∧ Instr.wf (.flashBegin long) = false ∧
    Instr.wf (.flashWrite long) = false ∧ Instr.wf (.flashEnd long) = false ∧ Instr.wf (.flashStatus long) = false := by decide +kernel

def found : Stage2In := { selfTestBad := false, sramBad := false, phyFail := none, badRows := [], lanesRepaired := [], retention := [] }

theorem test_wf_stage2 : Instr.wf (.stage2 { found with badRows := [150994944] }) = false ∧ Instr.wf (.stage2 { found with lanesRepaired := [(0, 65)] }) = false ∧
    Instr.wf (.stage2 { found with retention := [(150994944, 0)] }) = false ∧ Instr.wf (.stage2 { found with retention := [(0, 0), (0, 1)] }) = false ∧
    Instr.wf (.stage2 { found with badRows := [150994943], lanesRepaired := [(7, 64)], retention := [(150994943, 6)] }) = true := by decide +kernel

theorem test_wf_opcodes : Instr.wf (.lastLoad 0 (desc [(0, 1)]) none) = false ∧ Instr.wf (.fwActivate 0 (desc [(0, 1)]) none) = false ∧ Instr.wf (.fuseBurn 0 (desc [(0, 1)]) none) = false ∧
    Instr.wf (.keyChange 0 (desc [(0, 1)]) none) = false ∧ Instr.wf (.laserOverride 0 (desc [(0, 1)]) none) = false ∧ Instr.wf (.roleTransfer 0 (desc [(0, 1)]) none) = false ∧
    Instr.wf (.ctxSubmit 0 (desc [(0, 2)])) = false ∧ Instr.wf (.msLoad 0 (desc [(0, 1)])) = false ∧ Instr.wf (.copy 0 (desc [(0, 1)]) none) = false ∧
    Instr.wf (.synSignal 0 (desc [(0, 1)])) = false ∧ Instr.wf (.synSet 0 (desc [(0, 1)])) = false ∧ Instr.wf (.synWait 0 (desc [(0, 1)])) = false ∧
    Instr.wf (.epochMark 0 (desc [(0, 1)])) = false ∧ Instr.wf (.ctxSubmit 0 (desc [(0, 8)])) = true := by decide +kernel

theorem test_wf_lists : Instr.wf (.boundaryStep [(0, 1), (0, 2)]) = false ∧ Instr.wf (.detuneEstimateRefresh 0 [(0, 1), (0, 2)]) = false ∧
    Instr.wf (.alignSecondPhase 0 [(0, none), (0, none)]) = false ∧ Instr.wf (.alignDone 0 [(0, none), (0, none)]) = false ∧
    Instr.wf (.laceRelease [(0, 0#16), (0, 1#16)]) = false ∧ Instr.wf (.releaseHi [(0, 0#16), (0, 1#16)]) = false ∧
    Instr.wf (.temperatureRead [0] [0, 0, 0, 0] [0, 0, 0, 0, 0, 0, 0, 0]) = false ∧ Instr.wf (.temperatureRead [0, 0, 0, 0] [0] [0, 0, 0, 0, 0, 0, 0, 0]) = false ∧
    Instr.wf (.temperatureRead [0, 0, 0, 0] [0, 0, 0, 0] []) = false := by decide +kernel

theorem test_wf_runs_and_bridges : Instr.wf (.rdRun 0 ⟨0, 0, 0, 0, 31, 1⟩) = false ∧ Instr.wf (.wrRun 0 ⟨0, 0, 0, 0, 1, 31⟩) = false ∧ Instr.wf (.rdRun 0 ⟨0, 0, 0, 0, 31, 0⟩) = true ∧
    Instr.wf (.bridgeTraining 0 none (.noClock false 385)) = false ∧ Instr.wf (.bridgeTraining 0 none (.noDeskew false 0 38)) = false ∧
    Instr.wf (.bridgeTraining 0 none (.wireError false 385 0)) = false ∧ Instr.wf (.bridgeTraining 0 none (.wireError true 384 37)) = true := by decide +kernel

theorem test_wf_addresses : Instr.wf (.awlPeek .memory (2 ^ 64) 4) = false ∧ Instr.wf (.awlRead .memory (2 ^ 64) 4) = false ∧ Instr.wf (.awlWrite .memory (2 ^ 64) []) = false ∧
    Instr.wf (.registerWrite .portA 0 (2 ^ 26) 4 0#64) = false ∧ Instr.wf (.registerWrite .portA 0 0 3 0#64) = false ∧ Instr.wf (.registerWrite .portA 0 0 1 256#64) = false ∧
    Instr.wf (.registerWrite .portA 0 0 8 0xFFFFFFFFFFFFFFFF#64) = true := by decide +kernel

theorem test_witness_IdleStepIsACycle : up.pending = [] ∧ State.reset.boot.phase = .heldReset ∧ up.boot.phase ≠ .heldReset ∧
    placeOf (32 * 1) ≠ .unmapped ∧ up.started = true ∧ up.mgt.staging.length < 64 ∧ up.abort = none ∧ up.clk.pauseFrom = none ∧
    (let s : State := { up with ctx := { live := [{ idx := 3, sq := 0, cid := 7, phase := .queued, cached := true }] } }
     s.ctxInfo 3 = some { idx := 3, sq := 0, cid := 7, phase := .queued, cached := true } ∧ s.started = true ∧ s.mgt.staging.length < 64 ∧ s.abort = none ∧
       s.clk.pauseFrom = none) ∧
    (linkLk { kept := [⟨9, 0#2048⟩] }).linkUp 0 = true ∧ ((linkLk { kept := [⟨9, 0#2048⟩] }).lkk 0).kept ≠ [] ∧
    up.shanksRun = true ∧ (up.word (mgtBase + 0x3108)).toNat < 0xFFFFFFFE := by decide +kernel

/-! ### Single steps -/

/-- No word of the table spells a command, and the fetch helper changes nothing. -/
theorem test_no_word_spells_a_command : decodeTableWord 32 0xFFFFFFFF = none ∧ State.reset.withFetchWord 32 0 = State.reset := by decide

/-- 02 R63: a cycle of a started package on an empty queue. -/
theorem test_cycle_counts : up.tick.clk.cycle = 1001 := by decide

/-- 03 R128, 0x0306: a word that a soft error made bad is met by the read; 11 R503: a bad replay entry takes the link down with 0x0B08. -/
theorem test_soft_errors : ((up.struck (.word 0 true)).touch 0 32).abort.isSome = true ∧
    ((linkLk { kept := [⟨9, 0#2048⟩] }).struck (.replay 0)).lnk 0 ≠ (linkLk {}).lnk 0 ∧ (up.struck .packet).mgt.staging.length = 1 := by decide +kernel

/-- 03 R133: FADD of 1.5 and 2.25 is 3.75, due 4 cycles after receipt; the sum enters VD only with its result. -/
def adding : State := { fly (slot0 (vec 1)) with tiles := [(0, Tile.setRegs (Tile.setRegs {} 1 ((List.range 64).map (fun l => (l, 0x3FC00000#32)))) 2 ((List.range 64).map (fun l => (l, 0x40100000#32))))] }
theorem test_fadd : ((after (.fadd sel0 3 1 2) adding).tile 0).vres.map (fun r => (r.due, r.vd, r.lanes.head?)) = [(1004, 3, some (0, 0x40700000#32))] ∧
    ((after (.fadd sel0 3 1 2) adding).tile 0).reg 3 0 = 0#32 ∧ ((after (.vectorOpResult 0) { after (.fadd sel0 3 1 2) adding with clk := { cycle := 1004 } }).tile 0).reg 3 63 = 0x40700000#32 := by decide +kernel

/-- 03 R920: a fifth loop level records 0x0302 and aborts; 03 R142: HALT ends the program. -/
theorem test_loop_nests_four_deep : (after (.loop 0 5#12) (loops (ctlWord 6) 0)).abort.map (fun a => a.code) = some 0x0302 ∧ ((after (.halt 0) (issue (ctlWord 15))).seq 0).running = false := by decide +kernel

/-- 07 R293: a SEMWAIT that hits takes one from A and C; on an empty allowance it misses and both stay. -/
theorem test_semwait : ((after (.semwaitArrival 0 5) (signals 1)).obj 5).c = 0xFFFFFFFD ∧ ((after (.semwaitArrival 0 5) (signals 1)).obj 5).allow = 0 ∧
    ((after (.semwaitArrival 0 5) (signals 0)).obj 5).c = 0xFFFFFFFE ∧ (after (.semwaitArrival 0 5) (signals 0)).sync.misses = [⟨1000, 1, 5⟩, ⟨1012, 0, 5⟩] := by decide +kernel

/-- 18 R811: a read of a free lock takes it and returns that it was free. -/
theorem test_lock : ((after (.mgtLockRead .awl 3) up).lock 3).holder = some 5 ∧ ((after (.mgtLockWrite .awl 3 0#32) (after (.mgtLockRead .awl 3) up)).lock 3).holder = none := by decide +kernel

/-- 14 R651: an acknowledgement above JNL_NEXT - 1 is dropped and counted. -/
theorem test_jnl_ack : (after (.jnlAck .portA 0 1#64) ringUp).word (hifBase + 0x20) = 1#32 ∧ (after (.jnlAck .portA 0 1#64) ringUp).cmd.jnlAck = 0 := by decide +kernel

/-- 09 R406: LASER_PERMIT falling darkens a lit package, and every link goes OFF. -/
theorem test_permit_falls : (after .laserPermitFall (link { st := .active } .opened)).opt.lit = false ∧ ((after .laserPermitFall (link { st := .active } .opened)).lnk 0).st = .off ∧
    (after .laserPermitFall (link { st := .active } .opened)).shutter 0 = .closed := by decide +kernel

/-- 17 R741: a cold reset clears scratch and registers; R743: only 0x5752 asks for a warm reset. -/
theorem test_resets : (after .coldReset { rows {} with mem := [(scratchAddr 0, 1#8)] }).mem = [] ∧ (after (.pkgResetCtl .portA 0 0x5752#32) up).mgt.warmDue = true ∧
    (after (.pkgResetCtl .portA 0 0x5753#32) up).mgt.warmDue = false := by decide +kernel

end Sys2Proof.Tests
end

section
/-! Events recorded and aborts begun in a started package: an equation for each operation where no queue is full and no abort or pause stands in the way (17 R752, R753; 18 R795-R799). -/

namespace Sys2Proof.Machine.State

/-- R798, R799: with room in the staging queue an event is inserted and none is counted as lost. -/
theorem stageEvent_of_room {s : State} (e : Event) (hroom : s.mgt.staging.length < 64) :
    s.stageEvent e = { s with mgt := { s.mgt with staging := insertEvent e s.mgt.staging } } :=
  if_pos hroom

/-- Only a running stage counts notes (15 R662). -/
theorem addNote_of_started {s : State} (hs : s.started = true) : s.addNote = s := by
  have hphase : s.boot.phase = .started := by simpa [started] using hs
  simp [addNote, hphase]

theorem recordFatal_of_room {s : State} {code : Nat} (loc : Loc) (detail : Nat) (hroom : s.mgt.staging.length < 64)
    (hcode : code / 256 ≠ 0x10) : s.recordFatal code loc detail = { s with mgt := Claims.noted s code loc detail } := by
  rw [recordFatal, if_neg hcode]
  exact stageEvent_of_room _ hroom

theorem record_of_started {s : State} {code : Nat} (loc : Loc) (detail : Nat) (hs : s.started = true)
    (hroom : s.mgt.staging.length < 64) (hcode : code / 256 ≠ 0x10) :
    s.record code loc detail = { s with mgt := Claims.noted s code loc detail } := by
  rw [record, recordFatal_of_room loc detail hroom hcode]
  exact addNote_of_started hs

/-- R752: outside an abort and a pause, a trigger aborts the epoch that runs. -/
theorem trigger_of_running {s : State} (code : Nat) (hs : s.started = true) (ha : s.abort = none) (hp : s.clk.pauseFrom = none) :
    s.trigger code = { s with abort := some { epoch := s.clk.epoch, code := code, start := s.clk.now, thermal := code == 0x1101 } } := by
  simp [trigger, hs, ha, hp]

theorem abortWith_of_running {s : State} {code : Nat} (loc : Loc) (detail : Nat) (hs : s.started = true)
    (hroom : s.mgt.staging.length < 64) (hcode : code / 256 ≠ 0x10) (ha : s.abort = none) (hp : s.clk.pauseFrom = none) :
    s.abortWith code loc detail = { s with
      abort := some { epoch := s.clk.epoch, code := code, start := s.clk.now, thermal := code == 0x1101 }
      mgt := Claims.noted s code loc detail } := by
  rw [abortWith, record_of_started loc detail hs hroom hcode]
  exact trigger_of_running code hs ha hp

end Sys2Proof.Machine.State
end

section
/-! The two clock triggers of an epoch abort, and the limit of a recovery (01 R42, R43; 17 R758). -/

namespace Sys2Proof.Machine

theorem exec_crossingDeadlineMiss (i : Fin 224) (s : State) : exec (.crossingDeadlineMiss i) s = .next (s.doCrossing i) := rfl
theorem exec_islandLockLoss (i : Fin 224) (s : State) : exec (.islandLockLoss i) s = .next (s.doLockLoss i) := rfl
theorem exec_recoveryOvertime (s : State) : exec .recoveryOvertime s = .next s.doOvertime := rfl

namespace State

theorem doCrossing_of_running_island {s : State} {i : Nat} (hi : i ∈ s.boot.islands) :
    s.doCrossing i = s.abortWith 0x0105 (islandLoc i) :=
  if_pos (List.contains_iff_mem.mpr hi)

theorem doLockLoss_of_running_island {s : State} {i : Nat} (hi : i ∈ s.boot.islands) :
    s.doLockLoss i = State.abortWith { s with boot := { s.boot with islands := s.boot.islands.filter (fun k => k != i) } } 0x0106 (islandLoc i) :=
  if_pos (List.contains_iff_mem.mpr hi)

/-- R758: the first time that a recovery is found to have lasted more than 30 ms, 0x1102 is recorded. -/
theorem doOvertime_of_late {s : State} {a : Abort} (ha : s.abort = some a) (hr : a.recovered = false) (ho : a.overtime = false)
    (hlate : a.start + 30000000 < s.clk.now) :
    s.doOvertime = State.record { s with abort := some { a with overtime := true } } 0x1102 := by
  have hnot : ¬ s.clk.now - a.start ≤ 30000000 := by omega
  simp [doOvertime, ha, hr, ho, hnot]

/-- R758: an overtime that is recorded is not recorded again. -/
theorem doOvertime_of_recorded {s : State} {a : Abort} (ha : s.abort = some a) (ho : a.overtime = true) : s.doOvertime = s := by
  simp [doOvertime, ha, ho]

end State

end Sys2Proof.Machine

namespace Sys2Proof.Claims

open Sys2Proof.Machine

theorem gives_crossingDeadlineMiss {s : State} {i : Fin 224} (hs : s.started = true) (hroom : s.mgt.staging.length < 64)
    (hi : i.val ∈ s.boot.islands) (ha : s.abort = none) (hp : s.clk.pauseFrom = none) :
    Gives (.crossingDeadlineMiss i) s { s with
      abort := some { epoch := s.clk.epoch, code := 0x105, start := s.clk.now }, mgt := noted s 0x105 (islandLoc i) 0 } := by
  rw [Gives, exec_crossingDeadlineMiss, State.doCrossing_of_running_island hi]
  exact congrArg Host.Outcome.next (State.abortWith_of_running _ _ hs hroom (by decide) ha hp)

/-- The event is noted after the island has stopped; `noted` reads no field of `boot`, so it is the one noted in `s`. -/
theorem gives_islandLockLoss {s : State} {i : Fin 224} (hs : s.started = true) (hroom : s.mgt.staging.length < 64)
    (hi : i.val ∈ s.boot.islands) (ha : s.abort = none) (hp : s.clk.pauseFrom = none) :
    Gives (.islandLockLoss i) s { s with
      abort := some { epoch := s.clk.epoch, code := 0x106, start := s.clk.now }
      mgt := noted s 0x106 (islandLoc i) 0
      boot := { s.boot with islands := s.boot.islands.filter (fun k => k != i.val) } } := by
  rw [Gives, exec_islandLockLoss, State.doLockLoss_of_running_island hi]
  exact congrArg Host.Outcome.next (State.abortWith_of_running _ _ hs hroom (by decide) ha hp)

theorem gives_recoveryOvertime_late {s : State} {a : Abort} (hs : s.started = true) (hroom : s.mgt.staging.length < 64)
    (ha : s.abort = some a) (hr : a.recovered = false) (ho : a.overtime = false) (hlate : a.start + 30000000 < s.clk.now) :
    Gives .recoveryOvertime s { s with abort := some { a with overtime := true }, mgt := noted s 0x1102 {} 0 } := by
  rw [Gives, exec_recoveryOvertime, State.doOvertime_of_late ha hr ho hlate]
  exact congrArg Host.Outcome.next (State.record_of_started _ _ hs hroom (by decide))

theorem gives_recoveryOvertime_recorded {s : State} {a : Abort} (ha : s.abort = some a) (ho : a.overtime = true) :
    Gives .recoveryOvertime s s := by
  rw [Gives, exec_recoveryOvertime, State.doOvertime_of_recorded ha ho]

/-- Settles O31: each trigger records its code and begins the abort of the running epoch; an overlong recovery is recorded at its first report only. -/
theorem abortTriggers : Obligations.AbortTriggers := by
  intro s i hs hroom ab
  refine ⟨fun hi ha hp => ⟨?_, ?_⟩, fun a ha hr => ⟨fun ho hlate => ?_, fun ho => ?_⟩⟩
  · exact gives_crossingDeadlineMiss hs hroom hi ha hp
  · exact gives_islandLockLoss hs hroom hi ha hp
  · exact gives_recoveryOvertime_late hs hroom ha hr ho hlate
  · exact gives_recoveryOvertime_recorded ha ho

end Sys2Proof.Claims
end

section
/-! Before the boundary: queue snapshot, pending latch, page preload and check point (02 R92, R99, R107-R111; 03 R914). -/

namespace Sys2Proof.Machine

theorem exec_queueSnapshot (s : State) : exec .queueSnapshot s = .next s.doSnapshot := rfl
theorem exec_pendingLatch (s : State) : exec .pendingLatch s = .next s.doLatch := rfl
theorem exec_pagePreload (row : Fin 32) (s : State) : exec (.pagePreload row) s = .next (s.doPreload row) := rfl
theorem exec_checkPoint (s : State) : exec .checkPoint s = .next s.doCheck := rfl

/-- A table that lists `f k` at each `k` of a list holds it there. -/
theorem Tbl.find_map_mk {α : Type} (f : Nat → α) {i : Nat} : ∀ {l : List Nat}, i ∈ l → Tbl.find (l.map (fun k => (k, f k))) i = some (f i)
  | a :: l, h => by
    rw [List.map_cons, Tbl.find]
    split
    · next hi => rw [hi]
    · next hi => exact Tbl.find_map_mk f ((List.mem_cons.mp h).resolve_left hi)

namespace State

/-! ### Queue snapshot -/

/-- R107: where no queued context is past its DEADLINE, the snapshot takes the queues as they are. -/
theorem doSnapshot_of_none_late {s : State} (htime : s.snapTime = true) (hsnap : s.clk.snapped = false)
    (hlate : ∀ c ∈ s.ctx.live, c.phase = .queued → s.clk.epoch + 1 ≤ s.ctxField c.idx 0x28 8) :
    s.doSnapshot = { s with
      clk := { s.clk with snapped := true }
      ctx := { s.ctx with snap := s.ctx.queues }
      sync := { s.sync with objs := s.sync.objs.map (fun p => (p.1, { p.2 with allowNext := p.2.c })), waits := s.sync.waits.map s.satisfy } } := by
  have hnone : s.ctx.live.filter (fun c => c.phase == .queued && decide (s.ctxField c.idx 0x28 8 < s.clk.epoch + 1)) = [] := by
    refine List.filter_eq_nil_iff.mpr fun c hc hdue => ?_
    simp only [Bool.and_eq_true, beq_iff_eq, decide_eq_true_eq] at hdue
    exact absurd (hlate c hc hdue.1) (Nat.not_le.mpr hdue.2)
  unfold doSnapshot
  rw [if_neg (by simp [htime, hsnap]), hnone]
  rfl

/-! ### Pending latch -/

theorem missLatch_of_none_validating {s : State} {x : Nat} (h : ∀ p ∈ s.cmd.lasts, p.2.st = .validating → p.2.start ≠ x) : s.missLatch x = s := by
  have hnone : s.cmd.lasts.find? (fun p => p.2.st == .validating && p.2.start == x) = none := by
    refine List.find?_eq_none.mpr fun p hp hdue => ?_
    simp only [Bool.and_eq_true, beq_iff_eq] at hdue
    exact h p hp hdue.1 hdue.2
  unfold missLatch
  rw [hnone]
  cases s.activeHalted <;> rfl

theorem latchLink_of_quiet {s : State} {l : Nat} (x : Nat) (hm : (s.lnk l).txMove = none) (hp : (s.lkk l).proposed = none) : s.latchLink x l = s := by
  simp [latchLink, hm, hp]

/-- R108-R111: where no load misses the latch and no link has a move or a proposal open, the latch only binds the entries of the coming epoch. -/
theorem doLatch_of_quiet {s : State} (hs : s.started = true) (ha : s.abort = none) (htime : s.epochN ≤ s.clk.cycle + 512)
    (hsnap : s.clk.snapped = true) (hlatch : s.clk.latched = false)
    (hload : ∀ p ∈ s.cmd.lasts, p.2.st = .validating → p.2.start ≠ s.clk.epoch + 1)
    (hlink : ∀ l, (s.lnk l).txMove = none ∧ (s.lkk l).proposed = none) :
    s.doLatch = { s.fillSlots s.ctx.snap (s.clk.epoch + 1) with
      clk := { (s.fillSlots s.ctx.snap (s.clk.epoch + 1)).clk with
        latched := true, preload := (s.fillSlots s.ctx.snap (s.clk.epoch + 1)).rowsToPreload (s.clk.epoch + 1) } } := by
  have hlinks : (s.ln.map (fun p => p.1)).foldl (fun (t : State) l => t.latchLink (s.clk.epoch + 1) l) s = s :=
    List.foldl_fixed' (fun l => latchLink_of_quiet _ (hlink l).1 (hlink l).2) _
  unfold doLatch
  rw [if_pos (by simp [hs, ha, htime, hsnap, hlatch])]
  simp only [missLatch_of_none_validating hload, hlinks]

/-! ### Page preload -/

/-- R914: the pages of a row program that a preload reads, those in a channel group out of service left out. -/
theorem preloadRow_page {s : State} {e : SeqEnt} {i : Nat} (hi : i < min 32 (e.len / 4096)) (hin : s.rangeOut (e.addr + 4096 * i) 4096 = false) :
    ((s.preloadRow e).seq e.row).pages.find i = some { page := i, usable := true, bytes := s.mem.bytes (e.addr + 4096 * i) 4096 } := by
  have hheld : i ∈ (List.range (min 32 (e.len / 4096))).filter (fun p => !s.rangeOut (e.addr + 4096 * p) 4096) :=
    List.mem_filter.mpr ⟨List.mem_range.mpr hi, by simp [hin]⟩
  rw [preloadRow, seq_setSeq_same]
  exact Tbl.find_map_mk (fun p => ({ page := p, usable := true, bytes := s.peek (e.addr + 4096 * p) 4096 } : Page)) hheld

theorem preloadRow_other (s : State) (e : SeqEnt) {r : Nat} (h : r ≠ e.row) : (s.preloadRow e).seq r = s.seq r := seq_setSeq_other s _ h

theorem doPreload_of_found {s : State} {row : Nat} {p : Nat × Last} {e : SeqEnt} (hrow : row ∈ s.clk.preload) (htime : s.epochN ≤ s.clk.cycle + 16)
    (hp : s.cmd.lasts.find? (fun p => p.2.st == .staged && p.2.start == s.clk.epoch + 1 && p.2.later.contains row) = some p)
    (he : p.2.seqs.find? (fun e => e.row == row) = some e) :
    s.doPreload row = { s.preloadRow e with clk := { s.clk with preload := s.clk.preload.filter (fun x => x != row) } } := by
  unfold doPreload
  rw [if_pos (by simp [hrow, htime]), hp, Option.bind_some, he]
  rfl

/-! ### Check point -/

theorem agree_of_unjoined {s : State} (hs : s.started = true) (ha : s.abort = none) (hready : s.clk.ready = true) (hr : s.clk.release = none)
    (hj : s.joined = false) :
    s.agree = { s with clk := { s.clk with release := some { epoch := s.clk.epoch + 1, late := s.clk.late, complete := bitsSet s.arrivals }, settle := 64 } } := by
  have hab : s.aborting = false := by simp [aborting, ha]
  have hnext : s.nextEpoch = s.clk.epoch + 1 := by simp [nextEpoch, ha]
  simp [agree, takeRelease, hs, hab, hready, hr, hj, hnext]

/-- R99: with no claimed barrier to sample, the check point reports ready where all has landed, and else marks the late links. -/
theorem doCheck_of_due {s : State} (hs : s.started = true) (ha : s.abort = none) (htime : s.checkC ≤ s.clk.cycle) (hc : s.clk.checked = false)
    (hb : s.claimedBarriers = []) :
    s.doCheck = if s.allLanded then State.becomeReady { s with clk := { s.clk with checked := true } } false
      else (s.lk.map (fun p => p.1)).foldl lateSlack { s with clk := { s.clk with checked := true } } := by
  unfold doCheck
  rw [if_pos (by simp [hs, ha, htime, hc]), hb]
  rfl

/-- R104: the late links' slack words are all that the check point then writes. -/
theorem lateSlack_frame (s : State) (l : Nat) : s.lateSlack l = { s with regs := (s.lateSlack l).regs } := by
  unfold lateSlack
  split <;> rfl

theorem lateSlack_of_owing {s : State} {l : Nat} (h : (s.lkk l).landed < s.owed l) : (s.lateSlack l).word (lkReg l + 0x44) = 0#32 := by
  rw [lateSlack, if_neg (Nat.not_le.mpr h), word_setWord_same]

theorem lateSlack_keeps_zero {s : State} {o : Nat} (l : Nat) (h : s.word o = 0#32) : (s.lateSlack l).word o = 0#32 := by
  unfold lateSlack
  split
  · exact h
  · by_cases ho : o = lkReg l + 0x44
    · rw [ho, word_setWord_same]
    · rw [word_setWord_other s _ ho, h]

theorem lateSlacks_frame (s : State) (ls : List Nat) : ls.foldl lateSlack s = { s with regs := (ls.foldl lateSlack s).regs } := by
  induction ls generalizing s with
  | nil => rfl
  | cons l ls ih =>
    rw [List.foldl_cons, ih, lateSlack_frame]

theorem lateSlacks_keep_zero {o : Nat} (ls : List Nat) {s : State} (h : s.word o = 0#32) : (ls.foldl lateSlack s).word o = 0#32 := by
  induction ls generalizing s with
  | nil => exact h
  | cons l ls ih => exact ih (lateSlack_keeps_zero l h)

theorem lateSlacks_of_owing {l : Nat} {ls : List Nat} {s : State} (hl : l ∈ ls) (h : (s.lkk l).landed < s.owed l) :
    (ls.foldl lateSlack s).word (lkReg l + 0x44) = 0#32 := by
  induction ls generalizing s with
  | nil => cases hl
  | cons k ls ih =>
    rw [List.foldl_cons]
    rcases List.mem_cons.mp hl with rfl | hmem
    · exact lateSlacks_keep_zero ls (lateSlack_of_owing h)
    · refine ih hmem ?_
      rw [lateSlack_frame]
      exact h

end State

end Sys2Proof.Machine

namespace Sys2Proof.Claims

open Sys2Proof.Machine

theorem gives_checkPoint_landed {s : State} (hs : s.started = true) (ha : s.abort = none) (htime : s.checkC ≤ s.clk.cycle) (hc : s.clk.checked = false)
    (hb : s.claimedBarriers = []) (hland : s.allLanded = true) (hj : s.joined = false) (hr : s.clk.release = none) :
    Gives .checkPoint s { s with clk := { s.clk with
      checked := true, ready := true, late := false, release := some { epoch := s.clk.epoch + 1, complete := bitsSet s.arrivals }, settle := 64 } } := by
  rw [Gives, exec_checkPoint, State.doCheck_of_due hs ha htime hc hb, if_pos hland, State.becomeReady]
  exact congrArg Host.Outcome.next (State.agree_of_unjoined hs ha rfl hr hj)

theorem answers_checkPoint_owing {s : State} (hs : s.started = true) (ha : s.abort = none) (htime : s.checkC ≤ s.clk.cycle) (hc : s.clk.checked = false)
    (hb : s.claimedBarriers = []) (hland : s.allLanded = false) :
    Answers .checkPoint s fun t => t = { s with regs := t.regs, clk := { s.clk with checked := true } } ∧
      ∀ l, (∃ p ∈ s.lk, p.1 = l) → (s.lkk l).landed < s.owed l → t.word (lkReg l + 0x44) = 0#32 := by
  refine ⟨_, exec_checkPoint s, ?_⟩
  rw [State.doCheck_of_due hs ha htime hc hb, hland, if_neg Bool.false_ne_true]
  exact ⟨State.lateSlacks_frame _ _, fun l hl howes => State.lateSlacks_of_owing (List.mem_map.mpr hl) howes⟩

theorem answers_pagePreload {s : State} {row : Fin 32} {p : Nat × Last} {e : SeqEnt} (hrow : row.val ∈ s.clk.preload)
    (htime : s.epochN ≤ s.clk.cycle + 16)
    (hp : s.cmd.lasts.find? (fun p => p.2.st == .staged && p.2.start == s.clk.epoch + 1 && p.2.later.contains row.val) = some p)
    (he : p.2.seqs.find? (fun e => e.row == row.val) = some e) :
    Answers (.pagePreload row) s fun t =>
      t = { s with seqs := t.seqs, clk := { s.clk with preload := s.clk.preload.filter (fun x => x != row.val) } } ∧
      (∀ r, r ≠ row.val → t.seq r = s.seq r) ∧
      ∀ i < min 32 (e.len / 4096), s.rangeOut (e.addr + 4096 * i) 4096 = false →
        (t.seq row).pages.find i = some { page := i, usable := true, bytes := s.mem.bytes (e.addr + 4096 * i) 4096 } := by
  have herow : e.row = row.val := by simpa using List.find?_some he
  refine ⟨_, exec_pagePreload row s, ?_⟩
  rw [State.doPreload_of_found hrow htime hp he]
  refine ⟨rfl, fun r hr => State.preloadRow_other s e (herow ▸ hr), fun i hi hin => ?_⟩
  exact herow ▸ State.preloadRow_page hi hin

/-- Settles O29: each step's clause from what the step does where its time has come. -/
theorem beforeTheBoundary : Obligations.BeforeTheBoundary := by
  intro s row hs
  refine ⟨fun htime hsnap hlate => ?_, fun ha htime hsnap hlatch hload hlink => ?_, fun p e hrow htime hp he => ?_,
    fun ha htime hc hb hland hj hr => ?_, fun ha htime hc hb hland => ?_⟩
  · exact congrArg Host.Outcome.next (State.doSnapshot_of_none_late htime hsnap hlate)
  · exact congrArg Host.Outcome.next (State.doLatch_of_quiet hs ha htime hsnap hlatch hload hlink)
  · exact answers_pagePreload hrow htime hp he
  · exact gives_checkPoint_landed hs ha htime hc hb hland hj hr
  · exact answers_checkPoint_owing hs ha htime hc hb hland

end Sys2Proof.Claims
end

section
/-! The frame of the boundary step: what takes effect in it leaves the clock and the sequencers as they are, up to the timing in force (02 R65, R84, R93). -/

namespace Sys2Proof.Machine.State

@[simp] theorem ite_clk (c : Prop) [Decidable c] (a b : State) : (if c then a else b).clk = if c then a.clk else b.clk := apply_ite clk c a b

@[simp] theorem ite_seqs (c : Prop) [Decidable c] (a b : State) : (if c then a else b).seqs = if c then a.seqs else b.seqs := apply_ite seqs c a b

@[simp] theorem foldl_clk_seqs {α : Type} {f : State → α → State} (hf : ∀ s a, (f s a).clk = s.clk ∧ (f s a).seqs = s.seqs) (s : State) (l : List α) :
    (l.foldl f s).clk = s.clk ∧ (l.foldl f s).seqs = s.seqs := by
  induction l generalizing s with
  | nil => exact ⟨rfl, rfl⟩
  | cons a l ih => exact ⟨(ih _).1.trans (hf s a).1, (ih _).2.trans (hf s a).2⟩

/-! ### Registers, events and counters (18 R795-R799) -/

@[simp] theorem setDword_clk_seqs (s : State) (off v : Nat) : (s.setDword off v).clk = s.clk ∧ (s.setDword off v).seqs = s.seqs := by simp [setDword]
@[simp] theorem addDword_clk_seqs (s : State) (off k : Nat) : (s.addDword off k).clk = s.clk ∧ (s.addDword off k).seqs = s.seqs := by simp [addDword]
@[simp] theorem stageEvent_clk_seqs (s : State) (e : Event) : (s.stageEvent e).clk = s.clk ∧ (s.stageEvent e).seqs = s.seqs := by simp [stageEvent]
@[simp] theorem recordFatal_clk_seqs (s : State) (code : Nat) (loc : Loc) (detail : Nat) :
    (s.recordFatal code loc detail).clk = s.clk ∧ (s.recordFatal code loc detail).seqs = s.seqs := by simp [recordFatal]
@[simp] theorem record_clk_seqs (s : State) (code : Nat) (loc : Loc) (detail : Nat) :
    (s.record code loc detail).clk = s.clk ∧ (s.record code loc detail).seqs = s.seqs := by simp [record]
@[simp] theorem bumpBy_clk_seqs (s : State) (off k : Nat) : (s.bumpBy off k).clk = s.clk ∧ (s.bumpBy off k).seqs = s.seqs := by simp [bumpBy]
@[simp] theorem bump_clk_seqs (s : State) (off : Nat) : (s.bump off).clk = s.clk ∧ (s.bump off).seqs = s.seqs := by simp [bump]

/-! ### Memory, the journal and contexts (07, 14 R647) -/

@[simp] theorem queueOwn_clk_seqs (s : State) (a : Nat) (bs : List Byte) :
    (s.queueOwn a bs).clk = s.clk ∧ (s.queueOwn a bs).seqs = s.seqs := by simp [queueOwn]
@[simp] theorem pokeOwn_clk_seqs (s : State) (a : Nat) (bs : List Byte) : (s.pokeOwn a bs).clk = s.clk ∧ (s.pokeOwn a bs).seqs = s.seqs := by
  simp only [pokeOwn]
  split
  · simp
  · split <;> simp
@[simp] theorem setCtxField_clk_seqs (s : State) (idx o n v : Nat) :
    (s.setCtxField idx o n v).clk = s.clk ∧ (s.setCtxField idx o n v).seqs = s.seqs := by simp [setCtxField]
@[simp] theorem pokeEntry_clk_seqs (s : State) (a : Nat) (bs : List Byte) :
    (s.pokeEntry a bs).clk = s.clk ∧ (s.pokeEntry a bs).seqs = s.seqs := by simp [pokeEntry]
@[simp] theorem commitEntry_clk_seqs (s : State) (e : JEnt) : (s.commitEntry e).clk = s.clk ∧ (s.commitEntry e).seqs = s.seqs := by
  simp only [commitEntry]
  split <;> simp
@[simp] theorem journal_clk_seqs (s : State) (e : JEnt) : (s.journal e).clk = s.clk ∧ (s.journal e).seqs = s.seqs := by simp [journal]
@[simp] theorem journalReset_clk_seqs (s : State) (kind code : Nat) (src : Nat) :
    (s.journalReset kind code src).clk = s.clk ∧ (s.journalReset kind code src).seqs = s.seqs := by simp [journalReset]
@[simp] theorem modQueue_clk_seqs (s : State) (k : Nat) (f : List Nat → List Nat) :
    (s.modQueue k f).clk = s.clk ∧ (s.modQueue k f).seqs = s.seqs := ⟨rfl, rfl⟩
@[simp] theorem modCtx_clk_seqs (s : State) (idx : Nat) (f : CtxInfo → CtxInfo) :
    (s.modCtx idx f).clk = s.clk ∧ (s.modCtx idx f).seqs = s.seqs := ⟨rfl, rfl⟩
@[simp] theorem setPhase_clk_seqs (s : State) (idx : Nat) (p : CtxPhase) :
    (s.setPhase idx p).clk = s.clk ∧ (s.setPhase idx p).seqs = s.seqs := by simp [setPhase]
@[simp] theorem unqueue_clk_seqs (s : State) (idx : Nat) : (s.unqueue idx).clk = s.clk ∧ (s.unqueue idx).seqs = s.seqs := by simp [unqueue]
@[simp] theorem enqueueCtx_clk_seqs (s : State) (idx : Nat) :
    (s.enqueueCtx idx).clk = s.clk ∧ (s.enqueueCtx idx).seqs = s.seqs := by simp [enqueueCtx]
@[simp] theorem promote_clk_seqs (s : State) (q : Nat) : (s.promote q).clk = s.clk ∧ (s.promote q).seqs = s.seqs := by simp [promote]
@[simp] theorem freeCtx_clk_seqs (s : State) (idx : Nat) : (s.freeCtx idx).clk = s.clk ∧ (s.freeCtx idx).seqs = s.seqs := by simp [freeCtx]
@[simp] theorem addDue_clk_seqs (s : State) (cq : Nat) (d : Due) : (s.addDue cq d).clk = s.clk ∧ (s.addDue cq d).seqs = s.seqs := by simp [addDue]
@[simp] theorem complete_clk_seqs (s : State) (sq cid cq opc status : Nat) (tag : Nat) (info : Nat) :
    (s.complete sq cid cq opc status tag info).clk = s.clk ∧ (s.complete sq cid cq opc status tag info).seqs = s.seqs := by simp [complete]
@[simp] theorem endCtx_clk_seqs (s : State) (idx status : Nat) : (s.endCtx idx status).clk = s.clk ∧ (s.endCtx idx status).seqs = s.seqs := by
  simp only [endCtx]
  split <;> simp
@[simp] theorem outCtxs_clk_seqs (s : State) : s.outCtxs.clk = s.clk ∧ s.outCtxs.seqs = s.seqs := by simp [outCtxs]
@[simp] theorem requeueHead_clk_seqs (s : State) (l : List Nat) :
    (s.requeueHead l).clk = s.clk ∧ (s.requeueHead l).seqs = s.seqs := foldl_clk_seqs (fun s i => by simp) s l.reverse
@[simp] theorem returnCtxs_clk_seqs (s : State) (l : List Nat) : (s.returnCtxs l).clk = s.clk ∧ (s.returnCtxs l).seqs = s.seqs := by simp [returnCtxs]
@[simp] theorem finishCtxs_clk_seqs (s : State) (l : List Nat) : (s.finishCtxs l).clk = s.clk ∧ (s.finishCtxs l).seqs = s.seqs := by simp [finishCtxs]
@[simp] theorem takeBindings_clk_seqs (s : State) : s.takeBindings.clk = s.clk ∧ s.takeBindings.seqs = s.seqs := by simp [takeBindings]
@[simp] theorem fillEntry_clk_seqs (s : State) (snap : Tbl (List Nat)) (x r i : Nat) (e : SlotEnt) :
    (s.fillEntry snap x r i e).clk = s.clk ∧ (s.fillEntry snap x r i e).seqs = s.seqs := by simp [fillEntry]
@[simp] theorem setDepths_clk_seqs (s : State) (snap : Tbl (List Nat)) : (s.setDepths snap).clk = s.clk ∧ (s.setDepths snap).seqs = s.seqs := by
  unfold setDepths
  exact ⟨rfl, rfl⟩
@[simp] theorem fillSlots_clk_seqs (s : State) (snap : Tbl (List Nat)) (x : Nat) :
    (s.fillSlots snap x).clk = s.clk ∧ (s.fillSlots snap x).seqs = s.seqs := by simp [fillSlots]
@[simp] theorem msEffect_clk_seqs (s : State) (m : MsPend) : (s.msEffect m).clk = s.clk ∧ (s.msEffect m).seqs = s.seqs := by simp [msEffect]
@[simp] theorem msEffects_clk_seqs (s : State) (x : Nat) : (s.msEffects x).clk = s.clk ∧ (s.msEffects x).seqs = s.seqs := by simp [msEffects]

/-! ### Objects, barriers, waits and marks (07 R292, R299-R303) -/

@[simp] theorem synAdd_clk_seqs (s : State) (k n : Nat) : (s.synAdd k n).clk = s.clk ∧ (s.synAdd k n).seqs = s.seqs := by simp [synAdd]
@[simp] theorem finishBarrier_clk_seqs (s : State) (k : Nat) :
    (s.finishBarrier k).clk = s.clk ∧ (s.finishBarrier k).seqs = s.seqs := by simp [finishBarrier]
@[simp] theorem stepWaits_clk_seqs (s : State) : s.stepWaits.clk = s.clk ∧ s.stepWaits.seqs = s.seqs := by simp [stepWaits]
@[simp] theorem stepMarks_clk_seqs (s : State) (x : Nat) : (s.stepMarks x).clk = s.clk ∧ (s.stepMarks x).seqs = s.seqs := by simp [stepMarks]
@[simp] theorem stepObjs_clk_seqs (s : State) : s.stepObjs.clk = s.clk ∧ s.stepObjs.seqs = s.seqs := ⟨rfl, rfl⟩

/-! ### Links and light (09, 10, 11) -/

@[simp] theorem setCalGroup_clk_seqs (s : State) (g : Nat) (x : CalGroup) :
    (s.setCalGroup g x).clk = s.clk ∧ (s.setCalGroup g x).seqs = s.seqs := ⟨rfl, rfl⟩
@[simp] theorem stopCalibration_clk_seqs (s : State) (l : Nat) : (s.stopCalibration l).clk = s.clk ∧ (s.stopCalibration l).seqs = s.seqs := by
  simp only [stopCalibration]
  split
  · split <;> simp
  · simp
@[simp] theorem sendDown_clk_seqs (s : State) (l : Nat) : (s.sendDown l).clk = s.clk ∧ (s.sendDown l).seqs = s.seqs := by simp [sendDown]
@[simp] theorem lnDetect_clk_seqs (s : State) (l : Nat) (held duty : Bool) :
    (s.lnDetect l held duty).clk = s.clk ∧ (s.lnDetect l held duty).seqs = s.seqs := by simp [lnDetect]
@[simp] theorem toDetect_clk_seqs (s : State) (l : Nat) : (s.toDetect l).clk = s.clk ∧ (s.toDetect l).seqs = s.seqs := by simp [toDetect]
@[simp] theorem moveRepeats_clk_seqs (s : State) (l : Nat) : (s.moveRepeats l).clk = s.clk ∧ (s.moveRepeats l).seqs = s.seqs := by simp [moveRepeats]
@[simp] theorem loseCarrier_clk_seqs (s : State) (m : Nat) : (s.loseCarrier m).clk = s.clk ∧ (s.loseCarrier m).seqs = s.seqs := by simp [loseCarrier]
@[simp] theorem lkDown_clk_seqs (s : State) (l : Nat) : (s.lkDown l).clk = s.clk ∧ (s.lkDown l).seqs = s.seqs := by simp [lkDown]
@[simp] theorem linkDown_clk_seqs (s : State) (l : Nat) (held : Bool) (duty : Bool) :
    (s.linkDown l held duty).clk = s.clk ∧ (s.linkDown l held duty).seqs = s.seqs := by
  simp only [linkDown]
  split <;> simp
@[simp] theorem capRetrain_clk_seqs (s : State) (l : Nat) : (s.capRetrain l).clk = s.clk ∧ (s.capRetrain l).seqs = s.seqs := by simp [capRetrain]
@[simp] theorem requestMove_clk_seqs (s : State) (l j : Nat) (back : Bool) :
    (s.requestMove l j back).clk = s.clk ∧ (s.requestMove l j back).seqs = s.seqs := by
  cases hm : (s.lnk l).txMove <;> simp [requestMove, hm]
@[simp] theorem moveLane_clk_seqs (s : State) (x l : Nat) : (s.moveLane x l).clk = s.clk ∧ (s.moveLane x l).seqs = s.seqs := by
  simp only [moveLane]
  split <;> split <;> simp
/-- The equations' proofs are kept explicit: by definitional equality the kernel would evaluate the counter words of the audit. -/
@[simp] theorem audit_clk_seqs (s : State) (l : Nat) : (s.audit l).clk = s.clk ∧ (s.audit l).seqs = s.seqs := by
  simp -implicitDefEqProofs [audit]
@[simp] theorem propose_clk_seqs (s : State) (l : Nat) : (s.propose l).clk = s.clk ∧ (s.propose l).seqs = s.seqs := by simp [propose]
@[simp] theorem linkStep_clk_seqs (s : State) (x l : Nat) : (s.linkStep x l).clk = s.clk ∧ (s.linkStep x l).seqs = s.seqs := by
  simp only [linkStep]
  split <;> simp
@[simp] theorem linkSteps_clk_seqs (s : State) (x : Nat) : (s.linkSteps x).clk = s.clk ∧ (s.linkSteps x).seqs = s.seqs := by simp [linkSteps]
@[simp] theorem measure_clk_seqs (s : State) (p : Fin 128 × Nat) : (s.measure p).clk = s.clk ∧ (s.measure p).seqs = s.seqs := by simp [measure]
@[simp] theorem setCh_clk_seqs (s : State) (k : Nat) (x : Channel) : (s.setCh k x).clk = s.clk ∧ (s.setCh k x).seqs = s.seqs := ⟨rfl, rfl⟩
@[simp] theorem setLaneCal_clk_seqs (s : State) (l k : Nat) (x : LaneCal) :
    (s.setLaneCal l k x).clk = s.clk ∧ (s.setLaneCal l k x).seqs = s.seqs := ⟨rfl, rfl⟩
@[simp] theorem startCheck_clk_seqs (s : State) (y g k : Nat) :
    (s.startCheck y g k).clk = s.clk ∧ (s.startCheck y g k).seqs = s.seqs := by simp [startCheck]
@[simp] theorem tryExchange_clk_seqs (s : State) (y g k : Nat) :
    (s.tryExchange y g k).clk = s.clk ∧ (s.tryExchange y g k).seqs = s.seqs := by simp [tryExchange]
@[simp] theorem dueExchange_clk_seqs (s : State) (y g k : Nat) (e : Exchange) :
    (s.dueExchange y g k e).clk = s.clk ∧ (s.dueExchange y g k e).seqs = s.seqs := by simp [dueExchange]
@[simp] theorem endExchange_clk_seqs (s : State) (y g k : Nat) : (s.endExchange y g k).clk = s.clk ∧ (s.endExchange y g k).seqs = s.seqs := by
  simp only [endExchange]
  split
  · simp
  · split <;> simp
@[simp] theorem startRange_clk_seqs (s : State) (y g k : Nat) :
    (s.startRange y g k).clk = s.clk ∧ (s.startRange y g k).seqs = s.seqs := by simp [startRange]
@[simp] theorem switchBank_clk_seqs (s : State) (y g k : Nat) : (s.switchBank y g k).clk = s.clk ∧ (s.switchBank y g k).seqs = s.seqs := by
  simp only [switchBank]
  split
  · simp
  · split
    · split <;> simp
    · simp
@[simp] theorem exchanges_clk_seqs (s : State) : s.exchanges.clk = s.clk ∧ s.exchanges.seqs = s.seqs := by simp [exchanges]
@[simp] theorem darken_clk_seqs (s : State) : s.darken.clk = s.clk ∧ s.darken.seqs = s.seqs := by simp [darken]
@[simp] theorem beginEnable_clk_seqs (s : State) : s.beginEnable.clk = s.clk ∧ s.beginEnable.seqs = s.seqs := by simp [beginEnable]
@[simp] theorem proceedEnable_clk_seqs (s : State) : s.proceedEnable.clk = s.clk ∧ s.proceedEnable.seqs = s.seqs := by simp [proceedEnable]
@[simp] theorem doPermitFall_clk_seqs (s : State) : s.doPermitFall.clk = s.clk ∧ s.doPermitFall.seqs = s.seqs := by simp [doPermitFall]
@[simp] theorem heatersOff_clk_seqs (s : State) : s.heatersOff.clk = s.clk ∧ s.heatersOff.seqs = s.seqs := ⟨rfl, rfl⟩

/-! ### Settings, lasts and the package (02 R84, 14, 16, 17) -/

@[simp] theorem applyPend_clk_seqs (s : State) (p : Pend) : (s.applyPend p).clk = s.clk ∧ (s.applyPend p).seqs = s.seqs := ⟨rfl, rfl⟩
@[simp] theorem applyPends_clk_seqs (s : State) (e : Nat) : (s.applyPends e).clk = s.clk ∧ (s.applyPends e).seqs = s.seqs := by
  simp only [applyPends]
  exact foldl_clk_seqs applyPend_clk_seqs _ _
@[simp] theorem afterPend_clk_seqs (s : State) (p : Pend) : (s.afterPend p).clk = s.clk ∧ (s.afterPend p).seqs = s.seqs := by
  unfold afterPend
  simp only [ite_clk, ite_seqs, setRing_clk, setRing_seqs, toDetect_clk_seqs, linkDown_clk_seqs, ite_self, and_self]
@[simp] theorem settings_clk_seqs (s : State) (x : Nat) : (s.settings x).clk = s.clk ∧ (s.settings x).seqs = s.seqs := by simp [settings]
@[simp] theorem modLast_clk_seqs (s : State) (r : Nat) (f : Last → Last) : (s.modLast r f).clk = s.clk ∧ (s.modLast r f).seqs = s.seqs := ⟨rfl, rfl⟩
@[simp] theorem coldOwned_clk_seqs (s : State) (l : Last) : (s.coldOwned l).clk = s.clk ∧ (s.coldOwned l).seqs = s.seqs := by simp [coldOwned]
@[simp] theorem startLasts_clk_seqs (s : State) (x : Nat) : (s.startLasts x).clk = s.clk ∧ (s.startLasts x).seqs = s.seqs := by simp [startLasts]
@[simp] theorem armField_clk_seqs (p : Nat × Last) (s : State) (f : Nat × Word) : (armField p s f).clk = s.clk ∧ (armField p s f).seqs = s.seqs := by
  simp only [armField]
  split <;> simp
@[simp] theorem armSets_clk_seqs (s : State) (p : Nat × Last) : (s.armSets p).clk = s.clk ∧ (s.armSets p).seqs = s.seqs := by simp [armSets]
@[simp] theorem departLast_clk_seqs (s : State) (p : Nat × Last × Nat) :
    (s.departLast p).clk = s.clk ∧ (s.departLast p).seqs = s.seqs := by simp [departLast]
@[simp] theorem modeChanges_clk_seqs (old s : State) : (modeChanges old s).clk = s.clk ∧ (modeChanges old s).seqs = s.seqs := by simp [modeChanges]
@[simp] theorem startTraining_clk_seqs (s : State) (f : Nat → Bool) :
    (s.startTraining f).clk = s.clk ∧ (s.startTraining f).seqs = s.seqs := by simp [startTraining]
@[simp] theorem countPause_clk_seqs (s : State) (late : Bool) :
    (s.countPause late).clk = s.clk ∧ (s.countPause late).seqs = s.seqs := by simp [countPause]
@[simp] theorem shiftEpochs_clk_seqs (s : State) (d : Int) : (s.shiftEpochs d).clk = s.clk ∧ (s.shiftEpochs d).seqs = s.seqs := by simp [shiftEpochs]
@[simp] theorem darkStep_clk_seqs (s : State) (x : Nat) : (s.darkStep x).clk = s.clk ∧ (s.darkStep x).seqs = s.seqs := by
  simp only [darkStep]
  split <;> simp
@[simp] theorem overrideStep_clk_seqs (s : State) (x : Nat) : (s.overrideStep x).clk = s.clk ∧ (s.overrideStep x).seqs = s.seqs := by
  simp only [overrideStep]
  split <;> simp
@[simp] theorem setPair_clk_seqs (s : State) (n : Nat) (x : Pair) : (s.setPair n x).clk = s.clk ∧ (s.setPair n x).seqs = s.seqs := ⟨rfl, rfl⟩
@[simp] theorem setRole_clk_seqs (s : State) (n role : Nat) : (s.setRole n role).clk = s.clk ∧ (s.setRole n role).seqs = s.seqs := ⟨rfl, rfl⟩
@[simp] theorem promote2_clk_seqs (s : State) (old : Pair) : (s.promote2 old).clk = s.clk ∧ (s.promote2 old).seqs = s.seqs := by simp [promote2]
@[simp] theorem roleTransfer_clk_seqs (s : State) : s.roleTransfer.clk = s.clk ∧ s.roleTransfer.seqs = s.seqs := by simp [roleTransfer]
@[simp] theorem roleStep_clk_seqs (s : State) (x : Nat) : (s.roleStep x).clk = s.clk ∧ (s.roleStep x).seqs = s.seqs := by
  simp only [roleStep]
  split <;> simp
@[simp] theorem driveReplace_clk_seqs (s : State) : s.driveReplace.clk = s.clk ∧ s.driveReplace.seqs = s.seqs := by simp [driveReplace]
@[simp] theorem enrol_clk_seqs (s : State) : s.enrol.clk = s.clk ∧ s.enrol.seqs = s.seqs := by simp [enrol]
@[simp] theorem trigger_clk_seqs (s : State) (code : Nat) : (s.trigger code).clk = s.clk ∧ (s.trigger code).seqs = s.seqs := by
  unfold trigger
  cases s.abortHeld <;> cases s.abort <;> simp
@[simp] theorem heldAbort_clk_seqs (s : State) : s.heldAbort.clk = s.clk ∧ s.heldAbort.seqs = s.seqs := by
  simp only [heldAbort]
  split <;> simp

end Sys2Proof.Machine.State
end

section
/-! Entering an epoch (02 R93-R97; 12 R557-R560). -/

namespace Sys2Proof.Machine

theorem exec_boundaryStep (flights : List (Fin 128 × Nat)) (s : State) : exec (.boundaryStep flights) s = .next (s.doBoundary flights) := rfl
theorem exec_fabricWatchdogExpiry (s : State) : exec .fabricWatchdogExpiry s = .next s.doWatchdogExpiry := rfl

theorem Tbl.mem_of_find {α : Type} {k : Nat} {v : α} : ∀ {t : Tbl α}, t.find k = some v → (k, v) ∈ t
  | (a, w) :: t, h => by
    rw [Tbl.find] at h
    split at h
    · next hk => exact hk ▸ Option.some.inj h ▸ List.mem_cons_self
    · exact List.mem_cons_of_mem _ (Tbl.mem_of_find h)

namespace State

theorem seq_stopped_of_all {s : State} (h : ∀ p ∈ s.seqs, p.2.running = false) (r : Nat) : (s.seq r).running = false := by
  unfold seq Tbl.get
  cases hf : s.seqs.find r with
  | none => rfl
  | some q => exact h (r, q) (Tbl.mem_of_find hf)

/-- Cycle 0 of epoch `x`: nothing of the next boundary has begun, no pause runs, and no sequencer (02 R93, R94). -/
def Entered (x now : Nat) (t : State) : Prop :=
  t.clk.epoch = x ∧ t.clk.cycle = 0 ∧ t.clk.now = now ∧ t.clk.snapped = false ∧ t.clk.latched = false ∧ t.clk.checked = false ∧
    t.clk.ready = false ∧ t.clk.release = none ∧ t.clk.pauseFrom = none ∧ ∀ r, (t.seq r).running = false

theorem enterEpoch_entered (s : State) (x : Nat) : Entered x s.clk.now (s.enterEpoch x) :=
  ⟨rfl, rfl, rfl, rfl, rfl, rfl, rfl, rfl, rfl, seq_stopped_of_all (List.forall_mem_map.mpr fun _ _ => rfl)⟩

theorem Entered.of_clk_seqs {x now : Nat} {s t : State} (hs : Entered x now s) (h : t.clk = s.clk ∧ t.seqs = s.seqs) : Entered x now t := by
  unfold Entered seq at *
  rwa [h.1, h.2]

/-- R65: the timing in force is not part of the boundary's progress. -/
theorem Entered.setTiming {x now : Nat} {s : State} (hs : Entered x now s) : Entered x now s.setTiming := by
  unfold State.setTiming
  split <;> exact hs

theorem Entered.stopHeadless {x now : Nat} {s : State} (hs : Entered x now s) : Entered x now s.stopHeadless := by
  obtain ⟨he, hc, hn, hsn, hl, hch, hr, hrel, hp, -⟩ := id hs
  unfold State.stopHeadless
  split
  · exact ⟨he, hc, hn, hsn, hl, hch, hr, hrel, hp, seq_stopped_of_all (List.forall_mem_map.mpr fun _ _ => rfl)⟩
  · exact hs

theorem takeBoundary_entered (s : State) (r : Release) (expired : Bool) (flights : List (Fin 128 × Nat)) :
    Entered r.epoch s.clk.now (s.takeBoundary r expired flights) := by
  unfold takeBoundary
  extract_lets rerun jump s1 x old gone s2 s3 s4 _ s5 s6 s7 s8 s9 s10 s11 s12 _ s13
  have h2 : Entered x s.clk.now s2 := by
    have hnow : s1.clk = s.clk := by simp [s1]
    exact hnow ▸ enterEpoch_entered s1 x
  have h5 : s5.clk = s2.clk ∧ s5.seqs = s2.seqs := by simp [s5, s4, s3]
  have h7 : Entered x s.clk.now s7 := Entered.setTiming (h2.of_clk_seqs (by simp [s6, h5]))
  have h13 : s13.clk = s7.clk ∧ s13.seqs = s7.seqs := by simp [s13, s12, s11, s10, s9, s8]
  exact (h7.of_clk_seqs h13).stopHeadless.of_clk_seqs (heldAbort_clk_seqs _)

theorem trigger_fab (s : State) (code : Nat) : (s.trigger code).fab = s.fab := by
  unfold trigger
  cases s.abortHeld <;> cases s.abort <;> simp [apply_ite State.fab]

theorem heldAbort_fab (s : State) : s.heldAbort.fab = s.fab := by
  unfold heldAbort
  split
  · exact trigger_fab _ _
  · rfl

theorem stopHeadless_fab (s : State) : s.stopHeadless.fab = s.fab := by
  unfold stopHeadless
  split <;> rfl

/-- R560: only a boundary step of the watchdog's own leaves STOP set, and then the next epoch number is adopted. -/
theorem takeBoundary_stopped_adopt (s : State) (r : Release) (expired : Bool) (flights : List (Fin 128 × Nat)) :
    (s.takeBoundary r expired flights).fab.stopped = expired ∧ (expired = true → (s.takeBoundary r expired flights).fab.adopt = true) := by
  unfold takeBoundary
  extract_lets
  rw [heldAbort_fab, stopHeadless_fab]
  exact ⟨rfl, fun h => if_pos h⟩

theorem doBoundary_of_release {s : State} {r : Release} (flights : List (Fin 128 × Nat)) (hopen : s.boundaryOpen = true) (hr : s.clk.release = some r) :
    s.doBoundary flights = s.takeBoundary r false flights := by
  simp [doBoundary, hr, hopen]

theorem doWatchdogExpiry_of_waited {s : State} (hopen : s.boundaryOpen = true) (hr : s.clk.release = none) (hw : s.waitedOut = true) :
    s.doWatchdogExpiry = ((s.record 0x0C05).bump (fabBase + 0x118)).takeBoundary { epoch := s.nextEpoch } true [] := by
  simp [doWatchdogExpiry, hopen, hr, hw]

end State

end Sys2Proof.Machine

namespace Sys2Proof.Claims

open Sys2Proof.Machine

/-- Settles O30: with a release or at the watchdog's expiry, the package takes the same boundary step, and what follows its entry into the epoch leaves the clock and the sequencers as they are. -/
theorem enteringAnEpoch : Obligations.EnteringAnEpoch := by
  intro s flights hopen entered
  refine ⟨fun r hr => ⟨_, exec_boundaryStep flights s, ?_⟩, fun hr hw => ⟨_, exec_fabricWatchdogExpiry s, ?_⟩⟩
  · rw [State.doBoundary_of_release flights hopen hr]
    exact ⟨State.takeBoundary_entered s r false flights, (State.takeBoundary_stopped_adopt s r false flights).1⟩
  · rw [State.doWatchdogExpiry_of_waited hopen hr hw]
    set told := (s.record 0x0C05).bump (fabBase + 0x118)
    have hclk : told.clk = s.clk := by simp [told]
    obtain ⟨hstop, hadopt⟩ := State.takeBoundary_stopped_adopt told { epoch := s.nextEpoch } true []
    have hentered := State.takeBoundary_entered told { epoch := s.nextEpoch } true []
    rw [hclk] at hentered
    exact ⟨hentered, hstop, hadopt rfl⟩

end Sys2Proof.Claims
end

section
/-! Words of the row sequencers: what the word that issues in a cycle leaves in its sequencer (03 R141-R145, R911, R918, R920). -/

namespace Sys2Proof.Machine.State

open Sys2Proof.Claims (passed)

theorem issues_of_issuing {s : State} {r w : Nat} (hw : s.issuing r = some w) : s.issues r = true := by
  unfold issuing at hw
  split at hw
  · assumption
  · cases hw

theorem seqWord_of_issuing {s : State} {r w : Nat} (hw : s.issuing r = some w) : seqWord (s.seq r) = some w := by
  simp only [issuing, issues_of_issuing hw, if_true] at hw
  cases hword : seqWord (s.seq r) with
  | none => simp [hword] at hw
  | some v =>
    simp only [hword, Option.ite_none_right_eq_some] at hw
    exact hw.2

/-- R141: the word that issues passes the position, where it carries the operation that `m` describes and breaks no rule of `bad`. -/
theorem ctl_of_issuing {s : State} {r w : Nat} {m : Nat → Bool} (f : RowSeq → RowSeq) {bad : RowSeq → Bool} (hw : s.issuing r = some w)
    (hm : m w = true) (hbad : bad (s.seq r) = false) : s.ctl r m f bad = s.setSeq r (f (passed s r w)) := by
  simp [ctl, hw, hm, hbad, seqWord_of_issuing hw, passed]

theorem endLoop_of_left {q : RowSeq} {p n : Nat} {rest : List (Nat × Nat)} (h : q.loops = (p, n + 1) :: rest) :
    endLoop q = { q with pos := p, loops := (p, n) :: rest } := by
  simp [endLoop, h]

theorem endLoop_of_none_left {q : RowSeq} {p : Nat} {rest : List (Nat × Nat)} (h : q.loops = (p, 0) :: rest) :
    endLoop q = { q with loops := rest } := by
  simp [endLoop, h]

end Sys2Proof.Machine.State

namespace Sys2Proof.Claims

open Sys2Proof.Machine

theorem setsSeq_of_setSeq {c : Instr} {s : State} {r : Nat} {q : RowSeq} (h : exec c s = .next (s.setSeq r q)) : SetsSeq c s r q :=
  ⟨_, h, rfl, State.seq_setSeq_same s r q, fun _ hk => State.seq_setSeq_other s q hk⟩

theorem setsSeq_of_ctl {c : Instr} {s : State} {r w : Nat} {m : Nat → Bool} {f : RowSeq → RowSeq} {bad : RowSeq → Bool} {q : RowSeq}
    (h : exec c s = .next (s.ctl r m f bad)) (hw : s.issuing r = some w) (hm : m w = true) (hbad : bad (s.seq r) = false)
    (hq : f (passed s r w) = q) : SetsSeq c s r q := by
  rw [State.ctl_of_issuing f hw hm hbad, hq] at h
  exact setsSeq_of_setSeq h

/-- Settles O8: each operation is one run of `State.ctl`, with the register that it sets. -/
theorem ctlWords : Obligations.CtlWords := by
  intro s row arg w hw q
  refine ⟨fun h => ?nop, fun h => ?setn, fun h => ?seta0, fun h => ?seta1, fun h => ?seta2, fun h => ?setacc, fun h => ?halt,
    fun h hdepth => ?loop, fun h => ⟨fun p n rest hl => ?again, fun p rest hl => ?last⟩, fun hs hg => ?bindings, fun hc => ?passedOver⟩
  case nop | setn | seta0 | seta1 | seta2 | setacc | halt => exact setsSeq_of_ctl rfl hw h rfl rfl
  case loop => exact setsSeq_of_ctl rfl hw h (decide_eq_false (Nat.not_le.mpr hdepth)) rfl
  case again =>
    have hseq : (s.seq row).loops = (p, n + 1) :: rest := hl
    exact setsSeq_of_ctl rfl hw h (by simp [hseq]) (State.endLoop_of_left hl)
  case last =>
    have hseq : (s.seq row).loops = (p, 0) :: rest := hl
    exact setsSeq_of_ctl rfl hw h (by simp [hseq]) (State.endLoop_of_none_left hl)
  case bindings =>
    have hopen : (s.serving row && !q.gated) = true := by simp [hs, hg]
    exact ⟨fun h => setsSeq_of_ctl rfl hw h rfl (if_pos hopen), fun h => setsSeq_of_ctl rfl hw h rfl (if_pos hopen)⟩
  case passedOver =>
    have hclosed : ¬ (s.serving row && !q.gated) = true := by
      rcases hc with h | h <;> simp [h]
    exact ⟨fun h => setsSeq_of_ctl rfl hw h rfl (if_neg hclosed), fun h => setsSeq_of_ctl rfl hw h rfl (if_neg hclosed)⟩

end Sys2Proof.Claims
end

section
/-! The start of an epoch program, page requests and their end (03 R139, R141, R142, R911; 06 R915). -/

namespace Sys2Proof.Machine.State

open Sys2Proof.Claims (passed)

/-! ### Units of scheduled requests at their channels -/

/-- The request that `sendUnit` queues in a cycle of `s`: it arrives 16 cycles and the path adder later (06 R915). -/
def unitReq (s : State) (k : ReqKind) (a o : Nat) : HbmReq :=
  { kind := k, addr := a, other := o, arrives := s.clk.cycle + 16 + pathAdd (dieOf (reqTile k)) ((hbmDecode a).chan / 32) }

theorem sendUnit_eq (s : State) (k : ReqKind) (a o : Nat) :
    s.sendUnit k a o = s.setChan (hbmDecode a).chan
      { s.chan (hbmDecode a).chan with reqs := insertReq (s.unitReq k a o) (s.chan (hbmDecode a).chan).reqs } := rfl

theorem mem_insertReq {q r : HbmReq} : ∀ {l : List HbmReq}, r ∈ insertReq q l ↔ r = q ∨ r ∈ l
  | [] => by simp [insertReq]
  | p :: l => by
    unfold insertReq
    split
    · exact List.mem_cons
    · rw [List.mem_cons, List.mem_cons, mem_insertReq (l := l)]
      exact or_left_comm

theorem mem_reqs_sendUnit (s : State) (k : ReqKind) (a o : Nat) : s.unitReq k a o ∈ ((s.sendUnit k a o).chan (hbmDecode a).chan).reqs := by
  rw [sendUnit_eq, chan_setChan_same]
  exact mem_insertReq.mpr (.inl rfl)

theorem sendUnit_keeps_reqs (s : State) (k : ReqKind) (a o : Nat) {c : Nat} {r : HbmReq} (h : r ∈ (s.chan c).reqs) :
    r ∈ ((s.sendUnit k a o).chan c).reqs := by
  rw [sendUnit_eq]
  by_cases hc : c = (hbmDecode a).chan
  · subst hc
    rw [chan_setChan_same]
    exact mem_insertReq.mpr (.inr h)
  · rwa [chan_setChan_other s _ hc]

theorem sendUnits_succ (s : State) (k : ReqKind) (a o n : Nat) :
    s.sendUnits k a o (n + 1) = (s.sendUnits k a o n).sendUnit k (a + 64 * n) (o + 64 * n) := by
  simp [sendUnits, List.range_succ]

/-- Sending units changes nothing but the channels. -/
theorem sendUnits_frame (s : State) (k : ReqKind) (a o n : Nat) : s.sendUnits k a o n = { s with hbm := (s.sendUnits k a o n).hbm } := by
  induction n with
  | zero => rfl
  | succ n ih =>
    rw [sendUnits_succ]
    generalize s.sendUnits k a o n = t at ih ⊢
    rw [ih]
    rfl

theorem sendUnits_seq (s : State) (k : ReqKind) (a o n r : Nat) : (s.sendUnits k a o n).seq r = s.seq r := by
  rw [sendUnits_frame]
  rfl

theorem setSeq_sendUnits_frame (s : State) (r : Nat) (q : RowSeq) (k : ReqKind) (a o n : Nat) :
    (s.setSeq r q).sendUnits k a o n =
      { s with seqs := ((s.setSeq r q).sendUnits k a o n).seqs, hbm := ((s.setSeq r q).sendUnits k a o n).hbm } := by
  rw [sendUnits_frame]
  rfl

theorem sendUnits_keeps_reqs (s : State) (k : ReqKind) (a o n : Nat) {c : Nat} {r : HbmReq} (h : r ∈ (s.chan c).reqs) :
    r ∈ ((s.sendUnits k a o n).chan c).reqs := by
  induction n with
  | zero => exact h
  | succ n ih =>
    rw [sendUnits_succ]
    exact sendUnit_keeps_reqs _ k _ _ ih

theorem mem_reqs_sendUnits (s : State) (k : ReqKind) (a o : Nat) {i n : Nat} (h : i < n) :
    s.unitReq k (a + 64 * i) (o + 64 * i) ∈ ((s.sendUnits k a o n).chan (hbmDecode (a + 64 * i)).chan).reqs := by
  induction n with
  | zero => exact absurd h (Nat.not_lt_zero i)
  | succ n ih =>
    rw [sendUnits_succ]
    rcases Nat.lt_succ_iff_lt_or_eq.mp h with hlt | rfl
    · exact sendUnit_keeps_reqs _ k _ _ (ih hlt)
    · have hreq : (s.sendUnits k a o i).unitReq k (a + 64 * i) (o + 64 * i) = s.unitReq k (a + 64 * i) (o + 64 * i) := by
        rw [sendUnits_frame]
        rfl
      exact hreq ▸ mem_reqs_sendUnit _ k _ _

/-- The units of a PAGE count their offsets in the page slot from 0. -/
theorem mem_reqs_sendUnits_zero (s : State) (k : ReqKind) (a : Nat) {i n : Nat} (h : i < n) :
    s.unitReq k (a + 64 * i) (64 * i) ∈ ((s.sendUnits k a 0 n).chan (hbmDecode (a + 64 * i)).chan).reqs := by
  simpa only [Nat.zero_add] using s.mem_reqs_sendUnits k a 0 h

/-! ### Programs and pages -/

/-- R141, R911: the program of the epoch begins at its start-table entry. -/
theorem doSeqProgramStart_of_due {s : State} {r : Nat} {l : Nat × Last} {e : SeqEnt} {pos : Nat} (hin : s.inEpoch = true)
    (hgo : s.notStopped = true) (hcycle : s.clk.cycle = 16) (hran : (s.seq r).ran = false) (hl : s.lastOfRow r = some l)
    (he : s.seqEnt r = some e) (hpos : pageBytes (s.seq r) (4 * ((s.clk.epoch - l.2.start) % e.period)) 4 = some pos) :
    s.doSeqProgramStart r = s.setSeq r (seqFresh (s.seq r) pos) := by
  simp [doSeqProgramStart, hin, hgo, hcycle, hran, hl, he, hpos]

/-- R139: the page slot is taken at once, and the 64 units of the page are requested. -/
theorem doPage_of_issuing {s : State} {r arg w : Nat} {e : SeqEnt} (hw : s.issuing r = some w) (hm : isCtlArg 8 arg w = true)
    (he : s.seqEnt r = some e) :
    s.doPage r arg =
      (s.setSeq r { passed s r w with
        pages := (s.seq r).pages.put (arg % 32) { page := arg, usable := false, bytes := List.replicate 4096 0#8 } }).sendUnits
          (.page r (arg % 32)) (e.addr + 4096 * arg) 0 64 := by
  unfold doPage
  rw [ctl_of_issuing _ hw hm rfl, hw, he]
  exact if_pos hm

/-- R139: with every unit of the page landed, its slot is usable. -/
theorem doPageFetchDone_of_fetched {s : State} {r slot : Nat} {g : Page} (hg : (s.seq r).pages.find slot = some g)
    (hdone : s.pageFetched r slot = true) :
    s.doPageFetchDone r slot = s.setSeq r { s.seq r with pages := (s.seq r).pages.put slot { g with usable := true } } := by
  simp [doPageFetchDone, hg, hdone]

end Sys2Proof.Machine.State

namespace Sys2Proof.Claims

open Sys2Proof.Machine

/-- Settles O18: the program's start and the page's end set one sequencer; a PAGE sets its sequencer and adds requests to channels. -/
theorem sequencerEvents : Obligations.SequencerEvents := by
  intro s row slot arg
  refine ⟨fun l e pos hin hgo hcycle hran hl he hpos => ?start, fun e w hw hm he => ?page, fun g hg hdone => ?fetched⟩
  case start => exact setsSeq_of_setSeq (congrArg Host.Outcome.next (State.doSeqProgramStart_of_due hin hgo hcycle hran hl he hpos))
  case fetched => exact setsSeq_of_setSeq (congrArg Host.Outcome.next (State.doPageFetchDone_of_fetched hg hdone))
  case page =>
    refine ⟨_, congrArg Host.Outcome.next (State.doPage_of_issuing hw hm he), State.setSeq_sendUnits_frame .., fun k hk => ?_, ?_,
      fun c r hr => State.sendUnits_keeps_reqs _ _ _ _ _ hr, fun i hi => ?_⟩
    · rw [State.sendUnits_seq, State.seq_setSeq_other s _ hk]
    · rw [State.sendUnits_seq, State.seq_setSeq_same]
    · exact State.mem_reqs_sendUnits_zero _ _ _ hi

end Sys2Proof.Claims
end

section
/-! Slots of the arriving word: where they act, and what running one on every unit it names leaves (03 R118, R145, R918). -/

namespace Sys2Proof.Machine

@[simp] theorem Tile.unit_setUnit_same (t : Tile) (u : Nat) (x : AUnit) : (t.setUnit u x).unit u = x := Tbl.get_set_same _ _ _ _
theorem Tile.unit_setUnit_other (t : Tile) {i u : Nat} (x : AUnit) (h : i ≠ u) : (t.setUnit u x).unit i = t.unit i :=
  Tbl.get_set_other _ _ _ h _

/-- The lanes of the quarters lie apart. -/
theorem lanesOf_quarters_disjoint {a b : Nat} (ha : a < 4) (hb : b < 4) (h : a ≠ b) : ∀ l ∈ lanesOf b, l ∉ lanesOf a := by
  intro l hlb hla
  simp only [lanesOf, if_neg (Nat.ne_of_lt ha), if_neg (Nat.ne_of_lt hb), List.mem_map, List.mem_range] at hla hlb
  omega

namespace State

/-! ### The units that a word names -/

theorem tilesOf_nodup (row : Nat) (tmask : BitVec 4) : (tilesOf row tmask).Nodup :=
  (List.nodup_range.filter _).map fun a b h => by simpa [tileOf] using h

/-- No two of the units that a word names in a tile share a lane. -/
theorem unitsOf_disjoint (s : State) (row : Nat) (qmask : BitVec 4) :
    (s.unitsOf row qmask).Pairwise (fun a b => ∀ l ∈ lanesOf b, l ∉ lanesOf a) := by
  unfold unitsOf
  split
  · refine (List.nodup_range.filter _).imp_of_mem fun ha hb hne => ?_
    exact lanesOf_quarters_disjoint (List.mem_range.mp (List.mem_filter.mp ha).1) (List.mem_range.mp (List.mem_filter.mp hb).1) hne
  · exact List.pairwise_singleton _ _

theorem unitsNamed_disjoint (s : State) (sel : Sel) :
    (s.unitsNamed sel).Pairwise (fun p q => p.1 = q.1 → ∀ l ∈ lanesOf q.2, l ∉ lanesOf p.2) := by
  refine List.pairwise_flatMap.mpr ⟨fun t _ => ?_, ?_⟩
  · exact (s.unitsOf_disjoint sel.row sel.qmask).map _ fun a b h _ => h
  · refine (tilesOf_nodup sel.row sel.tmask).imp fun hne p hp q hq heq => ?_
    obtain ⟨a, -, rfl⟩ := List.mem_map.mp hp
    obtain ⟨b, -, rfl⟩ := List.mem_map.mp hq
    exact absurd heq hne

theorem slotTargets_of_word {s : State} {sel : Sel} {m : Nat → Bool} {x : Flight} (h : s.slotWord sel m = some x) :
    s.slotTargets sel m = s.unitsNamed sel := by
  simp [slotTargets, h]

theorem slotTargets_of_none {s : State} {sel : Sel} {m : Nat → Bool} (h : s.slotWord sel m = none) : s.slotTargets sel m = [] := by
  simp [slotTargets, h]

theorem slotTargets_disjoint (s : State) (sel : Sel) (m : Nat → Bool) :
    (s.slotTargets sel m).Pairwise (fun p q => p.1 = q.1 → ∀ l ∈ lanesOf q.2, l ∉ lanesOf p.2) := by
  unfold slotTargets
  split
  · exact s.unitsNamed_disjoint sel
  · exact List.Pairwise.nil

/-! ### Running a slot -/

theorem onSlot_of_none {s : State} {sel : Sel} {m : Nat → Bool} (k : Slot) (f : Flight → State → Nat × Nat → State)
    (h : s.slotWord sel m = none) : s.onSlot sel k m f = s := by
  simp [onSlot, h]

theorem onSlot_of_word {s : State} {sel : Sel} {m : Nat → Bool} {x : Flight} (k : Slot) (f : Flight → State → Nat × Nat → State)
    (h : s.slotWord sel m = some x) : s.onSlot sel k m f = (s.unitsNamed sel).foldl (f x) (s.spendSlot sel.row k) := by
  simp [onSlot, h]

theorem onSlot_of_unit {s : State} {sel : Sel} {m : Nat → Bool} {x : Flight} {p : Nat × Nat} (k : Slot)
    (f : Flight → State → Nat × Nat → State) (h : s.slotWord sel m = some x) (hp : s.unitsNamed sel = [p]) :
    s.onSlot sel k m f = f x (s.spendSlot sel.row k) p := by
  rw [onSlot_of_word k f h, hp]
  rfl

theorem spent_of_none {s : State} {sel : Sel} {m : Nat → Bool} (k : Slot) (h : s.slotWord sel m = none) : Claims.Spent s s sel k m :=
  fun r => by simp [h]

theorem spent_of_spendSlot {s t : State} {sel : Sel} {m : Nat → Bool} {x : Flight} {k : Slot} (h : s.slotWord sel m = some x)
    (ht : t.seqs = (s.spendSlot sel.row k).seqs) : Claims.Spent s t sel k m := by
  intro r
  have hseq : t.seq r = (s.spendSlot sel.row k).seq r := by
    rw [seq, ht, seq]
  rw [hseq]
  by_cases hr : r = sel.row
  · subst hr
    rw [if_pos ⟨rfl, by simp [h]⟩]
    exact seq_setSeq_same s _ _
  · rw [if_neg (fun hc => hr hc.1)]
    exact seq_setSeq_other s _ hr

/-- A run over units, each of which updates its own tile by `g`: `P` is what the update of a unit needs of its tile, which the units before it must leave true. -/
theorem foldl_setTile {f : State → Nat × Nat → State} {g : Nat × Nat → Tile → Tile} {P : Nat × Nat → Tile → Prop} {l : List (Nat × Nat)} {s : State}
    (hf : ∀ t p, t = { s with tiles := t.tiles } → P p (t.tile p.1) → f t p = t.setTile p.1 (g p (t.tile p.1)))
    (hkeep : l.Pairwise (fun p q => p.1 = q.1 → ∀ x, P q x → P q (g p x))) (hstart : ∀ p ∈ l, P p (s.tile p.1)) :
    l.foldl f s = { s with tiles := (l.foldl f s).tiles } ∧
      ∀ k, (l.foldl f s).tile k = (l.filter (fun p => p.1 == k)).foldl (fun x p => g p x) (s.tile k) := by
  induction l generalizing s with
  | nil => exact ⟨rfl, fun _ => rfl⟩
  | cons p l ih =>
    obtain ⟨hp, hkeep⟩ := List.pairwise_cons.mp hkeep
    have hfirst : f s p = s.setTile p.1 (g p (s.tile p.1)) := hf s p rfl (hstart p List.mem_cons_self)
    have hstart' : ∀ q ∈ l, P q ((s.setTile p.1 (g p (s.tile p.1))).tile q.1) := by
      intro q hq
      have hPq := hstart q (List.mem_cons_of_mem p hq)
      by_cases he : p.1 = q.1
      · rw [← he, tile_setTile_same]
        exact hp q hq he _ (he ▸ hPq)
      · rwa [tile_setTile_other s _ (Ne.symm he)]
    obtain ⟨hframe, htile⟩ := ih (s := s.setTile p.1 (g p (s.tile p.1))) (fun t q ht => hf t q ht) hkeep hstart'
    rw [List.foldl_cons, hfirst]
    refine ⟨hframe, fun k => ?_⟩
    rw [htile k]
    by_cases hk : p.1 = k
    · subst hk
      rw [tile_setTile_same, List.filter_cons_of_pos (by simp)]
      rfl
    · rw [tile_setTile_other s _ (Ne.symm hk), List.filter_cons_of_neg (by simpa using hk)]

/-- A slot that updates the tile of every unit that it names by `g`. -/
theorem onSlot_setTile {s : State} {sel : Sel} {k : Slot} {m : Nat → Bool} {f : Flight → State → Nat × Nat → State} {g : Nat × Nat → Tile → Tile}
    {P : Nat × Nat → Tile → Prop}
    (hf : ∀ x t p, t = { s with tiles := t.tiles, seqs := t.seqs } → P p (t.tile p.1) → f x t p = t.setTile p.1 (g p (t.tile p.1)))
    (hkeep : (s.slotTargets sel m).Pairwise (fun p q => p.1 = q.1 → ∀ x, P q x → P q (g p x)))
    (hstart : ∀ p ∈ s.slotTargets sel m, P p (s.tile p.1)) :
    s.onSlot sel k m f = { s with tiles := (s.onSlot sel k m f).tiles, seqs := (s.onSlot sel k m f).seqs } ∧
      Claims.Spent s (s.onSlot sel k m f) sel k m ∧
      ∀ i, (s.onSlot sel k m f).tile i = ((s.slotTargets sel m).filter (fun p => p.1 == i)).foldl (fun x p => g p x) (s.tile i) := by
  cases hw : s.slotWord sel m with
  | none =>
    rw [onSlot_of_none k f hw, slotTargets_of_none hw]
    exact ⟨rfl, spent_of_none k hw, fun _ => rfl⟩
  | some x =>
    rw [slotTargets_of_word hw] at hkeep hstart ⊢
    rw [onSlot_of_word k f hw]
    obtain ⟨hframe, htile⟩ := foldl_setTile (s := s.spendSlot sel.row k) (f := f x)
      (fun t p ht => hf x t p (by rw [ht]; rfl)) hkeep hstart
    generalize (s.unitsNamed sel).foldl (f x) (s.spendSlot sel.row k) = t at hframe htile ⊢
    refine ⟨?_, spent_of_spendSlot hw (by rw [hframe]), htile⟩
    rw [hframe]
    rfl

end State

end Sys2Proof.Machine
end

section
/-! The registers that operations of one cycle read: what is put on its way in the cycle changes none of them (03 R133; 05 R192, R194). -/

namespace Sys2Proof.Machine

/-- Two tiles whose registers are the same at every cycle up to `c`, as far as vector results decide them. -/
def Tile.AgreeTo (c : Nat) (x y : Tile) : Prop :=
  x.vregs = y.vregs ∧ ∀ d ≤ c, x.vres.filter (fun r => decide (r.due ≤ d)) = y.vres.filter (fun r => decide (r.due ≤ d))

namespace Tile.AgreeTo

variable {c : Nat} {x y : Tile}

theorem setReg (h : AgreeTo c x y) (v lane : Nat) (w : Word) : AgreeTo c (x.setReg v lane w) (y.setReg v lane w) := by
  obtain ⟨hregs, hres⟩ := h
  exact ⟨by simp only [Tile.setReg, hregs], hres⟩

theorem setRegs (h : AgreeTo c x y) (v : Nat) (l : List (Nat × Word)) : AgreeTo c (x.setRegs v l) (y.setRegs v l) :=
  List.foldl_rel (r := AgreeTo c) h fun p _ _ _ hab => hab.setReg v p.1 p.2

theorem settleVec (h : AgreeTo c x y) {d : Nat} (hd : d ≤ c) : AgreeTo c (x.settleVec d) (y.settleVec d) := by
  obtain ⟨hregs, hres⟩ := h
  unfold Tile.settleVec
  rw [hres d hd]
  refine List.foldl_rel (r := AgreeTo c) ⟨hregs, fun e he => ?_⟩ fun r _ _ _ hab => hab.setRegs r.vd r.lanes
  show (x.vres.filter _).filter _ = (y.vres.filter _).filter _
  rw [List.filter_comm, hres e he, List.filter_comm]

theorem settle (h : AgreeTo c x y) (hsfu : x.sfuRes = y.sfuRes) : AgreeTo c (x.settle c) (y.settle c) := by
  unfold Tile.settle
  rw [hsfu]
  refine settleVec ?_ (Nat.le_refl c)
  refine List.foldl_rel (r := AgreeTo c) ⟨h.1, h.2⟩ fun r hr a b hab => ?_
  have hdue : r.due ≤ c := by simpa using (List.mem_filter.mp ((List.mem_mergeSort).mp hr)).2
  exact (hab.settleVec hdue).setReg r.vd r.lane r.value

theorem reg (h : AgreeTo c x y) : x.reg = y.reg := by
  funext v lane
  rw [Tile.reg, Tile.reg, h.1]

end Tile.AgreeTo

/-- Results due after a cycle are in no register of that cycle. -/
theorem Tile.settle_reg_append_vres (x : Tile) {c : Nat} {l : List VRes} (hl : ∀ r ∈ l, c < r.due) :
    ({ x with vres := x.vres ++ l }.settle c).reg = (x.settle c).reg := by
  have hagree : AgreeTo c { x with vres := x.vres ++ l } x := by
    refine ⟨rfl, fun d hd => ?_⟩
    have hnone : l.filter (fun r => decide (r.due ≤ d)) = [] :=
      List.filter_eq_nil_iff.mpr fun r hr => by simpa using Nat.lt_of_le_of_lt hd (hl r hr)
    rw [List.filter_append, hnone, List.append_nil]
  exact (hagree.settle rfl).reg

/-- A request that waits is in no register. -/
theorem Tile.settle_reg_sfuWait (x : Tile) (w : Tbl SfuReq) (c : Nat) : ({ x with sfuWait := w }.settle c).reg = (x.settle c).reg :=
  have hagree : AgreeTo c { x with sfuWait := w } x := ⟨rfl, fun _ _ => rfl⟩
  (hagree.settle rfl).reg

/-- Results put on their way one after another, each from the registers as they are in the cycle. -/
theorem Tile.foldl_append_vres {c : Nat} (mk : Tile → Nat × Nat → VRes) (hdue : ∀ x p, c < (mk x p).due)
    (hmk : ∀ x y : Tile, (x.settle c).reg = (y.settle c).reg → mk x = mk y) :
    ∀ (l : List (Nat × Nat)) (x : Tile),
      l.foldl (fun (x : Tile) p => { x with vres := x.vres ++ [mk x p] }) x = { x with vres := x.vres ++ l.map (mk x) }
  | [], x => by simp
  | p :: l, x => by
    have hnext : mk { x with vres := x.vres ++ [mk x p] } = mk x :=
      hmk _ _ (x.settle_reg_append_vres fun r hr => List.mem_singleton.mp hr ▸ hdue x p)
    rw [List.foldl_cons, Tile.foldl_append_vres mk hdue hmk l, hnext]
    simp

/-! ### Requests to lanes -/

/-- Requests to a list of lanes. -/
theorem Tbl.find_foldl_put {α : Type} (v : Nat → α) (j : Nat) : ∀ (ls : List Nat) (w : Tbl α),
    (ls.foldl (fun w l => w.put l (v l)) w).find j = if j ∈ ls then some (v j) else w.find j
  | [], w => by simp
  | l :: ls, w => by
    rw [List.foldl_cons, Tbl.find_foldl_put v j ls]
    by_cases hj : j ∈ ls
    · simp [hj]
    · by_cases hl : j = l
      · subst hl
        simp [hj, Tbl.find_put_same]
      · simp [hj, hl, Tbl.find_put_other]

/-- A tile with a request of every lane of a unit. -/
def Tile.ask (x : Tile) (u : Nat) (v : Nat → SfuReq) : Tile :=
  { x with sfuWait := (lanesOf u).foldl (fun w l => w.put l (v l)) x.sfuWait }

theorem Tile.ask_find (x : Tile) (u : Nat) (v : Nat → SfuReq) (j : Nat) :
    (x.ask u v).sfuWait.find j = if j ∈ lanesOf u then some (v j) else x.sfuWait.find j :=
  Tbl.find_foldl_put v j _ _

/-- The request that a lane makes in a cycle: VS1 as the registers then stand (05 R190). -/
def Tile.laneReq (x : Tile) (c : Nat) (op : SfuOp) (vd vs1 l : Nat) : SfuReq := { op := op, vd := vd, x := (x.settle c).reg vs1 l }

theorem Tile.laneReq_ask (x : Tile) (c : Nat) (op : SfuOp) (vd vs1 u : Nat) (v : Nat → SfuReq) :
    (x.ask u v).laneReq c op vd vs1 = x.laneReq c op vd vs1 := by
  funext l
  simp only [laneReq, ask, settle_reg_sfuWait]

/-- Requests of a list of units: each lane of one of them asks, from the registers as they are in the cycle; nothing else of the tile changes. -/
theorem Tile.foldl_ask (c : Nat) (op : SfuOp) (vd vs1 : Nat) (l : List (Nat × Nat)) (x : Tile) :
    l.foldl (fun (x : Tile) p => x.ask p.2 (x.laneReq c op vd vs1)) x =
        { x with sfuWait := (l.foldl (fun (x : Tile) p => x.ask p.2 (x.laneReq c op vd vs1)) x).sfuWait } ∧
      ∀ j, (l.foldl (fun (x : Tile) p => x.ask p.2 (x.laneReq c op vd vs1)) x).sfuWait.find j =
        if l.any (fun p => (lanesOf p.2).contains j) then some (x.laneReq c op vd vs1 j) else x.sfuWait.find j := by
  induction l generalizing x with
  | nil => exact ⟨rfl, fun _ => rfl⟩
  | cons p l ih =>
    obtain ⟨hframe, hfind⟩ := ih (x.ask p.2 (x.laneReq c op vd vs1))
    refine ⟨hframe, fun j => ?_⟩
    rw [List.foldl_cons, hfind, laneReq_ask, ask_find, List.any_cons]
    by_cases hl : l.any (fun p => (lanesOf p.2).contains j) = true
    · simp only [hl, Bool.or_true, if_true]
    · simp only [hl, Bool.or_false, List.contains_iff_mem, Bool.false_eq_true, if_false]

end Sys2Proof.Machine
end

section
/-! The vector unit: lane operations and requests to the special functions (03 R133, R134, R922; 05 R190, R197). -/

namespace Sys2Proof.Machine.State

/-- A request where no lane of the unit waits. -/
theorem request_of_free {s : State} {p : Nat × Nat} (op : SfuOp) (vd vs1 : Nat) (h : ∀ l ∈ lanesOf p.2, (s.tile p.1).sfuWait.find l = none) :
    s.request op vd vs1 p = s.setTile p.1 ((s.tile p.1).ask p.2 ((s.tile p.1).laneReq s.clk.cycle op vd vs1)) := by
  unfold request
  rw [if_neg (by simpa using h)]
  rfl

end Sys2Proof.Machine.State

namespace Sys2Proof.Claims

open Sys2Proof.Machine

/-- What a unit of a tile puts on its way to VD: `f` of each of its lanes, from the registers as they are in the cycle. -/
def laneResult (c lat vd : Nat) (f : Tile → Nat → Word) (x : Tile) (p : Nat × Nat) : VRes :=
  { due := c + lat, vd := vd, lanes := (lanesOf p.2).map (fun l => (l, f (x.settle c) l)) }

theorem unitResults_eq (s : State) (sel : Sel) (m : Nat → Bool) (lat vd : Nat) (f : Tile → Nat → Word) (k : Nat) :
    unitResults s sel m lat vd f k = ((s.slotTargets sel m).filter (fun p => p.1 == k)).map (laneResult s.clk.cycle lat vd f (s.tile k)) := rfl

/-- A vector operation that reads only registers is a lane operation. -/
theorem laneOp_of_vecOp {c : Instr} {sel : Sel} {op lat vd vs1 vs2 : Nat} {f : Tile → Nat → Word}
    (hc : ∀ s, exec c s = .next (s.vecOp sel op lat vd vs1 vs2 f)) (hlat : 0 < lat) (hf : ∀ x y : Tile, x.reg = y.reg → f x = f y) :
    LaneOp c sel (isVop op vd vs1 vs2) lat vd f := by
  intro s
  refine ⟨_, hc s, ?_⟩
  obtain ⟨hframe, hspent, htile⟩ := State.onSlot_setTile (s := s) (sel := sel) (k := .vec) (m := isVop op vd vs1 vs2)
    (f := fun _ s p => s.pushVec p.1 lat vd ((lanesOf p.2).map (fun l => (l, f ((s.tile p.1).settle s.clk.cycle) l))))
    (g := fun p x => { x with vres := x.vres ++ [laneResult s.clk.cycle lat vd f x p] }) (P := fun _ _ => True)
    (fun _ t p ht _ => by rw [ht]; rfl) (List.pairwise_of_forall fun _ _ _ _ _ => trivial) (fun _ _ => trivial)
  refine ⟨hframe, hspent, fun k => ?_⟩
  rw [State.vecOp, htile, unitResults_eq]
  refine Tile.foldl_append_vres (c := s.clk.cycle) _ (fun _ _ => Nat.lt_add_of_pos_right hlat) (fun x y hxy => ?_) _ _
  funext p
  rw [laneResult, hf _ _ hxy, laneResult]

/-- An SFU word, where no lane that it names waits, makes a request of each. -/
theorem laneRequest_of_request {c : Instr} {sel : Sel} {m : Nat → Bool} {op : SfuOp} {vd vs1 : Nat}
    (hc : ∀ s, exec c s = .next (s.onSlot sel .vec m (fun _ s p => s.request op vd vs1 p))) : LaneRequest c sel m op vd vs1 := by
  intro s hfree
  refine ⟨_, hc s, ?_⟩
  obtain ⟨hframe, hspent, htile⟩ := State.onSlot_setTile (s := s) (sel := sel) (k := .vec) (m := m)
    (f := fun _ s p => s.request op vd vs1 p) (g := fun p x => x.ask p.2 (x.laneReq s.clk.cycle op vd vs1))
    (P := fun p x => ∀ l ∈ lanesOf p.2, x.sfuWait.find l = none)
    (fun _ t p ht hp => by
      have hclk : t.clk = s.clk := by rw [ht]
      rw [← hclk]
      exact State.request_of_free op vd vs1 hp)
    ((s.slotTargets_disjoint sel m).imp fun {p q} hpq he x hx l hl => by
      rw [Tile.ask_find, if_neg (hpq he l hl)]
      exact hx l hl)
    hfree
  refine ⟨hframe, hspent, fun k => ?_⟩
  obtain ⟨hsame, hfind⟩ := Tile.foldl_ask s.clk.cycle op vd vs1 ((s.slotTargets sel m).filter (fun p => p.1 == k)) (s.tile k)
  rw [← htile k] at hsame hfind
  refine ⟨hsame, fun l => ?_⟩
  rw [hfind, List.any_filter]
  rfl

/-- Settles O9: every listed operation is `State.vecOp` of a function of registers; an unlisted SFU code is a request that writes nothing. -/
theorem vectorOperations : Obligations.VectorOperations := by
  intro sel vd vs1 vs2
  refine ⟨fun s h => congrArg Host.Outcome.next (State.onSlot_of_none .vec _ h), laneRequest_of_request fun _ => rfl, ?_, ?_, ?_, ?_, ?_, ?_, ?_, ?_, ?_, ?_, ?_, ?_⟩
  all_goals exact laneOp_of_vecOp (fun _ => rfl) (by decide) (fun x y h => by rw [h])

end Sys2Proof.Claims
end

section
/-! Weight loads and accumulator reads (03 R118, R135, R910; 04 R906). -/

namespace Sys2Proof.Machine

/-- A tile with a block in the shadow registers of one of its units, complete from cycle `ready` on. -/
def Tile.load (x : Tile) (u : Nat) (b : WBlock) (ready : Nat) : Tile := x.setUnit u { x.unit u with shadow := some b, ready := ready }

theorem Tile.unit_load_same (x : Tile) (u : Nat) (b : WBlock) (ready : Nat) :
    (x.load u b ready).unit u = { x.unit u with shadow := some b, ready := ready } := unit_setUnit_same _ _ _

theorem Tile.unit_load_other (x : Tile) {i u : Nat} (b : WBlock) (ready : Nat) (h : i ≠ u) : (x.load u b ready).unit i = x.unit i :=
  unit_setUnit_other _ _ h

/-- A load leaves what the running and the queued stream of a unit and its SWAP are. -/
theorem Tile.unit_load (x : Tile) (u : Nat) (b : WBlock) (ready i : Nat) :
    ((x.load u b ready).unit i).queued = (x.unit i).queued ∧ ((x.load u b ready).unit i).swapAt = (x.unit i).swapAt := by
  by_cases h : i = u
  · subst h
    rw [unit_load_same]
    exact ⟨rfl, rfl⟩
  · rw [unit_load_other x b ready h]
    exact ⟨rfl, rfl⟩

/-- Loads of a list of units of tile `k`: each of them holds its block. -/
theorem Tile.foldl_load {k ready : Nat} (b : Nat × Nat → WBlock) {l : List (Nat × Nat)} (hl : ∀ p ∈ l, p.1 = k) (x : Tile) :
    l.foldl (fun (x : Tile) p => x.load p.2 (b p) ready) x =
        { x with units := (l.foldl (fun (x : Tile) p => x.load p.2 (b p) ready) x).units } ∧
      ∀ u, (l.foldl (fun (x : Tile) p => x.load p.2 (b p) ready) x).unit u =
        if (k, u) ∈ l then { x.unit u with shadow := some (b (k, u)), ready := ready } else x.unit u := by
  induction l generalizing x with
  | nil => exact ⟨rfl, fun _ => (if_neg List.not_mem_nil).symm⟩
  | cons p l ih =>
    obtain ⟨rfl, hl⟩ := List.forall_mem_cons.mp hl
    obtain ⟨hframe, hunit⟩ := ih hl (x.load p.2 (b p) ready)
    refine ⟨hframe, fun u => ?_⟩
    rw [List.foldl_cons, hunit]
    by_cases hu : u = p.2
    · subst hu
      rw [unit_load_same, ite_self, if_pos List.mem_cons_self]
    · have hmem : (p.1, u) ∈ p :: l ↔ (p.1, u) ∈ l := by
        rw [List.mem_cons, or_iff_right fun h => hu (congrArg Prod.snd h)]
      simp only [unit_load_other x _ _ hu, hmem]

namespace State

/-- With no stored error, reading bytes has no effect (03 R128). -/
theorem touch_of_clean {s : State} (h : s.memErr = []) (a n : Nat) : s.touch a n = s := by
  simp [touch, h]

theorem touchBlock_of_clean {s : State} (h : s.memErr = []) (u f a : Nat) : s.touchBlock u f a = s := by
  unfold touchBlock
  split
  · rfl
  · next g _ =>
    have hcols : ∀ l : List Nat, l.foldl (fun (s : State) j => s.touch (a + lineBytes u * j) (g.on u).payload) s = s :=
      List.foldl_fixed' fun j => touch_of_clean h _ _
    simp only [hcols, touch_of_clean h]

theorem startDue_of_none {s : State} {t u : Nat} (h : ((s.tile t).unit u).queued = none) : s.startDue t u = s := by
  simp [startDue, h]

theorem inSwap_eq_false {s : State} {t u : Nat} : s.inSwap t u = false ↔ ((s.tile t).unit u).swapAt = none ∧ s.swapArrives t u = false := by
  simp [inSwap]

/-- R118: outside a SWAP, with no queued stream, the block enters the unit's shadow registers. -/
theorem loadUnit_of_free {s : State} {p : Nat × Nat} (f addr : Nat) (hm : s.memErr = []) (hswap : s.inSwap p.1 p.2 = false)
    (hq : ((s.tile p.1).unit p.2).queued = none) :
    s.loadUnit f addr p = s.setTile p.1 ((s.tile p.1).load p.2 (s.readBlock p.2 f (slotAddr p.1 p.2 addr)) (s.clk.cycle + loadCycles f)) := by
  simp only [loadUnit, hswap, startDue_of_none hq, touchBlock_of_clean hm, Bool.false_eq_true, if_false]
  rfl

/-- R135: the row of the bank goes on its way to VD. -/
theorem ldaccUnit_of_clean {s : State} {k u : Nat} (accbase vd vs1 vs2 : Nat) (hswap : s.inSwap k u = false) (herr : (s.tile k).accErr = []) :
    s.ldaccUnit accbase vd vs1 vs2 (k, u) = s.pushVec k 3 vd ((lanesOf u).map (fun l =>
      (l, (s.tile k).acc.get 0#32 (accIndex u (accbase + vs1) (if u = 4 then l else l % 64 + 64 * (vs2 % 2)))))) := by
  simp [ldaccUnit, hswap, herr]

end State

end Sys2Proof.Machine

namespace Sys2Proof.Claims

open Sys2Proof.Machine

theorem answers_loadw {s : State} {sel : Sel} {fmt : BitVec 4} {addr : BitVec 14} (hm : s.memErr = [])
    (hfree : ∀ p ∈ s.slotTargets sel (isLoadw fmt.toNat addr.toNat), s.inSwap p.1 p.2 = false ∧ ((s.tile p.1).unit p.2).queued = none) :
    Answers (.loadw sel fmt addr) s fun t => t = { s with tiles := t.tiles, seqs := t.seqs } ∧
      Spent s t sel .arr (isLoadw fmt.toNat addr.toNat) ∧
      ∀ k, t.tile k = { s.tile k with units := (t.tile k).units } ∧
        ∀ u, (t.tile k).unit u =
          if (k, u) ∈ s.slotTargets sel (isLoadw fmt.toNat addr.toNat) then
            { (s.tile k).unit u with shadow := some (s.readBlock u fmt.toNat (State.slotAddr k u addr.toNat)), ready := s.clk.cycle + loadCycles fmt.toNat }
          else (s.tile k).unit u := by
  refine ⟨_, rfl, ?_⟩
  obtain ⟨hframe, hspent, htile⟩ := State.onSlot_setTile (s := s) (sel := sel) (k := .arr) (m := isLoadw fmt.toNat addr.toNat)
    (f := fun _ s p => s.loadUnit fmt.toNat addr.toNat p)
    (g := fun p x => x.load p.2 (s.readBlock p.2 fmt.toNat (State.slotAddr p.1 p.2 addr.toNat)) (s.clk.cycle + loadCycles fmt.toNat))
    (P := fun p x => (x.unit p.2).queued = none ∧ (x.unit p.2).swapAt = none ∧ s.swapArrives p.1 p.2 = false)
    (fun _ t p ht ⟨hq, hat, harr⟩ => by
      have hswap : t.inSwap p.1 p.2 = false := State.inSwap_eq_false.mpr ⟨hat, by rw [ht]; exact harr⟩
      rw [State.loadUnit_of_free _ _ (by rw [ht]; exact hm) hswap hq, ht]
      rfl)
    (List.pairwise_of_forall fun p q _ x ⟨hq, hat, harr⟩ => by
      obtain ⟨hqueued, hswap⟩ := x.unit_load p.2 (s.readBlock p.2 fmt.toNat (State.slotAddr p.1 p.2 addr.toNat)) (s.clk.cycle + loadCycles fmt.toNat) q.2
      exact ⟨hqueued.trans hq, hswap.trans hat, harr⟩)
    (fun p hp => by
      obtain ⟨hswap, hq⟩ := hfree p hp
      exact ⟨hq, State.inSwap_eq_false.mp hswap⟩)
  refine ⟨hframe, hspent, fun k => ?_⟩
  obtain ⟨hsame, hunit⟩ := Tile.foldl_load (k := k) (ready := s.clk.cycle + loadCycles fmt.toNat)
    (fun p => s.readBlock p.2 fmt.toNat (State.slotAddr p.1 p.2 addr.toNat))
    (l := (s.slotTargets sel (isLoadw fmt.toNat addr.toNat)).filter (fun p => p.1 == k)) (fun p hp => by simpa using (List.mem_filter.mp hp).2) (s.tile k)
  rw [← htile k] at hsame hunit
  refine ⟨hsame, fun u => ?_⟩
  have hmem : (k, u) ∈ (s.slotTargets sel (isLoadw fmt.toNat addr.toNat)).filter (fun p => p.1 == k) ↔
      (k, u) ∈ s.slotTargets sel (isLoadw fmt.toNat addr.toNat) := by simp
  rw [← ite_cond_congr (propext hmem)]
  exact hunit u

theorem gives_ldacc {s : State} {sel : Sel} {vd vs1 vs2 : Fin 64} {k u : Nat} {x : Flight} (hw : s.slotWord sel (isVop 0x10 vd vs1 vs2) = some x)
    (hone : s.unitsNamed sel = [(k, u)]) (hswap : s.inSwap k u = false) (herr : (s.tile k).accErr = []) :
    Gives (.ldacc sel vd vs1 vs2) s ((s.spendSlot sel.row .vec).setTile k { s.tile k with
      vres := (s.tile k).vres ++ [{ due := s.clk.cycle + 3, vd := vd.val
                                    lanes := (lanesOf u).map (fun l =>
                                      (l, (s.tile k).acc.get 0#32 (accIndex u (x.accbase + vs1) (if u = 4 then l else l % 64 + 64 * (vs2.val % 2))))) }] }) := by
  refine congrArg Host.Outcome.next ((State.onSlot_of_unit .vec _ hw hone).trans ?_)
  exact State.ldaccUnit_of_clean (s := s.spendSlot sel.row .vec) x.accbase vd vs1 vs2 hswap herr

/-- Settles O14: LOADW updates the tile of each unit that its word names, and LDACC reads one unit's row. -/
theorem arrayLoads : Obligations.ArrayLoads :=
  ⟨fun _ _ _ _ => answers_loadw, fun _ _ _ _ _ _ _ _ => gives_ldacc⟩

end Sys2Proof.Claims
end

section
/-! Ends of tile operations: vector and SFU results, grants and reductions (03 R133; 05 R191, R192, R194, R211-R217). -/

namespace Sys2Proof.Machine.State

theorem doVecResult_of_due {s : State} {k : Nat} {r : VRes} {rest : List VRes} (h : takeDue VRes.due s.clk.cycle (s.tile k).vres = some (r, rest)) :
    s.doVecResult k = s.setTile k ({ s.tile k with vres := rest }.setRegs r.vd r.lanes) := by
  simp only [doVecResult, h]

theorem doSfuWrite_of_due {s : State} {k : Nat} {r : SfuRes} {rest : List SfuRes} (h : takeDue SfuRes.due s.clk.cycle (s.tile k).sfuRes = some (r, rest)) :
    s.doSfuWrite k = s.setTile k (({ s.tile k with sfuRes := rest }.settleVec r.due).setReg r.vd r.lane r.value) := by
  simp only [doSfuWrite, h]

/-- R191, R211, R217: a granted request leaves its lane, updates the lane's statistics and sends what it writes, if it writes; a statistics operation finds no reduction over its group. -/
theorem doGrant_of_waiting {s : State} {k f : Nat} {r : SfuReq} (hr : (s.tile k).sfuWait.find (8 * f + s.clk.cycle % 8) = some r)
    (hred : r.op.isStat = true → (s.tile k).red.find (s.unitOf k ((8 * f + s.clk.cycle % 8) / 64)) = none) :
    let lane := 8 * f + s.clk.cycle % 8
    let x := s.tile k
    let b := s.sfuBounds k
    let st := x.stats.get {} lane
    s.doGrant k f = s.setTile k { x with
      sfuWait := x.sfuWait.del lane, stats := x.stats.set {} lane (r.op.state b r.x st)
      sfuRes := x.sfuRes ++ (r.op.value b (s.word (tileReg k + 0x14)) r.x st).toList.map (fun v =>
        { due := s.clk.cycle + sfuLatency b r.op, lane := lane, vd := r.vd, value := v }) } := by
  intro lane x b st
  have hfree : (r.op.isStat && (x.red.find (s.unitOf k (lane / 64))).isSome) = false := by
    cases hstat : r.op.isStat
    · rfl
    · rw [hred hstat]
      rfl
  simp only [doGrant, hr]
  rw [if_neg (Bool.eq_false_iff.mp hfree)]
  cases r.op.value b (s.word (tileReg k + 0x14)) r.x st with
  | none =>
    simp only [Option.toList_none, List.map_nil, List.append_nil]
    rfl
  | some v => rfl

theorem doRedDone_of_due {s : State} {k q due : Nat} (hred : (s.tile k).red.find (s.unitOf k q) = some due) (hdue : due ≤ s.clk.cycle) :
    let u := s.unitOf k q
    let x := s.tile k
    let tot := statTree (s.sfuBounds k) (if u = 4 then 8 else 6) ((lanesOf u).map (x.stats.get {}))
    s.doRedDone k q = s.setTile k { x with red := x.red.del u, stats := (lanesOf u).foldl (fun m l => m.set {} l tot) x.stats } := by
  simp only [doRedDone, hred, if_pos hdue]

end Sys2Proof.Machine.State

namespace Sys2Proof.Claims

open Sys2Proof.Machine

/-- Settles O11: each end of an operation is one update of its tile. -/
theorem tileResults : Obligations.TileResults := by
  intro s k f q
  refine ⟨fun r rest h => ?vec, fun r rest h => ?sfu, fun r hr hred => ?grant, fun due hred hdue => ?red⟩
  case vec => exact congrArg Host.Outcome.next (State.doVecResult_of_due h)
  case sfu => exact congrArg Host.Outcome.next (State.doSfuWrite_of_due h)
  case grant => exact congrArg Host.Outcome.next (State.doGrant_of_waiting hr hred)
  case red => exact congrArg Host.Outcome.next (State.doRedDone_of_due hred hdue)

end Sys2Proof.Claims
end

section
/-! Results of array passes (03 R117, R129-R131; 04 R187). -/

namespace Sys2Proof.Machine.State

/-- R117, R129-R131: the sums of the next vector enter the bank once the pass latency is over, where no parity error is met. -/
theorem doPassResult_of_due {s : State} {k q : Nat} {st : AStream} {drains : Bool} {d : List Byte × List Byte} {b : WBlock}
    (hnext : nextPass ((s.tile k).unit (s.unitOf k q)) = some (st, drains)) (hwait : st.waits = false) (hd : st.vecs[st.delivered]? = some d)
    (hb : st.weights = some b) (hdue : st.start + st.delivered + passLatency (s.unitOf k q) ≤ s.clk.cycle) :
    let u := s.unitOf k q
    let r := passSums u st b d
    let y := accRow (s.tile k) u (st.accbase + st.delivered) st.acc (intFmt st.fmt) r.1
    let s1 := (s.setTile k (y.1.setUnit u (passDone ((s.tile k).unit u) st drains))).flagNum k u r.2
    y.2.2 = false → s.doPassResult k q = if y.2.1 then s1.flagSat k u else s1 := by
  intro u r y s1 hparity
  simp only [doPassResult, hnext, hwait, hd, hb, hdue, or_true, if_true, Bool.false_eq_true, if_false]
  exact if_neg (Bool.eq_false_iff.mp hparity)

end Sys2Proof.Machine.State

namespace Sys2Proof.Claims

open Sys2Proof.Machine

/-- Settles O16: the pass result of one unit, whose stream has its vector and its weights. -/
theorem arrayResults : Obligations.ArrayResults := by
  intro s k q u x st drains d b hnext hwait hd hb hdue r y hparity
  exact congrArg Host.Outcome.next (State.doPassResult_of_due hnext hwait hd hb hdue hparity)

end Sys2Proof.Claims
end

section
/-! Streams on one unit: how one takes its unit, and what of the package it leaves as it was (03 R118-R120, R912). -/

namespace Sys2Proof.Machine

/-- A unit on which a stream begins with a block (03 R118): the shadow is free, and the stream before drains. -/
def AUnit.begin (x : AUnit) (st : AStream) (b : WBlock) : AUnit :=
  { x with active := some b, shadow := none, running := some { st with weights := some b, waits := false, partly := false }, draining := State.drained x }

namespace State

/-! ### Reports leave the tiles -/

theorem stageEvent_tiles (s : State) (e : Event) : (s.stageEvent e).tiles = s.tiles := by
  unfold stageEvent
  split
  · rfl
  · dsimp only
    split <;> rfl

theorem record_tiles (s : State) (code : Nat) (loc : Loc) (detail : Nat) : (s.record code loc detail).tiles = s.tiles := by
  rw [record, addNote_tiles, recordFatal, stageEvent_tiles]
  split <;> rfl

theorem trigger_tiles (s : State) (code : Nat) : (s.trigger code).tiles = s.tiles := by
  unfold trigger
  cases s.abortHeld <;> cases s.abort <;> simp [apply_ite State.tiles]

theorem unitAbort_tiles (s : State) (t u code : Nat) : (s.unitAbort t u code).tiles = s.tiles := by
  rw [unitAbort, abortWith, trigger_tiles, record_tiles]

theorem tile_congr {s t : State} (h : t.tiles = s.tiles) (k : Nat) : t.tile k = s.tile k := by
  rw [tile, h, tile]

/-! ### Streams that start -/

theorem activate_tile_other (s : State) {j t : Nat} (u : Nat) (st : AStream) (h : j ≠ t) : (s.activate t u st).tile j = s.tile j := by
  unfold activate
  dsimp only
  split
  · rw [tile_congr (unitAbort_tiles _ _ _ _), tile_setTile_other _ _ h]
  · split
    · rw [tile_congr (unitAbort_tiles _ _ _ _), tile_setTile_other _ _ h]
    · rw [tile_setTile_other _ _ h]
      split <;> rfl

/-- R118: with a block at hand whose load is complete, the stream begins with it. -/
theorem activate_of_block {s : State} {t u : Nat} {st : AStream} {b : WBlock}
    (hb : ((s.tile t).unit u).shadow.or ((s.tile t).unit u).active = some b) (hpair : fmtPairs st.fmt b.fmt = true)
    (hready : ((s.tile t).unit u).shadow.isSome = true → ((s.tile t).unit u).ready ≤ st.start) :
    s.activate t u st = s.setTile t ((s.tile t).setUnit u (((s.tile t).unit u).begin st b)) := by
  have hloaded : (((s.tile t).unit u).shadow.isSome && decide (st.start < ((s.tile t).unit u).ready)) = false := by
    simpa using hready
  simp only [activate, hb, hpair, hloaded, Bool.not_true, Bool.false_eq_true, if_false]
  rfl

/-- A stream that starts wakes only streams of tiles further east (R912). -/
theorem wakeEast_tile_of_le (u : Nat) {j : Nat} : ∀ (n : Nat) (s : State) {t : Nat} (c : Nat), j ≤ t → (s.wakeEast t u c n).tile j = s.tile j
  | 0, _, _, _, _ => rfl
  | n + 1, s, t, c, h => by
    unfold wakeEast
    split
    · rfl
    · split
      · split
        · rw [wakeEast_tile_of_le u n _ (c + 4) (Nat.le_succ_of_le h), activate_tile_other s u _ (Nat.ne_of_lt (Nat.lt_succ_of_le h))]
        · rfl
      · rfl

/-- Without a stream of the east neighbour that waits, none is woken. -/
theorem wakeEast_of_alone {s : State} {t u : Nat} (h : t % 4 = 3 ∨ ∀ r, ((s.tile (t + 1)).unit u).running = some r → r.waits = false) (c n : Nat) :
    s.wakeEast t u c n = s := by
  cases n with
  | zero => rfl
  | succ n =>
    unfold wakeEast
    rcases h with h | h
    · exact if_pos h
    · split
      · rfl
      · split
        · next r hr => exact if_neg (Bool.eq_false_iff.mp (h r hr))
        · rfl

theorem startStream_of_begun {s : State} {t u e : Nat} {st : AStream} (h : (s.streamStart t u st e).waits = false) :
    s.startStream t u st e = (s.activate t u (s.streamStart t u st e)).wakeEast t u (s.streamStart t u st e).start 3 := by
  simp only [startStream, h, Bool.false_eq_true, if_false]

/-- R912: a west stream whose neighbour has not started takes its unit and waits. -/
theorem startStream_of_waits {s : State} {t u e : Nat} {st : AStream} (h : (s.streamStart t u st e).waits = true) :
    s.startStream t u st e = s.setTile t ((s.tile t).setUnit u
      { (s.tile t).unit u with running := some (s.streamStart t u st e), draining := drained ((s.tile t).unit u) }) := by
  simp only [startStream, h, if_true]

/-- When a stream may start is read in the west neighbour alone. -/
theorem streamStart_congr {s t : State} {k : Nat} (h : ∀ j, j ≠ k → t.tile j = s.tile j) (u : Nat) (st : AStream) (e : Nat) :
    t.streamStart k u st e = s.streamStart k u st e := by
  unfold streamStart
  by_cases hw : st.west = true ∧ k % 4 ≠ 0
  · rw [if_pos hw, if_pos hw, h (k - 1) (by omega)]
  · rw [if_neg hw, if_neg hw]

theorem streamStart_fmt (s : State) (k u : Nat) (st : AStream) (e : Nat) : (s.streamStart k u st e).fmt = st.fmt := by
  unfold streamStart
  split
  · split <;> rfl
  · rfl

/-! ### What a started stream changes -/

/-- `t` is `v` with unit `u` of tile `k` changed to `y`; the tiles of `v` are those of `s`. -/
def UnitIs (s v : State) (k u : Nat) (y : AUnit) (t : State) : Prop :=
  (t.tile k).unit u = y ∧ t = { v with tiles := t.tiles } ∧ (∀ j, j ≠ k → t.tile j = s.tile j) ∧
    t.tile k = { s.tile k with units := (t.tile k).units } ∧ ∀ i, i ≠ u → (t.tile k).unit i = (s.tile k).unit i

theorem UnitIs.of_tiles {s v : State} (h : v.tiles = s.tiles) (k u : Nat) : UnitIs s v k u ((s.tile k).unit u) v := by
  have htile := tile_congr h
  exact ⟨by rw [htile], rfl, fun j _ => htile j, by rw [htile], fun i _ => by rw [htile]⟩

theorem UnitIs.setUnit {s v t : State} {k u : Nat} {x : AUnit} (h : UnitIs s v k u x t) (y : AUnit) :
    UnitIs s v k u y (t.setTile k ((t.tile k).setUnit u y)) := by
  obtain ⟨-, hframe, hother, htile, hunit⟩ := h
  have hset : (t.setTile k ((t.tile k).setUnit u y)).tile k = (t.tile k).setUnit u y := tile_setTile_same _ _ _
  refine ⟨by rw [hset, Tile.unit_setUnit_same], ?_, fun j hj => (tile_setTile_other t _ hj).trans (hother j hj), ?_, fun i hi => ?_⟩
  · exact hframe ▸ rfl
  · rw [hset]
    exact htile ▸ rfl
  · rw [hset, Tile.unit_setUnit_other _ _ hi, hunit i hi]

/-- Behind a start: unit `u` of tile `k` is `y`, the tiles further west are as they were, and so is all else where no east neighbour's stream waits. -/
def Took (s v : State) (k u : Nat) (y : AUnit) (t : State) : Prop :=
  (t.tile k).unit u = y ∧ (∀ j, j < k → t.tile j = s.tile j) ∧
    ((k % 4 = 3 ∨ ∀ r, ((s.tile (k + 1)).unit u).running = some r → r.waits = false) →
      t = { v with tiles := t.tiles } ∧ (∀ j, j ≠ k → t.tile j = s.tile j) ∧
        t.tile k = { s.tile k with units := (t.tile k).units } ∧ ∀ i, i ≠ u → (t.tile k).unit i = (s.tile k).unit i)

theorem UnitIs.wakeEast {s v t : State} {k u : Nat} {y : AUnit} (h : UnitIs s v k u y t) (c n : Nat) : Took s v k u y (t.wakeEast k u c n) := by
  obtain ⟨hy, hframe, hother, htile, hunit⟩ := h
  refine ⟨by rw [wakeEast_tile_of_le u n t c (Nat.le_refl k), hy], fun j hj => ?_, fun halone => ?_⟩
  · rw [wakeEast_tile_of_le u n t c (Nat.le_of_lt hj), hother j (Nat.ne_of_lt hj)]
  · rw [wakeEast_of_alone (by rwa [hother (k + 1) (Nat.succ_ne_self k)])]
    exact ⟨hframe, hother, htile, hunit⟩

/-- A stream that may begin takes its unit with the block at hand. -/
theorem UnitIs.startStream {s v t : State} {k u e : Nat} {x : AUnit} {st : AStream} {b : WBlock} (h : UnitIs s v k u x t)
    (hwait : (s.streamStart k u st e).waits = false) (hb : x.shadow.or x.active = some b) (hpair : fmtPairs st.fmt b.fmt = true)
    (hready : x.shadow.isSome = true → x.ready ≤ (s.streamStart k u st e).start) :
    Took s v k u (x.begin (s.streamStart k u st e) b) (t.startStream k u st e) := by
  obtain ⟨rfl, -, hother, -⟩ := id h
  have hstart : t.streamStart k u st e = s.streamStart k u st e := streamStart_congr hother u st e
  rw [startStream_of_begun (hstart ▸ hwait), hstart, activate_of_block hb (by rwa [streamStart_fmt]) hready]
  exact (h.setUnit _).wakeEast _ _

/-! ### The words of streams -/

theorem doStream_of_unit {s : State} {sel : Sel} {f addr acc k u : Nat} {west : Bool} {w : Flight}
    (hw : s.slotWord sel (isStream (if west = true then 3 else 2) f addr acc) = some w) (hone : s.unitsNamed sel = [(k, u)]) :
    s.doStream sel f addr acc west =
      (s.spendSlot sel.row .arr).streamUnit { wordStream w f west acc with base := slotAddr k u addr } (k, u) :=
  onSlot_of_unit .arr _ hw hone

theorem streamUnit_of_free {s : State} {k u : Nat} {st : AStream} (hswap : s.inSwap k u = false) (hfmt : (arrayFmt st.fmt).isSome = true)
    (hq : ((s.tile k).unit u).queued = none) (hfree : unitBusy ((s.tile k).unit u) s.clk.cycle = false) :
    s.streamUnit st (k, u) = s.startStream k u st s.clk.cycle := by
  simp only [streamUnit, hswap, Option.isNone_eq_false_iff.mpr hfmt, startDue_of_none hq, hfree, Bool.false_eq_true, if_false]

/-- R120: behind a stream that still takes vectors, the new one is queued. -/
theorem streamUnit_of_busy {s : State} {k u : Nat} {st : AStream} (hswap : s.inSwap k u = false) (hfmt : (arrayFmt st.fmt).isSome = true)
    (hq : ((s.tile k).unit u).queued = none) (hbusy : unitBusy ((s.tile k).unit u) s.clk.cycle = true) :
    s.streamUnit st (k, u) = s.setTile k ((s.tile k).setUnit u { (s.tile k).unit u with queued := some st }) := by
  simp only [streamUnit, hswap, Option.isNone_eq_false_iff.mpr hfmt, startDue_of_none hq, hbusy, hq, Bool.false_eq_true, if_false, if_true]

/-- The cycle from which a queued stream may begin: behind the last vector of the running one (R120). -/
def queuedFrom (x : AUnit) (c : Nat) : Nat :=
  match x.running with
  | some r => r.start + r.n
  | none => c

theorem startDue_of_free {s : State} {k u : Nat} {st : AStream} (hq : ((s.tile k).unit u).queued = some st)
    (hfree : unitBusy ((s.tile k).unit u) s.clk.cycle = false) :
    s.startDue k u = (s.setTile k ((s.tile k).setUnit u { (s.tile k).unit u with queued := none })).startStream k u st
      (queuedFrom ((s.tile k).unit u) s.clk.cycle) := by
  simp only [startDue, hq, hfree, Bool.false_eq_true, if_false]
  rfl

end State

end Sys2Proof.Machine

namespace Sys2Proof.Claims

open Sys2Proof.Machine

theorem exec_streams (west : Bool) (sel : Sel) (fmt : BitVec 4) (addr : BitVec 14) (acc : BitVec 2) (s : State) :
    exec (if west = true then .streamw sel fmt addr acc else .stream sel fmt addr acc) s =
      .next (s.doStream sel fmt.toNat addr.toNat acc.toNat west) := by
  cases west <;> rfl

/-- Settles O15: a stream that finds its unit free takes it, one behind a running stream is queued, and a queued one takes its unit once the running one's last vector has entered. -/
theorem arrayStreams : Obligations.ArrayStreams := by
  intro s k u x begins alone took
  refine ⟨?word, ?queue⟩
  case word =>
    intro sel fmt addr acc west w c st st1 v hw hone hswap hfmt hq
    have hexec : exec c s = .next (v.streamUnit st (k, u)) :=
      (exec_streams west sel fmt addr acc s).trans (congrArg Host.Outcome.next (State.doStream_of_unit hw hone))
    have hv : State.UnitIs s v k u x v := State.UnitIs.of_tiles rfl k u
    have hstart : v.streamStart k u st s.clk.cycle = st1 := State.streamStart_congr (fun _ _ => rfl) u st _
    have hfreed : unitBusy x s.clk.cycle = false → v.streamUnit st (k, u) = v.startStream k u st s.clk.cycle :=
      State.streamUnit_of_free (s := v) (st := st) hswap hfmt hq
    refine ⟨fun b hfree hwait hb hpair hready => ?begun, fun hfree hwait => ?waits, fun hbusy => ?queued⟩
    case begun =>
      refine ⟨_, hexec, ?_⟩
      rw [hfreed hfree]
      exact hv.startStream hwait hb hpair hready
    case waits =>
      rw [hfreed hfree, State.startStream_of_waits (hstart ▸ hwait), hstart] at hexec
      exact hexec
    case queued =>
      rw [State.streamUnit_of_busy (s := v) (st := st) hswap hfmt hq hbusy] at hexec
      exact hexec
  case queue =>
    intro kk q st b hk hu hq hfree e st1 hwait hb hpair hready
    subst hk hu
    refine ⟨_, congrArg Host.Outcome.next (State.startDue_of_free hq hfree), ?_⟩
    exact ((State.UnitIs.of_tiles rfl kk (s.unitOf kk q)).setUnit _).startStream hwait hb hpair hready

end Sys2Proof.Claims
end

section
/-! The end of a quiet cycle: only the parts of transfers that are due do anything (03 R126, R127, R150, R913). -/

namespace Sys2Proof.Machine.State

open Sys2Proof.Claims (Quiet cycleEnd)

/-! ### Parts of transfers -/

theorem runWork_of_none {s : State} {f : Work → Bool} (g : State → Job → State) (h : ∀ j ∈ s.work, j.due ≤ s.clk.cycle → f j.work = false) :
    s.runWork f g = s := by
  have hnone : ∀ j ∈ s.work, (decide (j.due ≤ s.clk.cycle) && f j.work) = false := fun j hj => by
    by_cases hdue : j.due ≤ s.clk.cycle
    · rw [h j hj hdue, Bool.and_false]
    · rw [decide_eq_false hdue, Bool.false_and]
  have htaken : s.dueWork f = [] := List.filter_eq_nil_iff.mpr fun j hj => by simp [hnone j hj]
  have hleft : s.work.filter (fun j => !(decide (j.due ≤ s.clk.cycle) && f j.work)) = s.work :=
    List.filter_eq_self.mpr fun j hj => by simp [hnone j hj]
  simp only [runWork, htaken, hleft, List.foldl_nil]

theorem runWork_of_due {s : State} {f : Work → Bool} {d : Nat} {w : Work} (g : State → Job → State) (hw : s.work = [⟨d, w⟩]) (hd : d ≤ s.clk.cycle)
    (hf : f w = true) : s.runWork f g = g { s with work := [] } ⟨d, w⟩ := by
  simp [runWork, dueWork, hw, hd, hf]

/-! ### Units in which nothing goes on -/

theorem eachUnit_of_fixed {s : State} {f : State → Nat → Nat → State} (h : ∀ t u, f s t u = s) : s.eachUnit f = s := by
  refine List.foldl_fixed' (f := fun s (p : Nat × Tile) => (List.range 5).foldl (fun s u => f s p.1 u) s) (fun p => ?_) _
  exact List.foldl_fixed' (h p.1) _

theorem capture_of_none {s : State} {t u : Nat} (h : ((s.tile t).unit u).running = none) : s.capture t u = s := by
  simp [capture, dueVectors, h, captureN]

theorem leaveScratch_of_none {s : State} {c : Nat} (h : ∀ q ∈ (s.chan c).reqs, s.leavesNow c q = false) : s.leaveScratch c = s := by
  have hnone : (s.chan c).reqs.find? (s.leavesNow c) = none := List.find?_eq_none.mpr fun q hq => by simp [h q hq]
  simp only [leaveScratch, hnone]

theorem memErr_of_quiet {s : State} {busy : Nat → Nat → Bool} (h : Quiet s busy) : s.memErr = [] := h.1

theorem swapAt_of_quiet {s : State} {busy : Nat → Nat → Bool} {k u : Nat} (h : Quiet s busy) (hb : busy k u = false) :
    ((s.tile k).unit u).swapAt = none := by
  obtain ⟨-, -, hswap, -⟩ := h
  exact hswap k u hb

theorem not_swapAt_of_quiet {s : State} {k u c : Nat} (h : Quiet s) : ((s.tile k).unit u).swapAt ≠ some c := by
  rw [swapAt_of_quiet h rfl]
  exact nofun

/-- In a quiet cycle the reads are those of the parts that are due. -/
theorem cycleReads_of_quiet {s : State} {busy : Nat → Nat → Bool} (h : Quiet s busy) : s.cycleReads = s.runWork (fun w => !w.writes) readWork := by
  obtain ⟨-, hunits, -, hchans⟩ := h
  have hstart : s.eachUnit startDue = s := eachUnit_of_fixed fun t u => startDue_of_none (hunits t u).2
  have hcapture : s.eachUnit capture = s := eachUnit_of_fixed fun t u => capture_of_none (hunits t u).1
  have hleave : s.hbm.chans.foldl (fun (s : State) p => s.leaveScratch p.1) s = s :=
    List.foldl_fixed' (f := fun (s : State) (p : Nat × Chan) => s.leaveScratch p.1) (fun p => leaveScratch_of_none (hchans p.1)) _
  simp only [cycleReads, hstart, hcapture, hleave]

/-- The step that a unit's swap takes in a cycle, if one runs. -/
def swapTurn (s : State) (t u : Nat) : State :=
  match ((s.tile t).unit u).swapAt with
  | some c => s.swapStep t u (s.clk.cycle - c)
  | none => s

theorem cycleSwaps_eq (s : State) : s.cycleSwaps = s.eachUnit swapTurn := rfl

theorem swapTurn_of_none {s : State} {t u : Nat} (h : ((s.tile t).unit u).swapAt = none) : s.swapTurn t u = s := by
  simp only [swapTurn, h]

theorem swapTurn_of_some {s : State} {t u c : Nat} (h : ((s.tile t).unit u).swapAt = some c) : s.swapTurn t u = s.swapStep t u (s.clk.cycle - c) := by
  simp only [swapTurn, h]

/-- In the cycle of its arrival a SWAP does nothing more (R150). -/
theorem swapStep_zero (s : State) (t q : Nat) : s.swapStep t q 0 = s := rfl

/-- No swap takes a step where none runs but such as arrive in this cycle. -/
theorem cycleSwaps_of_arriving {s : State} (h : ∀ t u c, ((s.tile t).unit u).swapAt = some c → c = s.clk.cycle) : s.cycleSwaps = s := by
  rw [cycleSwaps_eq]
  refine eachUnit_of_fixed fun t u => ?_
  cases hc : ((s.tile t).unit u).swapAt with
  | none => exact swapTurn_of_none hc
  | some c => rw [swapTurn_of_some hc, h t u c hc, Nat.sub_self, swapStep_zero]

theorem cycleSwaps_of_quiet {s : State} (h : Quiet s) : s.cycleSwaps = s :=
  cycleSwaps_of_arriving fun _ _ _ hc => (not_swapAt_of_quiet h hc).elim

/-! ### The end of the cycle -/

/-- A quiet cycle with one part that reads: what is to come are the parts that it leaves. -/
theorem endCycle_of_read {s t : State} {d : Nat} {w : Work} (hq : Quiet s) (hd : d ≤ s.clk.cycle) (hwork : s.work = [⟨d, w⟩]) (hw : w.writes = false)
    (ht : readWork { s with work := [] } ⟨d, w⟩ = t) (hswap : ∀ k u c, ((t.tile k).unit u).swapAt = some c → c = t.clk.cycle)
    (hlater : ∀ j ∈ t.work, t.clk.cycle < j.due) : s.endCycle = cycleEnd t t.work := by
  have hnone : ∀ (f : Work → Bool), ∀ j ∈ t.work, j.due ≤ t.clk.cycle → f j.work = false :=
    fun f j hj hdue => absurd hdue (Nat.not_le.mpr (hlater j hj))
  have hreads : s.cycleReads = t := by
    rw [cycleReads_of_quiet hq, runWork_of_due readWork hwork hd (by rw [hw]; rfl), ht]
  simp only [endCycle, hreads, cycleSwaps_of_arriving hswap, runWork_of_none writeWork (hnone _)]
  rfl

/-- A quiet cycle with writes alone: those of the F port and the buffers, then those of the V port (R127). -/
theorem endCycle_of_writes {s : State} (hq : Quiet s) (hw : ∀ j ∈ s.work, j.work.writes = true) :
    s.endCycle = cycleEnd ((s.runWork (fun w => w.writes && !isVWrite w) writeWork).runWork isVWrite writeWork)
      ((s.runWork (fun w => w.writes && !isVWrite w) writeWork).runWork isVWrite writeWork).work := by
  have hreads : s.cycleReads = s := by
    rw [cycleReads_of_quiet hq]
    exact runWork_of_none readWork fun j hj _ => by rw [hw j hj]; rfl
  simp only [endCycle, hreads, cycleSwaps_of_quiet hq]
  rfl

end Sys2Proof.Machine.State
end

section
/-! The MOV slot on one unit, and the parts of its transfers (03 R126, R127, R913, R918; 06 R225, R248, R916). -/

namespace Sys2Proof.Machine.State

open Sys2Proof.Claims (Quiet cycleEnd)

/-! ### FILL and SPILL at one unit -/

theorem fillUnit_of_dbuf {s : State} {a len src t u : Nat} (hfree : s.hitsActive t u (slotAddr t u a) (1024 * (len + 1)) = false)
    (hplace : placeOf src = .dbuf (dieOf t)) :
    s.fillUnit a len src (t, u) =
      (s.setTile t { s.tile t with fills := (s.tile t).fills ++
        [{ unit := u, lo := slotAddr t u a, hi := slotAddr t u a + 1024 * (len + 1), left := 1024 * (len + 1) / 64 }] }).addWork
          ((s.dbufLines t u (src % 67108864) (1024 * (len + 1)) true).map (fun l =>
            { due := l.2, work := .lineIn t u (src + 256 * l.1) (slotAddr t u a + 256 * l.1) 256 true })) := by
  simp only [fillUnit, hfree, hplace, Bool.false_eq_true, if_false, if_true]

theorem fillUnit_of_hbm {s : State} {a len src t u h : Nat} (hfree : s.hitsActive t u (slotAddr t u a) (1024 * (len + 1)) = false)
    (hplace : placeOf src = .hbm h) :
    s.fillUnit a len src (t, u) =
      (s.setTile t { s.tile t with fills := (s.tile t).fills ++
        [{ unit := u, lo := slotAddr t u a, hi := slotAddr t u a + 1024 * (len + 1), left := 1024 * (len + 1) / 64 }] }).sendUnits
          (.fill t u) src (slotAddr t u a) (1024 * (len + 1) / 64) := by
  simp only [fillUnit, hfree, hplace, Bool.false_eq_true, if_false]

theorem spillUnit_of_dbuf {s : State} {a len dst t u : Nat} (hfree : s.hitsActive t u (slotAddr t u a) (1024 * (len + 1)) = false)
    (hplace : placeOf dst = .dbuf (dieOf t)) :
    s.spillUnit a len dst (t, u) =
      s.addWork ((s.dbufLines t u (dst % 67108864) (1024 * (len + 1)) false).map (fun l =>
        { due := l.2 - 6, work := .lineOut (slotAddr t u a + 256 * l.1) (dst + 256 * l.1) 256 })) := by
  simp only [spillUnit, hfree, hplace, Bool.false_eq_true, if_false, if_true]

theorem spillUnit_of_hbm {s : State} {a len dst t u h : Nat} (hfree : s.hitsActive t u (slotAddr t u a) (1024 * (len + 1)) = false)
    (hplace : placeOf dst = .hbm h) :
    s.spillUnit a len dst (t, u) = s.sendUnits (.spill t) dst (slotAddr t u a) (1024 * (len + 1) / 64) := by
  simp only [spillUnit, hfree, hplace, Bool.false_eq_true, if_false]

/-! ### The parts of transfers at the end of a quiet cycle -/

/-- With no stored error, a write changes the bytes alone. -/
theorem poke_of_clean {s : State} (h : s.memErr = []) (a : Nat) (bs : List Byte) : s.poke a bs = { s with mem := s.mem.setBytes a bs } := by
  simp only [poke, h, List.filter_nil]

/-- A part that reads and leaves the units as they were: its effect is the cycle's. -/
theorem endCycle_of_move {s t : State} {d : Nat} {w : Work} {rest : List Job} (hq : Quiet s) (hd : d ≤ s.clk.cycle) (hwork : s.work = [⟨d, w⟩])
    (hw : w.writes = false) (ht : readWork { s with work := [] } ⟨d, w⟩ = { t with work := rest })
    (hunits : ∀ k, (t.tile k).units = (s.tile k).units)
    (hlater : ∀ j ∈ rest, t.clk.cycle < j.due) : s.endCycle = cycleEnd t rest :=
  endCycle_of_read hq hd hwork hw ht (fun k u _ hc => (not_swapAt_of_quiet hq (k := k) (u := u) (by rw [Tile.unit, ← hunits k]; exact hc)).elim) hlater

theorem endCycle_of_vld {s : State} {d k u v src : Nat} (hq : Quiet s) (hd : d ≤ s.clk.cycle) (hwork : s.work = [⟨d, .vld k u v src⟩]) :
    s.endCycle = cycleEnd (s.setTile k { s.tile k with
      vres := (s.tile k).vres ++ [{ due := s.clk.cycle + 2, vd := v, lanes := laneWords u (s.mem.bytes src (regBytes u)) }] }) [] := by
  have hm := memErr_of_quiet hq
  refine endCycle_of_move hq hd hwork rfl ?_ (fun i => ?_) (fun _ h => absurd h List.not_mem_nil)
  · simp only [readWork, touch_of_clean (s := { s with work := [] }) hm]
    rfl
  · by_cases hi : i = k
    · subst hi
      rw [tile_setTile_same]
    · rw [tile_setTile_other s _ hi]

theorem endCycle_of_vst {s : State} {d k u v dst : Nat} (hq : Quiet s) (hd : d ≤ s.clk.cycle) (hwork : s.work = [⟨d, .vst k u v dst⟩]) :
    s.endCycle = cycleEnd s [⟨s.clk.cycle + 1, .vWrite dst (laneBytes ((s.tile k).settle s.clk.cycle) u v)⟩] :=
  endCycle_of_move hq hd hwork rfl rfl (fun _ => rfl) (fun _ hj => List.mem_singleton.mp hj ▸ Nat.lt_succ_self _)

theorem endCycle_of_lineIn {s : State} {d k u src dst n : Nat} {fills : Bool} (hq : Quiet s) (hd : d ≤ s.clk.cycle)
    (hwork : s.work = [⟨d, .lineIn k u src dst n fills⟩]) :
    s.endCycle = cycleEnd s [⟨s.clk.cycle + 6, .fWrite k u dst (s.mem.bytes src n) fills⟩] := by
  have hm := memErr_of_quiet hq
  refine endCycle_of_move hq hd hwork rfl ?_ (fun _ => rfl) (fun _ hj => List.mem_singleton.mp hj ▸ Nat.lt_add_of_pos_right (by decide))
  simp only [readWork, touch_of_clean (s := { s with work := [] }) hm]
  rfl

theorem endCycle_of_lineOut {s : State} {d src dst n : Nat} (hq : Quiet s) (hd : d ≤ s.clk.cycle) (hwork : s.work = [⟨d, .lineOut src dst n⟩]) :
    s.endCycle = cycleEnd s [⟨s.clk.cycle + 6, .bufWrite dst (s.mem.bytes src n)⟩] := by
  have hm := memErr_of_quiet hq
  refine endCycle_of_move hq hd hwork rfl ?_ (fun _ => rfl) (fun _ hj => List.mem_singleton.mp hj ▸ Nat.lt_add_of_pos_right (by decide))
  simp only [readWork, touch_of_clean (s := { s with work := [] }) hm]
  rfl

theorem endCycle_of_bufWrite {s : State} {d dst : Nat} {bs : List Byte} (hq : Quiet s) (hd : d ≤ s.clk.cycle) (hwork : s.work = [⟨d, .bufWrite dst bs⟩]) :
    s.endCycle = cycleEnd { s with mem := s.mem.setBytes dst bs } [] := by
  have hm := memErr_of_quiet hq
  have hwrite : s.runWork (fun w => w.writes && !isVWrite w) writeWork = { s with work := [], mem := s.mem.setBytes dst bs } :=
    (runWork_of_due writeWork hwork hd rfl).trans (poke_of_clean (s := { s with work := [] }) hm dst bs)
  rw [endCycle_of_writes hq (by rw [hwork]; exact fun j hj => List.mem_singleton.mp hj ▸ rfl), hwrite,
    runWork_of_none writeWork fun _ h => absurd h List.not_mem_nil]
  rfl

/-- R127: of two writes of one cycle, the V port's lands last, whichever was listed first. -/
theorem endCycle_of_fWrite_vWrite {s : State} {d k u a b : Nat} {bs cs : List Byte} (hq : Quiet s) (hd : d ≤ s.clk.cycle)
    (hwork : s.work = [⟨d, .fWrite k u a bs false⟩, ⟨d, .vWrite b cs⟩] ∨ s.work = [⟨d, .vWrite b cs⟩, ⟨d, .fWrite k u a bs false⟩]) :
    s.endCycle = cycleEnd { s with mem := (s.mem.setBytes a bs).setBytes b cs } [] := by
  have hm := memErr_of_quiet hq
  have hwrites : ∀ j ∈ s.work, j.work.writes = true := by
    rcases hwork with h | h <;> rw [h] <;> simp [Work.writes]
  have hfirst : s.runWork (fun w => w.writes && !isVWrite w) writeWork = { s with work := [⟨d, .vWrite b cs⟩], mem := s.mem.setBytes a bs } := by
    have hrun : s.runWork (fun w => w.writes && !isVWrite w) writeWork = writeWork { s with work := [⟨d, .vWrite b cs⟩] } ⟨d, .fWrite k u a bs false⟩ := by
      rcases hwork with h | h <;> simp [runWork, dueWork, h, hd, Work.writes, isVWrite]
    exact hrun.trans (poke_of_clean (s := { s with work := [⟨d, .vWrite b cs⟩] }) hm a bs)
  have hlast : ({ s with work := [⟨d, .vWrite b cs⟩], mem := s.mem.setBytes a bs } : State).runWork isVWrite writeWork =
      { s with work := [], mem := (s.mem.setBytes a bs).setBytes b cs } := by
    rw [runWork_of_due (s := { s with work := [⟨d, .vWrite b cs⟩], mem := s.mem.setBytes a bs }) writeWork rfl hd rfl]
    exact poke_of_clean (s := { s with work := [], mem := s.mem.setBytes a bs }) hm b cs
  rw [endCycle_of_writes hq hwrites, hfirst, hlast]
  rfl

end Sys2Proof.Machine.State

namespace Sys2Proof.Claims

open Sys2Proof.Machine

/-- Settles O17: the word on one unit lists the parts of its transfer, and each part at the end of a quiet cycle. -/
theorem scratchMoves : Obligations.ScratchMoves := by
  refine ⟨?words, fun s d hq hd => ⟨?vld, ?vst, ?lineIn, ?lineOut, ?bufWrite, ?ports⟩⟩
  case vld => exact fun _ _ _ _ h => State.endCycle_of_vld hq hd h
  case vst => exact fun _ _ _ _ h => State.endCycle_of_vst hq hd h
  case lineIn => exact fun _ _ _ _ _ _ h => State.endCycle_of_lineIn hq hd h
  case lineOut => exact fun _ _ _ h => State.endCycle_of_lineOut hq hd h
  case bufWrite => exact fun _ _ h => State.endCycle_of_bufWrite hq hd h
  case ports => exact fun _ _ _ _ _ _ h => State.endCycle_of_fWrite_vWrite hq hd h
  case words =>
    intro s sel k u v a len w hone sp at_ n o
    refine ⟨fun hw => ?vld, fun hw => ?vst, fun hfree => ⟨fun hw => ?fill, fun hw => ?spill⟩⟩
    case vld => exact congrArg Host.Outcome.next (State.onSlot_of_unit .mov _ hw hone)
    case vst => exact congrArg Host.Outcome.next (State.onSlot_of_unit .mov _ hw hone)
    case fill =>
      have hexec : exec (.fill sel a len) s = .next (sp.fillUnit a.toNat len.toNat o (k, u)) :=
        congrArg Host.Outcome.next (State.onSlot_of_unit .mov _ hw hone)
      exact ⟨fun hplace => hexec.trans (congrArg Host.Outcome.next (State.fillUnit_of_dbuf (s := sp) hfree hplace)),
        fun h hplace => hexec.trans (congrArg Host.Outcome.next (State.fillUnit_of_hbm (s := sp) hfree hplace))⟩
    case spill =>
      have hexec : exec (.spill sel a len) s = .next (sp.spillUnit a.toNat len.toNat o (k, u)) :=
        congrArg Host.Outcome.next (State.onSlot_of_unit .mov _ hw hone)
      exact ⟨fun hplace => hexec.trans (congrArg Host.Outcome.next (State.spillUnit_of_dbuf (s := sp) hfree hplace)),
        fun h hplace => hexec.trans (congrArg Host.Outcome.next (State.spillUnit_of_hbm (s := sp) hfree hplace))⟩

end Sys2Proof.Claims
end

section
/-! Model swaps: the word, its arrival, what it does in each cycle, and its end (03 R148-R151, R923). -/

namespace Sys2Proof.Machine

/-! ### Runs in which one element acts -/

theorem foldl_fixed_of_mem {α β : Type} {f : β → α → β} {b : β} : ∀ {l : List α}, (∀ x ∈ l, f b x = b) → l.foldl f b = b
  | [], _ => rfl
  | x :: l, h => by
    rw [List.foldl_cons, h x List.mem_cons_self]
    exact foldl_fixed_of_mem fun y hy => h y (List.mem_cons_of_mem x hy)

/-- A run over distinct elements of which one takes `b` to `b'`, and the others leave both as they are. -/
theorem foldl_of_one {α β : Type} {f : β → α → β} {a : α} {b b' : β} {l : List α} (ha : a ∈ l) (hl : l.Nodup) (hact : f b a = b')
    (hb : ∀ x, x ≠ a → f b x = b) (hb' : ∀ x, x ≠ a → f b' x = b') : l.foldl f b = b' := by
  induction l with
  | nil => cases ha
  | cons x l ih =>
    obtain ⟨hx, hl⟩ := List.nodup_cons.mp hl
    rw [List.foldl_cons]
    by_cases hxa : x = a
    · subst hxa
      rw [hact]
      exact foldl_fixed_of_mem fun y hy => hb' y fun h => hx (h ▸ hy)
    · rw [hb x hxa]
      exact ih ((List.mem_cons.mp ha).resolve_left (Ne.symm hxa)) hl

theorem Tbl.lt_of_above {α : Type} {k : Nat} : ∀ {t : Tbl α}, t.above k = true → ∀ a ∈ t.map Prod.fst, k < a
  | [], _, _, h => absurd h List.not_mem_nil
  | (b, _) :: t, habove, a, h => by
    simp only [Tbl.above, Bool.and_eq_true, decide_eq_true_eq] at habove
    rcases List.mem_cons.mp h with rfl | h
    · exact habove.1
    · exact Nat.lt_trans habove.1 (Tbl.lt_of_above habove.2 a h)

theorem Tbl.keys_nodup {α : Type} : ∀ {t : Tbl α}, t.sorted = true → (t.map Prod.fst).Nodup
  | [], _ => List.nodup_nil
  | (_, _) :: _, h => List.nodup_cons.mpr ⟨fun hmem => Nat.lt_irrefl _ (Tbl.lt_of_above h _ hmem), Tbl.keys_nodup (Tbl.sorted_tail h)⟩

theorem Tbl.find_filter_keys {α : Type} (f : Nat → Bool) (k : Nat) : ∀ t : Tbl α, Tbl.find (t.filter (fun p => f p.1)) k = if f k then t.find k else none
  | [] => by simp [Tbl.find]
  | (a, v) :: t => by
    by_cases hk : k = a
    · subst hk
      by_cases hf : f k = true <;> simp [hf, Tbl.find, Tbl.find_filter_keys f k t]
    · by_cases hf : f a = true <;> simp [hf, Tbl.find, hk, Tbl.find_filter_keys f k t]

namespace State

open Sys2Proof.Claims (Quiet cycleEnd passed)

theorem eachUnit_of_one {s t : State} {f : State → Nat → Nat → State} {k q : Nat} (hsort : s.tiles.sorted = true) (hk : k ∈ s.tiles.map Prod.fst)
    (hq : q < 5) (hact : f s k q = t) (hs : ∀ j u, ¬ (j = k ∧ u = q) → f s j u = s) (ht : ∀ j u, ¬ (j = k ∧ u = q) → f t j u = t) :
    s.eachUnit f = t := by
  have htile : (List.range 5).foldl (fun s u => f s k u) s = t :=
    foldl_of_one (List.mem_range.mpr hq) List.nodup_range hact (fun u hu => hs k u fun h => hu h.2) (fun u hu => ht k u fun h => hu h.2)
  have htiles : (s.tiles.map Prod.fst).foldl (fun s j => (List.range 5).foldl (fun s u => f s j u) s) s = t :=
    foldl_of_one hk (Tbl.keys_nodup hsort) htile (fun j hj => List.foldl_fixed' (fun u => hs j u fun h => hj h.1) _)
      (fun j hj => List.foldl_fixed' (fun u => ht j u fun h => hj h.1) _)
  rwa [List.foldl_map] at htiles

/-! ### What a swap does in one cycle -/

/-- The unit of a quarter behind cycle `n` of its swap (R150, R923). -/
def swapUnit (s : State) (k q n : Nat) : AUnit :=
  let x := (s.tile k).unit q
  let a := stagingAddr k q x.halfB
  let o := 16 * (n - 16)
  let f := (x.consts.headD 0#8).toNat % 16
  if 16 ≤ n ∧ n < 272 then { x with consts := x.consts.take o ++ s.mem.bytes (a + o) 16 ++ x.consts.drop (o + 16) }
  else if n = 272 then { x with shadow := some (s.readBlock q f (a + 4096)), ready := s.clk.cycle + loadCycles f }
  else if n = 400 then { x with active := x.shadow, shadow := none }
  else x

theorem clearStep_acc (x : Tile) (q k i : Nat) :
    (clearStep x q k).acc.get 0#32 i =
      if i / 65536 = q / 2 ∧ i % 256 / 128 = q % 2 ∧ (i / 256 % 256 * 128 + i % 128) / 32 = k then 0#32 else x.acc.get 0#32 i := by
  unfold clearStep Tbl.get
  rw [Tbl.find_filter_keys (fun i => !decide (i / 65536 = q / 2 ∧ i % 256 / 128 = q % 2 ∧ (i / 256 % 256 * 128 + i % 128) / 32 = k))]
  by_cases h : i / 65536 = q / 2 ∧ i % 256 / 128 = q % 2 ∧ (i / 256 % 256 * 128 + i % 128) / 32 = k
  · simp only [h]
    simp
  · simp only [h]
    simp

/-- With no stored error, a swap's step changes its unit, and then clears its part of the bank. -/
theorem swapStep_of_clean {s : State} (hm : s.memErr = []) (k q n : Nat) : ∃ t, UnitIs s s k q (s.swapUnit k q n) t ∧
    s.swapStep k q n = if 400 ≤ n ∧ n < 1424 then t.setTile k (clearStep (t.tile k) q (n - 400)) else t := by
  have hself : UnitIs s s k q ((s.tile k).unit q) s := .of_tiles rfl k q
  unfold swapStep swapUnit
  simp only [touch_of_clean hm, touchBlock_of_clean hm]
  by_cases hconst : 16 ≤ n ∧ n < 272
  · have hclear : ¬ (400 ≤ n ∧ n < 1424) := by omega
    simp only [if_pos hconst, if_neg hclear]
    exact ⟨_, hself.setUnit _, rfl⟩
  by_cases hblock : n = 272
  · have hclear : ¬ (400 ≤ n ∧ n < 1424) := by omega
    simp only [if_neg hconst, if_pos hblock, if_neg hclear]
    exact ⟨_, hself.setUnit _, rfl⟩
  by_cases hchange : n = 400
  · simp only [if_neg hconst, if_neg hblock, if_pos hchange]
    exact ⟨_, hself.setUnit _, rfl⟩
  · simp only [if_neg hconst, if_neg hblock, if_neg hchange]
    exact ⟨_, hself, rfl⟩

/-- What a swap's step leaves: its own unit, the bank of its tile, and nothing else but these. -/
theorem swapStep_spec {s : State} (hm : s.memErr = []) (k q n : Nat) :
    s.swapStep k q n = { s with tiles := (s.swapStep k q n).tiles } ∧ (∀ j, j ≠ k → (s.swapStep k q n).tile j = s.tile j) ∧
      ((s.swapStep k q n).tile k).unit q = s.swapUnit k q n ∧ (∀ u, u ≠ q → ((s.swapStep k q n).tile k).unit u = (s.tile k).unit u) ∧
      ∀ i, ((s.swapStep k q n).tile k).acc.get 0#32 i =
        if 400 ≤ n ∧ n < 1424 ∧ i / 65536 = q / 2 ∧ i % 256 / 128 = q % 2 ∧ (i / 256 % 256 * 128 + i % 128) / 32 = n - 400 then 0#32
        else (s.tile k).acc.get 0#32 i := by
  obtain ⟨t, ⟨hunit, hframe, hother, htile, hunits⟩, ht⟩ := swapStep_of_clean hm k q n
  have hacc : (t.tile k).acc = (s.tile k).acc := by rw [htile]
  rw [ht]
  by_cases hclear : 400 ≤ n ∧ n < 1424
  · rw [if_pos hclear]
    refine ⟨?_, fun j hj => (tile_setTile_other t _ hj).trans (hother j hj), ?_, fun u hu => ?_, fun i => ?_⟩
    · exact hframe ▸ rfl
    · rw [tile_setTile_same]
      exact hunit
    · rw [tile_setTile_same]
      exact hunits u hu
    · rw [tile_setTile_same, clearStep_acc, hacc]
      simp only [hclear.1, hclear.2, true_and]
  · rw [if_neg hclear]
    refine ⟨hframe, hother, hunit, hunits, fun i => ?_⟩
    rw [hacc, if_neg fun h => hclear ⟨h.1, h.2.1⟩]

/-! ### Swaps at the end of a cycle -/

/-- A tile in which a swap runs is listed. -/
theorem mem_keys_of_swapAt {s : State} {k q c : Nat} (h : ((s.tile k).unit q).swapAt = some c) : k ∈ s.tiles.map Prod.fst := by
  cases hf : s.tiles.find k with
  | none =>
    rw [tile, Tbl.get, hf] at h
    cases h
  | some x => exact List.mem_map.mpr ⟨(k, x), Tbl.mem_of_find hf, rfl⟩

/-- Where one unit alone swaps, the cycle's swaps are its step. -/
theorem cycleSwaps_of_one {s : State} {k q c : Nat} (hm : s.memErr = []) (hsort : s.tiles.sorted = true) (hq : q < 5)
    (hc : ((s.tile k).unit q).swapAt = some c) (hother : ∀ j u, ¬ (j = k ∧ u = q) → ((s.tile j).unit u).swapAt = none) :
    s.cycleSwaps = s.swapStep k q (s.clk.cycle - c) := by
  obtain ⟨-, htile, -, hunits, -⟩ := swapStep_spec hm k q (s.clk.cycle - c)
  rw [cycleSwaps_eq]
  refine eachUnit_of_one hsort (mem_keys_of_swapAt hc) hq (swapTurn_of_some hc) (fun j u h => swapTurn_of_none (hother j u h)) fun j u h => ?_
  refine swapTurn_of_none ?_
  by_cases hj : j = k
  · subst hj
    rw [hunits u fun hu => h ⟨rfl, hu⟩]
    exact hother j u h
  · rw [htile j hj]
    exact hother j u h

/-- A cycle in which one unit alone swaps, and no part of a transfer is to come. -/
theorem endCycle_of_swap {s : State} {k q c : Nat} (hquiet : Quiet s (fun j u => j == k && u == q)) (hwork : s.work = [])
    (hsort : s.tiles.sorted = true) (hq : q < 5) (hc : ((s.tile k).unit q).swapAt = some c) :
    s.endCycle = { s.swapStep k q (s.clk.cycle - c) with setNow := [], wrote := [] } := by
  have hother : ∀ j u, ¬ (j = k ∧ u = q) → ((s.tile j).unit u).swapAt = none := fun j u h => swapAt_of_quiet hquiet (by simpa using h)
  have hframe := (swapStep_spec (memErr_of_quiet hquiet) k q (s.clk.cycle - c)).1
  have hnone : ∀ {t : State} (f : Work → Bool), t.work = [] → t.runWork f writeWork = t := fun f ht =>
    runWork_of_none writeWork fun j hj => by rw [ht] at hj; cases hj
  have hreads : s.cycleReads = s := by
    rw [cycleReads_of_quiet hquiet]
    exact runWork_of_none readWork fun j hj => by rw [hwork] at hj; cases hj
  have hstill : (s.swapStep k q (s.clk.cycle - c)).work = [] := by rw [hframe]; exact hwork
  simp only [endCycle, hreads, cycleSwaps_of_one (memErr_of_quiet hquiet) hsort hq hc hother, hnone _ hstill]

/-- R150: a SWAP that may take its quarter makes the staging half active. -/
theorem endCycle_of_swap_arrival {s : State} {d k q slot : Nat} (hquiet : Quiet s) (hd : d ≤ s.clk.cycle) (hwork : s.work = [⟨d, .swap k q slot⟩])
    (hok : s.swapOk k q = true) :
    s.endCycle = cycleEnd (s.setTile k ((s.tile k).setUnit q
      { (s.tile k).unit q with halfB := !((s.tile k).unit q).halfB, swapAt := some s.clk.cycle, slot := slot })) [] := by
  have hread : readWork { s with work := [] } ⟨d, .swap k q slot⟩ = { s with work := [] }.setTile k ((s.tile k).setUnit q
      { (s.tile k).unit q with halfB := !((s.tile k).unit q).halfB, swapAt := some s.clk.cycle, slot := slot }) := if_pos hok
  refine endCycle_of_read hquiet hd hwork rfl hread (fun j u c hc => ?_) (fun _ h => absurd h List.not_mem_nil)
  by_cases hj : j = k
  · subst hj
    rw [tile_setTile_same] at hc
    by_cases hu : u = q
    · subst hu
      rw [Tile.unit_setUnit_same] at hc
      exact (Option.some.inj hc).symm
    · rw [Tile.unit_setUnit_other _ _ hu] at hc
      exact (not_swapAt_of_quiet hquiet hc).elim
  · rw [tile_setTile_other _ _ hj] at hc
    exact (not_swapAt_of_quiet hquiet hc).elim

theorem doSwap_of_issuing {s : State} {r w arg : Nat} {tmask : BitVec 4} (hw : s.issuing r = some w)
    (hm : wordHas [(12, 4, tmask.toNat), (16, 4, 0xB), (20, 12, arg)] w = true) (hg : (s.seq r).gated = false) :
    s.doSwap r tmask arg = { s.setSeq r (passed s r w) with
      work := s.work ++ (tilesOf r tmask).map (fun t => { due := s.clk.cycle + 3, work := .swap t (arg / 1024 % 4) (arg % 1024) }) } := by
  have hopen : s.ctlOpen r (wordHas [(12, 4, tmask.toNat), (16, 4, 0xB), (20, 12, arg)]) = true := by simp [ctlOpen, hw, hm, hg]
  simp only [doSwap, hopen, if_true, ctl_of_issuing (bad := fun _ => false) id hw hm rfl]
  rfl

theorem doSwapDone_of_over {s : State} {k q c : Nat} (hc : ((s.tile k).unit q).swapAt = some c) (hover : c + 2048 ≤ s.clk.cycle) :
    s.doSwapDone k q = s.setTile k ((s.tile k).setUnit q { (s.tile k).unit q with swapAt := none }) := by
  simp only [doSwapDone, hc, if_pos hover]

end State

end Sys2Proof.Machine

namespace Sys2Proof.Claims

open Sys2Proof.Machine

/-- Settles O19: a swap's word, its arrival, its steps and its end. -/
theorem modelSwap : Obligations.ModelSwap := by
  refine ⟨?word, ?arrival, ?steps, ?done⟩
  case word =>
    intro s row tmask arg w hw hm hg
    exact congrArg Host.Outcome.next (State.doSwap_of_issuing hw hm hg)
  case arrival =>
    intro s d k q slot hquiet hd hwork hok
    exact State.endCycle_of_swap_arrival hquiet hd hwork hok
  case steps =>
    intro s k q c n hquiet hwork hsort hq hc hn x a t o f
    have hstep : s.clk.cycle - c = n := by omega
    have ht : t = { s.swapStep k q n with setNow := [], wrote := [] } := by
      rw [← hstep]
      exact State.endCycle_of_swap hquiet hwork hsort (by omega) hc
    obtain ⟨hframe, htile, hunit, -, hacc⟩ := State.swapStep_spec (State.memErr_of_quiet hquiet) k q n
    have htiles : ∀ j, t.tile j = (s.swapStep k q n).tile j := State.tile_congr (by rw [ht])
    refine ⟨?_, fun j hj => (htiles j).trans (htile j hj), by rw [htiles]; exact hunit, fun i => by rw [htiles]; exact hacc i⟩
    rw [ht, hframe]
  case done =>
    intro s k u c hc hover
    exact congrArg Host.Outcome.next (State.doSwapDone_of_over hc hover)

end Sys2Proof.Claims
end

section
/-! CVT on the units of a word: results on their way to VD, and flags that are added to those of the unit (04 R174, R184-R188; 03 R133). -/

namespace Sys2Proof.Machine

/-! ### Flags of a unit, as bits of TIL_NUM_FLAGS -/

theorem within_trans {a b c : Word} (hab : a &&& b = a) (hbc : b &&& c = b) : a &&& c = a := by
  rw [← hab, BitVec.and_assoc, hbc]

theorem within_or_left (a b : Word) : a &&& (a ||| b) = a := by
  ext i hi
  rw [BitVec.getElem_and, BitVec.getElem_or]
  exact inf_sup_self

/-- The bits of TIL_NUM_FLAGS that an event of an array unit sets (04 R187). -/
def NumFlags.mask (f : NumFlags) (u : Nat) : Word := BitVec.ofNat 32 (f.bits * 2 ^ (4 * flagQuarter u))

theorem NumFlags.bits_or (a b : NumFlags) : (a.or b).bits = a.bits ||| b.bits := by
  obtain ⟨a1, a2, a3, a4⟩ := a
  obtain ⟨b1, b2, b3, b4⟩ := b
  revert a1 a2 a3 a4 b1 b2 b3 b4
  decide

theorem NumFlags.mask_or (a b : NumFlags) (u : Nat) : (a.or b).mask u = a.mask u ||| b.mask u := by
  simp only [mask, bits_or, ← Nat.shiftLeft_eq, Nat.shiftLeft_or_distrib, BitVec.ofNat_or]

/-- A lane's flags are among those of its unit. -/
theorem NumFlags.mask_within_foldl {α : Type} (g : α → NumFlags) (u : Nat) :
    ∀ (l : List α) (a : NumFlags), a.mask u &&& (l.foldl (fun a x => a.or (g x)) a).mask u = a.mask u ∧
      ∀ x ∈ l, (g x).mask u &&& (l.foldl (fun a x => a.or (g x)) a).mask u = (g x).mask u
  | [], a => ⟨BitVec.and_self, fun _ h => (List.not_mem_nil h).elim⟩
  | y :: l, a => by
    obtain ⟨hacc, hmem⟩ := mask_within_foldl g u l (a.or (g y))
    rw [mask_or] at hacc
    refine ⟨within_trans (within_or_left _ _) hacc, fun x hx => ?_⟩
    rcases List.mem_cons.mp hx with rfl | hx
    · exact within_trans (BitVec.or_comm _ _ ▸ within_or_left _ _) hacc
    · exact hmem x hx


/-! ### The units of a word, one after another -/

namespace State

open Claims (regsNow)

/-- A conversion by one unit: what it sends to VD and the flags that it sets, from the registers of its tile. -/
def convertUnit (vd : Nat) (g : Nat × Nat → (Nat → Nat → Word) → List (Nat × Word) × NumFlags) (s : State) (p : Nat × Nat) : State :=
  let y := g p (regsNow s p.1).reg
  (s.pushVec p.1 3 vd y.1).flagNum p.1 p.2 y.2

/-- What a conversion by a list of units leaves: each unit's result is behind those of its tile, each unit's flags are set, and of the rest only sequencers may differ. -/
structure Converted (vd : Nat) (g : Nat × Nat → (Nat → Nat → Word) → List (Nat × Word) × NumFlags) (s : State) (l : List (Nat × Nat))
    (t : State) : Prop where
  frame : t = { s with tiles := t.tiles, seqs := t.seqs, regs := t.regs, setNow := t.setNow }
  tile : ∀ k, t.tile k = { s.tile k with vres := (s.tile k).vres ++ (l.filter (fun p => p.1 == k)).map (fun p =>
    { due := s.clk.cycle + 3, vd := vd, lanes := (g p (regsNow s k).reg).1 }) }
  kept : ∀ off, s.word off &&& t.word off = s.word off
  other : ∀ off, (∀ p ∈ l, off ≠ tileReg p.1 + 4) → t.word off = s.word off
  flagged : ∀ p ∈ l, (g p (regsNow s p.1).reg).2.mask p.2 &&& t.word (tileReg p.1 + 4) = (g p (regsNow s p.1).reg).2.mask p.2

variable {vd : Nat} {g : Nat × Nat → (Nat → Nat → Word) → List (Nat × Word) × NumFlags}

theorem word_convertUnit_flags (s : State) (p : Nat × Nat) : (s.convertUnit vd g p).word (tileReg p.1 + 4) =
    s.word (tileReg p.1 + 4) ||| (g p (regsNow s p.1).reg).2.mask p.2 := word_setWord_same _ _ _

theorem word_convertUnit_other (s : State) {p : Nat × Nat} {off : Nat} (h : off ≠ tileReg p.1 + 4) :
    (s.convertUnit vd g p).word off = s.word off := word_setWord_other _ _ h

theorem convertUnit_seqs (s : State) (p : Nat × Nat) : (s.convertUnit vd g p).seqs = s.seqs := orWord_seqs _ _ _

theorem convertUnit_tiles (s : State) (p : Nat × Nat) : (s.convertUnit vd g p).tiles = (s.setTile p.1 { s.tile p.1 with
    vres := (s.tile p.1).vres ++ [{ due := s.clk.cycle + 3, vd := vd, lanes := (g p (regsNow s p.1).reg).1 }] }).tiles := orWord_tiles _ _ _

theorem tile_convertUnit_same (s : State) (p : Nat × Nat) : (s.convertUnit vd g p).tile p.1 = { s.tile p.1 with
    vres := (s.tile p.1).vres ++ [{ due := s.clk.cycle + 3, vd := vd, lanes := (g p (regsNow s p.1).reg).1 }] } :=
  (tile_congr (convertUnit_tiles s p) p.1).trans (tile_setTile_same _ _ _)

theorem tile_convertUnit_other (s : State) {p : Nat × Nat} {k : Nat} (h : k ≠ p.1) : (s.convertUnit vd g p).tile k = s.tile k :=
  (tile_congr (convertUnit_tiles s p) k).trans (tile_setTile_other _ _ h)

theorem foldl_convertUnit_seqs : ∀ (l : List (Nat × Nat)) (s : State), (l.foldl (convertUnit vd g) s).seqs = s.seqs
  | [], _ => rfl
  | p :: l, s => (foldl_convertUnit_seqs l (s.convertUnit vd g p)).trans (convertUnit_seqs s p)

namespace Converted

variable {s t u : State} {l l' : List (Nat × Nat)}

theorem clk (h : Converted vd g s l t) : t.clk = s.clk := by rw [h.frame]

/-- Results due in 3 cycles are in no register of this one. -/
theorem regsNow_reg (h : Converted vd g s l t) (k : Nat) : (regsNow t k).reg = (regsNow s k).reg := by
  rw [regsNow, h.clk, h.tile k]
  refine Tile.settle_reg_append_vres _ fun r hr => ?_
  obtain ⟨p, -, rfl⟩ := List.mem_map.mp hr
  exact Nat.lt_add_of_pos_right (by decide)

theorem refl (s : State) : Converted vd g s [] s where
  frame := rfl
  tile k := by simp
  kept off := BitVec.and_self
  other _ _ := rfl
  flagged p hp := (List.not_mem_nil hp).elim

theorem unit (s : State) (p : Nat × Nat) : Converted vd g s [p] (s.convertUnit vd g p) where
  frame := rfl
  tile k := by
    by_cases hk : k = p.1
    · rw [hk, tile_convertUnit_same]
      simp
    · rw [tile_convertUnit_other s hk]
      simp [Ne.symm hk]
  kept off := by
    by_cases hoff : off = tileReg p.1 + 4
    · rw [hoff, word_convertUnit_flags]
      exact within_or_left _ _
    · rw [word_convertUnit_other s hoff, BitVec.and_self]
  other off h := word_convertUnit_other s (h p (List.mem_singleton_self p))
  flagged q hq := by
    rw [List.mem_singleton.mp hq, word_convertUnit_flags, BitVec.or_comm]
    exact within_or_left _ _

theorem trans (h : Converted vd g s l t) (h' : Converted vd g t l' u) : Converted vd g s (l ++ l') u where
  frame := by rw [h'.frame, h.frame]
  tile k := by
    rw [h'.tile k, h.tile k, h.clk, h.regsNow_reg k]
    simp
  kept off := within_trans (h.kept off) (h'.kept off)
  other off ho := by
    rw [h'.other off fun p hp => ho p (List.mem_append_right l hp), h.other off fun p hp => ho p (List.mem_append_left l' hp)]
  flagged p hp := by
    rcases List.mem_append.mp hp with hp | hp
    · exact within_trans (h.flagged p hp) (h'.kept _)
    · rw [← h.regsNow_reg]
      exact h'.flagged p hp

theorem foldl : ∀ (l : List (Nat × Nat)) (s : State), Converted vd g s l (l.foldl (convertUnit vd g) s)
  | [], s => refl s
  | p :: l, s => (unit s p).trans (foldl l _)

/-- A slot that is spent is in no tile and no register. -/
theorem of_spendSlot {r : Nat} {k : Slot} (h : Converted vd g (s.spendSlot r k) l t) : Converted vd g s l t where
  frame := h.frame
  tile := h.tile
  kept := h.kept
  other := h.other
  flagged := h.flagged

end Converted

/-- A conversion by every unit that the arriving word names. -/
theorem onSlot_convertUnit (s : State) (sel : Sel) (m : Nat → Bool) :
    Claims.Spent s (s.onSlot sel .vec m (fun _ => convertUnit vd g)) sel .vec m ∧
      Converted vd g s (s.slotTargets sel m) (s.onSlot sel .vec m (fun _ => convertUnit vd g)) := by
  cases hw : s.slotWord sel m with
  | none =>
    rw [onSlot_of_none .vec _ hw, slotTargets_of_none hw]
    exact ⟨spent_of_none .vec hw, .refl s⟩
  | some x =>
    rw [onSlot_of_word .vec _ hw, slotTargets_of_word hw]
    exact ⟨spent_of_spendSlot hw (foldl_convertUnit_seqs _ _), (Converted.foldl _ _).of_spendSlot⟩

/-! ### The two kinds of conversion -/

/-- What the lanes of a unit send to VD in a lane conversion, and their flags together. -/
def laneConversion (vd vs1 : Nat) (f : Word → Word → Word × NumFlags) (p : Nat × Nat) (r : Nat → Nat → Word) : List (Nat × Word) × NumFlags :=
  let x := (lanesOf p.2).map (fun l => (l, f (r vs1 l) (r vd l)))
  (x.map (fun x => (x.1, x.2.1)), x.foldl (fun a x => a.or x.2.2) {})

theorem laneConversion_lanes (vd vs1 : Nat) (f : Word → Word → Word × NumFlags) (p : Nat × Nat) (r : Nat → Nat → Word) :
    (laneConversion vd vs1 f p r).1 = (lanesOf p.2).map (fun l => (l, (f (r vs1 l) (r vd l)).1)) :=
  List.map_map

theorem laneConversion_flags {p : Nat × Nat} {l : Nat} (hl : l ∈ lanesOf p.2) (vd vs1 : Nat) (f : Word → Word → Word × NumFlags)
    (r : Nat → Nat → Word) :
    (f (r vs1 l) (r vd l)).2.mask p.2 &&& (laneConversion vd vs1 f p r).2.mask p.2 = (f (r vs1 l) (r vd l)).2.mask p.2 :=
  (NumFlags.mask_within_foldl (fun x : Nat × Word × NumFlags => x.2.2) p.2 _ {}).2 (l, f (r vs1 l) (r vd l)) (List.mem_map_of_mem hl)

theorem cvtOp_eq_convertUnit (s : State) (sel : Sel) (code vd vs1 fn : Nat) (f : Word → Word → Word × NumFlags) :
    s.cvtOp sel code vd vs1 fn f = s.onSlot sel .vec (isCvt code vd vs1 fn) (fun _ => convertUnit vd (laneConversion vd vs1 f)) := rfl

/-- What a unit sends to VD in a block conversion, and its flags. -/
def blockConversion (vd vs1 : Nat) (g : List Word → List Byte × NumFlags × Nat) (p : Nat × Nat) (r : Nat → Nat → Word) :
    List (Nat × Word) × NumFlags :=
  let y := g ((lanesOf p.2).map (r vs1))
  let base := (lanesOf p.2).headD 0
  ((putBytes (fun l => r vd (base + l)) y.2.2 y.1).map (fun x => (base + x.1, x.2)), y.2.1)

theorem blockOp_eq_convertUnit (s : State) (sel : Sel) (code vd vs1 fn : Nat) (g : List Word → List Byte × NumFlags × Nat) :
    s.blockOp sel code vd vs1 fn (fun src => some (g src)) =
      s.onSlot sel .vec (isCvt code vd vs1 fn) (fun _ => convertUnit vd (blockConversion vd vs1 g)) := rfl

/-- R186: at a valid POS the elements have a string. -/
theorem mxOp_elements {i : Nat} {fn : BitVec 5} (h : mxPosOk (mxElem i) (fnPos fn) = true) (s : State) (sel : Sel) (vd vs1 : Nat) :
    s.mxOp sel i vd vs1 false fn =
      s.blockOp sel (cvtCode (0x1A + i) false) vd vs1 fn.toNat (fun src => some (Claims.elemString (mxElem i) fn src)) := by
  simp only [mxOp, h, if_true, Bool.false_eq_true, if_false]
  rfl

end State

end Sys2Proof.Machine

namespace Sys2Proof.Claims

open Sys2Proof.Machine

theorem laneCvt_of_cvtOp {c : Instr} {sel : Sel} {code vd vs1 fn : Nat} {f : Word → Word → Word × NumFlags}
    (hc : ∀ s, exec c s = .next (s.cvtOp sel code vd vs1 fn f)) : LaneCvt c sel (isCvt code vd vs1 fn) vd vs1 f := by
  intro s
  rw [Answers, hc, State.cvtOp_eq_convertUnit]
  obtain ⟨hspent, hconv⟩ := State.onSlot_convertUnit (vd := vd) (g := State.laneConversion vd vs1 f) s sel (isCvt code vd vs1 fn)
  refine ⟨_, rfl, hconv.frame, hspent, fun k => ?_, hconv.kept, hconv.other, fun p hp l hl => ?_⟩
  · rw [hconv.tile k]
    simp only [State.laneConversion_lanes]
    rfl
  · exact (BitVec.and_comm _ _).trans (within_trans (State.laneConversion_flags hl vd vs1 f _) (hconv.flagged p hp))

theorem blockCvt_of_blockOp {c : Instr} {sel : Sel} {code vd vs1 fn : Nat} {g : List Word → List Byte × NumFlags × Nat}
    (hc : ∀ s, exec c s = .next (s.blockOp sel code vd vs1 fn (fun src => some (g src)))) :
    BlockCvt c sel (isCvt code vd vs1 fn) vd vs1 g := by
  intro s
  rw [Answers, hc, State.blockOp_eq_convertUnit]
  obtain ⟨hspent, hconv⟩ := State.onSlot_convertUnit (vd := vd) (g := State.blockConversion vd vs1 g) s sel (isCvt code vd vs1 fn)
  refine ⟨_, rfl, hconv.frame, hspent, fun k => ?_, hconv.kept, hconv.other, fun p hp => (BitVec.and_comm _ _).trans (hconv.flagged p hp)⟩
  rw [hconv.tile k]
  refine congrArg (fun l => { s.tile k with vres := (s.tile k).vres ++ l }) (List.map_congr_left fun p hp => ?_)
  have hk : p.1 = k := by simpa using (List.mem_filter.mp hp).2
  subst hk
  rfl

/-- Settles O12: every lane conversion is `State.cvtOp` of its function of a lane. -/
theorem laneConversions : Obligations.LaneConversions := by
  intro sel vd vs1 sat fn
  refine ⟨?_, ?_, ?_, ?_, ?_, ?_, ?_, ?_, ?_, ?_, ?_, ?_, ?_, ?_, ?_, ?_, ?_, ?_, ?_, ?_, ?_, ?_, ?_, ?_, ?_, ?_⟩
  all_goals exact laneCvt_of_cvtOp fun _ => rfl

/-- Settles O13: at a valid POS a block conversion writes its element string, and with VS2 bit 5 its scale string. -/
theorem blockConversions : Obligations.BlockConversions := by
  intro sel vd vs1 fn
  refine ⟨?_, ?_, ?_, ?_, ?_, ?_, ?scale⟩
  case scale => exact fun code => blockCvt_of_blockOp fun _ => rfl
  all_goals exact fun hpos => blockCvt_of_blockOp fun s => congrArg Host.Outcome.next (State.mxOp_elements hpos s sel vd vs1)

end Sys2Proof.Claims
end

section
/-! The special functions and the statistics words: requests to lanes, and the groups that ST_RED holds (05 R190, R193, R215, R217). -/

namespace Sys2Proof.Machine

/-- A tile that holds the statistics of each of a list of units until that unit's cycle. -/
def Tile.holdRed (x : Tile) (due : Nat → Nat) (us : List Nat) : Tile :=
  { x with red := us.foldl (fun w u => w.put u (due u)) x.red }

theorem Tile.holdRed_find (x : Tile) (due : Nat → Nat) (us : List Nat) (u : Nat) :
    (x.holdRed due us).red.find u = if u ∈ us then some (due u) else x.red.find u :=
  Tbl.find_foldl_put due u us _

/-- Units of tile `k` that are held one after another are held together. -/
theorem Tile.foldl_holdRed {k : Nat} (due : Nat → Nat → Nat) : ∀ {l : List (Nat × Nat)}, (∀ p ∈ l, p.1 = k) → ∀ x : Tile,
    l.foldl (fun x p => x.holdRed (due p.1) [p.2]) x = x.holdRed (due k) (l.map Prod.snd)
  | [], _, _ => rfl
  | p :: l, hl, x => by
    obtain ⟨rfl, hl⟩ := List.forall_mem_cons.mp hl
    rw [List.foldl_cons, foldl_holdRed due hl]
    rfl

namespace State

/-- When an ST_RED that is received now completes at a unit of a tile (05 R196, R217). -/
def redDue (s : State) (k u : Nat) : Nat := s.clk.cycle + redLatency (s.sfuBounds k) u

/-- R217: ST_RED holds the units that its word names, tile by tile. -/
theorem doRed_holdRed (s : State) (sel : Sel) :
    s.doRed sel = { s with tiles := (s.doRed sel).tiles, seqs := (s.doRed sel).seqs } ∧ Claims.Spent s (s.doRed sel) sel .vec (isSfu 0x13 []) ∧
      ∀ k, (s.doRed sel).tile k =
        (s.tile k).holdRed (s.redDue k) (((s.slotTargets sel (isSfu 0x13 [])).filter (fun p => p.1 == k)).map Prod.snd) := by
  obtain ⟨hframe, hspent, htile⟩ := onSlot_setTile (s := s) (sel := sel) (k := .vec) (m := isSfu 0x13 [])
    (f := fun _ t p => t.setTile p.1 ((t.tile p.1).holdRed (t.redDue p.1) [p.2]))
    (g := fun p x => x.holdRed (s.redDue p.1) [p.2]) (P := fun _ _ => True)
    (fun _ t p ht _ => by rw [ht]; rfl) (List.pairwise_of_forall fun _ _ _ _ _ => trivial) (fun _ _ => trivial)
  refine ⟨hframe, hspent, fun k => (htile k).trans (Tile.foldl_holdRed s.redDue (fun p hp => ?_) _)⟩
  simpa using (List.mem_filter.mp hp).2

end State

end Sys2Proof.Machine

namespace Sys2Proof.Claims

open Sys2Proof.Machine

theorem answers_stRed (s : State) (sel : Sel) :
    Answers (.stRed sel) s fun t => t = { s with tiles := t.tiles, seqs := t.seqs } ∧ Spent s t sel .vec (isSfu 0x13 []) ∧
      ∀ k, t.tile k = { s.tile k with red := (t.tile k).red } ∧
      ∀ u, (t.tile k).red.find u =
        if (k, u) ∈ s.slotTargets sel (isSfu 0x13 []) then some (s.clk.cycle + redLatency (s.sfuBounds k) u) else (s.tile k).red.find u := by
  obtain ⟨hframe, hspent, htile⟩ := s.doRed_holdRed sel
  refine ⟨s.doRed sel, rfl, hframe, hspent, fun k => ?_⟩
  rw [htile k]
  refine ⟨rfl, fun u => ?_⟩
  have hmem : u ∈ ((s.slotTargets sel (isSfu 0x13 [])).filter (fun p => p.1 == k)).map Prod.snd ↔
      (k, u) ∈ s.slotTargets sel (isSfu 0x13 []) := by simp
  simp only [Tile.holdRed_find, hmem, State.redDue]

/-- Settles O10: every word but ST_RED's is a request of each lane that it names. -/
theorem sfuWords : Obligations.SfuWords := by
  intro sel vd vs1
  refine ⟨?_, ?_, ?_, ?_, ?_, ?_, ?_, ?_, ?_, ?_, ?_, ?_, ?_, ?_, ?_, ?_, ?_, ?_, ?_, ?_, ?_, ?_, ?stRed⟩
  case stRed => exact fun s => answers_stRed s sel
  all_goals exact laneRequest_of_request fun _ => rfl

end Sys2Proof.Claims
end

section
/-! What every command and every step keeps: the queue, the outputs so far, the canonical form and the fused values (`Keeps`), from the law of each command's meaning. -/

namespace Sys2Proof.Claims

open Sys2Proof.Machine

/-- Each command answers a next state, and its meaning keeps what `Keeps` says. -/
theorem exec_keeps (c : Instr) (s : State) : Answers c s (Keeps s) := by
  have h : Keeps s s := .refl s
  cases c with
  | coldReset | thermalShutdown => exact ⟨_, rfl, State.doColdReset_keeps h⟩
  | resetNRelease => exact ⟨_, rfl, State.doResetRelease_keeps _ h⟩
  | stage1 => exact ⟨_, rfl, State.doStage1_keeps _ h⟩
  | stage2 => exact ⟨_, rfl, State.doStage2_keeps _ h⟩
  | stage3 => exact ⟨_, rfl, State.doStage3_keeps h⟩
  | stage4 => exact ⟨_, rfl, State.doStage4_keeps _ h⟩
  | startPassed => exact ⟨_, rfl, State.doStartPassed_keeps h⟩
  | stageWatchdogExpiry => exact ⟨_, rfl, State.doStageWatchdog_keeps h⟩
  | failedStartRetry => exact ⟨_, rfl, State.doRetryStart_keeps _ h⟩
  | standbyJoinTimeout => exact ⟨_, rfl, State.doJoinTimeout_keeps h⟩
  | retry => exact ⟨_, rfl, State.doRetry_keeps _ h⟩
  | crossingDeadlineMiss => exact ⟨_, rfl, State.doCrossing_keeps _ h⟩
  | islandLockLoss => exact ⟨_, rfl, State.doLockLoss_keeps _ h⟩
  | lastLoad | fuseBurn | laserOverride | fwActivate | keyChange | roleTransfer => exact ⟨_, rfl, State.doCritical_keeps _ _ _ _ h⟩
  | lastValidationDone => exact ⟨_, rfl, State.doValidationDone_keeps _ h⟩
  | queueSnapshot => exact ⟨_, rfl, State.doSnapshot_keeps h⟩
  | contextDeadlineExpiry => exact ⟨_, rfl, State.doDeadlineExpiry_keeps _ h⟩
  | pendingLatch => exact ⟨_, rfl, State.doLatch_keeps h⟩
  | pagePreload => exact ⟨_, rfl, State.doPreload_keeps _ h⟩
  | checkPoint => exact ⟨_, rfl, State.doCheck_keeps h⟩
  | boundaryStep => exact ⟨_, rfl, State.doBoundary_keeps _ h⟩
  | seqProgramStart => exact ⟨_, rfl, State.doSeqProgramStart_keeps _ h⟩
  | ctlNop | setn | seta0 | seta1 | seta2 | setacc | halt => exact ⟨_, rfl, State.ctl_keeps _ _ _ _ h⟩
  | loop => exact ⟨_, rfl, State.doLoop_keeps _ _ h⟩
  | endloop => exact ⟨_, rfl, State.doEndloop_keeps _ h⟩
  | page => exact ⟨_, rfl, State.doPage_keeps _ _ h⟩
  | pageFetchDone => exact ⟨_, rfl, State.doPageFetchDone_keeps _ _ h⟩
  | bind => exact ⟨_, rfl, State.doBind_keeps _ _ h⟩
  | nextctx => exact ⟨_, rfl, State.doNextctx_keeps _ h⟩
  | swap => exact ⟨_, rfl, State.doSwap_keeps _ _ _ h⟩
  | swapDone => exact ⟨_, rfl, State.doSwapDone_keeps _ _ h⟩
  | semsig => exact ⟨_, rfl, State.doSemsig_keeps _ _ h⟩
  | semsigArrival => exact ⟨_, rfl, State.doSemsigArrival_keeps _ h⟩
  | semwait => exact ⟨_, rfl, State.doSemwait_keeps _ _ h⟩
  | semwaitArrival => exact ⟨_, rfl, State.doSemwaitArrival_keeps _ _ h⟩
  | semwaitResult => exact ⟨_, rfl, State.doSemwaitResult_keeps _ h⟩
  | loadw => exact ⟨_, rfl, State.onSlot_keeps _ _ _ _ (fun _ _ _ => State.loadUnit_keeps _ _ _) h⟩
  | stream | streamw => exact ⟨_, rfl, State.doStream_keeps _ _ _ _ _ h⟩
  | queuedStreamStart => exact ⟨_, rfl, State.doQueuedStart_keeps _ _ h⟩
  | arrayPassResult => exact ⟨_, rfl, State.doPassResult_keeps _ _ h⟩
  | vld => exact ⟨_, rfl, State.onSlot_keeps _ _ _ _ (fun _ _ _ => State.vldUnit_keeps _ _ _ _) h⟩
  | vst => exact ⟨_, rfl, State.onSlot_keeps _ _ _ _ (fun _ _ _ => State.vstUnit_keeps _ _ _ _) h⟩
  | fill => exact ⟨_, rfl, State.onSlot_keeps _ _ _ _ (fun _ _ _ => State.fillUnit_keeps _ _ _ _) h⟩
  | spill => exact ⟨_, rfl, State.onSlot_keeps _ _ _ _ (fun _ _ _ => State.spillUnit_keeps _ _ _ _) h⟩
  | ctxin => exact ⟨_, rfl, State.doCtxin_keeps _ _ h⟩
  | ctxout => exact ⟨_, rfl, State.doCtxout_keeps _ _ h⟩
  | nop => exact ⟨_, rfl, State.doNop_keeps _ h⟩
  | fadd | fmul | fmax | fmin | iadd | imul | shift | and | or | xor => exact ⟨_, rfl, State.vecOp2_keeps _ _ _ _ _ _ _ h⟩
  | fma | sel => exact ⟨_, rfl, State.vecOp_keeps _ _ _ _ _ _ _ h⟩
  | ldacc => exact ⟨_, rfl, State.onSlot_keeps _ _ _ _ (fun _ _ _ => State.ldaccUnit_keeps _ _ _ _ _) h⟩
  | vectorOpResult => exact ⟨_, rfl, State.doVecResult_keeps _ h⟩
  | cvtBinary32ToBinary16 | cvtBinary32ToBfloat16 | cvtBinary32ToFp8E4m3 | cvtBinary32ToFp8E5m2 | cvtBinary32ToInt32 | cvtBinary32ToInt16
  | cvtBinary32ToInt8 | cvtBinary32ToUint8 | cvtBinary32ToInt4 | cvtBinary32ToRange24 | cvtBinary32ToLogi8 | cvtInt32ToBinary32
  | cvtBinary16ToBinary32 | cvtBfloat16ToBinary32 | cvtFp8E4m3ToBinary32 | cvtFp8E5m2ToBinary32 | cvtInt16ToBinary32 | cvtInt8ToBinary32
  | cvtUint8ToBinary32 | cvtInt4ToBinary32 | cvtRange24ToBinary32 | cvtLogi8ToBinary32 | cvtInt32ToInt8 | cvtInt32ToUint8 | cvtInt32ToInt4
  | cvtInt32ToInt16 =>
    exact ⟨_, rfl, State.cvtOp_keeps _ _ _ _ _ _ h⟩
  | cvtBinary32ToMxfp8E4m3 | cvtBinary32ToMxfp8E5m2 | cvtBinary32ToMxfp6E3m2 | cvtBinary32ToMxfp6E2m3 | cvtBinary32ToMxfp4E2m1
  | cvtBinary32ToMxint8 | cvtMxScaleString =>
    exact ⟨_, rfl, State.mxOp_keeps _ _ _ _ _ _ h⟩
  | sfuGrant => exact ⟨_, rfl, State.doGrant_keeps _ _ h⟩
  | sfuResultWrite => exact ⟨_, rfl, State.doSfuWrite_keeps _ h⟩
  | exp | exp2 | log | log2 | recip | rsqrt | sqrt | sigmoid | tanh | gelu | softplus | sin | cos | stClr | stSmx | stWel | stGetm | stGets
  | stGetmean | stGetvar | stExpm | stRstd =>
    exact ⟨_, rfl, State.sfuOp_keeps _ _ _ _ _ _ h⟩
  | stRed => exact ⟨_, rfl, State.doRed_keeps _ h⟩
  | stRedDone => exact ⟨_, rfl, State.doRedDone_keeps _ _ h⟩
  | rdRun | wrRun => exact ⟨_, rfl, State.doRun_keeps _ _ _ h⟩
  | refpb => exact ⟨_, rfl, State.doRefpb_keeps _ _ _ _ h⟩
  | refreshTimer => exact ⟨_, rfl, State.doRefreshTimer_keeps _ h⟩
  | openSlotAccess => exact ⟨_, rfl, State.doOpenSlotAccess_keeps _ h⟩
  | channelRetrainDue => exact ⟨_, rfl, State.doRetrainDue_keeps _ h⟩
  | channelRetrainDone => exact ⟨_, rfl, State.doRetrainDone_keeps _ _ h⟩
  | ctxSubmit => exact ⟨_, rfl, State.doCtxSubmit_keeps _ _ h⟩
  | contextFetch => exact ⟨_, rfl, State.doContextFetch_keeps _ _ h⟩
  | stagingCopyDone => exact ⟨_, rfl, State.doStagingCopyDone_keeps _ _ h⟩
  | msLoad => exact ⟨_, rfl, State.doMsLoad_keeps _ _ h⟩
  | synSignal => exact ⟨_, rfl, State.doSynSignal_keeps _ _ h⟩
  | synSet => exact ⟨_, rfl, State.doSynSet_keeps _ _ h⟩
  | synWait => exact ⟨_, rfl, State.doSynWait_keeps _ _ h⟩
  | synWaitTimeout => exact ⟨_, rfl, State.doSynWaitTimeout_keeps _ _ h⟩
  | copy => exact ⟨_, rfl, State.doCopy_keeps _ _ _ h⟩
  | copyComplete => exact ⟨_, rfl, State.doCopyComplete_keeps _ _ _ h⟩
  | epochMark => exact ⟨_, rfl, State.doEpochMark_keeps _ _ h⟩
  | bridgeTraining => exact ⟨_, rfl, State.doTraining_keeps _ _ _ h⟩
  | initAck => exact ⟨_, rfl, State.doInitAck_keeps _ _ _ h⟩
  | initTimeout => exact ⟨_, rfl, State.doInitTimeout_keeps _ h⟩
  | meshLineReceive => exact ⟨_, rfl, State.doMeshLine_keeps _ _ _ _ h⟩
  | meshRetrainDue => exact ⟨_, rfl, State.doMeshDue_keeps _ h⟩
  | stitchRelease => exact ⟨_, rfl, State.doStitchRelease_keeps _ _ h⟩
  | flitSlot => exact ⟨_, rfl, State.doFlitSlot_keeps _ _ _ h⟩
  | flitReceive => exact ⟨_, rfl, State.doFlitReceive_keeps _ _ _ _ _ h⟩
  | flitReplayTimeout => exact ⟨_, rfl, State.doFlitTimeout_keeps _ _ _ h⟩
  | flitRetryExhausted => exact ⟨_, rfl, State.doFlitExhausted_keeps _ _ _ h⟩
  | feedFailure => exact ⟨_, rfl, State.doFeedFailure_keeps _ h⟩
  | sbrTestRunStart => exact ⟨_, rfl, State.testStart_keeps _ h⟩
  | sbrTestRunStop => exact ⟨_, rfl, State.testStop_keeps _ _ h⟩
  | laserFailure => exact ⟨_, rfl, State.doLaserFailure_keeps _ _ _ _ _ h⟩
  | spareLaserQualified => exact ⟨_, rfl, State.doSpareQualified_keeps _ _ _ h⟩
  | lanePrbsCheckDone => exact ⟨_, rfl, State.doPrbsDone_keeps _ _ _ h⟩
  | primaryRetry => exact ⟨_, rfl, State.doPrimaryRetry_keeps _ _ _ h⟩
  | primaryRetryResult => exact ⟨_, rfl, State.doRetryResult_keeps _ _ _ _ h⟩
  | biasRangeChange => exact ⟨_, rfl, State.doBiasRange_keeps _ _ _ _ h⟩
  | heaterUpdate => exact ⟨_, rfl, State.doHeater_keeps _ _ h⟩
  | detuneEstimateRefresh => exact ⟨_, rfl, State.doDetune_keeps _ _ h⟩
  | guardBandExceeded => exact ⟨_, rfl, State.doGuard_keeps _ _ h⟩
  | gainRangeTimeout => exact ⟨_, rfl, State.doGainTimeout_keeps _ _ h⟩
  | calTurn => exact ⟨_, rfl, State.doCalTurn_keeps _ _ h⟩
  | calibrateLane => exact ⟨_, rfl, State.doCalibrate_keeps _ _ _ h⟩
  | fuseBurnDone => exact ⟨_, rfl, State.doBurnDone_keeps _ _ h⟩
  | rxOverload => exact ⟨_, rfl, State.doOverload_keeps _ _ h⟩
  | overloadRetire => exact ⟨_, rfl, State.doOverloadRetire_keeps _ _ h⟩
  | overloadRecovery => exact ⟨_, rfl, State.doOverloadRecovery_keeps _ _ h⟩
  | laserPermitRise => exact ⟨_, rfl, State.proceedEnable_keeps (.of_mk rfl rfl rfl rfl rfl rfl h)⟩
  | laserPermitTimeout => exact ⟨_, rfl, State.doPermitTimeout_keeps h⟩
  | laserPermitFall => exact ⟨_, rfl, State.doPermitFall_keeps h⟩
  | openFibre => exact ⟨_, rfl, State.doOpenFibre_keeps _ h⟩
  | probeWindow => exact ⟨_, rfl, State.doProbeWindow_keeps _ _ h⟩
  | reduceResultReady => exact ⟨_, rfl, State.doReduce_keeps _ _ _ h⟩
  | toneFrameReceive => exact ⟨_, rfl, State.doTone_keeps _ _ h⟩
  | partnerWordLoss => exact ⟨_, rfl, State.doWordLoss_keeps _ h⟩
  | alignEntry => exact ⟨_, rfl, State.doAlignEntry_keeps _ h⟩
  | detectTimeout => exact ⟨_, rfl, State.doDetectTimeout_keeps _ h⟩
  | detectHoldExpiry => exact ⟨_, rfl, State.doHoldExpiry_keeps _ h⟩
  | alignSecondPhase => exact ⟨_, rfl, State.doSecondPhase_keeps _ _ h⟩
  | alignDone => exact ⟨_, rfl, State.doAlignDone_keeps _ _ h⟩
  | bitlockCheckWindow => exact ⟨_, rfl, State.doBitWindow_keeps _ _ h⟩
  | bitlockDone => exact ⟨_, rfl, State.doBitDone_keeps _ _ h⟩
  | alignmentMarkerReceive => exact ⟨_, rfl, State.doMarker_keeps _ _ _ h⟩
  | frameAttemptTimeout => exact ⟨_, rfl, State.doFrameTimeout_keeps _ h⟩
  | capabilityBlockReceive => exact ⟨_, rfl, State.doCapBlock_keeps _ _ h⟩
  | capxTimeout => exact ⟨_, rfl, State.doCapTimeout_keeps _ h⟩
  | linkActive => exact ⟨_, rfl, State.doLinkActive_keeps _ _ h⟩
  | lossOfLock => exact ⟨_, rfl, State.doLoss_keeps _ _ h⟩
  | rerouteIndexArrival => exact ⟨_, rfl, State.doRrIndex_keeps _ h⟩
  | rowOpportunity => exact ⟨_, rfl, State.doRow_keeps _ h⟩
  | rowReceive => exact ⟨_, rfl, State.doRowReceive_keeps _ _ _ h⟩
  | stitchLanding => exact ⟨_, rfl, State.doLanding_keeps _ h⟩
  | controlRowTimer | keepaliveSend => exact ⟨_, rfl, State.wantControl_keeps _ h⟩
  | keepaliveTimeout => exact ⟨_, rfl, State.doKeepalive_keeps _ h⟩
  | replayTimerExpiry => exact ⟨_, rfl, State.doReplayTimer_keeps _ _ h⟩
  | rejoin => exact ⟨_, rfl, State.doRejoin_keeps _ _ h⟩
  | rejoinAck => exact ⟨_, rfl, State.doRejoinAck_keeps _ _ h⟩
  | poll | pollHi => exact ⟨_, rfl, State.doPoll_keeps _ _ _ _ h⟩
  | laceRelease => exact ⟨_, rfl, State.doLaceRelease_keeps _ h⟩
  | releaseHi => exact ⟨_, rfl, State.doReleaseHi_keeps _ h⟩
  | laceIdle => exact ⟨_, rfl, h⟩
  | syncMarkerSend => exact ⟨_, rfl, State.doSyncSend_keeps h⟩
  | syncMarker => exact ⟨_, rfl, State.doSync_keeps _ _ h⟩
  | readyMarker => exact ⟨_, rfl, State.doReady_keeps _ _ h⟩
  | releaseMarker => exact ⟨_, rfl, State.doReleaseMarker_keeps _ _ h⟩
  | fenceMarker => exact ⟨_, rfl, State.doFence_keeps _ _ h⟩
  | markerRepeat => exact ⟨_, rfl, State.doRepeat_keeps _ h⟩
  | fabricWatchdogExpiry => exact ⟨_, rfl, State.doWatchdogExpiry_keeps h⟩
  | epochAbort => exact ⟨_, rfl, State.doEpochAbort_keeps h⟩
  | abortRestore => exact ⟨_, rfl, State.doRestore_keeps h⟩
  | abortRecoveryDone => exact ⟨_, rfl, State.doRecovered_keeps h⟩
  | recoveryOvertime => exact ⟨_, rfl, State.doOvertime_keeps h⟩
  | sqTail => exact ⟨_, rfl, State.doSqTail_keeps _ _ _ _ _ h⟩
  | cqHead => exact ⟨_, rfl, State.doCqHead_keeps _ _ _ _ h⟩
  | completionPost => exact ⟨_, rfl, State.doCompletionPost_keeps _ _ h⟩
  | cqWaitTimeout => exact ⟨_, rfl, State.doCqWaitTimeout_keeps _ h⟩
  | interruptModerationTimeout => exact ⟨_, rfl, State.doModerationTimeout_keeps _ h⟩
  | msixUnmask => exact ⟨_, rfl, State.doMsixUnmask_keeps _ _ h⟩
  | vfEnable => exact ⟨_, rfl, State.doVfEnable_keeps _ _ h⟩
  | flr => exact ⟨_, rfl, State.doFlr_keeps _ h⟩
  | perstAssert => exact ⟨_, rfl, State.doPerstAssert_keeps _ h⟩
  | d3hotEntry => exact ⟨_, rfl, State.doD3Entry_keeps _ h⟩
  | d3hotExit => exact ⟨_, rfl, State.doD3Exit_keeps _ h⟩
  | l1Entry => exact ⟨_, rfl, State.doL1Entry_keeps _ h⟩
  | l1Exit => exact ⟨_, rfl, State.doL1Exit_keeps _ h⟩
  | ptmDialogue => exact ⟨_, rfl, State.doPtm_keeps _ _ h⟩
  | fwActivateDone => exact ⟨_, rfl, State.doFwDone_keeps h⟩
  | keyRecordStored => exact ⟨_, rfl, State.doKeyStored_keeps h⟩
  | counterMarkStored => exact ⟨_, rfl, State.doMarkStored_keeps _ h⟩
  | criticalWorkStart => exact ⟨_, rfl, State.startWork_keeps h⟩
  | keySlotUnlock => exact ⟨_, rfl, State.doUnlock_keeps _ h⟩
  | jnlAck | evtAck => exact ⟨_, rfl, Keeps.cond (fun _ => State.doWrite_keeps _ _ _ _ _ h) (fun _ => h)⟩
  | pairMiscompare => exact ⟨_, rfl, State.pairFault_keeps _ _ h⟩
  | shankWatchdogExpiry => exact ⟨_, rfl, State.doWatchdog_keeps _ h⟩
  | takeover => exact ⟨_, rfl, State.doTakeover_keeps h⟩
  | newActiveFirstOutput => exact ⟨_, rfl, State.doFirstOutput_keeps h⟩
  | resynchronisation => exact ⟨_, rfl, State.doResync_keeps _ h⟩
  | resyncRetry => exact ⟨_, rfl, State.doResyncRetry_keeps _ h⟩
  | calRecordRefresh => exact ⟨_, rfl, State.doCalRefresh_keeps h⟩
  | replaceTriggerChange => exact ⟨_, rfl, State.doReplace_keeps _ h⟩
  | pkgResetCtl => exact ⟨_, rfl, State.doPkgReset_keeps _ _ _ h⟩
  | warmResetSequence => exact ⟨_, rfl, State.doWarmSequence_keeps h⟩
  | warmResetSelfRefresh => exact ⟨_, rfl, State.doWarmSelfRefresh_keeps h⟩
  | warmStage0Start => exact ⟨_, rfl, State.doWarmStage0_keeps _ h⟩
  | darkIdleSelfRefresh => exact ⟨_, rfl, State.doDarkIdle_keeps h⟩
  | darkExitTileStart => exact ⟨_, rfl, State.doDarkTiles_keeps _ h⟩
  | darkExitSqResume => exact ⟨_, rfl, State.doDarkResume_keeps h⟩
  | temperatureRead => exact ⟨_, rfl, State.doTemperature_keeps _ _ _ h⟩
  | railUndervoltage => exact ⟨_, rfl, State.doRailLow_keeps h⟩
  | railRecovery => exact ⟨_, rfl, State.doRailRecovery_keeps _ h⟩
  | sclTimeout => exact ⟨_, rfl, State.doSclTimeout_keeps h⟩
  | mctpMessageTimeout => exact ⟨_, rfl, Keeps.of_mk rfl rfl rfl rfl rfl rfl h⟩
  | mctpAnswerRetry => exact ⟨_, rfl, State.doAnswer_keeps _ h⟩
  | setEndpointId | getEndpointId | getEndpointUuid | getMctpVersionSupport | getMessageTypeSupport | getVendorDefinedMessageSupport
  | getStatus | regRead | regWrite | evtRead | warmReset | flashBegin | flashWrite | flashEnd | flashStatus | soleRetry | gettid
  | getpldmversion | getpldmtypes | getpldmcommands | getpdrrepositoryinfo | getpdr | getsensorreading | getstatesensorreadings =>
    exact ⟨_, rfl, State.message_keeps _ _ h⟩
  | critical => exact ⟨_, rfl, State.criticalMsg_keeps _ h⟩
  | mgtFlashCmdBegin | mgtFlashCmdWrite | mgtFlashCmdEnd => exact ⟨_, rfl, State.doFlashCmd_keeps _ _ _ _ h⟩
  | flashSectorEraseDone => exact ⟨_, rfl, State.doSectorDone_keeps h⟩
  | sensorRefresh => exact ⟨_, rfl, State.doSensors_keeps _ h⟩
  | eventRecordWrite => exact ⟨_, rfl, State.doEventWrite_keeps h⟩
  | bypass | samplePreload | extest => exact ⟨_, rfl, State.setTap_keeps _ h⟩
  | idcode => exact ⟨_, rfl, Keeps.cond (fun _ => h) (fun _ => State.emit_keeps _ (State.setTap_keeps _ h))⟩
  | awlPeek => exact ⟨_, rfl, State.awl_keeps _ (fun _ => State.doAwlPeek_keeps _ _ _) h⟩
  | awlRead => exact ⟨_, rfl, State.awl_keeps _ (fun _ => State.doAwlRead_keeps _ _ _) h⟩
  | awlWrite => exact ⟨_, rfl, State.awl_keeps _ (fun _ => State.doAwlWrite_keeps _ _ _) h⟩
  | awlHalt => exact ⟨_, rfl, State.awl_keeps _ (fun _ => State.doAwlHalt_keeps _) h⟩
  | awlResume => exact ⟨_, rfl, State.awl_keeps _ (fun _ => State.doAwlResume_keeps _) h⟩
  | awlStep => exact ⟨_, rfl, State.awl_keeps _ (fun _ => State.doAwlStep_keeps _) h⟩
  | lockForce => exact ⟨_, rfl, State.awl_keeps _ (fun _ hu => State.awlDone_keeps _ (State.lockForce_keeps _ hu)) h⟩
  | awlTest => exact ⟨_, rfl, State.doAwlTest_keeps _ _ h⟩
  | mgtLockRead => exact ⟨_, rfl, State.doLockRead_keeps _ _ h⟩
  | mgtLockWrite => exact ⟨_, rfl, State.doLockWrite_keeps _ _ _ h⟩
  | lkSlackMinRead => exact ⟨_, rfl, State.doSlackRead_keeps _ _ h⟩
  | registerWrite => exact ⟨_, rfl, State.doWrite_keeps _ _ _ _ _ h⟩
  | laserEnableDone => exact ⟨_, rfl, State.doEnableDone_keeps h⟩
  | overloadClear => exact ⟨_, rfl, State.doOverloadClear_keeps _ _ h⟩
  | perstRelease => exact ⟨_, rfl, State.doPerstRelease_keeps _ h⟩
  | portAShankFailedReplace => exact ⟨_, rfl, Keeps.cond (fun _ => State.forceReplace_keeps h) (fun _ => h)⟩

theorem keeps_of_exec {c : Instr} {s t : State} (h : exec c s = .next t) : Keeps s t := by
  obtain ⟨u, hu, hk⟩ := exec_keeps c s
  rw [hu] at h
  cases h
  exact hk

end Sys2Proof.Claims

namespace Sys2Proof.Machine

/-- A step that answers a state is a core cycle on an empty queue, or the front command run with the queue's rest. -/
theorem step_cases {s t : State} (h : step s = .next t) :
    (s.pending = [] ∧ t = s.idle) ∨ ∃ c r, s.pending = c :: r ∧ exec c { s with pending := r } = .next t := by
  unfold step at h
  split at h
  · next hq =>
    cases h
    exact .inl ⟨hq, rfl⟩
  · next c r hq => exact .inr ⟨c, r, hq, h⟩

/-- The canonical form speaks of memory and registers alone. -/
theorem canonical_dropFront (s : State) (r : List Instr) : State.canonical { s with pending := r } = s.canonical := rfl

end Sys2Proof.Machine

namespace Sys2Proof.Claims

open Sys2Proof.Machine

/-- Settles O4: an idle cycle and every command keep the canonical form, and the queue is no part of it. -/
theorem stepsKeepTheCanonicalForm : Obligations.StepsKeepTheCanonicalForm := by
  intro s t hs hstep
  rcases step_cases hstep with ⟨-, rfl⟩ | ⟨c, r, -, hexec⟩
  · exact (State.idle_keeps (.refl s)).canonical hs
  · exact (keeps_of_exec hexec).canonical ((canonical_dropFront s r).trans hs)

end Sys2Proof.Claims
end

section
/-! Runs of a channel: the list's entries, the data slots, and what lands of them (06 R221, R226, R233, R234, R238, R239, R915, R916; 03 R139). -/

namespace Sys2Proof.Machine

/-- The fields of a run's entry in a MEM list (06, The MEM section). -/
def runFields (rd : Bool) (r : MemRun) : List (Nat × Nat × Nat) :=
  [(26, 3, if rd then 1 else 2), (29, 2, r.sid), (31, 2, r.bg), (33, 2, r.bank), (35, 15, r.row), (50, 5, r.col), (55, 5, r.count)]

/-- A sequencer whose page slot `k`, which holds `g`, takes bytes from an offset on (03 R139). -/
def RowSeq.fillPage (x : RowSeq) (k o : Nat) (bs : List Byte) (g : Page) : RowSeq :=
  { x with pages := x.pages.put k { g with bytes := g.bytes.take o ++ bs ++ g.bytes.drop (o + bs.length) } }

namespace State

open Sys2Proof.Claims (Quiet cycleEnd noted)

/-! ### Entries of the channel's list -/

/-- The units of a run that starts in this cycle, on consecutive data slots (R234). -/
def runUnits (s : State) (c : Nat) (rd : Bool) (r : MemRun) : List Job :=
  let h : HAddr := { chan := c, sid := r.sid, bg := r.bg, bank := r.bank, row := r.row, col := r.col }
  let g := dataGrid s.fuse.variant
  (List.range (r.count + 1)).map (fun i =>
    { due := slotCycle g (slotIdx g s.clk.cycle + i), work := .unit c rd (hbmEncode { h with col := h.col + i }) (s.clk.cycle - s.actLead) })

theorem doRun_of_now {s : State} {c : Nat} {rd : Bool} {r : MemRun} (hnow : s.entryNow c (runFields rd r) = true)
    (hin : s.outOfService (c / 4) = false) : s.doRun c rd r = s.addWork (s.runUnits c rd r) := by
  rw [runFields] at hnow
  rw [doRun, if_pos hnow, hin, if_neg Bool.false_ne_true]
  rfl

theorem doRefpb_of_now {s : State} {c sid bg bank : Nat} (hnow : s.entryNow c [(26, 3, 3), (29, 2, sid), (31, 2, bg), (33, 2, bank)] = true)
    (hin : s.outOfService (c / 4) = false) : s.doRefpb c sid bg bank = s.refresh c := by
  simp [doRefpb, hnow, hin]

/-! ### A data slot -/

/-- A channel with other requests waiting. -/
def withReqs (s : State) (c : Nat) (l : List HbmReq) : State := s.setChan c { s.chan c with reqs := l }

/-- When a RD unit of a channel lands: 20 cycles and the path adder later (R238). -/
def landsAt (s : State) (c : Nat) (q : HbmReq) : Nat := s.clk.cycle + 20 + pathAdd (dieOf (reqTile q.kind)) (c / 32)

/-- What a RD unit's bytes do where they land: a tile's FILL or a page slot takes them (R915, R916). -/
def landing (q : HbmReq) (bs : List Byte) : Option Work :=
  match q.kind with
  | .fill k u => some (.fWrite k u q.other bs true)
  | .page row slot => some (.pageWrite row slot q.other bs)
  | .spill _ => none

/-- R915: the slot finds no request that names its unit and had arrived in time. -/
theorem runUnit_of_wrong {s : State} {c a act : Nat} {rd : Bool} {q : HbmReq} {rest : List HbmReq} (hreq : (s.chan c).reqs = q :: rest)
    (h : q.addr ≠ a ∨ act < q.arrives) : s.runUnit c rd a act = s.abortWith 0x0602 (chanLoc c) := by
  have hwrong : (isRead q == rd && q.addr == a && decide (q.arrives ≤ act)) = false := by
    rcases h with h | h
    · simp [h]
    · simp [Nat.not_le.mpr h]
  simp only [runUnit, hreq, hwrong, Bool.false_eq_true, if_false]

section
variable {s : State} {c a act : Nat} {q : HbmReq} {rest : List HbmReq}
  (hm : s.memErr = []) (hreq : (s.chan c).reqs = q :: rest) (ha : q.addr = a) (hact : q.arrives ≤ act)
include hm hreq ha hact

theorem runUnit_of_read {w : Work} (hw : landing q (s.mem.bytes a 64) = some w) :
    s.runUnit c true a act = (s.withReqs c rest).addWork [⟨s.landsAt c q, w⟩] := by
  rw [landing] at hw
  cases hk : q.kind with
  | spill => simp [hk] at hw
  | fill | page =>
    obtain rfl := by simpa [hk] using hw
    simp [runUnit, hreq, hk, ha, hact, isRead, touch_of_clean, hm, withReqs, addWork, landsAt, peek]

theorem runUnit_of_spill {k : Nat} (hk : q.kind = .spill k) :
    s.runUnit c false a act = { s.withReqs c rest with mem := s.mem.setBytes a (q.data.getD (s.mem.bytes q.other 64)) } := by
  simp [runUnit, hreq, hk, ha, hact, isRead, poke_of_clean, hm, withReqs, peek]

end

/-! ### Data slots and page writes at the end of a quiet cycle -/

/-- The bytes that a data slot read land in a later cycle. -/
theorem lt_landsAt (s : State) (c : Nat) (q : HbmReq) : s.clk.cycle < s.landsAt c q :=
  Nat.lt_of_lt_of_le (Nat.lt_add_of_pos_right (by decide)) (Nat.le_add_right _ _)

section
variable {s : State} {d c a act : Nat} {q : HbmReq} {rest : List HbmReq}
  (hq : Quiet s) (hd : d ≤ s.clk.cycle) (hreq : (s.chan c).reqs = q :: rest)
include hq hd hreq

/-- R238: a RD slot that serves its request leaves the part that lands. -/
theorem endCycle_of_rdUnit {w : Work} (ha : q.addr = a) (hact : q.arrives ≤ act) (hwork : s.work = [⟨d, .unit c true a act⟩])
    (hw : landing q (s.mem.bytes a 64) = some w) : s.endCycle = cycleEnd (s.withReqs c rest) [⟨s.landsAt c q, w⟩] :=
  endCycle_of_move (t := s.withReqs c rest) hq hd hwork rfl
    (runUnit_of_read (s := { s with work := [] }) (memErr_of_quiet hq) hreq ha hact hw)
    (fun _ => rfl) (fun _ hj => List.mem_singleton.mp hj ▸ s.lt_landsAt c q)

theorem endCycle_of_wrUnit {k : Nat} (ha : q.addr = a) (hact : q.arrives ≤ act) (hwork : s.work = [⟨d, .unit c false a act⟩]) (hk : q.kind = .spill k) :
    s.endCycle = cycleEnd { s.withReqs c rest with mem := s.mem.setBytes a (q.data.getD (s.mem.bytes q.other 64)) } [] :=
  endCycle_of_move hq hd hwork rfl (runUnit_of_spill (s := { s with work := [] }) (memErr_of_quiet hq) hreq ha hact hk)
    (fun _ => rfl) (fun _ h => absurd h List.not_mem_nil)

/-- R915: a slot without the right request aborts the epoch. -/
theorem endCycle_of_wrongUnit {rd : Bool} (hwork : s.work = [⟨d, .unit c rd a act⟩]) (h : q.addr ≠ a ∨ act < q.arrives)
    (hs : s.started = true) (hroom : s.mgt.staging.length < 64) (hab : s.abort = none) (hp : s.clk.pauseFrom = none) :
    s.endCycle = cycleEnd { s with
      abort := some { epoch := s.clk.epoch, code := 0x602, start := s.clk.now }
      mgt := noted s 0x602 (chanLoc c) 0 } [] := by
  have hrun := runUnit_of_wrong (s := { s with work := [] }) (rd := rd) hreq h
  have habort := abortWith_of_running (s := { s with work := [] }) (code := 0x0602) (chanLoc c) 0 hs hroom (by decide) hab hp
  exact endCycle_of_move hq hd hwork rfl (hrun.trans habort) (fun _ => rfl) (fun _ h => absurd h List.not_mem_nil)

end

theorem writeWork_pageWrite {s : State} {d row k o : Nat} {bs : List Byte} {g : Page} (hg : (s.seq row).pages.find k = some g) :
    s.writeWork ⟨d, .pageWrite row k o bs⟩ = s.setSeq row ((s.seq row).fillPage k o bs g) := by
  simp only [writeWork, hg]
  rfl

/-- R139: a page slot that is there takes the bytes at their offset. -/
theorem endCycle_of_pageWrite {s : State} {d row k o : Nat} {bs : List Byte} {g : Page} (hq : Quiet s) (hd : d ≤ s.clk.cycle)
    (hwork : s.work = [⟨d, .pageWrite row k o bs⟩]) (hg : (s.seq row).pages.find k = some g) :
    s.endCycle = cycleEnd (s.setSeq row ((s.seq row).fillPage k o bs g)) [] := by
  have hwrite : s.runWork (fun w => w.writes && !isVWrite w) writeWork = { s.setSeq row ((s.seq row).fillPage k o bs g) with work := [] } :=
    (runWork_of_due writeWork hwork hd rfl).trans (writeWork_pageWrite (s := { s with work := [] }) hg)
  rw [endCycle_of_writes hq (by rw [hwork]; exact fun j hj => List.mem_singleton.mp hj ▸ rfl), hwrite,
    runWork_of_none writeWork fun _ h => absurd h List.not_mem_nil]
  rfl

end State

end Sys2Proof.Machine

namespace Sys2Proof.Claims

open Sys2Proof.Machine

/-- Settles O21: an entry of the list adds the parts of its run, and each part at the end of a quiet cycle serves the head of its channel or aborts. -/
theorem channelRuns : Obligations.ChannelRuns := by
  refine ⟨?lists, ?slots⟩
  case lists =>
    intro s c r sid bg bank hin h g fields units
    refine ⟨fun hnow => ?rd, fun hnow => ?wr, fun hnow => ?refpb⟩
    case rd => exact congrArg Host.Outcome.next (State.doRun_of_now (rd := true) hnow hin)
    case wr => exact congrArg Host.Outcome.next (State.doRun_of_now (rd := false) hnow hin)
    case refpb => exact congrArg Host.Outcome.next (State.doRefpb_of_now hnow hin)
  case slots =>
    intro s d c a act q rest hq hd hreq took at_
    refine ⟨fun ha hact hwork => ⟨fun row slot hk => ?page, fun k u hk => ?fill⟩, fun ha hact hwork k hk => ?spill,
      fun rd hwork hwrong hs hroom hab hp => ?wrong, fun row k o bs g hwork hg => ?pageWrite⟩
    case page => exact State.endCycle_of_rdUnit hq hd hreq ha hact hwork (by rw [State.landing, hk])
    case fill => exact State.endCycle_of_rdUnit hq hd hreq ha hact hwork (by rw [State.landing, hk])
    case spill => exact State.endCycle_of_wrUnit hq hd hreq ha hact hwork hk
    case wrong =>
      rw [State.endCycle_of_wrongUnit hq hd hreq hwork hwrong hs hroom hab hp]
      exact ⟨rfl, rfl⟩
    case pageWrite => exact State.endCycle_of_pageWrite hq hd hwork hg

end Sys2Proof.Claims
end

section
/-! A channel outside the schedule: its refresh timer, its retraining, and the oldest unit that waits for an open slot (06 R229-R231, R237, R258-R261; 13 R591). -/

namespace Sys2Proof.Machine

namespace State

/-! ### Refresh and retraining -/

/-- R237: in a pause the timer's refresh holds a channel in service. -/
theorem doRefreshTimer_of_pause {s : State} {c : Nat} (hin : s.outOfService (c / 4) = false) (hp : s.clk.pauseFrom.isSome = true) :
    s.doRefreshTimer c = s.refresh c := by
  simp [doRefreshTimer, hin, hp]

/-- R258: a channel of a group that no running last claims begins to train at once. -/
theorem doRetrainDue_of_unclaimed {s : State} {c : Nat} (hin : s.outOfService (c / 4) = false) (hs : s.started = true)
    (ht : (s.chan c).training = false) (hg : s.groupClaimed (c / 4) = false) (hawl : s.awlHalted (c / 32) = false) :
    s.doRetrainDue c = s.setChan c { s.chan c with due := false, training := true, attempts := 0 } := by
  simp [doRetrainDue, hin, hs, ht, hg, hawl]

/-- R259: in a claimed group it is due. -/
theorem doRetrainDue_of_claimed {s : State} {c : Nat} (hin : s.outOfService (c / 4) = false) (hs : s.started = true)
    (ht : (s.chan c).training = false) (hg : s.groupClaimed (c / 4) = true) :
    s.doRetrainDue c = s.setChan c { s.chan c with due := true } := by
  simp [doRetrainDue, hin, hs, ht, hg]

theorem doRetrainDone_of_ok {s : State} {c : Nat} (ht : (s.chan c).training = true) :
    s.doRetrainDone c true = s.setChan c { s.chan c with training := false, attempts := 0 } := by
  simp [doRetrainDone, ht]

/-- R261: a failure before the third is counted. -/
theorem doRetrainDone_of_retry {s : State} {c : Nat} (ht : (s.chan c).training = true) (hn : (s.chan c).attempts + 1 < 3) :
    s.doRetrainDone c false = s.setChan c { s.chan c with attempts := (s.chan c).attempts + 1 } := by
  simp [doRetrainDone, ht, hn]

/-! ### Open slots -/

/-- The channel when the oldest unit of its queue has used the open slot of this cycle. -/
def useSlot (s : State) (c : Nat) (rest : List OpenReq) : State :=
  s.setChan c { s.chan c with queue := rest, used := some (s.clk.now, s.clk.sub) }

/-- A COPY that has moved `n` more bytes, among those in progress. -/
def movedOn (l : List CopyJob) (j : CopyJob) (n : Nat) : List CopyJob :=
  l.map (fun (k : CopyJob) => if k.job == j.job then { k with moved := k.moved + n } else k)

/-- The bytes of a COPY to the host from `a` on that lie in the 64 B unit of `a`. -/
def unitLen (j : CopyJob) (a : Nat) : Nat := min (64 * (a / 64) + 64) (j.src + j.len) - a

/-- R591: a piece of a COPY to the host is read and sent to the port of its ring. -/
theorem movePiece_toHost {s : State} {j : CopyJob} {o n : Nat} (hm : s.memErr = []) (hj : j.toHost = true) :
    s.movePiece j o n = { s with
      out := s.out ++ [.hostWrite (s.ringPort j.sq) (j.dst + o) (s.mem.bytes (j.src + o) n) false]
      host := { s.host with copies := movedOn s.host.copies j n } } := by
  simp [movePiece, CopyJob.pkg, hj, touch_of_clean hm, emit, peek, movedOn]

section
variable {s : State} {c : Nat} {rest : List OpenReq} (hopen : s.openSlots c = true) (hm : s.memErr = [])
include hopen hm

/-- R230: a write of the package's own lands. -/
theorem doOpenSlotAccess_of_own {a : Nat} {bs : List Byte} (hqueue : (s.chan c).queue = .own a bs :: rest)
    (hgap : s.gapKept c (64 * (a / 64)) true = true) :
    s.doOpenSlotAccess c = { s.useSlot c rest with mem := s.mem.setBytes a bs } := by
  have hserved : s.doOpenSlotAccess c = (s.useSlot c rest).poke a bs := by
    simp [doOpenSlotAccess, hqueue, hopen, hgap, useSlot]
  exact hserved.trans (poke_of_clean (s := s.useSlot c rest) hm a bs)

/-- R230, R591: a unit of a COPY to the host moves. -/
theorem doOpenSlotAccess_of_copy {job off : Nat} {j : CopyJob} (hqueue : (s.chan c).queue = .copy job off :: rest)
    (hjob : s.host.copies.find? (fun k => k.job == job) = some j) (hto : j.toHost = true) (hd3 : s.host.d3.contains (s.owner j.sq) = false)
    (hgap : s.gapKept c (64 * ((j.src + off) / 64)) false = true)
    (hlate : s.lateCode j (j.src + off) (unitLen j (j.src + off)) = 0) :
    s.doOpenSlotAccess c = { s.useSlot c rest with
      out := s.out ++ [.hostWrite (s.ringPort j.sq) (j.dst + off) (s.mem.bytes (j.src + off) (unitLen j (j.src + off))) false]
      host := { s.host with copies := movedOn s.host.copies j (unitLen j (j.src + off)) } } := by
  have hawake : s.owner j.sq ∉ s.host.d3 := by simpa using hd3
  rw [unitLen] at hlate
  have hserved : s.doOpenSlotAccess c = (s.useSlot c rest).movePiece j off (unitLen j (j.src + off)) := by
    simp [doOpenSlotAccess, hqueue, hjob, CopyJob.pkg, hto, hopen, hgap, hawake, hlate, useSlot, unitLen]
  exact hserved.trans (movePiece_toHost (s := s.useSlot c rest) hm hto)

end

end State

end Sys2Proof.Machine

namespace Sys2Proof.Claims

open Sys2Proof.Machine

/-- Settles O22: the timer, the retrain and the open slot each change their channel, and the unit served moves its bytes. -/
theorem channelUpkeep : Obligations.ChannelUpkeep := by
  intro s c hin
  refine ⟨fun hp => ?timer, fun hs ht hg hawl => ?begins, fun hs ht hg => ?due, fun ht => ⟨?trained, fun hn => ?retry⟩, ?slots⟩
  case timer => exact congrArg Host.Outcome.next (State.doRefreshTimer_of_pause hin hp)
  case begins => exact congrArg Host.Outcome.next (State.doRetrainDue_of_unclaimed hin hs ht hg hawl)
  case due => exact congrArg Host.Outcome.next (State.doRetrainDue_of_claimed hin hs ht hg)
  case trained => exact congrArg Host.Outcome.next (State.doRetrainDone_of_ok ht)
  case retry => exact congrArg Host.Outcome.next (State.doRetrainDone_of_retry ht hn)
  case slots =>
    intro hopen hm served
    refine ⟨fun a bs rest hqueue hgap => ?own, fun job off rest j hqueue hjob hto hd3 => ?copy⟩
    case own => exact congrArg Host.Outcome.next (State.doOpenSlotAccess_of_own hopen hm hqueue hgap)
    case copy =>
      intro a n hgap hlate
      exact ⟨_, congrArg Host.Outcome.next (State.doOpenSlotAccess_of_copy hopen hm hqueue hjob hto hd3 hgap hlate), rfl, rfl⟩

end Sys2Proof.Claims
end

section
/-! Context input and result: the words on one unit, the context record through the package's own writes, and the end of a CTXOUT's last window (03 R143, R918; 06 R230, R919; 07 R270, R285, R286). -/

namespace Sys2Proof.Machine

namespace State

open Sys2Proof.Claims (Quiet cycleEnd)

/-! ### The words on one unit -/

section
variable {s : State} {sel : Sel} {a k u : Nat} {w : Flight} {c : CtxInfo} (hone : s.unitsNamed sel = [(k, u)]) (hc : s.wordCtx sel w = some c)
include hone hc

theorem doCtxin_of_unit (hw : s.slotWord sel (isCtxMove 5 a) = some w) :
    s.doCtxin sel a = (s.spendSlot sel.row .mov).ctxinUnit c a (k, u) := by
  have hspent : (s.spendSlot sel.row .mov).wordCtx sel w = some c := hc
  rw [doCtxin, onSlot_of_unit .mov _ hw hone, hspent]

/-- R286: a result leaves only from a context bound into this epoch. -/
theorem doCtxout_of_unit (hw : s.slotWord sel (isCtxMove 6 a) = some w) (hphase : c.phase = .bound ∨ c.phase = .done) :
    s.doCtxout sel a = (s.spendSlot sel.row .mov).ctxoutUnit c a (k, u) := by
  have hspent : (s.spendSlot sel.row .mov).wordCtx sel w = some c := hc
  have hopen : ((s.unitsNamed sel).length == 1 && (c.phase == .bound || c.phase == .done)) = true := by
    rcases hphase with h | h <;> simp [hone, h]
  rw [doCtxout, onSlot_of_unit .mov _ hw hone, hspent]
  exact if_pos hopen

end

/-! ### What is held of a context -/

theorem idx_of_ctxInfo {s : State} {idx : Nat} {c : CtxInfo} (h : s.ctxInfo idx = some c) : c.idx = idx := by
  simpa using List.find?_some h

theorem ctxInfo_modCtx (s : State) (idx j : Nat) {f : CtxInfo → CtxInfo} (hf : ∀ c, (f c).idx = c.idx) :
    (s.modCtx idx f).ctxInfo j = (s.ctxInfo j).map (fun c => if c.idx == idx then f c else c) := by
  have hkey : ((fun c : CtxInfo => c.idx == j) ∘ fun c => if c.idx == idx then f c else c) = fun c => c.idx == j := by
    funext c
    simp only [Function.comp_apply, apply_ite CtxInfo.idx, hf, ite_self]
  simp only [ctxInfo, modCtx, List.find?_map, hkey]

theorem ctxInfo_modCtx_same {s : State} {idx : Nat} {c : CtxInfo} {f : CtxInfo → CtxInfo} (hf : ∀ c, (f c).idx = c.idx)
    (h : s.ctxInfo idx = some c) : (s.modCtx idx f).ctxInfo idx = some (f c) := by
  simp [ctxInfo_modCtx s idx idx hf, h, idx_of_ctxInfo h]

theorem ctxInfo_modCtx_other (s : State) {idx j : Nat} {f : CtxInfo → CtxInfo} (hf : ∀ c, (f c).idx = c.idx) (hj : j ≠ idx) :
    (s.modCtx idx f).ctxInfo j = s.ctxInfo j := by
  rw [ctxInfo_modCtx s idx j hf]
  cases h : s.ctxInfo j with
  | none => rfl
  | some c => simp [idx_of_ctxInfo h, hj]

/-! ### The package's own writes -/

theorem queueOwn_frame (s : State) (a : Nat) (bs : List Byte) : s.queueOwn a bs = { s with hbm := (s.queueOwn a bs).hbm } := by
  unfold queueOwn
  generalize splitUnits a bs = l
  induction l generalizing s with
  | nil => rfl
  | cons p l ih =>
    rw [List.foldl_cons, ih]
    rfl

/-- With no stored error, a write of the package's own changes the channels or the bytes alone. -/
theorem pokeOwn_frame {s : State} (hm : s.memErr = []) (a : Nat) (bs : List Byte) :
    s.pokeOwn a bs = { s with hbm := (s.pokeOwn a bs).hbm, mem := (s.pokeOwn a bs).mem } := by
  unfold pokeOwn
  split
  · rfl
  · split
    · rw [queueOwn_frame]
    · rw [poke_of_clean hm]

/-- A byte lies in one unit. -/
theorem splitUnits_byte (a : Nat) (b : Byte) : splitUnits a [b] = [(a, [b])] := by
  have hone : ceilDiv (a % 64 + 1) 64 = 1 := by
    unfold ceilDiv
    omega
  have hroom : 64 - a % 64 = (63 - a % 64) + 1 := by omega
  simp [splitUnits, hone, hroom]

/-- A byte of the package's own that waits for its open slot reads as written (R230). -/
theorem ownByte_queueOwn_byte (s : State) (a : Nat) (b : Byte) : (s.queueOwn a [b]).ownByte a = b := by
  simp [queueOwn, splitUnits_byte, ownByte]

theorem pokeOwn_of_hbm {s : State} {a h : Nat} {bs : List Byte} (hplace : placeOf a = .hbm h) (hin : s.rangeOut a bs.length = false) :
    s.pokeOwn a bs = s.queueOwn a bs := by
  simp [pokeOwn, hplace, hin]

/-- The STATE of a record in HBM3E reads as written. -/
theorem ctxField_setCtxField_state {s : State} {idx v h : Nat} (hplace : placeOf (s.recAddr idx) = .hbm h)
    (hin : s.rangeOut (s.recAddr idx) 1 = false) : (s.setCtxField idx 0 1 v).ctxField idx 0 1 = v % 256 := by
  have hset : s.setCtxField idx 0 1 v = s.queueOwn (s.recAddr idx) [BitVec.ofNat 8 v] := pokeOwn_of_hbm hplace hin
  have hrec : (s.queueOwn (s.recAddr idx) [BitVec.ofNat 8 v]).recAddr idx = s.recAddr idx := by
    rw [queueOwn_frame]
    rfl
  simp [hset, ctxField, ownNat, ownBytes, hrec, ownByte_queueOwn_byte, ofBytes]

/-! ### A context that moves to a phase -/

theorem setPhase_frame {s : State} (hm : s.memErr = []) (idx : Nat) (p : CtxPhase) :
    s.setPhase idx p = { s.modCtx idx (fun c => { c with phase := p }) with hbm := (s.setPhase idx p).hbm, mem := (s.setPhase idx p).mem } :=
  pokeOwn_frame (s := s.modCtx idx (fun c => { c with phase := p })) hm _ _

theorem ctxInfo_setPhase_same {s : State} (hm : s.memErr = []) {idx : Nat} {c : CtxInfo} (p : CtxPhase) (h : s.ctxInfo idx = some c) :
    (s.setPhase idx p).ctxInfo idx = some { c with phase := p } := by
  rw [setPhase_frame hm]
  exact ctxInfo_modCtx_same (fun _ => rfl) h

theorem ctxInfo_setPhase_other {s : State} (hm : s.memErr = []) {idx j : Nat} (p : CtxPhase) (hj : j ≠ idx) :
    (s.setPhase idx p).ctxInfo j = s.ctxInfo j := by
  rw [setPhase_frame hm]
  exact ctxInfo_modCtx_other s (fun _ => rfl) hj

/-! ### The end of the last window (R286) -/

section
variable {s : State} {d idx : Nat} {c : CtxInfo} (hq : Quiet s) (hd : d ≤ s.clk.cycle) (hwork : s.work = [⟨d, .ctxDone idx⟩]) (hc : s.ctxInfo idx = some c)
include hq hd hwork hc

/-- A context that was bound into this epoch is DONE with the last window. -/
theorem endCycle_of_ctxDone_bound (hphase : c.phase = .bound) : s.endCycle = cycleEnd (setPhase { s with work := [] } idx .done) [] := by
  have hframe := setPhase_frame (s := { s with work := [] }) (memErr_of_quiet hq) idx .done
  have hheld : ctxInfo { s with work := [] } idx = some c := hc
  have hread : readWork { s with work := [] } ⟨d, .ctxDone idx⟩ = setPhase { s with work := [] } idx .done := by
    simp [readWork, hheld, hphase]
  refine endCycle_of_move hq hd hwork rfl (hread.trans ?_) (fun k => ?_) (fun _ h => absurd h List.not_mem_nil)
  · rw [hframe]
    rfl
  · rw [hframe]
    rfl

/-- One that the epoch no longer holds stays as it is. -/
theorem endCycle_of_ctxDone_unbound (hphase : c.phase ≠ .bound) : s.endCycle = cycleEnd s [] := by
  have hheld : ctxInfo { s with work := [] } idx = some c := hc
  have hread : readWork { s with work := [] } ⟨d, .ctxDone idx⟩ = { s with work := [] } := by
    simp [readWork, hheld, hphase]
  exact endCycle_of_move hq hd hwork rfl hread (fun _ => rfl) (fun _ h => absurd h List.not_mem_nil)

end

end State

end Sys2Proof.Machine

namespace Sys2Proof.Claims

open Sys2Proof.Machine

/-- Settles O28: a word on one unit lists the parts of its move, and the part that ends a CTXOUT changes the phase of its context alone. -/
theorem contextMoves : Obligations.ContextMoves := by
  refine ⟨?words, ?windows⟩
  case words =>
    intro s sel a c k u w hone hc sp buf at_ n ends
    refine ⟨fun hw => ?input, fun hw hphase => ?result⟩
    case input => exact congrArg Host.Outcome.next (State.doCtxin_of_unit hone hc hw)
    case result => exact congrArg Host.Outcome.next (State.doCtxout_of_unit hone hc hw hphase)
  case windows =>
    intro s d idx c hq hd hwork hc t
    by_cases hphase : c.phase = .bound
    case pos =>
      have hm : ({ s with work := [] } : State).memErr = [] := State.memErr_of_quiet hq
      have ht : t = cycleEnd (State.setPhase { s with work := [] } idx .done) [] := State.endCycle_of_ctxDone_bound hq hd hwork hc hphase
      rw [ht]
      refine ⟨?frame, fun _ => ⟨?done, fun h hplace hin => ?record⟩, fun hn => absurd hphase hn, fun j hj => ?others⟩
      case frame =>
        rw [State.setPhase_frame hm]
        rfl
      case done => exact State.ctxInfo_setPhase_same hm .done hc
      case record => exact State.ctxField_setCtxField_state hplace hin
      case others => exact State.ctxInfo_setPhase_other hm .done hj
    case neg =>
      have ht : t = cycleEnd s [] := State.endCycle_of_ctxDone_unbound hq hd hwork hc hphase
      rw [ht]
      exact ⟨rfl, fun hb => absurd hb hphase, fun _ => ⟨rfl, rfl, rfl⟩, fun _ _ => rfl⟩

end Sys2Proof.Claims
end

section
/-! Synchronisation words: the way to the object, the increment, the hit and the miss there, and the miss that comes back (07 R291-R297). -/

namespace Sys2Proof.Machine

namespace State

open Sys2Proof.Claims (passed)

/-! ### The words -/

theorem ctlOpen_of_issuing {s : State} {r w : Nat} {m : Nat → Bool} (hw : s.issuing r = some w) (hm : m w = true) (hopen : (s.seq r).gated = false) :
    s.ctlOpen r m = true := by
  simp [ctlOpen, hw, hm, hopen]

/-- What a SEMSIG or SEMWAIT of a row sends to its object (R291). -/
def semSent (s : State) (r arg : Nat) : SemReq := { due := s.clk.cycle + semReach (r / 8) (arg / 1024), row := r, obj := arg }

section
variable {s : State} {r w arg : Nat} (hw : s.issuing r = some w) (hopen : (s.seq r).gated = false)
include hw hopen

theorem doSemsig_of_issuing (hm : isCtlArg 0xC arg w = true) :
    s.doSemsig r arg = { s.setSeq r (passed s r w) with sync := { s.sync with sigs := s.sync.sigs ++ [s.semSent r arg] } } := by
  rw [doSemsig, ctl_of_issuing id hw hm rfl, if_pos (ctlOpen_of_issuing hw hm hopen)]
  rfl

theorem doSemwait_of_issuing (hm : isCtlArg 0xD arg w = true) :
    s.doSemwait r arg = { s.setSeq r (passed s r w) with sync := { s.sync with semWaits := s.sync.semWaits ++ [s.semSent r arg] } } := by
  rw [doSemwait, ctl_of_issuing id hw hm rfl, if_pos (ctlOpen_of_issuing hw hm hopen)]
  rfl

end

/-! ### At the object -/

theorem takeSem_of_find {l : List SemReq} {c : Nat} {p : SemReq → Bool} {x : SemReq} (h : l.find? (fun x => p x && decide (x.due ≤ c)) = some x) :
    takeSem l c p = some (x, l.erase x) := by
  simp only [takeSem, h]

theorem synAdd_of_fits {s : State} {k n : Nat} (h : (s.obj k).c + n ≤ 0xFFFFFFFF) :
    s.synAdd k n = s.setObj k { s.obj k with c := (s.obj k).c + n } := by
  simp only [synAdd, if_pos h, Nat.min_eq_left h]

/-- R293: no wait on an object is before one that came first to it, of those of its cycle from the lowest row. -/
theorem semBefore_of_first {l : List SemReq} {x : SemReq} (h : ∀ y ∈ l, y.obj = x.obj → x.due ≤ y.due ∧ (y.due = x.due → x.row ≤ y.row)) :
    semBefore l x = false := by
  refine List.any_eq_false.mpr fun y hy hbefore => ?_
  simp only [Bool.and_eq_true, Bool.or_eq_true, beq_iff_eq, decide_eq_true_eq] at hbefore
  obtain ⟨hobj, hlt⟩ := hbefore
  obtain ⟨hdue, hrow⟩ := h y hy hobj
  rcases hlt with hlt | ⟨heq, hlt⟩
  · omega
  · exact absurd (hrow heq) (Nat.not_le.mpr hlt)

/-- R294: an increment that arrives is gone, and C is one more. -/
theorem doSemsigArrival_of_arrived {s : State} {k : Nat} {x : SemReq} (hx : s.sync.sigs.find? (fun x => (x.obj == k) && decide (x.due ≤ s.clk.cycle)) = some x)
    (hfits : (s.obj k).c + 1 ≤ 0xFFFFFFFF) :
    s.doSemsigArrival k = setObj { s with sync := { s.sync with sigs := s.sync.sigs.erase x } } k { s.obj k with c := (s.obj k).c + 1 } := by
  simp only [doSemsigArrival, takeSem_of_find hx]
  exact synAdd_of_fits (s := { s with sync := { s.sync with sigs := s.sync.sigs.erase x } }) hfits

section
variable {s : State} {r k : Nat} {x : SemReq}
  (hx : s.sync.semWaits.find? (fun x => (x.row == r && x.obj == k) && decide (x.due ≤ s.clk.cycle)) = some x)
  (hturn : ∀ y ∈ s.sync.semWaits, y.obj = k → x.due ≤ y.due ∧ (y.due = x.due → x.row ≤ y.row))
include hx hturn

theorem semBefore_of_turn : semBefore s.sync.semWaits x = false := by
  have hkey := List.find?_some hx
  simp only [Bool.and_eq_true, beq_iff_eq] at hkey
  obtain ⟨⟨-, hobj⟩, -⟩ := hkey
  exact semBefore_of_first fun y hy hy' => hturn y hy (hy'.trans hobj)

/-- R293: a wait whose turn it is takes one where the allowance has one. -/
theorem doSemwaitArrival_of_hit (hallow : 1 ≤ (s.obj k).allow) :
    s.doSemwaitArrival r k = semHit { s with sync := { s.sync with semWaits := s.sync.semWaits.erase x } } k := by
  simp [doSemwaitArrival, takeSem_of_find hx, semBefore_of_turn hx hturn, hallow]

/-- R291, R295: else it is a miss, on the way back to its row. -/
theorem doSemwaitArrival_of_miss (hallow : (s.obj k).allow = 0) :
    s.doSemwaitArrival r k = { s with sync := { s.sync with
      semWaits := s.sync.semWaits.erase x
      misses := s.sync.misses ++ [{ x with due := x.due + semReach (r / 8) (k / 1024) }] } } := by
  simp [doSemwaitArrival, takeSem_of_find hx, semBefore_of_turn hx hturn, hallow]

end

/-! ### Back at the row -/

section
variable {s : State} {r : Nat} {x : SemReq} (hx : s.sync.misses.find? (fun x => (x.row == r) && decide (x.due ≤ s.clk.cycle)) = some x)
include hx

/-- R295: the miss closes the gate of a row whose program runs. -/
theorem doSemwaitResult_of_running (hrun : (s.seq r).running = true) :
    s.doSemwaitResult r = setSeq { s with sync := { s.sync with misses := s.sync.misses.erase x } } r { s.seq r with gated := true } := by
  simp only [doSemwaitResult, takeSem_of_find hx, if_pos hrun]
  rfl

theorem doSemwaitResult_of_stopped (hrun : ¬ (s.seq r).running = true) :
    s.doSemwaitResult r = { s with sync := { s.sync with misses := s.sync.misses.erase x } } := by
  simp only [doSemwaitResult, takeSem_of_find hx, if_neg hrun]

end

end State

end Sys2Proof.Machine

namespace Sys2Proof.Claims

open Sys2Proof.Machine

/-- Settles O20: the two words send their requests, and each arrival takes its request from the list and does its one change. -/
theorem synchronisationWords : Obligations.SynchronisationWords := by
  intro s row arg k w sent pass wait turn
  refine ⟨fun hw hopen => ⟨fun hm => ?signal, fun hm => ?waits⟩, fun x hx hfits => ?raises, fun x hx hturn hallow => ?hit,
    fun x hx hturn hallow => ?miss, fun x hx => ?result⟩
  case signal => exact congrArg Host.Outcome.next (State.doSemsig_of_issuing hw hopen hm)
  case waits => exact congrArg Host.Outcome.next (State.doSemwait_of_issuing hw hopen hm)
  case raises =>
    exact ⟨_, congrArg Host.Outcome.next (State.doSemsigArrival_of_arrived hx hfits), rfl, rfl, State.obj_setObj_same _ _ _,
      fun j hj => State.obj_setObj_other _ _ hj⟩
  case hit =>
    refine ⟨_, congrArg Host.Outcome.next (State.doSemwaitArrival_of_hit hx hturn hallow), rfl, rfl, rfl, ?count, ?allowance, fun j hj => ?others⟩
    case count => exact congrArg SyObj.c (State.obj_setObj_same _ _ _)
    case allowance => exact congrArg SyObj.allow (State.obj_setObj_same _ _ _)
    case others => exact State.obj_setObj_other _ _ hj
  case miss => exact ⟨_, congrArg Host.Outcome.next (State.doSemwaitArrival_of_miss hx hturn hallow), rfl, rfl, rfl, fun _ => rfl⟩
  case result =>
    by_cases hrun : (s.seq row).running = true
    case pos =>
      rw [if_pos hrun]
      exact ⟨_, congrArg Host.Outcome.next (State.doSemwaitResult_of_running hx hrun), rfl, rfl, State.seq_setSeq_same _ _ _,
        fun j hj => State.seq_setSeq_other _ _ hj⟩
    case neg =>
      rw [if_neg hrun]
      exact ⟨_, congrArg Host.Outcome.next (State.doSemwaitResult_of_stopped hx hrun), rfl, rfl, rfl, fun _ _ => rfl⟩

end Sys2Proof.Claims
end

section
/-! Commands that end or move on later: waits, copies, and contexts that are fetched, copied or past their deadline (07 R279-R284, R299; 13 R591, R596). -/

namespace Sys2Proof.Machine

namespace State

theorem doSynWaitTimeout_of_expired {s : State} {q cid : Nat} {w : HostWait}
    (hw : s.sync.waits.find? (fun w => w.sq == q && w.cid == cid && w.left == 0 && w.sat.isNone) = some w) :
    s.doSynWaitTimeout q cid = complete { s with sync := { s.sync with waits := s.sync.waits.erase w } } w.sq w.cid w.cq 6 0x070C := by
  simp only [doSynWaitTimeout, hw]

section
variable {s : State} {q cid : Nat} {j : CopyJob} (hj : s.host.copies.find? (fun j => j.sq == q && j.cid == cid) = some j)
include hj

theorem doCopyComplete_of_moved (hmoved : j.moved = j.len) : s.doCopyComplete q cid false = s.endCopy j 0 := by
  simp [doCopyComplete, hj, hmoved]

theorem doCopyComplete_of_fault : s.doCopyComplete q cid true = s.endCopy j (if j.toHost then 0x0D07 else 0x0D09) := by
  simp only [doCopyComplete, hj, if_true]

end

/-- The room that a context's input and result take in a pool, by its model slot: multiples of 32 KiB (R280). -/
def inRoom (s : State) (idx : Nat) : Nat := roundUp (s.slot (s.ctxField idx 2 2)).inMax 32768
def outRoom (s : State) (idx : Nat) : Nat := roundUp (s.slot (s.ctxField idx 2 2)).outLen 32768

/-- R279, R280: a posted context that finds a cache entry and room for its buffers is staged. -/
theorem doContextFetch_of_room {s : State} {n q a b : Nat} {c : CtxInfo} (hs : s.started = true) (hawake : s.mgt.dark ≠ .idle)
    (hposted : s.nextPosted n q = some c) (hcache : s.cacheUsed n < 16384) (htrains : s.rangeTrains (s.recAddr c.idx) 64 = false)
    (hroom : s.allocate n (s.inRoom c.idx) (s.outRoom c.idx) = some (a, b)) :
    s.doContextFetch n q = s.stageCtx c.idx a b (s.inRoom c.idx) (s.outRoom c.idx) := by
  have hrun : ¬ (!s.started || s.mgt.dark == .idle) = true := by simp [hs, hawake]
  have hfree : ¬ (16384 ≤ s.cacheUsed n ∨ s.rangeTrains (s.recAddr c.idx) 64 = true) := by simp [htrains, hcache]
  rw [inRoom, outRoom] at hroom ⊢
  simp only [doContextFetch, if_neg hrun, hposted, if_neg hfree, hroom]

/-- R281: the host's bytes fill the input of a context, which then waits for its turn to be queued. -/
theorem doStagingCopyDone_of_host {s : State} {idx : Nat} {c : CtxInfo} {bs : List Byte} (hc : s.ctxInfo idx = some c) (hphase : c.phase = .staging)
    (hhost : s.localIn idx = false) (hlen : bs.length = s.ctxField idx 0x20 4) :
    s.doStagingCopyDone idx (some bs) = ((s.poke (dbufAddr (ctxDie idx) + c.inOff) bs).setPhase idx .copied).promote c.sq := by
  simp [doStagingCopyDone, hc, hphase, hhost, ← hlen]

/-- R283: a queued context whose DEADLINE lies before the coming epoch ends at its snapshot. -/
theorem doDeadlineExpiry_of_late {s : State} {idx : Nat} {c : CtxInfo} (hc : s.ctxInfo idx = some c) (hphase : c.phase = .queued)
    (htime : s.snapTime = true) (hlatch : s.clk.latched = false) (hlate : s.ctxField idx 0x28 8 < s.clk.epoch + 1) :
    s.doDeadlineExpiry idx = s.endCtx idx 0x705 := by
  simp [doDeadlineExpiry, hc, hphase, htime, hlatch, hlate]

end State

end Sys2Proof.Machine

namespace Sys2Proof.Claims

open Sys2Proof.Machine

/-- Settles O25: each command finds what it speaks of and takes the branch of its rule. -/
theorem commandEnds : Obligations.CommandEnds := by
  intro s q cid n i
  refine ⟨fun w hw => ?wait, fun j hj => ⟨fun hmoved => ?copied, ?fault⟩, fun c a b hs hawake hposted hcache htrains hroom => ?fetched,
    fun c bs hc hphase hhost hlen => ?staged, fun c hc hphase htime hlatch hlate => ?late⟩
  case wait => exact congrArg Host.Outcome.next (State.doSynWaitTimeout_of_expired hw)
  case copied => exact congrArg Host.Outcome.next (State.doCopyComplete_of_moved hj hmoved)
  case fault => exact congrArg Host.Outcome.next (State.doCopyComplete_of_fault hj)
  case fetched => exact congrArg Host.Outcome.next (State.doContextFetch_of_room hs hawake hposted hcache htrains hroom)
  case staged => exact congrArg Host.Outcome.next (State.doStagingCopyDone_of_host hc hphase hhost hlen)
  case late => exact congrArg Host.Outcome.next (State.doDeadlineExpiry_of_late hc hphase htime hlatch hlate)

end Sys2Proof.Claims
end

section
/-! What the package's reports leave as it was: each change of the state that records an event, counts or fails a start, by the parts that it reaches (15 R662, R672, R698-R701; 18 R795-R799; 19 R829). -/

namespace Sys2Proof.Machine.State

/-! ### Events -/

theorem stageEvent_frame (s : State) (e : Event) : s.stageEvent e = { s with regs := (s.stageEvent e).regs, mgt := (s.stageEvent e).mgt } := by
  unfold stageEvent
  split
  · rfl
  · dsimp only
    split <;> rfl

theorem addNote_frame (s : State) : s.addNote = { s with boot := { s.boot with cur := s.addNote.boot.cur } } := by
  unfold addNote
  split <;> rfl

theorem recordFatal_boot (s : State) (code : Nat) (loc : Loc) (detail : Nat) : (s.recordFatal code loc detail).boot = s.boot := by
  rw [recordFatal, stageEvent_frame]
  split <;> rfl

/-- A record reaches the event log, its counter of lost events, the notes of the stage and LAST_CODE of the shanks. -/
theorem record_frame (s : State) (code : Nat) (loc : Loc) (detail : Nat) : s.record code loc detail = { s with
    regs := (s.record code loc detail).regs, mgt := (s.record code loc detail).mgt
    boot := { s.boot with cur := (s.record code loc detail).boot.cur }
    shk := { s.shk with lastCode := (s.record code loc detail).shk.lastCode } } := by
  rw [record, addNote_frame, recordFatal, stageEvent_frame]
  split <;> rfl

section
variable (s : State) (code : Nat) (loc : Loc) (detail : Nat)

@[simp] theorem record_abort : (s.record code loc detail).abort = s.abort := by rw [record_frame]
@[simp] theorem record_br : (s.record code loc detail).br = s.br := by rw [record_frame]
@[simp] theorem record_phase : (s.record code loc detail).boot.phase = s.boot.phase := by rw [record_frame]
@[simp] theorem record_islands : (s.record code loc detail).boot.islands = s.boot.islands := by rw [record_frame]
@[simp] theorem record_bootRecord : (s.record code loc detail).boot.record = s.boot.record := by rw [record_frame]
@[simp] theorem record_standby : (s.record code loc detail).shk.standby = s.shk.standby := by rw [record_frame]

end

/-- The count of lost events is the one register word that a record can change (R799). -/
theorem word_stageEvent_other (s : State) (e : Event) {off : Nat} (h : off ≠ mgtBase + 0x3014) : (s.stageEvent e).word off = s.word off := by
  unfold stageEvent
  split
  · rfl
  · dsimp only
    split
    · rfl
    · exact word_setWord_other _ _ h

theorem word_record_other (s : State) (code : Nat) (loc : Loc) (detail : Nat) {off : Nat} (h : off ≠ mgtBase + 0x3014) :
    (s.record code loc detail).word off = s.word off := by
  rw [record, addNote_frame]
  exact (word_stageEvent_other _ _ h).trans (by split <;> rfl)

/-! ### Counters -/

/-- A counter is set, and nothing but a record follows. -/
theorem bumpBy_cases (s : State) (off k : Nat) :
    let t := s.setWord off (BitVec.ofNat 32 (min ((s.word off).toNat + k) 0xFFFFFFFF))
    s.bumpBy off k = t ∨ s.bumpBy off k = t.record 0x1301 {} off := by
  unfold bumpBy
  dsimp only
  split
  · exact .inr rfl
  · exact .inl rfl

@[simp] theorem bumpBy_abort (s : State) (off k : Nat) : (s.bumpBy off k).abort = s.abort := by
  rcases bumpBy_cases s off k with h | h <;> rw [h] <;> simp
@[simp] theorem bumpBy_br (s : State) (off k : Nat) : (s.bumpBy off k).br = s.br := by
  rcases bumpBy_cases s off k with h | h <;> rw [h] <;> simp
@[simp] theorem bumpBy_phase (s : State) (off k : Nat) : (s.bumpBy off k).boot.phase = s.boot.phase := by
  rcases bumpBy_cases s off k with h | h <;> rw [h] <;> simp

theorem word_bumpBy_same (s : State) (k : Nat) {off : Nat} (h : off ≠ mgtBase + 0x3014) :
    (s.bumpBy off k).word off = BitVec.ofNat 32 (min ((s.word off).toNat + k) 0xFFFFFFFF) := by
  rcases bumpBy_cases s off k with hb | hb <;> rw [hb]
  · exact word_setWord_same _ _ _
  · rw [word_record_other _ _ _ _ h, word_setWord_same]

/-! ### A failed start -/

theorem writeRec_bootRecord (s : State) (w : RecWrite) : (s.writeRec w).boot.record = s.boot.record := by
  unfold writeRec
  split
  · unfold tellWait
    split
    · rfl
    · exact record_bootRecord _ _ _ _
  · cases w <;> rfl

theorem storeBoot_record (s : State) (r : BootRec) : (s.storeBoot r).boot.record = r := by
  unfold storeBoot
  dsimp only
  split
  · exact record_bootRecord _ _ _ _
  · exact writeRec_bootRecord _ _

theorem revertTrial_lastCode (b : Boot) : (revertTrial b).record.lastCode = b.record.lastCode := by
  unfold revertTrial
  split <;> rfl

theorem enterSole_boot (s : State) : s.enterSole.boot.phase = .sole ∧ s.enterSole.boot.record = s.boot.record := by
  unfold enterSole
  rw [recordFatal_boot]
  split <;> exact ⟨rfl, rfl⟩

/-- R665, R698-R700: after a failed start the package waits to retry, or with its third failure enters sole mode; the boot record holds the code. -/
theorem failStage_boot (s : State) (n : Nat) (f : Fail) (detail : Nat) :
    (s.failStage n f detail).boot.phase = (if 3 ≤ s.boot.record.fails then .sole else .waitRetry) ∧
      (s.failStage n f detail).boot.record.lastCode = f.code := by
  unfold failStage failStart
  dsimp only
  rw [recordFatal_boot]
  split
  · rw [(enterSole_boot _).1, (enterSole_boot _).2, storeBoot_record, revertTrial_lastCode]
    exact ⟨rfl, rfl⟩
  · refine ⟨rfl, ?_⟩
    calc _ = (State.storeBoot _ _).boot.record.lastCode := rfl
      _ = _ := by rw [storeBoot_record, revertTrial_lastCode]

end Sys2Proof.Machine.State
end

section
/-! Bridges: training, the INIT exchange, errors of mesh lines and the test modes (08 R314-R324, R342-R355; 20 R869, R870). -/

namespace Sys2Proof.Machine.State

/-! ### States of the bridges -/

@[simp] theorem bridge_setBridge_same (s : State) (b : Nat) (x : BridgeState) : (s.setBridge b x).bridge b = x := Tbl.get_set_same _ _ _ _
theorem bridge_setBridge_other (s : State) {j b : Nat} (x : BridgeState) (h : j ≠ b) : (s.setBridge b x).bridge j = s.bridge j :=
  Tbl.get_set_other _ _ _ h _

theorem mem_added (l : List Nat) (b : Nat) : b ∈ if l.contains b then l else l ++ [b] := by
  split
  · next h => exact List.contains_iff_mem.mp h
  · exact List.mem_append_right l List.mem_cons_self

theorem not_mem_dropped (l : List Nat) (b : Nat) : b ∉ l.filter (fun x => x != b) := by simp

/-! ### Training -/

section
variable {s : State} {b : Nat} (htrain : s.bridge b = .training) (hfree : s.testHolds = false)
include htrain hfree

/-- R314, R346: a mesh bridge that trains and passes, in its stage or at run time. -/
theorem doBridge_of_mesh_passed (hb : b < 4) (hphase : s.boot.phase = .stage 1 ∨ s.boot.phase = .started) :
    s.doBridge b .passed = s.meshTrained b := by
  rcases hphase with h | h <;> simp [doBridge, htrain, hfree, skipsStep, h, hb, trainFail]

theorem doBridge_of_mesh_stage_failed (hb : b < 4) (hphase : s.boot.phase = .stage 1) :
    s.doBridge b .latency = s.failStage 1 { code := 0x0804, loc := { kind := 4, unit := b + 8 * b2n false } } := by
  simp [doBridge, htrain, hfree, skipsStep, hphase, hb, trainFail]

theorem doBridge_of_mesh_run_failed (hb : b < 4) (hphase : s.boot.phase = .started) :
    s.doBridge b .latency = s.meshFailed b { code := 0x0804, loc := { kind := 4, unit := b + 8 * b2n false } } := by
  simp [doBridge, htrain, hfree, skipsStep, hphase, hb, trainFail]

theorem doBridge_of_chiplet_passed (hb : 4 ≤ b) (hphase : s.boot.phase = .stage 3) : s.doBridge b .passed = s.beginInit b := by
  simp [doBridge, htrain, hfree, skipsStep, hphase, Nat.not_lt.mpr hb, trainFail]

end

theorem meshFailed_spec (s : State) (b : Nat) (f : Fail) :
    (s.meshFailed b f).bridge b = .down ∧ b ∉ (s.meshFailed b f).br.due ∧
      (s.meshFailed b f).boot.islands = s.boot.islands.filter (fun k => !(meshIslands b).contains k) := by
  refine ⟨bridge_setBridge_same _ b .down, not_mem_dropped _ b, ?_⟩
  calc (s.meshFailed b f).boot.islands
      = ((s.record 0x0803 f.loc).record 0x080C { kind := 4, unit := b }).boot.islands.filter (fun k => !(meshIslands b).contains k) := rfl
    _ = _ := by rw [record_islands, record_islands]

/-! ### Channels that start (R332, R342, R345) -/

theorem chanDown_eq (s : State) (y c : Nat) : s.chanDown y c = ((s.dir (64 * y + 2 * c)).down || (s.dir (64 * y + 2 * c + 1)).down) := rfl

/-- A channel direction that starts: sequence numbers are fresh, credits as advertised, and the LOCAL flits that wait stand. -/
def startedDir (s : State) (adv : List (Nat × Nat)) (k : Nat) : WDir := { credits := startCredits adv, locals := (s.dir k).locals }

theorem dir_chanStart (s : State) (adv : List (Nat × Nat)) (y c : Nat) :
    (s.chanStart adv y c).dir (64 * y + 2 * c) = s.startedDir initAdv (64 * y + 2 * c) ∧
      (s.chanStart adv y c).dir (64 * y + 2 * c + 1) = s.startedDir adv (64 * y + 2 * c + 1) := by
  constructor
  · rw [chanStart, dir_setDir_other _ _ (by omega), dir_setDir_same, startedDir]
  · rw [chanStart, dir_setDir_same, startedDir]

theorem dir_chanStart_other (s : State) (adv : List (Nat × Nat)) {y c k : Nat} (h : k ≠ 64 * y + 2 * c) (h' : k ≠ 64 * y + 2 * c + 1) :
    (s.chanStart adv y c).dir k = s.dir k := by
  rw [chanStart, dir_setDir_other _ _ h', dir_setDir_other _ _ h]

/-- The first `n` channels of a chiplet bridge start, in order. -/
def startChans (s : State) (adv : List (Nat × Nat)) (y n : Nat) : State := (List.range n).foldl (fun (s : State) c => s.chanStart adv y c) s

theorem startChans_succ (s : State) (adv : List (Nat × Nat)) (y n : Nat) :
    s.startChans adv y (n + 1) = (s.startChans adv y n).chanStart adv y n := by
  simp [startChans, List.range_succ]

theorem dir_startChans_later (s : State) (adv : List (Nat × Nat)) (y n : Nat) {k : Nat} (h : 64 * y + 2 * n ≤ k) :
    (s.startChans adv y n).dir k = s.dir k := by
  induction n with
  | zero => rfl
  | succ n ih => rw [startChans_succ, dir_chanStart_other _ _ (by omega) (by omega), ih (by omega)]

theorem dir_startChans (s : State) (adv : List (Nat × Nat)) (y : Nat) {n c : Nat} (h : c < n) :
    (s.startChans adv y n).dir (64 * y + 2 * c) = s.startedDir initAdv (64 * y + 2 * c) ∧
      (s.startChans adv y n).dir (64 * y + 2 * c + 1) = s.startedDir adv (64 * y + 2 * c + 1) := by
  induction n with
  | zero => cases h
  | succ n ih =>
    rw [startChans_succ]
    rcases Nat.lt_succ_iff_lt_or_eq.mp h with hlt | rfl
    · rw [dir_chanStart_other _ _ (by omega) (by omega), dir_chanStart_other _ _ (by omega) (by omega)]
      exact ih hlt
    · obtain ⟨htoDie, htoYz⟩ := dir_chanStart (s.startChans adv y c) adv y c
      rw [htoDie, htoYz]
      simp only [startedDir, dir_startChans_later s adv y c (Nat.le_refl _), dir_startChans_later s adv y c (Nat.le_succ _), and_self]

/-- R342: a channel that trains alone starts again, under a bridge that other channels keep active. -/
theorem chanTrained_of_active {s : State} {y c : Nat} (hdown : s.chanDown y c = true) (hb : s.bridge (4 + y) = .active) :
    s.chanTrained y c true = s.chanStart initAdv y c := by
  have hup : (s.chanStart initAdv y c).bridge (4 + y) ≠ .down := by
    rw [show (s.chanStart initAdv y c).bridge (4 + y) = s.bridge (4 + y) from rfl, hb]
    decide
  simp only [chanTrained, hdown, Bool.and_self, if_true, if_neg hup]

theorem chanDown_chanStart (s : State) (adv : List (Nat × Nat)) (y c : Nat) : (s.chanStart adv y c).chanDown y c = false := by
  rw [chanDown_eq, (dir_chanStart s adv y c).1, (dir_chanStart s adv y c).2]
  rfl

/-! ### The INIT exchange (R345) -/

/-- What INIT_ACK sets once the channels have started: the bridge is active, its training results and the chiplet's fuse revision are kept. -/
def acked (s : State) (y : Nat) (rev : Word) : State :=
  let s1 := (s.keepTraining (4 + y)).setBridge (4 + y) .active
  { s1 with br := { s1.br with initTries := s1.br.initTries.set 0 (4 + y) 0 }, fuse := { s1.fuse with yzRev := s1.fuse.yzRev.set 0 y rev.toNat } }

theorem acked_spec (s : State) (y : Nat) (rev : Word) :
    (s.acked y rev).bridge (4 + y) = .active ∧ 4 + y ∈ (s.acked y rev).br.trained ∧ (s.acked y rev).fuse.yzRev.get 0 y = rev.toNat :=
  ⟨bridge_setBridge_same (s.keepTraining (4 + y)) (4 + y) .active, mem_added _ _, Tbl.get_set_same _ _ _ _⟩

theorem dir_acked (s : State) (y : Nat) (rev : Word) (k : Nat) : (s.acked y rev).dir k = s.dir k := rfl

theorem doInitAck_of_open {s : State} {y : Nat} (hopen : s.initOpen y = true) (rev : Word) (adv : List (Nat × Nat)) :
    s.doInitAck y rev adv = (s.startChans adv y 32).acked y rev := if_pos hopen

theorem doInitTimeout_of_tries_left {s : State} {y : Nat} (hopen : s.initOpen y = true) (htries : s.br.initTries.get 0 (4 + y) < 3) :
    s.doInitTimeout y = s.sendInit (4 + y) (s.br.initTries.get 0 (4 + y) + 1) := by
  simp only [doInitTimeout, hopen, if_true, if_pos htries]

theorem doInitTimeout_of_last_try {s : State} {y : Nat} (hopen : s.initOpen y = true) (htries : 3 ≤ s.br.initTries.get 0 (4 + y)) :
    s.doInitTimeout y = s.failStage 3 { code := 0x0809, loc := { kind := 4, unit := 4 + y } } := by
  simp only [doInitTimeout, hopen, if_true, if_neg (Nat.not_lt.mpr htries)]

/-! ### Mesh lines (R320, R324) -/

/-- The BAR0 offset of a mesh direction's counter of corrected errors. -/
def ceReg (k : Nat) : Nat := sbrBase + 0x200 + 4 * k

theorem ceReg_ne_lost {k : Nat} (h : k < 8) : ceReg k ≠ mgtBase + 0x3014 := by
  unfold ceReg sbrBase mgtBase
  omega

theorem ceEpoch_countCe (s : State) (k n : Nat) : (s.countCe k n).br.ceEpoch.get 0 k = s.br.ceEpoch.get 0 k + n := by
  calc _ = ((s.bumpBy (ceReg k) n).br.ceEpoch.upd 0 k (fun m => m + n)).get 0 k := rfl
    _ = _ := by rw [bumpBy_br, Tbl.upd, Tbl.get_set_same]

/-- The line's corrected errors, where it had any, are counted. -/
def countLine (s : State) (k n : Nat) : State := if n = 0 then s else s.countCe k n

theorem countLine_spec (s : State) (k n : Nat) :
    (s.countLine k n).br.ceEpoch.get 0 k = s.br.ceEpoch.get 0 k + n ∧ (s.countLine k n).clk = s.clk ∧ (s.countLine k n).abort = s.abort ∧
      (s.countLine k n).boot.phase = s.boot.phase := by
  unfold countLine
  split
  · next h => exact ⟨by rw [h]; rfl, rfl, rfl, rfl⟩
  · exact ⟨ceEpoch_countCe s k n, (bumpBy_clk_seqs _ _ _).1, bumpBy_abort _ _ _, bumpBy_phase _ _ _⟩

theorem doMeshLine_of_active {s : State} {b : Nat} (hb : s.bridge b = .active) (rev : Bool) (n : Nat) (double : Bool) :
    s.doMeshLine b rev n double =
      if double then ((s.countLine (2 * b + b2n rev) n).bridgeDue b).abortWith 0x0805 { kind := 4, unit := b + 8 * b2n rev }
      else s.countLine (2 * b + b2n rev) n := by
  simp [doMeshLine, hb, countLine]

/-- R320: a double-bit error makes the bridge's retrain due and aborts the running epoch. -/
theorem doMeshLine_double {s : State} {b : Nat} (hb : s.bridge b = .active) (rev : Bool) (n : Nat) (hs : s.started = true) (ha : s.abort = none)
    (hp : s.clk.pauseFrom = none) :
    let t := s.doMeshLine b rev n true
    t.br.ceEpoch.get 0 (2 * b + b2n rev) = s.br.ceEpoch.get 0 (2 * b + b2n rev) + n ∧ b ∈ t.br.due ∧
      t.abort = some { epoch := s.clk.epoch, code := 0x805, start := s.clk.now } := by
  obtain ⟨hce, hclk, habort, hphase⟩ := countLine_spec s (2 * b + b2n rev) n
  rw [doMeshLine_of_active hb, if_pos rfl, abortWith]
  set u := (s.countLine (2 * b + b2n rev) n).bridgeDue b with hu
  set r := u.record 0x0805 { kind := 4, unit := b + 8 * b2n rev } with hr
  have hrs : r.started = true := by
    rw [started, hr, record_phase]
    simpa [started, hu, bridgeDue, hphase] using hs
  have hra : r.abort = none := by rw [hr, record_abort, ← ha, ← habort]; rfl
  have hrc : r.clk = s.clk := by rw [hr, (record_clk_seqs _ _ _ _).1, ← hclk]; rfl
  have hrb : r.br = u.br := by rw [hr, record_br]
  dsimp only
  rw [trigger_of_running 0x0805 hrs hra (by rw [hrc, hp]), hrc, hrb]
  exact ⟨hce, mem_added _ b, rfl⟩

/-- R324: of a bridge's two directions, one has passed 1,024 corrected errors and is not told yet. -/
theorem doMeshDue_of_one {s : State} {b : Nat} {dir : Bool} (hb : s.bridge b = .active) (hover : s.ceOver (2 * b + b2n dir) = true)
    (hother : s.ceOver (2 * b + b2n (!dir)) = false) :
    s.doMeshDue b = (State.bridgeDue { s with br := { s.br with ceTold := s.br.ceTold ++ [2 * b + b2n dir] } } b).record 0x0806
      { kind := 4, unit := b + 8 * b2n dir } := by
  have hkeys : [2 * b, 2 * b + 1].filter s.ceOver = [2 * b + b2n dir] := by
    cases dir <;> simp_all [b2n]
  have hdir : (2 * b + b2n dir) % 2 = b2n dir := by
    cases dir <;> simp [b2n]
  simp [doMeshDue, hb, hkeys, hdir]

end Sys2Proof.Machine.State
end

section
/-! The test modes of the bridges: RUN, the checker counts, and MODE (08 R352-R355; 20 R868-R870). -/

namespace Sys2Proof.Machine.State

/-! ### One bit, and one count -/

theorem bits_eq_getLsbD (s : State) (off i : Nat) : s.bits off i 1 = ((s.word off).getLsbD i).toNat :=
  (Nat.toNat_testBit _ _).symm

/-- A count of 16 bits that reads 0 in a word becomes `n` when `n` is added in its place, and `bits` of the word reads it back. -/
theorem count_added (w : Word) {n sh : Nat} (hsh : sh = 0 ∨ sh = 16) (hw : w.toNat / 2 ^ sh % 2 ^ 16 = 0) (hn : n < 65536) :
    (BitVec.ofNat 32 (w.toNat + n * 2 ^ sh)).toNat / 2 ^ sh % 2 ^ 16 = n := by
  have hlt := w.isLt
  rcases hsh with rfl | rfl <;> simp only [BitVec.toNat_ofNat] <;> omega

theorem countShift_cases (sl w : Nat) : countShift sl w = 0 ∨ countShift sl w = 16 := by
  unfold countShift
  omega

/-! ### Where the counts of a bridge stand (20 R870) -/

theorem countReg_zero (b : Nat) : countReg b 0 0 = 0x700000 + 0x8000 * b := rfl

theorem countAt_cases (b : Nat) (dir : Bool) (sl w : Nat) : countAt b dir sl w = countReg b sl w ∨ countAt b dir sl w = 0x8000000 + countReg b sl w := by
  unfold countAt
  split
  · exact .inr rfl
  · exact .inl (Nat.zero_add _)

section
variable {b sl w : Nat} (hsl : sl < 385) (hw : w < 38)
include hsl hw

theorem countReg_in_window : countReg b 0 0 ≤ countReg b sl w ∧ countReg b sl w < countReg b 0 0 + 0x8000 := by
  rw [countReg_zero, countReg, sbrBase]
  omega

variable (hb : b < 8)
include hb

/-- The counts of a bridge fill its 32 KiB of the window, in either direction. -/
theorem countAt_in_window (dir : Bool) :
    countAt b dir sl w < 0x10000000 ∧ countReg b 0 0 ≤ countAt b dir sl w % 0x8000000 ∧
      countAt b dir sl w % 0x8000000 < countReg b 0 0 + 0x8000 := by
  have hwindow := countReg_in_window (b := b) hsl hw
  rw [countReg_zero] at hwindow ⊢
  rcases countAt_cases b dir sl w with h | h <;> rw [h] <;> omega

theorem coldWord_countAt (dir : Bool) : coldWord (countAt b dir sl w) = 0#32 := by
  obtain ⟨htop, hlo, hhi⟩ := countAt_in_window hsl hw hb dir
  rw [countReg_zero] at hlo hhi
  generalize countAt b dir sl w = off at *
  rw [coldWord, hifBase, ctxBase, fabBase]
  rw [if_neg (by omega), if_neg (by omega), if_neg (by omega), if_neg (by omega), if_neg (by omega), if_neg (by omega), if_neg (by omega),
    if_neg (by omega), if_neg (by omega), if_neg (by omega)]

theorem countAt_ne_testReg (dir : Bool) {k : Nat} (hk : k < 8) : countAt b dir sl w ≠ testReg k := by
  obtain ⟨-, hlo, hhi⟩ := countAt_in_window hsl hw hb dir
  rw [countReg_zero] at hlo hhi
  rw [testReg, sbrBase]
  omega

theorem countAt_ne_lost (dir : Bool) : countAt b dir sl w ≠ mgtBase + 0x3014 := by
  obtain ⟨-, hlo, hhi⟩ := countAt_in_window hsl hw hb dir
  rw [countReg_zero] at hlo hhi
  rw [mgtBase]
  omega

end

theorem testReg_ne_lost {b : Nat} (hb : b < 8) : testReg b ≠ mgtBase + 0x3014 := by
  unfold testReg sbrBase mgtBase
  omega

/-! ### RUN (20 R869) -/

/-- The bridge's checker counts are dropped from the listed registers, so that they read their cold value. -/
def clearCounts (s : State) (b : Nat) : State :=
  { s with
    regs := s.regs.filter (fun p => !decide (countReg b 0 0 ≤ p.1 % 0x8000000 ∧ p.1 % 0x8000000 < countReg b 0 0 + 0x8000))
    br := { s.br with testEnd := s.br.testEnd.filter (fun x => x != b) } }

theorem word_clearCounts {s : State} {b sl w : Nat} (hsl : sl < 385) (hw : w < 38) (hb : b < 8) (dir : Bool) :
    (s.clearCounts b).word (countAt b dir sl w) = 0#32 := by
  have hfind := Tbl.find_filter_keys (fun k => !decide (countReg b 0 0 ≤ k % 0x8000000 ∧ k % 0x8000000 < countReg b 0 0 + 0x8000))
    (countAt b dir sl w) s.regs
  simp only [(countAt_in_window hsl hw hb dir).2, and_self, decide_true, Bool.not_true, Bool.false_eq_true, if_false] at hfind
  rw [word, clearCounts, hfind, Option.getD_none, coldWord_countAt hsl hw hb dir]

theorem testStart_of_open {s : State} {b : Nat} (hopen : s.testOpen = true) (hrun : s.testRuns b = false) :
    s.testStart b = (s.clearCounts b).setWord (testReg b) ((s.clearCounts b).word (testReg b) &&& 0xFFFEFFFF#32 ||| 0x100#32) := by
  simp only [testStart, hopen, hrun, Bool.not_false, Bool.and_self, if_true, clearCounts]

/-- RUN goes to 1: the bridge runs with ERR and every count of it at 0. -/
theorem testStart_spec {s : State} {b : Nat} (hopen : s.testOpen = true) (hrun : s.testRuns b = false) (hb : b < 8) :
    let t := s.testStart b
    t = { s with regs := t.regs, br := { s.br with testEnd := t.br.testEnd } } ∧ t.testRuns b = true ∧ t.bits (testReg b) 16 1 = 0 ∧
      ∀ d, ∀ sl < 385, ∀ w < 38, t.bits (countAt b d sl w) (countShift sl w) 16 = 0 := by
  rw [testStart_of_open hopen hrun]
  refine ⟨rfl, ?_, ?_, fun d sl hsl w hw => ?_⟩
  · simp [testRuns, bits_eq_getLsbD]
  · simp [bits_eq_getLsbD]
  · rw [bits, word_setWord_other _ _ (countAt_ne_testReg hsl hw hb d hb), word_clearCounts hsl hw hb]
    simp

/-- RUN goes to 0: the bridge leaves those that wait for their checkers' report. -/
def stopped (s : State) (b : Nat) : State := { s with br := { s.br with testEnd := s.br.testEnd.filter (fun x => x != b) } }

theorem testStop_of_none {s : State} {b : Nat} (hrun : s.testRuns b = true) :
    s.testStop b [] = (s.stopped b).setWord (testReg b) (s.word (testReg b) &&& 0xFFFFFEFF#32) := by
  simp only [testStop, hrun, Bool.true_or, if_true]
  rfl

/-- R355: the mismatches of one wire are counted, ERR is set, and the event is recorded. -/
theorem testStop_of_one {s : State} {b : Nat} {dir : Bool} {sl : Fin 385} {w : Fin 38} {bits : List Bool} (hrun : s.testRuns b = true)
    (hsl : sl.val < 256) (hn : 0 < s.mismatches b sl w bits) :
    let c := (s.stopped b).addCount b dir sl w (s.mismatches b sl w bits)
    s.testStop b [(dir, sl, w, bits)] =
      (c.setWord (testReg b) (c.word (testReg b) &&& 0xFFFFFEFF#32 ||| 0x10000#32)).record 0x080B
        { kind := 4, unit := b + (if dir && decide (b < 4) then 8 else 0), a := sl, b := w } := by
  have hexists : sliceExists b sl = true := by
    unfold sliceExists
    split
    · exact decide_eq_true hsl
    · simp [Nat.lt_trans hsl (by decide : 256 < 384)]
  have hlast : ¬ sl.val = 384 := by omega
  simp [testStop, hrun, hexists, hn, hlast, stopped]

/-- A count of 0 takes up `n` mismatches. -/
theorem bits_addCount {s : State} {b sl w n : Nat} {dir : Bool} (hzero : s.bits (countAt b dir sl w) (countShift sl w) 16 = 0) (hn : n < 65536) :
    (s.addCount b dir sl w n).bits (countAt b dir sl w) (countShift sl w) 16 = n := by
  have hmin : min (0 + n) 0xFFFF - 0 = n := by omega
  rw [addCount, hzero, hmin, bits, word_setWord_same]
  exact count_added _ (countShift_cases sl w) hzero hn

theorem testStop_of_one_spec {s : State} {b : Nat} {dir : Bool} {sl : Fin 385} {w : Fin 38} {bits : List Bool} (hrun : s.testRuns b = true)
    (hb : b < 8) (hsl : sl.val < 256) (hn : 0 < s.mismatches b sl w bits) (hzero : s.bits (countAt b dir sl w) (countShift sl w) 16 = 0)
    (hmax : s.mismatches b sl w bits < 65536) :
    let t := s.testStop b [(dir, sl, w, bits)]
    t.testRuns b = false ∧ t.bits (testReg b) 16 1 = 1 ∧ t.bits (countAt b dir sl w) (countShift sl w) 16 = s.mismatches b sl w bits := by
  rw [testStop_of_one hrun hsl hn]
  dsimp only
  set c := (s.stopped b).addCount b dir sl w (s.mismatches b sl w bits) with hc
  refine ⟨?_, ?_, ?_⟩
  · simp [testRuns, bits_eq_getLsbD, word_record_other _ _ _ _ (testReg_ne_lost hb)]
  · simp [bits_eq_getLsbD, word_record_other _ _ _ _ (testReg_ne_lost hb)]
  · rw [State.bits, word_record_other _ _ _ _ (countAt_ne_lost sl.isLt w.isLt hb dir),
      word_setWord_other _ _ (countAt_ne_testReg sl.isLt w.isLt hb dir hb)]
    exact bits_addCount (s := s.stopped b) hzero hmax

/-! ### MODE (R352) -/

theorem doAwlTest_of_open {s : State} {b : Nat} (hopen : s.testOpen = true) (hrun : s.testRuns b = false) (mode : Word) :
    s.doAwlTest b mode = (s.setWord (testReg b) (s.word (testReg b) &&& ~~~testMask ||| mode &&& testMask)).emit (.awl 0 0 0) := by
  simp [doAwlTest, hopen, testMode, hrun]

theorem doAwlTest_of_closed {s : State} {b : Nat} (hclosed : s.testOpen = false) (mode : Word) : s.doAwlTest b mode = s.emit (.awl 2 0 0) := by
  simp [doAwlTest, hclosed]

end Sys2Proof.Machine.State

namespace Sys2Proof.Claims

open Sys2Proof.Machine

theorem toNat_eq_b2n (b : Bool) : b.toNat = b2n b := by
  cases b <;> rfl

theorem answers_of_eq {c : Instr} {s t u : State} {P : State → Prop} (hexec : exec c s = .next t) (h : t = u) (hP : P u) : Answers c s P :=
  ⟨u, hexec.trans (congrArg Host.Outcome.next h), hP⟩

/-- R320, R324: lines over an active mesh bridge, and its retrain for errors that the code corrected. -/
theorem meshLines {s : State} {m : Fin 4} (hactive : s.bridge m = .active) (dir : Bool) :
    Gives (.meshLineReceive m dir ⟨0, false⟩) s s ∧
      (∀ n : Fin 33, n ≠ 0 → Answers (.meshLineReceive m dir ⟨n, false⟩) s fun t =>
        t.br.ceEpoch.get 0 (2 * m + b2n dir) = s.br.ceEpoch.get 0 (2 * m + b2n dir) + n ∧ t.abort = s.abort ∧
          t.word (State.ceReg (2 * m + b2n dir)) = BitVec.ofNat 32 (min ((s.word (State.ceReg (2 * m + b2n dir))).toNat + n) 0xFFFFFFFF)) ∧
      (s.started = true → s.abort = none → s.clk.pauseFrom = none → ∀ n, Answers (.meshLineReceive m dir ⟨n, true⟩) s fun t =>
        t.br.ceEpoch.get 0 (2 * m + b2n dir) = s.br.ceEpoch.get 0 (2 * m + b2n dir) + n ∧ m.val ∈ t.br.due ∧
          t.abort = some { epoch := s.clk.epoch, code := 0x805, start := s.clk.now }) ∧
      (s.ceOver (2 * m + b2n dir) = true → s.ceOver (2 * m + b2n (!dir)) = false → s.mgt.staging.length < 64 → s.started = true →
        Gives (.meshRetrainDue m) s { s with
          br := { s.br with
            ceTold := s.br.ceTold ++ [2 * m + b2n dir]
            due := if s.br.due.contains m.val then s.br.due else s.br.due ++ [m.val] }
          mgt := noted s 0x806 { kind := 4, unit := m + 8 * b2n dir } 0 }) := by
  refine ⟨?clean, fun n hn => ?corrected, fun hs ha hp n => ?double, fun hover hother hroom hs => ?retrain⟩
  case clean => exact congrArg Host.Outcome.next (State.doMeshLine_of_active hactive dir 0 false)
  case corrected =>
    have hn' : n.val ≠ 0 := fun h => hn (Fin.ext h)
    refine answers_of_eq rfl ((State.doMeshLine_of_active hactive dir n false).trans (if_neg hn')) ⟨?_, ?_, ?_⟩
    · exact State.ceEpoch_countCe s _ n
    · exact State.bumpBy_abort s _ n
    · exact State.word_bumpBy_same s n (State.ceReg_ne_lost (by have := m.isLt; cases dir <;> simp [b2n] <;> omega))
  case double => exact ⟨_, rfl, State.doMeshLine_double hactive dir n hs ha hp⟩
  case retrain =>
    refine congrArg Host.Outcome.next ((State.doMeshDue_of_one hactive hover hother).trans ?_)
    exact State.record_of_started _ _ hs hroom (by decide)

/-- Settles O45: each command takes the branch of its rule, and the rules of the operations give what the branch leaves. -/
theorem bridgeTrainingAndTests : Obligations.BridgeTrainingAndTests := by
  intro s b m y c dir rev mode adv failed fresh
  refine ⟨fun htrain hfree => ⟨fun hb hphase => ?passed, fun hb hphase => ?stageFailed, fun hb hphase => ?runFailed, fun hb hphase => ?chipletPassed⟩,
    fun hb hs hdown hactive => ?channel, fun hopen => ?ack, fun hopen htries => ?timeout, fun hopen htries => ?lastTimeout,
    fun hactive => ?mesh, fun hopen hrun => ⟨?runStart, ?testMode⟩, fun hclosed => ?refused, fun hrun => ⟨?stopNone, fun sl w bits => ?stopOne⟩⟩
  case passed =>
    exact answers_of_eq rfl (State.doBridge_of_mesh_passed htrain hfree hb hphase) ⟨rfl, State.bridge_setBridge_same _ _ _,
      State.not_mem_dropped _ _, State.mem_added _ _, fun k hk => State.bridge_setBridge_other _ _ hk⟩
  case stageFailed =>
    exact answers_of_eq rfl (State.doBridge_of_mesh_stage_failed htrain hfree hb hphase) (State.failStage_boot _ _ _ _)
  case runFailed =>
    exact answers_of_eq rfl (State.doBridge_of_mesh_run_failed htrain hfree hb hphase) (State.meshFailed_spec _ _ _)
  case chipletPassed =>
    have htraining : (s.beginInit b).bridge b = .training := htrain
    exact answers_of_eq rfl (State.doBridge_of_chiplet_passed htrain hfree hb hphase) ⟨rfl, htraining, Tbl.get_set_same 0 1 b.val s.br.initTries⟩
  case channel =>
    have hbridge : 4 + (b.val - 4) = b := by omega
    have hdo : s.doTraining b (some c) .passed = s.chanStart initAdv (b - 4) c := by
      rw [State.doTraining, if_pos ⟨hb, hs⟩]
      exact State.chanTrained_of_active hdown (by rw [hbridge, hactive])
    exact answers_of_eq rfl hdo ⟨rfl, State.chanDown_chanStart _ _ _ _, hactive, State.dir_chanStart _ _ _ _⟩
  case ack =>
    obtain ⟨hactive, hkept, hrev⟩ := State.acked_spec (s.startChans (adv.map fun p => (p.1.val, p.2.val)) y 32) y rev
    refine answers_of_eq rfl (State.doInitAck_of_open hopen _ _) ⟨hactive, hkept, hrev, fun k hk => ?_⟩
    simp only [fresh]
    rw [State.dir_acked, State.dir_acked]
    exact State.dir_startChans s _ y hk
  case timeout =>
    have hindex : 4 + y.val - 4 = y := Nat.add_sub_cancel_left _ _
    refine congrArg Host.Outcome.next ((State.doInitTimeout_of_tries_left hopen htries).trans ?_)
    rw [State.sendInit, hindex]
    rfl
  case lastTimeout =>
    exact answers_of_eq rfl (State.doInitTimeout_of_last_try hopen htries) (State.failStage_boot _ _ _ _)
  case mesh =>
    simp only [toNat_eq_b2n]
    exact meshLines hactive dir
  case runStart =>
    exact ⟨_, rfl, State.testStart_spec hopen hrun b.isLt⟩
  case testMode =>
    exact congrArg Host.Outcome.next (State.doAwlTest_of_open hopen hrun mode)
  case refused =>
    exact congrArg Host.Outcome.next (State.doAwlTest_of_closed hclosed mode)
  case stopNone =>
    exact congrArg Host.Outcome.next (State.testStop_of_none hrun)
  case stopOne =>
    intro n hn hzero hmax
    exact ⟨_, rfl, State.testStop_of_one_spec hrun b.isLt sl.isLt hn hzero hmax⟩

end Sys2Proof.Claims
end

section
/-! Flits of the Wn channels: sending, accepting, replay, retraining, and the loss of the standby with a feed slice (08 R329-R343, R348, R349; 16 R715). -/

namespace Sys2Proof.Machine.State

/-! ### Putting a flit on a channel (R330, R331, R336) -/

/-- The key of a channel direction of chiplet `y` (08 R329). -/
def wnKey (y c : Nat) (toYz : Bool) : Nat := 64 * y + 2 * c + b2n toYz

theorem wnKey_not_ne (y c : Nat) (toYz : Bool) : wnKey y c (!toYz) ≠ wnKey y c toYz := by
  unfold wnKey
  cases toYz <;> simp [b2n]

theorem wnKey_not_ne_first (y c : Nat) (toYz : Bool) : wnKey y c (!toYz) ≠ 64 * y + b2n toYz := by
  unfold wnKey
  cases toYz
  · simp only [b2n, Bool.not_false, if_true, Bool.false_eq_true, if_false]
    omega
  · simp only [b2n, Bool.not_true, if_true, Bool.false_eq_true, if_false]
    omega

section
variable (s : State) (y c : Nat) (toYz : Bool) (f : Flit)

theorem putFlit_frame : s.putFlit y c toYz f = { s with br := (s.putFlit y c toYz f).br, out := (s.putFlit y c toYz f).out } := by
  simp only [putFlit, setDir, emit]

theorem out_putFlit : ∃ hd, (s.putFlit y c toYz f).out = s.out ++ [Out.flit y c toYz hd f.payload] := ⟨_, rfl⟩

theorem dir_putFlit_same : (s.putFlit y c toYz f).dir (wnKey y c toYz) =
    { s.dir (wnKey y c toYz) with rotate := ((s.dir (wnKey y c toYz)).rotate + 1) % 5 } :=
  (dir_setDir_other _ _ (wnKey_not_ne y c toYz).symm).trans (dir_setDir_same s _ _)

theorem dir_putFlit_other {j : Nat} (h : j ≠ wnKey y c toYz) (h' : j ≠ wnKey y c (!toYz)) : (s.putFlit y c toYz f).dir j = s.dir j :=
  (dir_setDir_other _ _ h').trans (dir_setDir_other s _ h)

variable (d : WDir)

/-- R335, R336: a new flit of the direction `d` takes the next SEQ, is kept for replay, and waits in its turn behind a replay. -/
theorem dir_sendFlit_same : (s.sendFlit y c toYz d f).dir (wnKey y c toYz) = { d with
    seq := (d.seq + 1) % 4096, replay := d.replay ++ [{ f with seq := (d.seq + 1) % 4096 }]
    resend := if d.resend.isEmpty then [] else d.resend ++ [{ f with seq := (d.seq + 1) % 4096 }]
    rotate := (d.rotate + 1) % 5 } := by
  refine (dir_putFlit_same _ y c toYz _).trans ?_
  rw [wnKey, dir_setDir_same]

theorem dir_sendFlit_other {j : Nat} (h : j ≠ wnKey y c toYz) (h' : j ≠ wnKey y c (!toYz)) : (s.sendFlit y c toYz d f).dir j = s.dir j :=
  (dir_putFlit_other _ y c toYz _ h h').trans (dir_setDir_other s _ h)

/-- What sending leaves: only the bridges and the outputs change, and the flit's payload goes out. -/
theorem sendFlit_frame : s.sendFlit y c toYz d f = { s with br := (s.sendFlit y c toYz d f).br, out := (s.sendFlit y c toYz d f).out } :=
  putFlit_frame (s.setDir _ _) y c toYz _

theorem out_sendFlit : ∃ hd, (s.sendFlit y c toYz d f).out = s.out ++ [Out.flit y c toYz hd f.payload] := out_putFlit (s.setDir _ _) y c toYz _

end

/-! ### What a slot carries (R331) -/

section
variable {s : State} {y c : Nat} {toYz : Bool} (hruns : s.chanRuns y c = true) (hresend : (s.dir (wnKey y c toYz)).resend = [])
include hruns hresend

theorem doFlitSlot_of_stitch {f : Flit} {rest : List Flit} (hst : (s.dir (wnKey y c toYz)).stitches = f :: rest)
    (hroom : (s.dir (wnKey y c toYz)).replay.length < 64) :
    s.doFlitSlot y c toYz = s.sendFlit y c toYz { s.dir (wnKey y c toYz) with stitches := rest } f := by
  rw [wnKey] at *
  simp [doFlitSlot, hruns, hresend, hst, hroom]

variable (hst : (s.dir (wnKey y c toYz)).stitches = []) (hpk : (s.dir (wnKey y c toYz)).packets = [])
include hst hpk

theorem doFlitSlot_of_no_local (hlocal : (s.dir (64 * y + b2n toYz)).locals = []) : s.doFlitSlot y c toYz = s.putFlit y c toYz idleFlit := by
  rw [wnKey] at *
  simp [doFlitSlot, hruns, hresend, hst, hpk, sendLocal, hlocal]

theorem doFlitSlot_of_local (hopen : s.slotReserved y c toYz = false) : s.doFlitSlot y c toYz = s.sendLocal y c toYz := by
  rw [wnKey] at *
  simp [doFlitSlot, hruns, hresend, hst, hpk, hopen]

end

/-- A channel takes the oldest LOCAL flit of its direction, and the turn passes behind it. -/
def takeLocal (s : State) (y c : Nat) (toYz : Bool) (rest : List Flit) : State :=
  let s1 := s.setDir (64 * y + b2n toYz) { s.dir (64 * y + b2n toYz) with locals := rest }
  { s1 with br := { s1.br with localTurn := s1.br.localTurn.set 31 (2 * y + b2n toYz) c } }

theorem takeLocal_frame (s : State) (y c : Nat) (toYz : Bool) (rest : List Flit) :
    s.takeLocal y c toYz rest = { s with br := (s.takeLocal y c toYz rest).br } := rfl

theorem sendLocal_of_turn {s : State} {y c : Nat} {toYz : Bool} {f : Flit} {rest : List Flit} (hturn : s.localNext y toYz = some c)
    (hlocal : (s.dir (64 * y + b2n toYz)).locals = f :: rest) :
    s.sendLocal y c toYz =
      (s.takeLocal y c toYz rest).sendFlit y c toYz (useCredit ((s.takeLocal y c toYz rest).dir (wnKey y c toYz)) 4 true) f := by
  simp only [sendLocal, hlocal, hturn, if_true]
  rfl

/-- Taking a LOCAL flit reaches no other part of a direction than its list of LOCAL flits, which the direction of channel 0 holds. -/
theorem dir_takeLocal (s : State) (y c : Nat) (toYz : Bool) (rest : List Flit) (j : Nat) :
    (s.takeLocal y c toYz rest).dir j = if j = 64 * y + b2n toYz then { s.dir j with locals := rest } else s.dir j := by
  split
  · next h => rw [h]; exact dir_setDir_same s _ _
  · next h => exact dir_setDir_other s _ h

/-- R331, R336: the LOCAL flit is sent on the channel whose turn it is. -/
theorem sendLocal_spec {s : State} {y c : Nat} {toYz : Bool} {f : Flit} {rest : List Flit} (hturn : s.localNext y toYz = some c)
    (hlocal : (s.dir (64 * y + b2n toYz)).locals = f :: rest) :
    let d := s.dir (wnKey y c toYz)
    let t := s.sendLocal y c toYz
    t = { s with br := t.br, out := t.out } ∧ (t.dir (64 * y + b2n toYz)).locals = rest ∧
      (t.dir (wnKey y c toYz)).seq = (d.seq + 1) % 4096 ∧
      (t.dir (wnKey y c toYz)).replay = d.replay ++ [{ f with seq := (d.seq + 1) % 4096 }] ∧
      ∃ hd, t.out = s.out ++ [Out.flit y c toYz hd f.payload] := by
  have hframe := takeLocal_frame s y c toYz rest
  have htaken := dir_takeLocal s y c toYz rest
  rw [sendLocal_of_turn hturn hlocal]
  generalize s.takeLocal y c toYz rest = u at hframe htaken ⊢
  have hout : u.out = s.out := by rw [hframe]
  have hsame := dir_sendFlit_same u y c toYz f (useCredit (u.dir (wnKey y c toYz)) 4 true)
  have hkept : (u.dir (wnKey y c toYz)).seq = (s.dir (wnKey y c toYz)).seq ∧ (u.dir (wnKey y c toYz)).replay = (s.dir (wnKey y c toYz)).replay := by
    rw [htaken]
    split <;> exact ⟨rfl, rfl⟩
  refine ⟨(sendFlit_frame u y c toYz f _).trans (by rw [hframe]), ?_, ?_, ?_, hout ▸ out_sendFlit u y c toYz f _⟩
  · by_cases hfirst : 64 * y + b2n toYz = wnKey y c toYz
    · rw [hfirst, hsame]
      simp only [useCredit, htaken, hfirst, if_true]
    · rw [dir_sendFlit_other u y c toYz f _ hfirst (wnKey_not_ne_first y c toYz).symm, htaken, if_pos rfl]
  · rw [hsame]
    simp only [useCredit, hkept.1]
  · rw [hsame]
    simp only [useCredit, hkept.1, hkept.2]

/-! ### Stitches that are released (R339) -/

theorem doStitchRelease_of_inSched {s : State} {l : Nat} {x : StitchSlot} (hx : (s.stitchList l true)[(s.lkk l).released]? = some x)
    (hepoch : s.inEpoch = true) (hstop : s.notStopped = true) (hslot : gridBefore (wnGrid s.fuse.variant) (x.cycle - 101) ≤ s.clk.cycle)
    (hst : (s.lkk l).st = .inSched) (body : BitVec 2048) :
    s.doStitchRelease l body = (s.setLkk l { s.lkk l with released := (s.lkk l).released + 1 }).setDir (chanKey l true)
      { s.dir (chanKey l true) with
        stitches := (s.dir (chanKey l true)).stitches ++
          [{ idleFlit with kind := 1, par := s.clk.epoch % 2 == 1, addr := x.cycle % 2 ^ 26, payload := body }] } := by
  simp only [doStitchRelease, hx, hepoch, hstop, decide_eq_true hslot, Bool.and_self, if_true, hst]
  rfl

/-! ### Flits that arrive (R335-R340) -/

theorem startReplay_of_kept {s : State} {k : Nat} (h : (s.dir k).replay ≠ []) :
    s.startReplay k = s.setDir k { s.dir k with resend := (s.dir k).replay } := by
  simp [startReplay, h]

theorem startReplay_frame (s : State) (k : Nat) : s.startReplay k = { s with br := (s.startReplay k).br } := by
  unfold startReplay
  dsimp only
  split <;> rfl

theorem dir_startReplay_other (s : State) {j k : Nat} (h : j ≠ k) : (s.startReplay k).dir j = s.dir j := by
  unfold startReplay
  dsimp only
  split
  · rfl
  · exact dir_setDir_other s _ h

/-- R330: the fields of a good flit act on the bridges alone. -/
theorem applyAck_frame (s : State) (rk : Nat) (h : BitVec 256) : s.applyAck rk h = { s with br := (s.applyAck rk h).br } := by
  unfold applyAck
  dsimp only
  split
  · exact startReplay_frame _ _
  · rfl

/-- R330, R335: they act on the sender of the direction opposite to the flit's own. -/
theorem dir_applyAck_other (s : State) {k rk : Nat} (h : BitVec 256) (hk : k ≠ rk) : (s.applyAck rk h).dir k = s.dir k := by
  unfold applyAck
  dsimp only
  split
  · exact (dir_startReplay_other _ hk).trans (dir_setDir_other s _ hk)
  · exact dir_setDir_other s _ hk

theorem doFlitReceive_of_bad {s : State} {y c : Nat} {toYz : Bool} {h : BitVec 256} {body : BitVec 2048} (hruns : s.chanRuns y c = true)
    (hkind : hField h 0 2 = 1) (hcrc : flitCrc (h.toNat % 2 ^ 224) body ≠ hField h 224 32) :
    s.doFlitReceive y c toYz h body = s.setDir (wnKey y c toYz) { s.dir (wnKey y c toYz) with nak := true } := by
  simp [doFlitReceive, hruns, hcrc, hkind, wnKey, -Nat.reducePow]

/-- R335: a stitch flit in order. -/
theorem doFlitReceive_of_stitch {s : State} {y c : Nat} {toYz : Bool} {h : BitVec 256} {body : BitVec 2048} (hruns : s.chanRuns y c = true)
    (hkind : hField h 0 2 = 1) (hcrc : flitCrc (h.toNat % 2 ^ 224) body = hField h 224 32)
    (horder : wrapDiff 12 (hField h 16 12) (s.dir (wnKey y c toYz)).expect = 0) :
    s.doFlitReceive y c toYz h body = (s.applyAck (wnKey y c (!toYz)) h).acceptFlit y c toYz h body := by
  have hdir := dir_applyAck_other s h (wnKey_not_ne y c toYz).symm
  rw [← hdir] at horder
  rw [wnKey, wnKey] at *
  simp [doFlitReceive, hruns, hcrc, hkind, horder, -Nat.reducePow]

theorem dir_setLkk (s : State) (l : Nat) (x : LinkLk) (k : Nat) : (s.setLkk l x).dir k = s.dir k := rfl

/-- R339, R340: a stitch that is accepted toward a chiplet is ready at its link. -/
theorem acceptFlit_of_stitch {s : State} {y c : Nat} {h : BitVec 256} {body : BitVec 2048} (hkind : hField h 0 2 = 1)
    (hst : (s.lkk (32 * y + c)).st = .inSched) (hstop : s.notStopped = true) (hpoison : (s.lkk (32 * y + c)).poison = []) :
    s.acceptFlit y c true h body =
      (s.setDir (wnKey y c true) { s.dir (wnKey y c true) with expect := ((s.dir (wnKey y c true)).expect + 1) % 4096 }).setLkk (32 * y + c)
        { s.lkk (32 * y + c) with ready := (s.lkk (32 * y + c)).ready ++ [body] } := by
  unfold lkk notStopped at *
  simp [acceptFlit, yzStitch, hkind, lkk, notStopped, setDir, hst, hstop, hpoison, wnKey]

/-! ### Retrains (R342; 10 R424, R459) -/

/-- R424: a link that leaves training or service is in OFF or DETECT. -/
theorem lnDetect_down (s : State) (l : Nat) (held duty : Bool) : (s.lnDetect l held duty).linkUp l = false := by
  have hlnk : ∃ x : LinkLn, (s.lnDetect l held duty).lnk l = x ∧ x.st ≠ .active := by
    refine ⟨_, lnk_setLnk_same _ _ _, ?_⟩
    dsimp only
    split <;> decide
  obtain ⟨x, hx, hst⟩ := hlnk
  rw [linkUp, hx]
  exact beq_false_of_ne hst

/-- R459: a link that goes down is up no more. -/
theorem linkDown_down (s : State) (l : Nat) (held duty : Bool) : (s.linkDown l held duty).linkUp l = false := by
  unfold linkDown
  split
  · next h => simp [linkUp, h]
  · next h =>
    split
    · exact lnDetect_down _ _ _ _
    · simp [linkUp, h]
  · exact lnDetect_down _ _ _ _

theorem chanDown_setBridge (s : State) (b : Nat) (x : BridgeState) (y c : Nat) : (s.setBridge b x).chanDown y c = s.chanDown y c := rfl
theorem linkUp_setBridge (s : State) (b : Nat) (x : BridgeState) (l : Nat) : (s.setBridge b x).linkUp l = s.linkUp l := rfl
theorem linkUp_setDir (s : State) (k : Nat) (x : WDir) (l : Nat) : (s.setDir k x).linkUp l = s.linkUp l := rfl
theorem linkUp_forgetWn (s : State) (k l : Nat) : (s.forgetWn k).linkUp l = s.linkUp l := rfl

theorem chanDown_setDir_of_down (s : State) (y c : Nat) {x : WDir} (h : x.down = true) : (s.setDir (64 * y + 2 * c + 1) x).chanDown y c = true := by
  rw [chanDown_eq, dir_setDir_same, h, Bool.or_true]

/-- R342: a channel that retrains is down, and its link with it. -/
theorem chanRetrain_spec (s : State) (y c code : Nat) :
    (s.chanRetrain y c code).chanDown y c = true ∧ (s.chanRetrain y c code).linkUp (32 * y + c) = false := by
  have hdown := linkDown_down (s.record code (wnLoc y c)) (32 * y + c) false false
  unfold chanRetrain
  dsimp only
  split
  · rw [chanDown_setBridge, chanDown_setDir_of_down _ _ _ rfl, linkUp_setBridge, linkUp_setDir, linkUp_setDir, linkUp_forgetWn]
    exact ⟨rfl, hdown⟩
  · rw [chanDown_setDir_of_down _ _ _ rfl, linkUp_setDir, linkUp_setDir, linkUp_forgetWn]
    exact ⟨rfl, hdown⟩

theorem doFlitExhausted_of_tries {s : State} {y c : Nat} {toYz : Bool} (hruns : s.chanRuns y c = true)
    (htries : 8 ≤ (s.dir (wnKey y c toYz)).tries) : s.doFlitExhausted y c toYz = s.chanRetrain y c 0x0807 := by
  rw [wnKey] at htries
  simp [doFlitExhausted, hruns, htries]

/-! ### The feed (08 R349; 16 R715) -/

theorem loseStandby_of_inStep {s : State} (h : s.shk.standby = .inStep) :
    s.loseStandby.shk.standby = .resync ∧ s.loseStandby.shk.lostSince = s.clk.now ∧ s.loseStandby.br = s.br := by
  unfold loseStandby
  rw [h]
  exact ⟨rfl, rfl, rfl⟩

theorem doFeedFailure_spec {s : State} (slice : Nat) (hruns : s.shanksRun = true) (h : s.shk.standby = .inStep) :
    let t := s.doFeedFailure slice
    t.shk.standby = .resync ∧ t.shk.lostSince = s.clk.now ∧ t.br.feedOk = s.br.feedOk.set slice false := by
  simp only [doFeedFailure, hruns, Bool.not_true, Bool.false_eq_true, if_false]
  set u := State.record { s with br := { s.br with feedOk := s.br.feedOk.set slice false } } 0x080A { kind := 4, unit := slice, a := 0xFFFF } with hu
  have hstandby : u.shk.standby = .inStep := by rw [hu, record_standby, h]
  obtain ⟨hresync, hsince, hbr⟩ := loseStandby_of_inStep hstandby
  refine ⟨hresync, hsince.trans ?_, ?_⟩
  · rw [hu, (record_clk_seqs _ _ _ _).1]
  · rw [hbr, hu, record_br]

end Sys2Proof.Machine.State

namespace Sys2Proof.Claims

open Sys2Proof.Machine Sys2Proof.Machine.State

/-! ### The slots and the flits that arrive, as the commands answer -/

section
variable {s : State} {y : Fin 4} {c : Fin 32} {toYz : Bool}

theorem flitSlot_stitch (hruns : s.chanRuns y c = true) {f : Flit} {rest : List Flit} (hresend : (s.dir (wnKey y c toYz)).resend = [])
    (hst : (s.dir (wnKey y c toYz)).stitches = f :: rest) (hroom : (s.dir (wnKey y c toYz)).replay.length < 64) :
    let k := wnKey y c toYz
    let d := s.dir k
    Answers (.flitSlot y c toYz) s fun t => t = { s with br := t.br, out := t.out } ∧ (t.dir k).stitches = rest ∧
      (t.dir k).seq = (d.seq + 1) % 4096 ∧ (t.dir k).replay = d.replay ++ [{ f with seq := (d.seq + 1) % 4096 }] ∧
      ∃ hd, t.out = s.out ++ [Out.flit y c toYz hd f.payload] := by
  refine answers_of_eq rfl (doFlitSlot_of_stitch hruns hresend hst hroom) ⟨sendFlit_frame _ _ _ _ _ _, ?_, ?_, ?_, out_sendFlit _ _ _ _ _ _⟩
    <;> rw [dir_sendFlit_same]

theorem flitSlot_idle (hruns : s.chanRuns y c = true) (hresend : (s.dir (wnKey y c toYz)).resend = [])
    (hst : (s.dir (wnKey y c toYz)).stitches = []) (hpk : (s.dir (wnKey y c toYz)).packets = []) (hlocal : (s.dir (64 * y + b2n toYz)).locals = []) :
    Answers (.flitSlot y c toYz) s fun t => t = { s with br := t.br, out := t.out } ∧
      (t.dir (wnKey y c toYz)).replay = (s.dir (wnKey y c toYz)).replay ∧ ∃ hd, t.out = s.out ++ [Out.flit y c toYz hd 0#2048] := by
  refine answers_of_eq rfl (doFlitSlot_of_no_local hruns hresend hst hpk hlocal) ⟨putFlit_frame _ _ _ _ _, ?_, out_putFlit _ _ _ _ idleFlit⟩
  rw [dir_putFlit_same]

theorem flitSlot_local (hruns : s.chanRuns y c = true) {f : Flit} {rest : List Flit} (hresend : (s.dir (wnKey y c toYz)).resend = [])
    (hst : (s.dir (wnKey y c toYz)).stitches = []) (hpk : (s.dir (wnKey y c toYz)).packets = []) (hopen : s.slotReserved y c toYz = false)
    (hturn : s.localNext y toYz = some c.val) (hlocal : (s.dir (64 * y + b2n toYz)).locals = f :: rest) :
    let k := wnKey y c toYz
    let d := s.dir k
    Answers (.flitSlot y c toYz) s fun t => t = { s with br := t.br, out := t.out } ∧ (t.dir (64 * y + b2n toYz)).locals = rest ∧
      (t.dir k).seq = (d.seq + 1) % 4096 ∧ (t.dir k).replay = d.replay ++ [{ f with seq := (d.seq + 1) % 4096 }] ∧
      ∃ hd, t.out = s.out ++ [Out.flit y c toYz hd f.payload] :=
  answers_of_eq rfl (doFlitSlot_of_local hruns hresend hst hpk hopen) (sendLocal_spec hturn hlocal)

theorem flitReceive_stitch (hruns : s.chanRuns y c = true) {h : BitVec 256} {body : BitVec 2048} (hkind : hField h 0 2 = 1)
    (horder : wrapDiff 12 (hField h 16 12) (s.dir (wnKey y c true)).expect = 0) (hst : (s.lkk (32 * y + c)).st = .inSched)
    (hstop : s.notStopped = true) (hpoison : (s.lkk (32 * y + c)).poison = []) :
    let k := wnKey y c true
    let d := s.dir k
    let r := s.lkk (32 * y + c)
    Answers (.flitReceive y c true h body) s fun t =>
      if flitCrc (h.toNat % 2 ^ 224) body = hField h 224 32 then
        t.lkk (32 * y + c) = { r with ready := r.ready ++ [body] } ∧ (t.dir k).expect = (d.expect + 1) % 4096 ∧ (t.dir k).nak = d.nak
      else t.lkk (32 * y + c) = r ∧ t.dir k = { d with nak := true } := by
  intro k d r
  by_cases hcrc : flitCrc (h.toNat % 2 ^ 224) body = hField h 224 32
  case neg =>
    refine answers_of_eq rfl (doFlitReceive_of_bad hruns hkind hcrc) ?_
    rw [if_neg hcrc]
    exact ⟨rfl, dir_setDir_same s _ _⟩
  case pos =>
    have hacked := applyAck_frame s (wnKey y c (!true)) h
    have hdir := dir_applyAck_other s h (wnKey_not_ne y c true).symm
    have hdo := doFlitReceive_of_stitch hruns hkind hcrc horder
    generalize s.applyAck (wnKey y c (!true)) h = u at hacked hdir hdo
    have hlkk : u.lkk (32 * y + c) = r := by rw [hacked]; rfl
    have hnot : u.notStopped = true := by rw [hacked]; exact hstop
    rw [acceptFlit_of_stitch hkind (by rw [hlkk, hst]) hnot (by rw [hlkk, hpoison]), hlkk, hdir] at hdo
    refine answers_of_eq rfl hdo ?_
    rw [if_pos hcrc]
    refine ⟨lkk_setLkk_same _ _ _, ?_⟩
    rw [dir_setLkk, dir_setDir_same]
    exact ⟨rfl, rfl⟩

end

/-- Settles O46: each command takes the branch of its rule, and the rules of sending and accepting give what the branch leaves. -/
theorem wnFlits : Obligations.WnFlits := by
  intro s l y c toYz body h slice
  simp only [toNat_eq_b2n]
  refine ⟨fun x hx hepoch hstop hslot hst => ?release, fun hruns => ⟨fun f rest hresend hst hroom => ?stitch, fun hresend hst hpk hlocal => ?idle,
    fun f rest hresend hst hpk hopen hturn hlocal => ?localFlit, fun htoYz hkind horder hst hstop hpoison => ?receive, fun hkept => ?timeout,
    fun htries => ?exhausted⟩, fun hruns hstandby => ?feed⟩
  case release => exact congrArg Host.Outcome.next (doStitchRelease_of_inSched hx hepoch hstop hslot hst body)
  case stitch => exact flitSlot_stitch hruns hresend hst hroom
  case idle => exact flitSlot_idle hruns hresend hst hpk hlocal
  case localFlit => exact flitSlot_local hruns hresend hst hpk hopen hturn hlocal
  case receive =>
    subst htoYz
    exact flitReceive_stitch hruns hkind horder hst hstop hpoison
  case timeout =>
    exact congrArg Host.Outcome.next ((if_pos hruns).trans (startReplay_of_kept hkept))
  case exhausted =>
    exact answers_of_eq rfl (doFlitExhausted_of_tries hruns htries) (chanRetrain_spec s y c 0x0807)
  case feed => exact ⟨_, rfl, doFeedFailure_spec slice hruns hstandby⟩

end Sys2Proof.Claims
end

section
/-! What a record, a counter and the requests of planned moves leave as it was in optics, lanes and links (10 R454, R458; 18 R795; 19 R829), and loops
over numbered parts of the package. -/

namespace Sys2Proof.Machine

/-- A loop over the numbers below `n` whose step `i` keeps `I`, finds part `i` as it was, brings it to `P i` and leaves every other part. -/
theorem foldl_range_each {β σ : Type} {f : β → Nat → β} (part : β → Nat → σ) (I : β → Prop) (P : Nat → σ → Prop) {b : β} {n : Nat} (hb : I b)
    (hstep : ∀ a, I a → ∀ i < n, part a i = part b i → I (f a i) ∧ P i (part (f a i) i) ∧ ∀ j, j ≠ i → part (f a i) j = part a j) :
    I ((List.range n).foldl f b) ∧ ∀ i < n, P i (part ((List.range n).foldl f b) i) := by
  have hloop : ∀ m ≤ n, I ((List.range m).foldl f b) ∧ (∀ i < m, P i (part ((List.range m).foldl f b) i)) ∧
      ∀ j, m ≤ j → part ((List.range m).foldl f b) j = part b j := by
    intro m
    induction m with
    | zero => exact fun _ => ⟨hb, fun _ h => absurd h (Nat.not_lt_zero _), fun _ _ => rfl⟩
    | succ m ih =>
      intro hm
      obtain ⟨hkeep, hdone, hlater⟩ := ih (Nat.le_of_succ_le hm)
      obtain ⟨hkeep', hnew, hother⟩ := hstep _ hkeep m hm (hlater m (Nat.le_refl m))
      rw [List.range_succ, List.foldl_concat]
      refine ⟨hkeep', fun i hi => ?_, fun j hj => ?_⟩
      · rcases Nat.lt_succ_iff_lt_or_eq.mp hi with hlt | rfl
        · rw [hother i (Nat.ne_of_lt hlt)]
          exact hdone i hlt
        · exact hnew
      · rw [hother j (Nat.ne_of_gt hj), hlater j (Nat.le_of_succ_le hj)]
  obtain ⟨hkeep, hdone, -⟩ := hloop n (Nat.le_refl n)
  exact ⟨hkeep, hdone⟩

namespace State

/-! ### Events and counters -/

section
variable (s : State) (code : Nat) (loc : Loc) (detail : Nat)

@[simp] theorem record_opt : (s.record code loc detail).opt = s.opt := by rw [record_frame]
@[simp] theorem record_ln : (s.record code loc detail).ln = s.ln := by rw [record_frame]
@[simp] theorem record_lk : (s.record code loc detail).lk = s.lk := by rw [record_frame]
@[simp] theorem record_mem : (s.record code loc detail).mem = s.mem := by rw [record_frame]

end

section
variable (s : State) (off : Nat)

/-- A counter reaches its own register word, and what a record reaches. -/
theorem bump_frame : s.bump off = { s with
    regs := (s.bump off).regs, mgt := (s.bump off).mgt
    boot := { s.boot with cur := (s.bump off).boot.cur }
    shk := { s.shk with lastCode := (s.bump off).shk.lastCode } } := by
  unfold bump
  rcases bumpBy_cases s off 1 with h | h
  · rw [h]
    rfl
  · rw [h, record_frame]
    rfl

@[simp] theorem bump_opt : (s.bump off).opt = s.opt := by rw [bump_frame]
@[simp] theorem bump_ln : (s.bump off).ln = s.ln := by rw [bump_frame]
@[simp] theorem bump_lk : (s.bump off).lk = s.lk := by rw [bump_frame]
@[simp] theorem bump_mem : (s.bump off).mem = s.mem := by rw [bump_frame]
@[simp] theorem bump_tiles : (s.bump off).tiles = s.tiles := by rw [bump_frame]
@[simp] theorem bump_abort : (s.bump off).abort = s.abort := by rw [bump_frame]

theorem word_bump_same {off : Nat} (h : off ≠ mgtBase + 0x3014) :
    (s.bump off).word off = BitVec.ofNat 32 (min ((s.word off).toNat + 1) 0xFFFFFFFF) := word_bumpBy_same s 1 h

theorem word_bump_other {off o : Nat} (h : o ≠ off) (h' : o ≠ mgtBase + 0x3014) : (s.bump off).word o = s.word o := by
  unfold bump
  rcases bumpBy_cases s off 1 with hb | hb <;> rw [hb]
  · exact word_setWord_other _ _ h
  · rw [word_record_other _ _ _ _ h', word_setWord_other _ _ h]

end

/-! ### Reading back -/

@[simp] theorem chOf_setCh_same (s : State) (x : Nat) (c : Channel) : (s.setCh x c).chOf x = c := Tbl.get_set_same _ _ _ _
theorem chOf_setCh_other (s : State) {j x : Nat} (c : Channel) (h : j ≠ x) : (s.setCh x c).chOf j = s.chOf j := Tbl.get_set_other _ _ _ h _
@[simp] theorem ringOf_setRingH_same (s : State) (k : Nat) (r : RingH) : (s.setRingH k r).ringOf k = r := Tbl.get_set_same _ _ _ _
theorem ringOf_setRingH_other (s : State) {j k : Nat} (r : RingH) (h : j ≠ k) : (s.setRingH k r).ringOf j = s.ringOf j := Tbl.get_set_other _ _ _ h _
@[simp] theorem laneCal_setLaneCal_same (s : State) (l k : Nat) (x : LaneCal) : (s.setLaneCal l k x).laneCal l k = x := Tbl.get_set_same _ _ _ _
@[simp] theorem calGroup_setCalGroup_same (s : State) (g : Nat) (x : CalGroup) : (s.setCalGroup g x).calGroup g = x := Tbl.get_set_same _ _ _ _

/-! ### Planned moves that are asked for (R454, R458) -/

/-- Only the moves of links, asked for and waiting, differ. -/
def MovesAsked (s t : State) : Prop :=
  t = { s with ln := t.ln } ∧ ∀ j, t.lnk j = { s.lnk j with txMove := (t.lnk j).txMove, want := (t.lnk j).want }

theorem MovesAsked.refl (s : State) : MovesAsked s s := ⟨rfl, fun _ => rfl⟩

theorem MovesAsked.trans {s t u : State} (h : MovesAsked s t) (h' : MovesAsked t u) : MovesAsked s u := by
  obtain ⟨hframe, hlnk⟩ := h
  obtain ⟨hframe', hlnk'⟩ := h'
  refine ⟨?_, fun j => ?_⟩
  · rw [hframe', hframe]
  · rw [hlnk' j, hlnk j]

theorem movesAsked_setLnk (s : State) (l : Nat) (m : Option Move) (w : List (Nat × Bool)) :
    MovesAsked s (s.setLnk l { s.lnk l with txMove := m, want := w }) := by
  refine ⟨rfl, fun j => ?_⟩
  by_cases hj : j = l
  · rw [hj, lnk_setLnk_same]
  · rw [lnk_setLnk_other _ _ hj]

theorem requestMove_asks (s : State) (l j : Nat) (back : Bool) : MovesAsked s (s.requestMove l j back) := by
  unfold requestMove
  extract_lets r there asked
  split
  · exact .refl s
  · split
    · exact movesAsked_setLnk s l _ _
    · exact movesAsked_setLnk s l _ _

theorem requestMoves_ask (back : Bool) : ∀ (ps : List (Nat × Nat)) (s : State),
    MovesAsked s (ps.foldl (fun (s : State) p => s.requestMove p.1 p.2 back) s)
  | [], s => .refl s
  | p :: ps, s => (requestMove_asks s p.1 p.2 back).trans (requestMoves_ask back ps _)

end State

end Sys2Proof.Machine
end

section
/-! The lasers of a channel: failures, spares, retries, exchanges and bias ranges (09 R362-R372). -/

namespace Sys2Proof.Machine.State

/-! ### One channel changes -/

/-- Channel `x` becomes `c`; every other channel, memory, the tiles, the link layer and an abort stand. -/
def ChannelBecomes (s t : State) (x : Nat) (c : Channel) : Prop :=
  t.chOf x = c ∧ (∀ j, j ≠ x → t.chOf j = s.chOf j) ∧ t.mem = s.mem ∧ t.tiles = s.tiles ∧ t.lk = s.lk ∧ t.abort = s.abort

/-- Channel `x` becomes `c`, and the links' lanes stand too. -/
def ChannelSet (s t : State) (x : Nat) (c : Channel) : Prop := ChannelBecomes s t x c ∧ t.ln = s.ln

theorem setCh_sets (s : State) (x : Nat) (c : Channel) : ChannelSet s (s.setCh x c) x c :=
  ⟨⟨chOf_setCh_same _ _ _, fun _ h => chOf_setCh_other _ _ h, rfl, rfl, rfl, rfl⟩, rfl⟩

theorem ChannelSet.refl (s : State) (x : Nat) : ChannelSet s s x (s.chOf x) := ⟨⟨rfl, fun _ _ => rfl, rfl, rfl, rfl, rfl⟩, rfl⟩

theorem ChannelBecomes.trans {s t u : State} {x : Nat} {c c' : Channel} (h : ChannelBecomes s t x c) (h' : ChannelBecomes t u x c') :
    ChannelBecomes s u x c' := by
  obtain ⟨-, hother, hmem, htiles, hlk, habort⟩ := h
  obtain ⟨hch, hother', hmem', htiles', hlk', habort'⟩ := h'
  exact ⟨hch, fun j hj => (hother' j hj).trans (hother j hj), hmem'.trans hmem, htiles'.trans htiles, hlk'.trans hlk, habort'.trans habort⟩

section
variable {s t : State} {x : Nat} {c : Channel} (h : ChannelSet s t x c)
include h

theorem ChannelSet.chOf_same : t.chOf x = c := h.1.1

theorem ChannelSet.chOf_other {j : Nat} (hj : j ≠ x) : t.chOf j = s.chOf j := h.1.2.1 j hj

theorem ChannelSet.trans {u : State} {c' : Channel} (h' : ChannelSet t u x c') : ChannelSet s u x c' := ⟨h.1.trans h'.1, h'.2.trans h.2⟩

theorem ChannelSet.setCh (c' : Channel) : ChannelSet s (t.setCh x c') x c' := h.trans (setCh_sets t x c')

/-- What leaves the channels and the other parts as they were may follow. -/
theorem ChannelSet.andThen {u : State} (hch : u.opt.channels = t.opt.channels) (hmem : u.mem = t.mem) (htiles : u.tiles = t.tiles)
    (hlk : u.lk = t.lk) (habort : u.abort = t.abort) (hln : u.ln = t.ln) : ChannelSet s u x c := by
  have hchOf : u.chOf = t.chOf := by funext j; rw [chOf, chOf, hch]
  exact h.trans ⟨⟨(congrFun hchOf x).trans h.chOf_same, fun j _ => congrFun hchOf j, hmem, htiles, hlk, habort⟩, hln⟩

theorem ChannelSet.record (code : Nat) (loc : Loc) (detail : Nat) : ChannelSet s (t.record code loc detail) x c :=
  h.andThen (by rw [record_opt]) (record_mem _ _ _ _) (record_tiles _ _ _ _) (record_lk _ _ _ _) (record_abort _ _ _ _) (record_ln _ _ _ _)

theorem ChannelSet.bump (off : Nat) : ChannelSet s (t.bump off) x c :=
  h.andThen (by rw [bump_opt]) (bump_mem _ _) (bump_tiles _ _) (bump_lk _ _) (bump_abort _ _) (bump_ln _ _)

end

/-- R365: the check of the new light concerns the lanes alone. -/
theorem startCheck_frame (s : State) (y g k : Nat) : s.startCheck y g k = { s with opt := { s.opt with lanes := (s.startCheck y g k).opt.lanes } } := by
  unfold startCheck
  generalize s.activeLinks y g = ls
  induction ls generalizing s with
  | nil => rfl
  | cons l ls ih =>
    rw [List.foldl_cons, ih]
    rfl

theorem ChannelSet.startCheck {s t : State} {x : Nat} {c : Channel} (h : ChannelSet s t x c) (y g k : Nat) : ChannelSet s (t.startCheck y g k) x c := by
  have hframe := startCheck_frame t y g k
  exact h.andThen (by rw [hframe]) (by rw [hframe]) (by rw [hframe]) (by rw [hframe]) (by rw [hframe]) (by rw [hframe])

/-! ### Taking and losing a channel (R364, R372) -/

section
variable {s t : State} {y g k : Nat} {c : Channel} (h : ChannelSet s t (chanOf y g k) c)
include h

theorem ChannelSet.takeover : ChannelSet s (t.takeover y g k) (chanOf y g k)
    { c with cross := true, spare := .bus, lost := false, exchange := none, stage := .waiting } := by
  simp only [State.takeover, h.chOf_same]
  exact ((h.setCh _).bump _).startCheck y g k

theorem ChannelSet.loseChannel : ChannelSet s (t.loseChannel y g k) (chanOf y g k) { c with lost := true } := by
  simp only [State.loseChannel, h.chOf_same]
  exact (h.setCh _).record _ _ _

theorem ChannelSet.spareUp : ChannelSet s (t.spareUp (chanOf y g k)) (chanOf y g k)
    { c with spare := .bringup, spareBias := t.biasNow (chanOf y g k) true c.spareHi } := by
  simp only [State.spareUp, h.chOf_same]
  exact h.setCh _

end

/-! ### Failures (R363, R364, R372) -/

/-- A channel whose primary has failed, and where its spare is not asked yet. -/
def primaryFailed (c : Channel) : Channel := { c with primary := .failed, primaryBias := {}, hiDue := false, exchange := none, stage := .waiting }

/-- The failure of a primary is recorded, and its bias is off. -/
def primaryOff (s : State) (y g k : Nat) (cause : LaserFault) : State :=
  (s.record (if cause = .wavelength then 0x090E else 0x0901) (laserLoc y g k)).setCh (chanOf y g k) (primaryFailed (s.chOf (chanOf y g k)))

/-- R362: the codes of a laser in one moment do not depend on the state's other parts. -/
theorem biasNow_of_clk {s t : State} (h : t.clk = s.clk) : t.biasNow = s.biasNow := by
  funext x spare hi
  rw [biasNow, biasNow, h]

theorem setCh_biasNow (s : State) (x : Nat) (c : Channel) : (s.setCh x c).biasNow = s.biasNow := rfl

section
variable (s : State) (y g k : Nat) (cause : LaserFault)

theorem primaryOff_sets : ChannelSet s (s.primaryOff y g k cause) (chanOf y g k) (primaryFailed (s.chOf (chanOf y g k))) :=
  ((ChannelSet.refl s _).record _ _ _).setCh _

theorem primaryOff_biasNow : (s.primaryOff y g k cause).biasNow = s.biasNow := biasNow_of_clk (record_clk_seqs _ _ _ _).1

end

/-- R363: a primary on the bus, or one lit in the enable sequence, fails and leaves its channel to the spare as it stands. -/
theorem doLaserFailure_of_primary {s : State} {y g k : Nat} (cause : LaserFault)
    (hp : (s.chOf (chanOf y g k)).primary = .bus ∨ ((s.chOf (chanOf y g k)).primary = .dark ∧ s.opt.enable = .running)) :
    let s1 := s.primaryOff y g k cause
    ((s.chOf (chanOf y g k)).spare = .dark → s.doLaserFailure y g k false cause = s1.spareUp (chanOf y g k)) ∧
      ((s.chOf (chanOf y g k)).spare = .ready → s.doLaserFailure y g k false cause = s1.takeover y g k) ∧
      ((s.chOf (chanOf y g k)).spare = .dead → s.doLaserFailure y g k false cause = s1.loseChannel y g k) := by
  refine ⟨fun hsp => ?_, fun hsp => ?_, fun hsp => ?_⟩ <;>
    rcases hp with hp | ⟨hp, hen⟩ <;> simp [doLaserFailure, primaryOff, primaryFailed, *]

/-- R372: a spare fails that held the channel. -/
theorem doLaserFailure_of_spare {s : State} {y g k : Nat} (cause : LaserFault) (hsp : (s.chOf (chanOf y g k)).spare = .bus) :
    ChannelSet s (s.doLaserFailure y g k true cause) (chanOf y g k) { s.chOf (chanOf y g k) with
      spare := .dead, spareBias := {}, lost := true
      exchange := if (s.chOf (chanOf y g k)).exchange = some .toSpare then none else (s.chOf (chanOf y g k)).exchange } := by
  have hdo : s.doLaserFailure y g k true cause = (s.setCh (chanOf y g k) { s.chOf (chanOf y g k) with
      spare := .dead, spareBias := {}
      exchange := if (s.chOf (chanOf y g k)).exchange = some .toSpare then none else (s.chOf (chanOf y g k)).exchange }).loseChannel y g k := by
    simp [doLaserFailure, hsp]
  rw [hdo]
  exact (setCh_sets s _ _).loseChannel

/-! ### Exchanges (R367-R370) -/

/-- Every active link of a laser group has its spare lane free (R368). -/
def exchangeFree (s : State) (y g : Nat) : Bool := (s.activeLinks y g).all s.txFree

/-- A channel for which exchange `e` has fallen due, as the spare lanes of its group allow (R367, R368). -/
def dueChannel (c : Channel) (e : Exchange) (free : Bool) : Channel :=
  { c with exchange := some e, stage := if free then .moving else .waiting, exchangeHeld := !free }

section
variable {s : State} {y g k : Nat} {e : Exchange} (he : (s.chOf (chanOf y g k)).exchange = some e) (hst : (s.chOf (chanOf y g k)).stage = .waiting)
include he hst

theorem tryExchange_of_free (hfree : s.exchangeFree y g = true) :
    s.tryExchange y g k = ((s.channelLanes y g k).foldl (fun (s : State) p => s.requestMove p.1 p.2 false) s).setCh (chanOf y g k)
      { s.chOf (chanOf y g k) with stage := .moving } := by
  unfold tryExchange
  dsimp only
  rw [if_neg (by simp [he, hst])]
  exact if_pos hfree

theorem tryExchange_of_taken (hfree : s.exchangeFree y g = false) (hheld : (s.chOf (chanOf y g k)).exchangeHeld = false) :
    s.tryExchange y g k = ((s.setCh (chanOf y g k) { s.chOf (chanOf y g k) with exchangeHeld := true }).record 0x0910 (laserLoc y g k)).bump
      (yzBase y + 0x230) := by
  have hnot : ¬ (s.activeLinks y g).all s.txFree = true := by
    rw [← exchangeFree, hfree]
    decide
  unfold tryExchange
  dsimp only
  rw [if_neg (by simp [he, hst]), if_neg hnot, if_neg (by simp [hheld])]

end

/-- R367, R368: an exchange that falls due changes its channel and, where it begins at once, asks for moves of lanes. -/
theorem dueExchange_spec (s : State) (y g k : Nat) (e : Exchange) :
    let t := s.dueExchange y g k e
    ChannelBecomes s t (chanOf y g k) (dueChannel (s.chOf (chanOf y g k)) e (s.exchangeFree y g)) ∧
      ∀ j, t.lnk j = { s.lnk j with txMove := (t.lnk j).txMove, want := (t.lnk j).want } := by
  set c : Channel := { s.chOf (chanOf y g k) with exchange := some e, stage := .waiting, exchangeHeld := false } with hc
  set s1 := s.setCh (chanOf y g k) c with hs1
  have hset : ChannelSet s s1 (chanOf y g k) c := setCh_sets s _ c
  have hch : s1.chOf (chanOf y g k) = c := hset.chOf_same
  have hsame : s1.exchangeFree y g = s.exchangeFree y g := rfl
  have hdue : s.dueExchange y g k e = s1.tryExchange y g k := rfl
  cases hfree : s.exchangeFree y g with
  | true =>
    rw [hdue, tryExchange_of_free (e := e) (by rw [hch]) (by rw [hch]) (hsame.trans hfree), hch]
    obtain ⟨hframe, hlnk⟩ := requestMoves_ask false (s1.channelLanes y g k) s1
    generalize (s1.channelLanes y g k).foldl _ s1 = u at hframe hlnk ⊢
    refine ⟨hset.1.trans (ChannelBecomes.trans (c := c) ?_ (setCh_sets u _ _).1), hlnk⟩
    rw [hframe]
    exact ⟨hch, fun _ _ => rfl, rfl, rfl, rfl, rfl⟩
  | false =>
    rw [hdue, tryExchange_of_taken (e := e) (by rw [hch]) (by rw [hch]) (hsame.trans hfree) (by rw [hch]), hch]
    obtain ⟨hbecomes, hln⟩ := ((hset.setCh { c with exchangeHeld := true }).record 0x0910 (laserLoc y g k) 0).bump (yzBase y + 0x230)
    exact ⟨hbecomes, fun j => by rw [lnk, lnk, hln]⟩

/-- R366, R370: an exchange that falls due for a channel just changed. -/
theorem dueExchange_of_setCh (s : State) (y g k : Nat) (c : Channel) (e : Exchange) :
    let t := (s.setCh (chanOf y g k) c).dueExchange y g k e
    ChannelBecomes s t (chanOf y g k) (dueChannel c e (s.exchangeFree y g)) ∧
      ∀ j, t.lnk j = { s.lnk j with txMove := (t.lnk j).txMove, want := (t.lnk j).want } := by
  obtain ⟨hbecomes, hlnk⟩ := dueExchange_spec (s.setCh (chanOf y g k) c) y g k e
  rw [chOf_setCh_same] at hbecomes
  exact ⟨(setCh_sets s _ c).1.trans hbecomes, hlnk⟩

/-! ### Spares, retries and bias ranges (R364-R367, R370) -/

section
variable {s : State} {y g k : Nat}

theorem doSpareQualified_of_failed (hsp : (s.chOf (chanOf y g k)).spare = .bringup) (hp : (s.chOf (chanOf y g k)).primary = .failed) :
    s.doSpareQualified y g k = s.takeover y g k := by
  simp [doSpareQualified, hsp, hp]

theorem doSpareQualified_of_bus (hsp : (s.chOf (chanOf y g k)).spare = .bringup) (hp : (s.chOf (chanOf y g k)).primary = .bus) :
    s.doSpareQualified y g k = (s.setCh (chanOf y g k) { s.chOf (chanOf y g k) with spare := .ready }).dueExchange y g k .toSpare := by
  simp [doSpareQualified, hsp, hp]

theorem doPrimaryRetry_of_failed (hp : (s.chOf (chanOf y g k)).primary = .failed) (hlit : s.opt.lit = true) :
    s.doPrimaryRetry y g k = s.setCh (chanOf y g k) { s.chOf (chanOf y g k) with
      primary := .bringup, primaryBias := s.biasNow (chanOf y g k) false (s.chOf (chanOf y g k)).primaryHi } := by
  simp [doPrimaryRetry, hp, hlit]

theorem doRetryResult_of_passed (hp : (s.chOf (chanOf y g k)).primary = .bringup) :
    s.doRetryResult y g k true =
      (s.setCh (chanOf y g k) { s.chOf (chanOf y g k) with primary := .ready, retries := 0 }).dueExchange y g k .handback := by
  simp [doRetryResult, hp]

theorem doRetryResult_of_failed (hp : (s.chOf (chanOf y g k)).primary = .bringup) (hn : (s.chOf (chanOf y g k)).retries < 15) :
    s.doRetryResult y g k false = s.setCh (chanOf y g k) { s.chOf (chanOf y g k) with
      primary := .failed, primaryBias := {}, retries := (s.chOf (chanOf y g k)).retries + 1 } := by
  simp [doRetryResult, hp, hn]

/-- R366: the sixteenth failure in a row. -/
theorem doRetryResult_of_last (hp : (s.chOf (chanOf y g k)).primary = .bringup) (hn : 15 ≤ (s.chOf (chanOf y g k)).retries)
    (hsp : (s.chOf (chanOf y g k)).spare ≠ .dead) :
    s.doRetryResult y g k false =
      (s.setCh (chanOf y g k) { s.chOf (chanOf y g k) with primary := .dead, primaryBias := {}, retries := 16 }).record 0x0911 (laserLoc y g k) := by
  have hlast : ¬ (s.chOf (chanOf y g k)).retries + 1 < 16 := by omega
  simp [doRetryResult, hp, hlast, hsp]

section
variable (hp : (s.chOf (chanOf y g k)).primary = .bus) (hlo : (s.chOf (chanOf y g k)).primaryHi = false)
include hp hlo

/-- R370: a change to BIAS_HI brings up a dark spare. -/
theorem doBiasRange_of_dark (hsp : (s.chOf (chanOf y g k)).spare = .dark) (he : (s.chOf (chanOf y g k)).exchange = none) :
    ChannelSet s (s.doBiasRange y g k false) (chanOf y g k) { s.chOf (chanOf y g k) with
      hiDue := false, spare := .bringup, spareHi := true, spareBias := s.biasNow (chanOf y g k) true true } := by
  have hdo : s.doBiasRange y g k false = (s.setCh (chanOf y g k) { s.chOf (chanOf y g k) with hiDue := true }).setCh (chanOf y g k)
      { s.chOf (chanOf y g k) with hiDue := false, spare := .bringup, spareHi := true, spareBias := s.biasNow (chanOf y g k) true true } := by
    simp [doBiasRange, startRange, hp, hlo, hsp, he, setCh_biasNow]
  rw [hdo]
  exact (setCh_sets s _ _).setCh _

/-- R370: with the spare in use, or an exchange running, the change waits. -/
theorem doBiasRange_of_busy (h : (s.chOf (chanOf y g k)).spare ≠ .dark ∨ (s.chOf (chanOf y g k)).exchange ≠ none) :
    s.doBiasRange y g k false = s.setCh (chanOf y g k) { s.chOf (chanOf y g k) with hiDue := true } := by
  rcases h with h | h <;> simp [doBiasRange, startRange, hp, hlo, h]

end

section
variable (hsp : (s.chOf (chanOf y g k)).spare = .bus) (hlo : (s.chOf (chanOf y g k)).spareHi = false)
include hsp hlo

theorem doBiasRange_of_ready (hp : (s.chOf (chanOf y g k)).primary = .ready) (he : (s.chOf (chanOf y g k)).exchange = none) :
    s.doBiasRange y g k true = s.dueExchange y g k .handback := by
  simp [doBiasRange, hsp, hlo, hp, he]

theorem doBiasRange_of_waiting (hp : (s.chOf (chanOf y g k)).primary = .failed) : s.doBiasRange y g k true = s.doPrimaryRetry y g k := by
  simp [doBiasRange, hsp, hlo, hp]

end

end

end Sys2Proof.Machine.State

namespace Sys2Proof.Claims

open Sys2Proof.Machine Sys2Proof.Machine.State

/-- Settles O41: each command takes the branch of its rule, which sets one channel, or makes an exchange due for it. -/
theorem lasers : Obligations.Lasers := by
  intro s l cause x c only sets free due failed
  refine ⟨fun hp => ?failure, fun hsp => ?spareFailure, fun hsp hp => ?takeover, fun hsp hp => ?toSpare, fun hp hlit => ?retry, fun hp => ?passed,
    fun hp hn => ?failed, fun hp hn hsp => ?dead, fun hp hlo => ⟨fun hsp he => ?hiDark, fun hbusy => ?hiBusy⟩,
    fun hsp hlo => ⟨fun hp he => ?handback, fun hp hlit => ?broughtUp⟩⟩
  case failure =>
    obtain ⟨hdark, hready, hdead⟩ := doLaserFailure_of_primary cause hp
    have hoff := primaryOff_sets s l.chip l.group l.chan cause
    refine ⟨fun hsp => answers_of_eq rfl (hdark hsp) ?_, fun hsp => answers_of_eq rfl (hready hsp) hoff.takeover,
      fun hsp => answers_of_eq rfl (hdead hsp) hoff.loseChannel⟩
    rw [← primaryOff_biasNow s l.chip l.group l.chan cause]
    exact hoff.spareUp
  case spareFailure => exact ⟨_, rfl, doLaserFailure_of_spare cause hsp⟩
  case takeover => exact answers_of_eq rfl (doSpareQualified_of_failed hsp hp) (ChannelSet.refl s x).takeover
  case toSpare => exact answers_of_eq rfl (doSpareQualified_of_bus hsp hp) (dueExchange_of_setCh s _ _ _ _ _)
  case retry => exact answers_of_eq rfl (doPrimaryRetry_of_failed hp hlit) (setCh_sets s x _)
  case passed => exact answers_of_eq rfl (doRetryResult_of_passed hp) (dueExchange_of_setCh s _ _ _ _ _)
  case failed => exact answers_of_eq rfl (doRetryResult_of_failed hp hn) (setCh_sets s x _)
  case dead => exact answers_of_eq rfl (doRetryResult_of_last hp hn hsp) ((setCh_sets s x _).record _ _ _)
  case hiDark => exact ⟨_, rfl, doBiasRange_of_dark hp hlo hsp he⟩
  case hiBusy => exact answers_of_eq rfl (doBiasRange_of_busy hp hlo hbusy) (setCh_sets s x _)
  case handback => exact answers_of_eq rfl (doBiasRange_of_ready hsp hlo hp he) (dueExchange_spec s _ _ _ _)
  case broughtUp =>
    exact answers_of_eq rfl ((doBiasRange_of_waiting hsp hlo hp).trans (doPrimaryRetry_of_failed hp hlit)) (setCh_sets s x _)

end Sys2Proof.Claims
end

section
/-! How a link goes down at its lanes, and what its link layer's part of it leaves (10 R424, R459; 11 R505-R515). -/

namespace Sys2Proof.Machine.State

/-! ### The link layer's work beside the lanes -/

/-- Optics, lanes and tiles stand, and each link stays enabled or not. -/
def LanesStand (s t : State) : Prop := t.opt = s.opt ∧ t.ln = s.ln ∧ t.tiles = s.tiles ∧ ∀ l, t.lnEnabled l = s.lnEnabled l

theorem LanesStand.refl (s : State) : LanesStand s s := ⟨rfl, rfl, rfl, fun _ => rfl⟩

theorem lnEnabled_of_word {s t : State} {l : Nat} (h : t.word (lnReg l + 0x10) = s.word (lnReg l + 0x10)) : t.lnEnabled l = s.lnEnabled l := by
  rw [lnEnabled, lnEnabled, bits, bits, h]

/-- LN_CTL is the word 0x10 of a link's 4 KiB of registers. -/
theorem lnCtl_mod (l : Nat) : (lnReg l + 0x10) % 0x1000 = 0x10 := by
  unfold lnReg yzBase
  omega

theorem lnCtl_ne_lost (l : Nat) : lnReg l + 0x10 ≠ mgtBase + 0x3014 := by
  have := lnCtl_mod l
  unfold mgtBase
  omega

section
variable {s t : State} (h : LanesStand s t)
include h

theorem LanesStand.trans {u : State} (h' : LanesStand t u) : LanesStand s u := by
  obtain ⟨hopt, hln, htiles, hen⟩ := h
  obtain ⟨hopt', hln', htiles', hen'⟩ := h'
  exact ⟨hopt'.trans hopt, hln'.trans hln, htiles'.trans htiles, fun l => (hen' l).trans (hen l)⟩

theorem LanesStand.record (code : Nat) (loc : Loc) (detail : Nat) : LanesStand s (t.record code loc detail) :=
  h.trans ⟨record_opt _ _ _ _, record_ln _ _ _ _, record_tiles _ _ _ _, fun l => lnEnabled_of_word (word_record_other _ _ _ _ (lnCtl_ne_lost l))⟩

theorem LanesStand.bump {off : Nat} (hoff : off % 0x1000 ≠ 0x10) : LanesStand s (t.bump off) := by
  refine h.trans ⟨bump_opt _ _, bump_ln _ _, bump_tiles _ _, fun l => lnEnabled_of_word (word_bump_other _ (fun heq => ?_) (lnCtl_ne_lost l))⟩
  rw [← heq] at hoff
  exact hoff (lnCtl_mod l)

theorem LanesStand.setLkk (l : Nat) (x : LinkLk) : LanesStand s (t.setLkk l x) := h.trans ⟨rfl, rfl, rfl, fun _ => rfl⟩

theorem LanesStand.setDir (k : Nat) (x : WDir) : LanesStand s (t.setDir k x) := h.trans ⟨rfl, rfl, rfl, fun _ => rfl⟩

/-- R543, R544: repeated markers pass to the twin. -/
theorem LanesStand.moveRepeats (l : Nat) : LanesStand s (t.moveRepeats l) := by
  unfold State.moveRepeats
  dsimp only
  split
  · exact h
  · split
    · exact (h.setLkk _ _).setLkk _ _
    · exact h.record _ _ _

/-- R515: the carrier of a rerouted stream goes down. -/
theorem LanesStand.loseCarrier (l : Nat) : LanesStand s (t.loseCarrier l) := by
  unfold State.loseCarrier
  dsimp only
  split
  · exact ((h.setLkk _ _).setLkk _ _).record _ _ _
  · exact h

end

theorem lkCount_mod (l : Nat) : (lkReg l + 0x3C) % 0x1000 ≠ 0x10 := by
  unfold lkReg yzBase
  omega

/-- R505-R515: what the link layer does for a link that goes down. -/
theorem lkDown_stands (s : State) (l : Nat) : LanesStand s (s.lkDown l) := by
  have hrepeats := (LanesStand.refl s).moveRepeats l
  unfold lkDown
  dsimp only
  split
  · exact hrepeats.setLkk _ _
  · have hlost := hrepeats.loseCarrier l
    split
    · split
      · exact ((((hlost.setLkk _ _).setLkk _ _).setDir _ _).bump (lkCount_mod l)).record _ _ _
      · exact ((hlost.setLkk _ _).setDir _ _).record _ _ _
    · split
      · exact hlost.setLkk _ _
      · exact hlost

/-! ### Leaving training or service (R421, R424) -/

theorem sendDown_frame (s : State) (l : Nat) : s.sendDown l = { s with out := (s.sendDown l).out } := by
  unfold sendDown
  dsimp only
  split <;> rfl

theorem stopCalibration_frame (s : State) (l : Nat) :
    s.stopCalibration l = { s with opt := { s.opt with groups := (s.stopCalibration l).opt.groups } } := by
  unfold stopCalibration
  dsimp only
  split
  · split <;> rfl
  · rfl

/-- A link that may not be lit goes to OFF (R421, 09 R405, R406). -/
def goesOff (s : State) (l : Nat) : Bool := !s.lnEnabled l || !s.opt.lit

/-- R424: the link is in OFF or DETECT, its shutter as that state and the reason ask; every other link's lanes, the lasers and the tiles stand. -/
theorem lnDetect_spec (s : State) (l : Nat) (held duty : Bool) :
    let t := s.lnDetect l held duty
    ((t.lnk l).st = (if s.goesOff l then .off else .detect) ∧ (t.lnk l).duty = (duty && !s.goesOff l) ∧ (t.lnk l).held = (held && !s.goesOff l) ∧
      t.shutter l = if s.goesOff l ∨ held ∨ duty then .closed else .probe) ∧
    (∀ j, j ≠ l → t.lnk j = s.lnk j) ∧ t.opt.lit = s.opt.lit ∧ t.opt.permit = s.opt.permit ∧ t.tiles = s.tiles := by
  unfold lnDetect
  extract_lets r off s1 s2 s3 t
  have hs2 : s2.ln = s.ln ∧ s2.opt.lit = s.opt.lit ∧ s2.opt.permit = s.opt.permit ∧ s2.tiles = s.tiles := by
    have hs1 : s1.ln = s.ln ∧ s1.opt.lit = s.opt.lit ∧ s1.opt.permit = s.opt.permit ∧ s1.tiles = s.tiles := by
      simp only [s1]
      rw [stopCalibration_frame, sendDown_frame]
      exact ⟨rfl, rfl, rfl, rfl⟩
    simp only [s2]
    split
    · rw [bump_ln, bump_opt, bump_tiles]
      exact hs1
    · exact hs1
  obtain ⟨hln, hlit, hpermit, htiles⟩ := hs2
  have hlnk : t.lnk l = _ := lnk_setLnk_same s2 l _
  refine ⟨?_, fun j hj => ?_, hlit, hpermit, htiles⟩
  · rw [hlnk]
    exact ⟨rfl, rfl, rfl, shutter_setShutter_same _ _ _⟩
  · exact (lnk_setLnk_other _ _ hj).trans (by rw [lnk, lnk, hln])

theorem linkDown_of_off {s : State} {l : Nat} (h : (s.lnk l).st = .off) (held duty : Bool) : s.linkDown l held duty = s := by
  unfold linkDown
  rw [h]

/-- R459: a link that is not in OFF leaves its state, once its link layer has done its part. -/
theorem linkDown_eq {s : State} {l : Nat} {held duty : Bool} (h : (s.lnk l).st ≠ .off) (hdown : held ∨ duty ∨ !s.lnEnabled l ∨ !s.opt.lit) :
    ∃ u, LanesStand s u ∧ s.linkDown l held duty = u.lnDetect l held duty := by
  unfold linkDown
  split
  · next hoff => exact absurd hoff h
  · exact ⟨s, .refl s, if_pos hdown⟩
  · exact ⟨s.lkDown l, lkDown_stands s l, rfl⟩

/-- R406: without light, a link that goes down is in OFF. -/
theorem linkDown_of_dark {s : State} (hdark : s.opt.lit = false) (l : Nat) :
    let t := s.linkDown l
    (t.lnk l).st = .off ∧ (∀ j, j ≠ l → t.lnk j = s.lnk j) ∧ t.opt.lit = false ∧ t.opt.permit = s.opt.permit ∧ t.tiles = s.tiles := by
  by_cases hst : (s.lnk l).st = .off
  · rw [linkDown_of_off hst]
    exact ⟨hst, fun _ _ => rfl, hdark, rfl, rfl⟩
  · obtain ⟨u, ⟨hopt, hln, htiles, -⟩, hdo⟩ := linkDown_eq (held := false) (duty := false) hst (by simp [hdark])
    obtain ⟨⟨hoff, -⟩, hother, hlit, hpermit, htiles'⟩ := lnDetect_spec u l false false
    have hgoes : u.goesOff l = true := by rw [goesOff, hopt, hdark]; simp
    rw [hdo]
    rw [hgoes] at hoff
    refine ⟨hoff, fun j hj => (hother j hj).trans (by rw [lnk, lnk, hln]), hlit.trans (by rw [hopt, hdark]), hpermit.trans (by rw [hopt]),
      htiles'.trans htiles⟩

end Sys2Proof.Machine.State
end

section
/-! The interlock: LASER_PERMIT, the enable sequence, open fibres and probing (09 R402-R407). -/

namespace Sys2Proof.Machine.State

/-! ### Darkness (R402, R406) -/

/-- The first `n` links go down, in order. -/
def linksDown (s : State) (n : Nat) : State := (List.range n).foldl (fun (s : State) l => s.linkDown l) s

theorem linksDown_of_dark {s : State} (hdark : s.opt.lit = false) (n : Nat) :
    let t := s.linksDown n
    (t.opt.lit = false ∧ t.opt.permit = s.opt.permit ∧ t.tiles = s.tiles) ∧ ∀ k < n, (t.lnk k).st = .off :=
  foldl_range_each lnk (fun a => a.opt.lit = false ∧ a.opt.permit = s.opt.permit ∧ a.tiles = s.tiles) (fun _ r => r.st = .off) ⟨hdark, rfl, rfl⟩
    (fun a ha i _ _ => by
      obtain ⟨hdark, hpermit, htiles⟩ := ha
      obtain ⟨hoff, hother, hlit, hpermit', htiles'⟩ := linkDown_of_dark hdark i
      exact ⟨⟨hlit, hpermit'.trans hpermit, htiles'.trans htiles⟩, hoff, hother⟩)

/-- R406: darkness takes the links down once the lasers are dark, and then closes the shutters. -/
theorem darken_eq (s : State) : ∃ s1 : State, s1.opt.lit = false ∧ s1.opt.permit = s.opt.permit ∧ s1.tiles = s.tiles ∧
    s.darken = { s1.linksDown 128 with opt := { (s1.linksDown 128).opt with shutters := [] } } := by
  refine ⟨_, ?_, ?_, ?_, by unfold darken linksDown; rfl⟩ <;> rfl

/-- R406: every shutter is closed and every link in OFF. -/
theorem darken_spec (s : State) :
    let t := s.darken
    t.opt.permit = s.opt.permit ∧ t.opt.lit = false ∧ (∀ k, t.shutter k = .closed) ∧ (∀ k < 128, (t.lnk k).st = .off) ∧ t.tiles = s.tiles := by
  obtain ⟨s1, hdark, hpermit, htiles, hdo⟩ := darken_eq s
  obtain ⟨⟨hdark', hpermit', htiles'⟩, hoff⟩ := linksDown_of_dark hdark 128
  rw [hdo]
  generalize s1.linksDown 128 = u at hdark' hpermit' htiles' hoff ⊢
  exact ⟨hpermit'.trans hpermit, hdark', fun _ => rfl, hoff, htiles'.trans htiles⟩

/-! ### LASER_PERMIT (R403, R406, R407) -/

section
variable {s : State}

/-- R403: a sequence that waits starts with the permit. -/
theorem proceedEnable_of_permit (s : State) : State.proceedEnable { s with opt := { s.opt with permit := true } } =
    { s with opt := { s.opt with
      permit := true, enable := if s.opt.enable = .waiting then .running else s.opt.enable
      enableAt := if s.opt.enable = .waiting then s.clk.now else s.opt.enableAt } } := by
  by_cases h : s.opt.enable = .waiting <;> simp [proceedEnable, beginEnable, mayLight, h]

theorem doPermitFall_of_override (h : s.cmd.override = true) : s.doPermitFall = { s with opt := { s.opt with permit := false } } := if_pos h

/-- What the fall of the permit finds lit (R406). -/
theorem doPermitFall_of_no_override (h : s.cmd.override = false) : s.doPermitFall =
    let s1 : State := { s with opt := { s.opt with permit := false } }
    if s.opt.lit || s.seqLit then
      let s2 := (s1.record 0x090F).darken
      { s2 with opt := { s2.opt with enable := .waiting } }
    else if s.opt.enable = .running then { s1 with opt := { s1.opt with enable := .waiting } }
    else s1 := by
  have hseq : State.seqLit { s with opt := { s.opt with permit := false } } = s.seqLit := rfl
  unfold doPermitFall
  dsimp only
  rw [if_neg (by simp [h]), hseq]

theorem seqLit_of_not_running (h : s.opt.enable ≠ .running) : s.seqLit = false := by simp [seqLit, h]

end

/-! ### The end of the enable sequence (R403) -/

/-- What the end of the enable sequence does for one channel (R364, R403). -/
def lightChannel (s : State) (x : Nat) : State :=
  let c := s.chOf x
  match c.primary with
  | .dark => s.setCh x { c with primary := .bus, primaryHi := false, lost := false, primaryBias := s.biasNow x false false }
  | _ => if c.spare = .dead then s.loseChannel (x / 68) (x % 68 / 17) (x % 17) else if c.spare = .dark then s.spareUp x else s

theorem doEnableDone_of_running {s : State} (h : s.opt.enable = .running) : s.doEnableDone =
    (List.range 128).foldl toDetect ((List.range 272).foldl lightChannel { s with opt := { s.opt with lit := true, enable := .idle } }) := by
  unfold doEnableDone
  rw [if_neg (by simp [h])]
  rfl

/-- The channels may have changed; the rest of the optics, the lanes and the enables of the links stand. -/
def ChannelsOnly (s t : State) : Prop :=
  t.opt = { s.opt with channels := t.opt.channels } ∧ t.ln = s.ln ∧ ∀ l, t.lnEnabled l = s.lnEnabled l

theorem chanOf_parts (x : Nat) : chanOf (x / 68) (x % 68 / 17) (x % 17) = x := by
  unfold chanOf
  omega

theorem loseChannel_channelsOnly (s : State) (y g k : Nat) : ChannelsOnly s (s.loseChannel y g k) := by
  obtain ⟨hopt, hln, -, hen⟩ := (LanesStand.refl (s.setCh (chanOf y g k) { s.chOf (chanOf y g k) with lost := true })).record 0x0902 (laserLoc y g k) 0
  refine ⟨?_, hln, hen⟩
  unfold loseChannel
  dsimp only
  rw [hopt]
  rfl

theorem lightChannel_channelsOnly (s : State) (x : Nat) : ChannelsOnly s (s.lightChannel x) := by
  unfold lightChannel
  dsimp only
  split
  · exact ⟨rfl, rfl, fun _ => rfl⟩
  · split
    · exact loseChannel_channelsOnly _ _ _ _
    · split <;> exact ⟨rfl, rfl, fun _ => rfl⟩

theorem lightChannel_other (s : State) {x j : Nat} (h : j ≠ x) : (s.lightChannel x).chOf j = s.chOf j := by
  unfold lightChannel
  dsimp only
  split
  · exact chOf_setCh_other _ _ h
  · split
    · have hlost : ChannelSet s (s.loseChannel (x / 68) (x % 68 / 17) (x % 17)) _ _ := (ChannelSet.refl s _).loseChannel
      exact hlost.chOf_other (by rwa [chanOf_parts])
    · split
      · exact chOf_setCh_other _ _ h
      · rfl

theorem lightChannel_of_dark {s : State} {x : Nat} (h : (s.chOf x).primary = .dark) : ((s.lightChannel x).chOf x).primary = .bus := by
  simp [lightChannel, h]

theorem lightChannel_of_failed {s : State} {x : Nat} (h : (s.chOf x).primary = .failed) (hsp : (s.chOf x).spare = .dark) :
    ((s.lightChannel x).chOf x).spare = .bringup := by
  simp [lightChannel, h, hsp, spareUp]

/-- R403: every dark primary is on the bus, and the spare of a failed one in bring-up. -/
theorem lightChannels_spec (s : State) (n : Nat) :
    let t := (List.range n).foldl lightChannel s
    ChannelsOnly s t ∧ ∀ x < n, ((s.chOf x).primary = .dark → (t.chOf x).primary = .bus) ∧
      ((s.chOf x).primary = .failed → (s.chOf x).spare = .dark → (t.chOf x).spare = .bringup) :=
  foldl_range_each chOf (ChannelsOnly s)
    (fun x c => ((s.chOf x).primary = .dark → c.primary = .bus) ∧ ((s.chOf x).primary = .failed → (s.chOf x).spare = .dark → c.spare = .bringup))
    ⟨rfl, rfl, fun _ => rfl⟩
    (fun a ha x _ hx => by
      obtain ⟨hopt, hln, hen⟩ := ha
      obtain ⟨hopt', hln', hen'⟩ := lightChannel_channelsOnly a x
      refine ⟨⟨by rw [hopt', hopt], hln'.trans hln, fun l => (hen' l).trans (hen l)⟩, ⟨fun hd => ?_, fun hf hsp => ?_⟩, fun j hj => lightChannel_other a hj⟩
      · exact lightChannel_of_dark (by rw [hx, hd])
      · exact lightChannel_of_failed (by rw [hx, hf]) (by rw [hx, hsp]))

theorem lnk_setShutter (s : State) (l : Nat) (x : Shutter) (j : Nat) : (s.setShutter l x).lnk j = s.lnk j := rfl

theorem toDetect_of_off {s : State} {l : Nat} (hst : (s.lnk l).st = .off) (hlit : s.opt.lit = true) (hen : s.lnEnabled l = true) :
    s.toDetect l = (s.setLnk l { s.lnk l with st := .detect }).setShutter l .probe :=
  if_pos ⟨hst, hlit, hen⟩

/-- R421: only the lanes of the link, and its shutter, change. -/
theorem toDetect_frame (s : State) (l : Nat) :
    s.toDetect l = { s with ln := (s.toDetect l).ln, opt := { s.opt with shutters := (s.toDetect l).opt.shutters } } ∧
      ∀ j, j ≠ l → (s.toDetect l).lnk j = s.lnk j ∧ (s.toDetect l).shutter j = s.shutter j := by
  unfold toDetect
  split
  · exact ⟨rfl, fun j hj => ⟨(lnk_setShutter _ _ _ _).trans (lnk_setLnk_other s _ hj), shutter_setShutter_other _ _ hj⟩⟩
  · exact ⟨rfl, fun _ _ => ⟨rfl, rfl⟩⟩

/-- R421: with light, every enabled link leaves OFF for DETECT. -/
theorem toDetects_spec {s : State} (hlit : s.opt.lit = true) (n : Nat) :
    let t := (List.range n).foldl toDetect s
    t = { s with ln := t.ln, opt := { s.opt with shutters := t.opt.shutters } } ∧
      ∀ k < n, (s.lnk k).st = .off → s.lnEnabled k = true → (t.lnk k).st = .detect ∧ t.shutter k = .probe :=
  foldl_range_each (fun (a : State) k => (a.lnk k, a.shutter k))
    (fun a => a = { s with ln := a.ln, opt := { s.opt with shutters := a.opt.shutters } })
    (fun k p => (s.lnk k).st = .off → s.lnEnabled k = true → p.1.st = .detect ∧ p.2 = .probe) rfl
    (fun a ha k _ hk => by
      obtain ⟨hframe, hother⟩ := toDetect_frame a k
      refine ⟨hframe.trans (by rw [ha]), fun hst hen => ?_, fun j hj => Prod.ext (hother j hj).1 (hother j hj).2⟩
      have hdo := toDetect_of_off (s := a) (l := k) (by rw [(Prod.mk.inj hk).1, hst]) (by rw [ha]; exact hlit) (by rw [ha]; exact hen)
      rw [hdo]
      refine ⟨?_, shutter_setShutter_same _ _ _⟩
      rw [lnk_setShutter, lnk_setLnk_same])

/-! ### Open fibres and probing (R405) -/

/-- R405: an enabled link whose fibre opens closes its shutter and probes. -/
theorem doOpenFibre_spec {s : State} {l : Nat} (hsh : s.shutter l = .opened) (hst : (s.lnk l).st ≠ .off) (hen : s.lnEnabled l = true)
    (hlit : s.opt.lit = true) :
    let t := s.doOpenFibre l
    t.shutter l = .closed ∧ (t.lnk l).st = .detect ∧ (t.lnk l).duty = true ∧ (t.lnk l).held = false := by
  obtain ⟨hopt, hln, -, hens⟩ := (LanesStand.refl s).record 0x090A (linkLoc l) 0
  have hst' : ((s.record 0x090A (linkLoc l)).lnk l).st ≠ .off := by rwa [lnk, hln]
  obtain ⟨u, ⟨hopt', -, -, hens'⟩, hdo⟩ := linkDown_eq (held := false) (duty := true) hst' (by simp)
  obtain ⟨⟨hdetect, hduty, hheld, hclosed⟩, -⟩ := lnDetect_spec u l false true
  have hstays : u.goesOff l = false := by simp [goesOff, hens', hens, hen, hopt', hlit]
  rw [hstays] at hdetect hduty
  unfold doOpenFibre
  rw [if_pos hsh, hdo]
  exact ⟨hclosed.trans (by simp), hdetect, hduty, hheld⟩

end Sys2Proof.Machine.State

namespace Sys2Proof.Claims

open Sys2Proof.Machine Sys2Proof.Machine.State

/-- Settles O42: the permit's edges by what is lit, the end of the sequence by its two loops, and an open fibre by how its link goes down. -/
theorem interlock : Obligations.Interlock := by
  intro s l opens
  refine ⟨congrArg Host.Outcome.next (proceedEnable_of_permit s), fun h => ?unlit, fun hov hlit hrun hseq => ?waits, fun hov hlit => ?darkens,
    fun hrun => ?done, fun hsh hst hen hlit => ⟨_, rfl, doOpenFibre_spec hsh hst hen hlit⟩, fun hst hduty hheld hfound => ?probe⟩
  case unlit =>
    refine congrArg Host.Outcome.next ?_
    by_cases hov : s.cmd.override = true
    · exact doPermitFall_of_override hov
    · obtain ⟨hlit, hrun⟩ := h.resolve_left hov
      rw [doPermitFall_of_no_override (by simpa using hov)]
      simp [hlit, hrun, seqLit_of_not_running hrun]
  case waits =>
    refine congrArg Host.Outcome.next ?_
    rw [doPermitFall_of_no_override hov]
    simp [hlit, hrun, hseq]
  case darkens =>
    refine answers_of_eq rfl ((doPermitFall_of_no_override hov).trans (if_pos (by simpa using hlit))) ?_
    obtain ⟨hpermit, hdark, hclosed, hoff, htiles⟩ := darken_spec (State.record { s with opt := { s.opt with permit := false } } 0x090F)
    generalize State.darken _ = u at hpermit hdark hclosed hoff htiles ⊢
    exact ⟨hpermit.trans (by rw [record_opt]), hdark, rfl, hclosed, hoff, htiles.trans (record_tiles _ _ _ _)⟩
  case done =>
    refine answers_of_eq rfl (doEnableDone_of_running hrun) ?_
    obtain ⟨⟨hopt, hln, hen⟩, hchannels⟩ := lightChannels_spec { s with opt := { s.opt with lit := true, enable := .idle } } 272
    generalize (List.range 272).foldl lightChannel _ = u at hopt hln hen hchannels ⊢
    obtain ⟨hframe, hlinks⟩ := toDetects_spec (s := u) (by rw [hopt]) 128
    generalize (List.range 128).foldl toDetect u = t at hframe hlinks ⊢
    refine ⟨by rw [hframe, hopt], by rw [hframe, hopt], fun x hx => ?_, fun k hk hoff hon => hlinks k hk (by rw [lnk, hln]; exact hoff) ((hen k).trans hon)⟩
    rw [hframe]
    exact hchannels x hx
  case probe => exact congrArg Host.Outcome.next (if_pos ⟨hst, hduty, by simp [hheld], by simp [hfound]⟩)

end Sys2Proof.Claims
end

section
/-! What the operations on lanes and rings set: urgent lanes, requests to the partner, and a ring's correction (09 R374, R378, R390, R391; 10 R446). -/

namespace Sys2Proof.Machine

/-! ### Bits and ranges -/

theorem getLsbD_setBit17_true (m : BitVec 17) {k : Nat} (h : k < 17) : (setBit17 m k true).getLsbD k = true := by
  rw [setBit17, if_pos rfl, BitVec.getLsbD_or, BitVec.getLsbD_ofNat, Nat.testBit_two_pow_self]
  simp [h]

theorem getLsbD_setBit17_false (m : BitVec 17) {k : Nat} (h : k < 17) : (setBit17 m k false).getLsbD k = false := by
  rw [setBit17, if_neg (by decide), BitVec.getLsbD_and, BitVec.getLsbD_not, BitVec.getLsbD_ofNat, Nat.testBit_two_pow_self]
  simp [h]

/-- R374: a correction that has come as 10 signed bits is in range. -/
theorem clampCorr_toInt (c : BitVec 10) : clampCorr c.toInt = c.toInt := by
  have hlo := c.le_toInt
  have hhi := c.toInt_lt
  unfold clampCorr
  omega

/-- The rings of a link by their number: the modulators, then the drop filters. -/
theorem ringKey_of_number (l : Nat) {i : Nat} (hi : i < 34) : ringKey l (i % 17) (decide (17 ≤ i)) = 34 * l + i := by
  unfold ringKey b2n
  by_cases h : 17 ≤ i
  · rw [decide_eq_true h, if_pos rfl]
    omega
  · rw [decide_eq_false h, if_neg (by decide)]
    omega

namespace State

section
variable {s t : State} (h : t.opt = s.opt)
include h

theorem laneCal_of_opt : t.laneCal = s.laneCal := by funext l k; rw [laneCal, laneCal, h]
theorem calGroup_of_opt : t.calGroup = s.calGroup := by funext g; rw [calGroup, calGroup, h]
theorem ringOf_of_opt : t.ringOf = s.ringOf := by funext k; rw [ringOf, ringOf, h]

end

theorem lnk_of_ln {s t : State} (h : t.ln = s.ln) : t.lnk = s.lnk := by funext l; rw [lnk, lnk, h]

/-! ### What an update of one part leaves of the others -/

theorem ringOf_setLnk (s : State) (l : Nat) (x : LinkLn) : (s.setLnk l x).ringOf = s.ringOf := rfl
theorem laneCal_setLnk (s : State) (l : Nat) (x : LinkLn) : (s.setLnk l x).laneCal = s.laneCal := rfl
theorem calGroup_setLnk (s : State) (l : Nat) (x : LinkLn) : (s.setLnk l x).calGroup = s.calGroup := rfl
theorem lnk_setLaneCal (s : State) (l k : Nat) (x : LaneCal) : (s.setLaneCal l k x).lnk = s.lnk := rfl
theorem ringOf_setLaneCal (s : State) (l k : Nat) (x : LaneCal) : (s.setLaneCal l k x).ringOf = s.ringOf := rfl
theorem calGroup_setLaneCal (s : State) (l k : Nat) (x : LaneCal) : (s.setLaneCal l k x).calGroup = s.calGroup := rfl
theorem lnk_setCalGroup (s : State) (g : Nat) (x : CalGroup) : (s.setCalGroup g x).lnk = s.lnk := rfl
theorem ringOf_setCalGroup (s : State) (g : Nat) (x : CalGroup) : (s.setCalGroup g x).ringOf = s.ringOf := rfl

theorem askPartner_frame (s : State) (l what w : Nat) : s.askPartner l what w = { s with lk := (s.askPartner l what w).lk } := by
  unfold askPartner
  split <;> rfl

theorem askPartner_opt (s : State) (l what w : Nat) : (s.askPartner l what w).opt = s.opt := by rw [askPartner_frame]
theorem askPartner_ln (s : State) (l what w : Nat) : (s.askPartner l what w).ln = s.ln := by rw [askPartner_frame]
theorem askPartner_clk (s : State) (l what w : Nat) : (s.askPartner l what w).clk = s.clk := by rw [askPartner_frame]

/-! ### Urgent lanes (R391; 10 R446) -/

/-- A wavelength is urgent, and its lane in the queue of its laser group. -/
def UrgentAt (s : State) (l w : Nat) : Prop := (s.lnk l).urgent.getLsbD w = true ∧ (l, w) ∈ (s.calGroup (linkGroup l)).head

theorem markUrgent_spec (s : State) (l : Nat) {w : Nat} (hw : w < 17) :
    (s.markUrgent l w).UrgentAt l w ∧ (s.markUrgent l w).ringOf = s.ringOf := by
  unfold markUrgent
  extract_lets r s1 g x s2
  have hlnk : s2.lnk = s1.lnk := lnk_setLaneCal s1 l w _
  have hrings : s2.ringOf = s.ringOf := (ringOf_setLaneCal s1 l w _).trans (ringOf_setLnk s l _)
  have hgroup : s2.calGroup = s1.calGroup := calGroup_setLaneCal s1 l w _
  have hbit : (s1.lnk l).urgent.getLsbD w = true := by
    rw [show s1.lnk l = { r with urgent := setBit17 r.urgent w true } from lnk_setLnk_same s l _]
    exact getLsbD_setBit17_true _ hw
  clear_value s2
  split
  · next hin => exact ⟨⟨by rw [hlnk, hbit], by rw [hgroup]; exact List.contains_iff_mem.mp hin⟩, hrings⟩
  · refine ⟨⟨?_, ?_⟩, (ringOf_setCalGroup s2 _ _).trans hrings⟩
    · rw [lnk_setCalGroup, hlnk, hbit]
    · rw [calGroup_setCalGroup_same]
      exact List.mem_append_right _ List.mem_cons_self

theorem urgentRx_spec (s : State) (l : Nat) {w : Nat} (hw : w < 17) : (s.urgentRx l w).UrgentAt l w ∧ (s.urgentRx l w).ringOf = s.ringOf := by
  unfold urgentRx
  split
  · exact markUrgent_spec s l hw
  · rw [UrgentAt, lnk_of_ln (askPartner_ln _ _ _ _), calGroup_of_opt (askPartner_opt _ _ _ _), ringOf_of_opt (askPartner_opt _ _ _ _)]
    exact markUrgent_spec s l hw

/-! ### Corrections (R374, R378) -/

theorem corr_setCorr (s : State) (k : Nat) (c : Int) : ((s.setCorr k c).ringOf k).corr = clampCorr c := by
  have hset : ((s.setRingH k { s.ringOf k with corr := clampCorr c }).ringOf k).corr = clampCorr c := by rw [ringOf_setRingH_same]
  unfold setCorr
  dsimp only
  split <;> exact hset

theorem setCorr_frame (s : State) (k : Nat) (c : Int) :
    s.setCorr k c = { s with opt := { s.opt with rings := (s.setCorr k c).opt.rings, base := (s.setCorr k c).opt.base } } := by
  unfold setCorr
  dsimp only
  split <;> rfl

end State

end Sys2Proof.Machine
end

section
/-! Heaters and calibration: heater codes, detuning, gain ranges, guard bands, turns, and calibrations that pass (09 R361, R373-R396). -/

namespace Sys2Proof.Machine.State

/-! ### Heaters (R375, R376) -/

/-- The code of a live ring after a heater update: at most 4 codes nearer to its target (R375). -/
def nearerCode (code target : Nat) : Nat := max (code - 4) (min (code + 4) target)

theorem nearerCode_inside {code : Nat} (target : Nat) (hlo : 4 < code) (hhi : code < 4091) :
    nearerCode code target ≠ 0 ∧ nearerCode code target ≠ 4095 := by
  unfold nearerCode
  omega

/-- R375, R376: a live ring that is more than 4 codes from both ends of the range comes to neither. -/
theorem setHeater_of_inside {s : State} {l i : Nat} (hi : i < 34) (hup : s.linkUp l = true) (hlo : 4 < (s.ringOf (34 * l + i)).code)
    (hhi : (s.ringOf (34 * l + i)).code < 4091) :
    s.setHeater l (i % 17) (decide (17 ≤ i)) = s.setRingH (34 * l + i)
      { s.ringOf (34 * l + i) with code := nearerCode (s.ringOf (34 * l + i)).code (s.targetCode (34 * l + i)), edge := false } := by
  obtain ⟨hnot0, hnot4095⟩ := nearerCode_inside (s.targetCode (34 * l + i)) hlo hhi
  rw [nearerCode] at *
  unfold setHeater
  rw [ringKey_of_number l hi]
  simp [hup, hnot0, hnot4095]

/-- R374: the target of a ring rests on the tables, the link's temperature and the ring's own correction. -/
theorem targetCode_of_rings {s t : State} {k : Nat} (h : t = { s with opt := { s.opt with rings := t.opt.rings } }) (hring : t.ringOf k = s.ringOf k) :
    t.targetCode k = s.targetCode k := by
  have hbase : t.baseCode = s.baseCode := by rw [h]; rfl
  have htemps : t.opt.temps = s.opt.temps := by rw [h]
  rw [targetCode, targetCode, hbase, htemps, hring]

/-- The first `n` rings of a link are recomputed, in their order (R375). -/
def setHeaters (s : State) (l n : Nat) : State := (List.range n).foldl (fun (s : State) i => s.setHeater l (i % 17) (decide (17 ≤ i))) s

/-- R375: the rings of an ACTIVE link all move. -/
theorem setHeaters_spec {s : State} {l : Nat} (hup : s.linkUp l = true)
    (hcodes : ∀ i < 34, 4 < (s.ringOf (34 * l + i)).code ∧ (s.ringOf (34 * l + i)).code < 4091) {n : Nat} (hn : n ≤ 34) :
    let t := s.setHeaters l n
    t = { s with opt := { s.opt with rings := t.opt.rings } } ∧ ∀ i < n, t.ringOf (34 * l + i) = { s.ringOf (34 * l + i) with
      code := nearerCode (s.ringOf (34 * l + i)).code (s.targetCode (34 * l + i)), edge := false } :=
  foldl_range_each (fun (a : State) i => a.ringOf (34 * l + i)) (fun a => a = { s with opt := { s.opt with rings := a.opt.rings } })
    (fun i r => r = { s.ringOf (34 * l + i) with code := nearerCode (s.ringOf (34 * l + i)).code (s.targetCode (34 * l + i)), edge := false }) rfl
    (fun a ha i hi hring => by
      have hup' : a.linkUp l = true := by rw [ha]; exact hup
      obtain ⟨hlo, hhi⟩ := hcodes i (Nat.lt_of_lt_of_le hi hn)
      rw [setHeater_of_inside (Nat.lt_of_lt_of_le hi hn) hup' (by rwa [hring]) (by rwa [hring]), targetCode_of_rings ha hring, hring]
      refine ⟨?_, ringOf_setRingH_same _ _ _, fun j hj => ringOf_setRingH_other _ _ (by omega)⟩
      rw [setRingH, ha])

theorem doHeater_of_lit {s : State} (hlit : s.opt.lit = true) (l : Nat) (temp : Int) :
    s.doHeater l temp = State.setHeaters { s with opt := { s.opt with temps := s.opt.temps.set 0 l temp } } l 34 := by
  unfold doHeater
  exact if_pos (by simp [hlit])

theorem doHeater_of_unlit {s : State} (hlit : s.opt.lit = false) (hrun : s.opt.enable ≠ .running) (l : Nat) (temp : Int) :
    s.doHeater l temp = { s with opt := { s.opt with temps := s.opt.temps.set 0 l temp } } := by
  unfold doHeater
  exact if_neg (by simp [hlit, hrun])

/-! ### Detuning and gain ranges (R383, R385, R391, R393) -/

/-- The detuning margin of a ring by its number (R361). -/
def marginOf (s : State) (l i : Nat) : Nat := if 17 ≤ i then (s.bandOf l).1 else (s.bandOf l).2.1

/-- The detuning estimate of one ring is taken (R385). -/
def estimated (s : State) (l i : Nat) (est : Int) : State := s.setRingH (34 * l + i) { s.ringOf (34 * l + i) with est := est.natAbs }

theorem est_estimated (s : State) (l i : Nat) (est : Int) : ((s.estimated l i est).ringOf (34 * l + i)).est = est.natAbs := by
  rw [estimated, ringOf_setRingH_same]

section
variable {s : State} {l : Nat} {r : Fin 34} {est : Int} (hup : s.linkUp l = true)
include hup

theorem doDetune_of_within (h : 2 * est.natAbs ≤ s.marginOf l r) : s.doDetune l [(r, est)] = s.estimated l r est := by
  rw [marginOf] at h
  simp [doDetune, hup, estimated, Nat.not_lt.mpr h]

/-- R385, R391: past half of its margin, the ring's lane is urgent. -/
theorem doDetune_of_past (h : s.marginOf l r < 2 * est.natAbs) :
    ((s.doDetune l [(r, est)]).ringOf (34 * l + r)).est = est.natAbs ∧ (s.doDetune l [(r, est)]).UrgentAt l (r % 17) := by
  have hr := r.isLt
  have hdo : s.doDetune l [(r, est)] =
      if 17 ≤ r.val then (s.estimated l r est).urgentRx l (r - 17) else (s.estimated l r est).markUrgent l r := by
    rw [marginOf] at h
    simp [doDetune, hup, estimated, h]
  rw [hdo]
  split
  · obtain ⟨hurgent, hrings⟩ := urgentRx_spec (s.estimated l r est) l (w := r - 17) (by omega)
    rw [hrings, show r.val % 17 = r - 17 by omega]
    exact ⟨est_estimated s l r est, hurgent⟩
  · obtain ⟨hurgent, hrings⟩ := markUrgent_spec (s.estimated l r est) l (w := r) (by omega)
    rw [hrings, show r.val % 17 = r by omega]
    exact ⟨est_estimated s l r est, hurgent⟩

end

theorem doGuard_of_beyond {s : State} {l w : Nat} (hdef : (s.laneCal l w).deferred = true) (hguard : (s.laneCal l w).guardOut = false)
    (hout : (s.bandOf l).2.2.1 < (s.ringOf (ringKey l w true)).est) :
    s.doGuard l w = (s.setLaneCal l w { s.laneCal l w with guardOut := true }).record 0x0908 (linkLoc l w) := by
  simp [doGuard, hdef, hguard, hout]

/-! ### Turns (R389, R390) -/

/-- The lane of a turn leaves the head of its group's queue and is urgent no more (R390). -/
def turnTaken (s : State) (gk l w : Nat) : State :=
  let c := s.calGroup gk
  let s1 := s.setCalGroup gk { c with head := c.head.filter (fun p => p != (l, w)), next := c.next.set 0 l ((w + 1) % 17) }
  let s2 := s1.setLnk l { s1.lnk l with urgent := setBit17 (s1.lnk l).urgent w false }
  s2.setLaneCal l w { s2.laneCal l w with urgent := false }

theorem run_turnTaken (s : State) (gk l w : Nat) : ((s.turnTaken gk l w).calGroup gk).run = (s.calGroup gk).run := by
  unfold turnTaken
  extract_lets c s1
  rw [calGroup_setLaneCal, calGroup_setLnk, calGroup_setCalGroup_same]

theorem urgent_turnTaken (s : State) (gk l w : Nat) : ((s.turnTaken gk l w).laneCal l w).urgent = false := by
  unfold turnTaken
  extract_lets c s1 s2
  rw [laneCal_setLaneCal_same]

theorem deferred_eq {x : LaneCal} (h : x.deferred = true) : { x with deferred := true } = x := by rw [← h]

/-- R390: a lane that is deferred keeps all else that calibration knows of it, and its group. -/
theorem deferLane_spec (s : State) (l w : Nat) :
    (s.deferLane l w).laneCal l w = { s.laneCal l w with deferred := true } ∧ (s.deferLane l w).calGroup = s.calGroup := by
  unfold deferLane
  extract_lets s1 x
  have hopt : s1.opt = s.opt := bump_opt _ _
  have hx : x = s.laneCal l w := congrFun (congrFun (laneCal_of_opt hopt) l) w
  split
  · next hdef => exact ⟨hx.trans (deferred_eq (hx ▸ hdef)).symm, calGroup_of_opt hopt⟩
  · rw [laneCal_of_opt (record_opt _ _ _ _), calGroup_of_opt (record_opt _ _ _ _), laneCal_setLaneCal_same, hx]
    exact ⟨rfl, (calGroup_of_opt hopt : s1.calGroup = s.calGroup)⟩

theorem doCalTurn_of_off {s : State} {y g : Nat} {p : Nat × Nat} (hs : s.started = true) (hlit : s.opt.lit = true)
    (hrun : (s.calGroup (4 * y + g)).run = none) (hoff : s.bits (yzBase y + 0x10) 0 1 = 0) (hp : s.turnLane y g = some p) :
    s.doCalTurn y g = (s.turnTaken (4 * y + g) p.1 p.2).deferLane p.1 p.2 := by
  simp [doCalTurn, turnTaken, hs, hlit, hrun, hoff, hp]

/-! ### Calibrations that pass (R374, R383, R390) -/

theorem doCalibrate_of_own {s : State} {l w : Nat} {cal : CalRun} (hup : s.linkUp l = true) (hrun : (s.calGroup (linkGroup l)).run = some cal)
    (hlink : cal.link = l) (hlane : cal.lane = w) (hidle : s.txIdle l w = true) (m d : Int) (g : Fin 3) :
    s.doCalibrate l w (.passed m d g) = (s.askPartner l 0 w).endTxCal l w (.passed m d g) := by
  simp [doCalibrate, hup, hrun, hlink, hlane, hidle]

theorem doCalibrate_of_partner {s : State} {l w : Nat} (hup : s.linkUp l = true) (hrun : (s.calGroup (linkGroup l)).run = none)
    (hj : laneOf w (s.lnk l).spareCh ≠ 31) (hsp : (s.lnk l).rxSpare = laneOf w (s.lnk l).spareCh) (e : CalEnd) :
    s.doCalibrate l w e = s.endRxCal l w e := by
  simp [doCalibrate, hup, hrun, hj, hsp]

/-- What a passed calibration of a transmit lane sets in the optics (R390). -/
def txCalibrated (s : State) (l w : Nat) (m : Int) : State :=
  let c := s.calGroup (linkGroup l)
  ((s.setCalGroup (linkGroup l) { c with run := none, last := c.last.set 0 l s.clk.now }).setCorr (ringKey l w false) m).setLaneCal l w
    { s.laneCal l w with retired := false, deferred := false, guardOut := false }

theorem refreshCal_opt (s : State) (y : Nat) : (s.refreshCal y).opt = s.opt := rfl

theorem requestMove_opt (s : State) (l j : Nat) (back : Bool) : (s.requestMove l j back).opt = s.opt := by rw [(requestMove_asks s l j back).1]

/-- Its count, its record and the lane's return lie outside the optics (R390). -/
theorem endTxCal_opt (s : State) (l w : Nat) (m d : Int) (g : Fin 3) : (s.endTxCal l w (.passed m d g)).opt = (s.txCalibrated l w m).opt := by
  set u := ((s.txCalibrated l w m).bump (yzBase (l / 32) + 0x200)).setDword (yzBase (l / 32) + 0x208) s.clk.now with hu
  have hu_opt : u.opt = (s.txCalibrated l w m).opt := by
    rw [hu, setDword, setWord_opt, setWord_opt, bump_opt]
  have hdo : s.endTxCal l w (.passed m d g) =
      (if laneOf w (s.lnk l).spareCh = 31 then u else u.requestMove l (laneOf w (s.lnk l).spareCh) true).refreshCal (l / 32) := rfl
  rw [hdo, refreshCal_opt, ← hu_opt]
  split
  · rfl
  · exact requestMove_opt u l _ true

theorem endTxCal_spec (s : State) (l w : Nat) (m d : Int) (g : Fin 3) :
    let t := s.endTxCal l w (.passed m d g)
    (t.ringOf (ringKey l w false)).corr = clampCorr m ∧ (t.calGroup (linkGroup l)).run = none ∧ (t.calGroup (linkGroup l)).last.get 0 l = s.clk.now ∧
      t.laneCal l w = { s.laneCal l w with retired := false, deferred := false, guardOut := false } := by
  intro t
  have hopt : t.opt = _ := endTxCal_opt s l w m d g
  rw [ringOf_of_opt hopt, calGroup_of_opt hopt, laneCal_of_opt hopt, txCalibrated]
  extract_lets c
  generalize hs1 : s.setCalGroup _ _ = s1
  have hgroup : (s1.setCorr (ringKey l w false) m).calGroup = s1.calGroup := by rw [setCorr_frame]; rfl
  rw [ringOf_setLaneCal, calGroup_setLaneCal, laneCal_setLaneCal_same, corr_setCorr, hgroup, ← hs1, calGroup_setCalGroup_same]
  exact ⟨rfl, rfl, Tbl.get_set_same _ _ _ _, rfl⟩

theorem endRxCal_spec (s : State) (l : Nat) {w : Nat} (hw : w < 17) (m d : Int) (g : Fin 3) :
    let t := s.endRxCal l w (.passed m d g)
    (t.ringOf (ringKey l w true)).corr = clampCorr d ∧ (t.laneCal l w).gain = gainOf g ∧ (t.laneCal l w).overloadRetired = false ∧
      (t.lnk l).retired.getLsbD w = false := by
  set u := (s.setCorr (ringKey l w true) d).setLaneCal l w { s.laneCal l w with gain := gainOf g, overloadRetired := false } with hu
  have hdo : s.endRxCal l w (.passed m d g) = u.setLnk l { u.lnk l with retired := setBit17 (u.lnk l).retired w false } := rfl
  have hlane : u.laneCal l w = { s.laneCal l w with gain := gainOf g, overloadRetired := false } := laneCal_setLaneCal_same _ l w _
  have hrings : u.ringOf = (s.setCorr (ringKey l w true) d).ringOf := ringOf_setLaneCal _ _ _ _
  rw [hdo]
  clear_value u
  dsimp only
  rw [ringOf_setLnk, hrings, corr_setCorr, laneCal_setLnk, hlane, lnk_setLnk_same]
  exact ⟨rfl, rfl, rfl, getLsbD_setBit17_false _ hw⟩

end Sys2Proof.Machine.State

namespace Sys2Proof.Claims

open Sys2Proof.Machine Sys2Proof.Machine.State

/-- Settles O43: each command takes the branch of its rule; an update of the heaters goes ring by ring. -/
theorem heatersAndCalibration : Obligations.HeatersAndCalibration := by
  intro s l w temp m d est r chip group s1
  refine ⟨fun hlit hrun => ?unlit, fun hlit hcodes hup => ?heaters, fun hup => ⟨fun hin => ?within, fun hout => ?past⟩, fun hup => ?gain,
    fun hdef hguard hout => ?guard, fun hs hlit hrun hoff p hp => ?turn, fun g cal hup hrun hlink hlane hidle => ?own,
    fun g hup hrun hj hsp => ?partner⟩
  case unlit => exact congrArg Host.Outcome.next (doHeater_of_unlit hlit hrun l temp)
  case heaters =>
    refine answers_of_eq (u := s1.setHeaters l 34) rfl (doHeater_of_lit hlit l temp) ?_
    have hspec := setHeaters_spec (s := s1) hup hcodes (Nat.le_refl 34)
    generalize s1.setHeaters l 34 = u at hspec ⊢
    exact hspec
  case within => exact answers_of_eq rfl (doDetune_of_within hup hin) ⟨rfl, est_estimated s l r est⟩
  case past => exact ⟨_, rfl, doDetune_of_past hup hout⟩
  case gain => exact answers_of_eq rfl (if_pos hup) (urgentRx_spec s l w.isLt).1
  case guard => exact congrArg Host.Outcome.next (doGuard_of_beyond hdef hguard hout)
  case turn =>
    refine answers_of_eq rfl (doCalTurn_of_off hs hlit hrun hoff hp) ?_
    obtain ⟨hlane, hgroup⟩ := deferLane_spec (s.turnTaken (4 * chip + group) p.1 p.2) p.1 p.2
    rw [hlane, hgroup, run_turnTaken]
    exact ⟨rfl, urgent_turnTaken _ _ _ _, hrun⟩
  case own =>
    obtain ⟨hcorr, hended, hlast, hlane'⟩ := endTxCal_spec (s.askPartner l 0 w) l w m.toInt d.toInt g
    refine answers_of_eq rfl (doCalibrate_of_own hup hrun hlink hlane hidle _ _ g) ⟨hcorr.trans (clampCorr_toInt m), hended, hlast.trans ?_, hlane'.trans ?_⟩
    · rw [askPartner_clk]
    · rw [laneCal_of_opt (askPartner_opt _ _ _ _)]
  case partner =>
    obtain ⟨hcorr, hgain, hover, hbit⟩ := endRxCal_spec s l w.isLt m.toInt d.toInt g
    exact answers_of_eq rfl (doCalibrate_of_partner hup hrun hj hsp _) ⟨hcorr.trans (clampCorr_toInt d), hgain, hover, hbit⟩

end Sys2Proof.Claims
end

section
/-! Ambient light on a lane: overload, retirement, recovery, and the checks of new light (09 R365, R384, R397-R401; 10 R421, R447-R458). -/

namespace Sys2Proof.Machine.State

/-! ### Overload and its end (R384, R399) -/

/-- The episode counters of a link lie from 0x100 on in its 4 KiB of registers. -/
theorem episodes_ne_lost (l : Nat) {w : Nat} (hw : w < 17) : lnReg l + 0x100 + 4 * w ≠ mgtBase + 0x3014 := by
  unfold lnReg yzBase mgtBase
  omega

theorem word_setLaneCal (s : State) (l k : Nat) (x : LaneCal) (off : Nat) : (s.setLaneCal l k x).word off = s.word off := rfl

theorem doOverload_of_new {s : State} {l w : Nat} (h : (s.laneCal l w).overload = false) :
    s.doOverload l w = (s.setLaneCal l w { s.laneCal l w with overload := true }).bump (lnReg l + 0x100 + 4 * w) := by
  simp [doOverload, h]

/-! ### Retirement (R399, R401; 10 R421, R447) -/

theorem retireRx_of_new {s : State} {l w : Nat} (h : (s.lnk l).retired.getLsbD w = false) (code : Nat) :
    s.retireRx l w code = (s.setLnk l { s.lnk l with retired := setBit17 (s.lnk l).retired w true }).record code (linkLoc l w) := by
  simp [retireRx, h]

theorem rxSpare_of_rxFree {s : State} {l : Nat} (h : s.rxFree l = true) : (s.lnk l).rxSpare = 31 := by
  simp only [rxFree, Bool.and_eq_true, beq_iff_eq] at h
  obtain ⟨⟨⟨hspare, -⟩, -⟩, -⟩ := h
  exact hspare

theorem rxFree_setLaneCal (s : State) (l k : Nat) (x : LaneCal) (j : Nat) : (s.setLaneCal l k x).rxFree j = s.rxFree j := rfl

theorem rxFree_of_spare_used {s : State} {l : Nat} (h : (s.lnk l).rxSpare ≠ 31) : s.rxFree l = false := by
  simp [rxFree, h]

/-- An overloaded lane is retired, and its wavelength at this receiver. -/
def overloadRetired (s : State) (l w : Nat) : State := (s.setLaneCal l w { s.laneCal l w with overloadRetired := true }).retireRx l w 0x0909

section
variable {s : State} {l w : Nat} (hover : (s.laneCal l w).overload = true) (hnew : (s.laneCal l w).overloadRetired = false)
  (hup : s.linkUp l = true) (hj : laneOf w (s.lnk l).spareCh ≠ 31)
include hover hnew hup hj

theorem doOverloadRetire_of_free (hfree : s.rxFree l = true) : s.doOverloadRetire l w =
    (s.overloadRetired l w).setLnk l { (s.overloadRetired l w).lnk l with rxReq := laneOf w (s.lnk l).spareCh, rxMove := none } := by
  have hne : 31 ≠ laneOf w (s.lnk l).spareCh := hj.symm
  rw [linkUp, beq_iff_eq] at hup
  simp [doOverloadRetire, overloadRetired, hover, hnew, hup, hj, hne, rxSpare_of_rxFree hfree, rxFree_setLaneCal, hfree]

theorem doOverloadRetire_of_used (hused : (s.lnk l).rxSpare ≠ 31) (hother : (s.lnk l).rxSpare ≠ laneOf w (s.lnk l).spareCh) :
    s.doOverloadRetire l w = (s.overloadRetired l w).linkDown l := by
  rw [linkUp, beq_iff_eq] at hup
  simp [doOverloadRetire, overloadRetired, hover, hnew, hup, hj, hother, rxFree_setLaneCal, rxFree_of_spare_used hused]

end

theorem overloadRetired_spec {s : State} {l w : Nat} (h : (s.lnk l).retired.getLsbD w = false) :
    ((s.overloadRetired l w).laneCal l w).overloadRetired = true ∧
      (s.overloadRetired l w).lnk l = { s.lnk l with retired := setBit17 (s.lnk l).retired w true } := by
  rw [overloadRetired, retireRx_of_new (by rwa [lnk_setLaneCal]), laneCal_of_opt (record_opt _ _ _ _), lnk_of_ln (record_ln _ _ _ _),
    laneCal_setLnk, laneCal_setLaneCal_same, lnk_setLnk_same, lnk_setLaneCal]
  exact ⟨rfl, rfl⟩

/-- R399: with the spare lane free, the receiver asks for the lane on it, and the link stays up. -/
theorem doOverloadRetire_spec {s : State} {l w : Nat} (hw : w < 17) (hover : (s.laneCal l w).overload = true)
    (hnew : (s.laneCal l w).overloadRetired = false) (hup : s.linkUp l = true) (hj : laneOf w (s.lnk l).spareCh ≠ 31)
    (hret : (s.lnk l).retired.getLsbD w = false) (hfree : s.rxFree l = true) :
    let t := s.doOverloadRetire l w
    (t.laneCal l w).overloadRetired = true ∧ (t.lnk l).retired.getLsbD w = true ∧ (t.lnk l).rxReq = laneOf w (s.lnk l).spareCh ∧ t.linkUp l = true := by
  obtain ⟨hlane, hlnk⟩ := overloadRetired_spec hret
  rw [doOverloadRetire_of_free hover hnew hup hj hfree]
  dsimp only
  rw [linkUp, laneCal_setLnk, lnk_setLnk_same, hlnk]
  exact ⟨hlane, getLsbD_setBit17_true _ hw, rfl, hup⟩

/-! ### Recovery (R400) -/

/-- R400: the lane is first in its group's queue, and its wavelength urgent. -/
theorem doOverloadRecovery_spec {s : State} {l w : Nat} (hw : w < 17) (hret : (s.laneCal l w).overloadRetired = true)
    (hover : (s.laneCal l w).overload = false) :
    let t := s.doOverloadRecovery l w
    (t.calGroup (linkGroup l)).head.head? = some (l, w) ∧ (t.lnk l).urgent.getLsbD w = true := by
  unfold doOverloadRecovery
  rw [if_pos (by simp [hret, hover])]
  dsimp only
  rw [calGroup_of_opt (askPartner_opt _ _ _ _), lnk_of_ln (askPartner_ln _ _ _ _), calGroup_setLnk, calGroup_setCalGroup_same, lnk_setLnk_same]
  exact ⟨rfl, getLsbD_setBit17_true _ hw⟩

/-! ### Checks of new light (R365, R369) -/

theorem doPrbsDone_of_no_end {s : State} {l w : Nat} {ok : Bool} (h : (s.laneCal l w).prbs = false ∨ ok = false) : s.doPrbsDone l w ok = s :=
  if_pos (by rcases h with h | h <;> simp [h])

theorem doPrbsDone_of_spare {s : State} {l w : Nat} (h : (s.laneCal l w).prbs = true) (hj : laneOf w (s.lnk l).spareCh = 31) :
    s.doPrbsDone l w true = s.setLaneCal l w { s.laneCal l w with prbs := false } := by
  simp [doPrbsDone, h, hj]

/-- R454: a move that is not asked for yet, on an ACTIVE link that asks for none. -/
theorem requestMove_of_none {s : State} {l j : Nat} (hst : (s.lnk l).st = .active) (hsp : (s.lnk l).txSpare = j) (hmove : (s.lnk l).txMove = none)
    (hwant : (j, true) ∉ (s.lnk l).want) :
    s.requestMove l j true = s.setLnk l { s.lnk l with txMove := some ⟨j, true, s.clk.epoch + 2, false, true⟩ } := by
  simp [requestMove, hst, hsp, hmove, hwant]

theorem doPrbsDone_of_lane {s : State} {l w : Nat} (h : (s.laneCal l w).prbs = true) (hj : laneOf w (s.lnk l).spareCh ≠ 31)
    (hst : (s.lnk l).st = .active) (hsp : (s.lnk l).txSpare = laneOf w (s.lnk l).spareCh)
    (hlit : s.channelLit (chanOf (l / 32) (l % 32 / 8) w) = true) (hrun : (s.calGroup (linkGroup l)).run = none)
    (hret : (s.laneCal l w).retired = false) :
    s.doPrbsDone l w true =
      (s.setLaneCal l w { s.laneCal l w with prbs := false }).requestMove l (laneOf w (s.lnk l).spareCh) true := by
  simp [doPrbsDone, h, hj, hst, hsp, hlit, hrun, hret]

end Sys2Proof.Machine.State

namespace Sys2Proof.Claims

open Sys2Proof.Machine Sys2Proof.Machine.State

/-- Settles O44: each command takes the branch of its rule by what the lane and the spare lane show. -/
theorem ambientLight : Obligations.AmbientLight := by
  intro s l w x
  refine ⟨fun hnew => ?overload, rfl, fun hover hnew hup hj hret hfree => ?free, fun hover hnew hup hj hused hother => ?used,
    fun hret hover => ⟨_, rfl, doOverloadRecovery_spec w.isLt hret hover⟩, congrArg Host.Outcome.next (doPrbsDone_of_no_end (.inr rfl)),
    fun hprbs => congrArg Host.Outcome.next (doPrbsDone_of_no_end (.inl hprbs)),
    fun hprbs => ⟨fun hj => ?spare, fun hj hst hsp hmove hwant hlit hrun hret => ?lane⟩⟩
  case overload =>
    refine answers_of_eq rfl (doOverload_of_new hnew) ⟨?_, ?_⟩
    · rw [laneCal_of_opt (bump_opt _ _), laneCal_setLaneCal_same]
    · rw [word_bump_same _ (episodes_ne_lost l w.isLt), word_setLaneCal]
  case free => exact ⟨_, rfl, doOverloadRetire_spec w.isLt hover hnew hup hj hret hfree⟩
  case used => exact answers_of_eq rfl (doOverloadRetire_of_used hover hnew hup hj hused hother) (linkDown_down _ _ _ _)
  case spare => exact congrArg Host.Outcome.next (doPrbsDone_of_spare hprbs hj)
  case lane =>
    refine congrArg Host.Outcome.next ((doPrbsDone_of_lane hprbs hj hst hsp hlit hrun hret).trans ?_)
    exact requestMove_of_none (s := s.setLaneCal l w { x with prbs := false }) hst hsp hmove hwant

end Sys2Proof.Claims
end

section
/-! What bring-up does to the wavelengths of one link: bits of a mask, corrections, gain ranges, retirements, and loops over them
(09 R374; 10 R413, R421-R432; 18 R795). -/

namespace Sys2Proof.Machine

theorem getLsbD_setBit17_other (m : BitVec 17) {j k : Nat} (b : Bool) (h : j ≠ k) : (setBit17 m k b).getLsbD j = m.getLsbD j := by
  have hbit : (BitVec.ofNat 17 (2 ^ k)).getLsbD j = false := by
    rw [BitVec.getLsbD_ofNat, Nat.testBit_two_pow_of_ne h.symm, Bool.and_false]
  cases b with
  | true => rw [setBit17, if_pos rfl, BitVec.getLsbD_or, hbit, Bool.or_false]
  | false =>
    rw [setBit17, if_neg (by decide), BitVec.getLsbD_and, BitVec.getLsbD_not, hbit]
    by_cases hj : j < 17
    · simp [hj]
    · simp [BitVec.getLsbD_of_ge m j (Nat.le_of_not_lt hj)]

theorem ringKey_ne (l : Nat) {j k : Nat} (drop : Bool) (h : j ≠ k) : ringKey l j drop ≠ ringKey l k drop := by
  unfold ringKey
  omega

namespace State

/-! ### What the lanes of a link reach -/

theorem ringOf_setCorr_other (s : State) {j k : Nat} (c : Int) (h : j ≠ k) : (s.setCorr k c).ringOf j = s.ringOf j := by
  have hset : (s.setRingH k { s.ringOf k with corr := clampCorr c }).ringOf j = s.ringOf j := ringOf_setRingH_other _ _ h
  unfold setCorr
  dsimp only
  split <;> exact hset

theorem laneCal_setLaneCal_other (s : State) (l : Nat) {j k : Nat} (x : LaneCal) (h : j ≠ k) :
    (s.setLaneCal l k x).laneCal l j = s.laneCal l j :=
  Tbl.get_set_other _ _ _ (by omega) _

/-- Only the links' lanes, the optics, the event log and what a record counts may differ. -/
def LanesOnly (s t : State) : Prop := t = { s with ln := t.ln, opt := t.opt, mgt := t.mgt, regs := t.regs, boot := t.boot }

theorem LanesOnly.trans {s t u : State} (h : LanesOnly s t) (h' : LanesOnly t u) : LanesOnly s u :=
  Eq.trans h' (by rw [h])

/-- A record whose code is not a shank's leaves LAST_CODE as it was (18 R795). -/
theorem record_lanesOnly (s : State) {code : Nat} (hcode : code / 256 ≠ 0x10) (loc : Loc) (detail : Nat) :
    LanesOnly s (s.record code loc detail) := by
  rw [LanesOnly, record, addNote_frame, recordFatal, stageEvent_frame, if_neg hcode]

/-- The lanes are the only change, and of the link's record the retired wavelengths. -/
def RetiresOnly (s t : State) (l : Nat) : Prop := LanesOnly s t ∧ t.lnk l = { s.lnk l with retired := (t.lnk l).retired }

theorem RetiresOnly.refl (s : State) (l : Nat) : RetiresOnly s s l := ⟨rfl, rfl⟩

theorem RetiresOnly.trans {s t u : State} {l : Nat} (h : RetiresOnly s t l) (h' : RetiresOnly t u l) : RetiresOnly s u l := by
  obtain ⟨hlive, hlnk⟩ := h
  obtain ⟨hlive', hlnk'⟩ := h'
  exact ⟨hlive.trans hlive', hlnk'.trans (by rw [hlnk])⟩

theorem RetiresOnly.of_ln {s t : State} {l : Nat} (h : LanesOnly s t) (hln : t.ln = s.ln) : RetiresOnly s t l :=
  ⟨h, by rw [lnk_of_ln hln]⟩

/-! ### Each wavelength by itself (R413) -/

/-- What bring-up settles for a wavelength: the correction of its ring, the gain range of its lane, and whether it is retired. -/
structure Settled where
  corr : Int
  gain : Gain
  retired : Bool

/-- What is settled for wavelength `k` of a link, by its drop filter or its modulator. -/
def settled (s : State) (l : Nat) (drop : Bool) (k : Nat) : Settled :=
  ⟨(s.ringOf (ringKey l k drop)).corr, (s.laneCal l k).gain, (s.lnk l).retired.getLsbD k⟩

theorem settled_setLnk (s : State) {l : Nat} {x : LinkLn} (hret : x.retired = (s.lnk l).retired) (drop : Bool) :
    (s.setLnk l x).settled l drop = s.settled l drop := by
  funext k
  rw [settled, settled, ringOf_setLnk, laneCal_setLnk, lnk_setLnk_same, hret]

/-- Only wavelength `k` is settled anew, as `R` says from what it was to what it is. -/
def Settles (s t : State) (l : Nat) (drop : Bool) (k : Nat) (R : Settled → Settled → Prop) : Prop :=
  RetiresOnly s t l ∧ (∀ j, j ≠ k → t.settled l drop j = s.settled l drop j) ∧ R (s.settled l drop k) (t.settled l drop k)

/-- A loop that settles one wavelength after the other settles each of them. -/
theorem settleEach (s : State) (l : Nat) (drop : Bool) (f : State → Nat → State) (R : Nat → Settled → Settled → Prop)
    (hstep : ∀ a, RetiresOnly s a l → ∀ k < 17, Settles a (f a k) l drop k (R k)) :
    let t := (List.range 17).foldl f s
    RetiresOnly s t l ∧ ∀ k < 17, R k (s.settled l drop k) (t.settled l drop k) :=
  foldl_range_each (fun a => a.settled l drop) (fun a => RetiresOnly s a l) (fun k => R k (s.settled l drop k)) (.refl s l)
    (fun a ha k hk hsame => by
      obtain ⟨honly, hother, hnew⟩ := hstep a ha k hk
      exact ⟨ha.trans honly, hsame ▸ hnew, hother⟩)

/-! ### Retirements (R421) -/

theorem retireRx_of_old {s : State} {l w : Nat} (h : (s.lnk l).retired.getLsbD w = true) (code : Nat) : s.retireRx l w code = s := if_pos h

theorem lnk_retireRx_of_new {s : State} {l w : Nat} (h : (s.lnk l).retired.getLsbD w = false) (code : Nat) :
    (s.retireRx l w code).lnk l = { s.lnk l with retired := setBit17 (s.lnk l).retired w true } := by
  rw [retireRx_of_new h, lnk_of_ln (record_ln _ _ _ _), lnk_setLnk_same]

/-- R421: a wavelength is retired; the others are as they were. -/
theorem retireRx_settles (s : State) (l : Nat) (drop : Bool) {k code : Nat} (hk : k < 17) (hcode : code / 256 ≠ 0x10) :
    Settles s (s.retireRx l k code) l drop k (fun _ x => x.retired = true) := by
  cases hret : (s.lnk l).retired.getLsbD k with
  | true =>
    rw [retireRx_of_old hret]
    exact ⟨.refl s l, fun _ _ => rfl, hret⟩
  | false =>
    have hlnk := lnk_retireRx_of_new hret code
    have hopt : (s.retireRx l k code).opt = s.opt := by rw [retireRx_of_new hret]; exact record_opt _ _ _ _
    have hbit : ((s.retireRx l k code).lnk l).retired.getLsbD k = true := by rw [hlnk]; exact getLsbD_setBit17_true _ hk
    refine ⟨⟨?_, by rw [hlnk]⟩, fun j hj => ?_, hbit⟩
    · rw [retireRx_of_new hret]
      exact LanesOnly.trans (t := s.setLnk l _) rfl (record_lanesOnly _ hcode _ _)
    · rw [settled, settled, ringOf_of_opt hopt, laneCal_of_opt hopt, hlnk, getLsbD_setBit17_other _ _ hj]

/-- A wavelength is retired, or not, as a check of it asks. -/
def retireIf (s : State) (l k code : Nat) (bad : Bool) : State := if bad then s.retireRx l k code else s

/-- A check has retired a wavelength that it found bad. -/
def RetiredIf (bad : Bool) (old new : Settled) : Prop := new.retired = (old.retired || bad)

theorem retireIf_settles (s : State) (l : Nat) (drop : Bool) {k code : Nat} (hk : k < 17) (hcode : code / 256 ≠ 0x10) (bad : Bool) :
    Settles s (s.retireIf l k code bad) l drop k (RetiredIf bad) := by
  cases bad with
  | true =>
    obtain ⟨honly, hother, hbit⟩ := retireRx_settles s l drop hk hcode
    exact ⟨honly, hother, hbit.trans (Bool.or_true _).symm⟩
  | false => exact ⟨.refl s l, fun _ _ => rfl, (Bool.or_false _).symm⟩

/-! ### Sweeps (R429, R430) -/

theorem setCorr_lanesOnly (s : State) (k : Nat) (c : Int) : LanesOnly s (s.setCorr k c) := by
  rw [LanesOnly, setCorr_frame]

theorem setCorr_ln (s : State) (k : Nat) (c : Int) : (s.setCorr k c).ln = s.ln := by rw [setCorr_frame]

theorem laneCal_setCorr (s : State) (k : Nat) (c : Int) : (s.setCorr k c).laneCal = s.laneCal := by rw [setCorr_frame]; rfl

/-- What the sweep of a drop filter brings its wavelength (R429). -/
def sweptDrop (s : State) (l k : Nat) : Option (Int × Fin 3) → State
  | some (c, g) => (s.setCorr (ringKey l k true) c).setLaneCal l k { s.laneCal l k with gain := gainOf g }
  | none => s.retireRx l k 0x0906

/-- What the sweep of a modulator brings its wavelength (R429). -/
def sweptModulator (s : State) (l k : Nat) : Option Int → State
  | some c => s.setCorr (ringKey l k false) c
  | none => s.retireRx l k 0x0906

theorem settled_setCorr_other (s : State) (l : Nat) (drop : Bool) {j k : Nat} (c : Int) (h : j ≠ k) :
    (s.setCorr (ringKey l k drop) c).settled l drop j = s.settled l drop j := by
  rw [settled, settled, ringOf_setCorr_other _ _ (ringKey_ne l drop h), laneCal_setCorr, lnk_of_ln (setCorr_ln _ _ _)]

theorem settled_setLaneCal_other (s : State) (l : Nat) (drop : Bool) {j k : Nat} (x : LaneCal) (h : j ≠ k) :
    (s.setLaneCal l k x).settled l drop j = s.settled l drop j := by
  rw [settled, settled, ringOf_setLaneCal, laneCal_setLaneCal_other _ _ _ h, lnk_setLaneCal]

/-- What the result of a drop filter's sweep makes of its wavelength (R429, R430). -/
def DropSwept : Option (Int × Fin 3) → Settled → Settled → Prop
  | some (c, g), old, new => new = ⟨clampCorr c, gainOf g, old.retired⟩
  | none, _, new => new.retired = true

/-- What the result of a modulator's sweep makes of its wavelength (R429, R430). -/
def ModulatorSwept : Option Int → Settled → Settled → Prop
  | some c, old, new => new = ⟨clampCorr c, old.gain, old.retired⟩
  | none, _, new => new.retired = true

theorem sweptDrop_settles (s : State) (l : Nat) {k : Nat} (hk : k < 17) :
    ∀ o, Settles s (s.sweptDrop l k o) l true k (DropSwept o)
  | none => retireRx_settles s l true hk (by decide)
  | some (c, g) => by
    refine ⟨.of_ln (LanesOnly.trans (setCorr_lanesOnly s _ c) rfl) (setCorr_ln s _ c), fun j hj => ?_, ?_⟩
    · exact (settled_setLaneCal_other _ _ _ _ hj).trans (settled_setCorr_other _ _ _ _ hj)
    · rw [sweptDrop, DropSwept, settled, ringOf_setLaneCal, corr_setCorr, laneCal_setLaneCal_same, lnk_setLaneCal, lnk_of_ln (setCorr_ln _ _ _)]
      rfl

theorem sweptModulator_settles (s : State) (l : Nat) {k : Nat} (hk : k < 17) :
    ∀ o, Settles s (s.sweptModulator l k o) l false k (ModulatorSwept o)
  | none => retireRx_settles s l false hk (by decide)
  | some c => by
    refine ⟨.of_ln (setCorr_lanesOnly s _ c) (setCorr_ln s _ c), fun j hj => settled_setCorr_other _ _ _ _ hj, ?_⟩
    rw [sweptModulator, ModulatorSwept, settled, corr_setCorr, laneCal_setCorr, lnk_of_ln (setCorr_ln _ _ _)]
    rfl

/-! ### Lanes of a link, all at once -/

/-- Every lane of a link as calibration sees it becomes `f` of itself. -/
def mapLanes (s : State) (l : Nat) (f : LaneCal → LaneCal) : State :=
  (List.range 17).foldl (fun (s : State) k => s.setLaneCal l k (f (s.laneCal l k))) s

theorem mapLanes_spec (s : State) (l : Nat) (f : LaneCal → LaneCal) :
    let t := s.mapLanes l f
    t = { s with opt := { s.opt with lanes := t.opt.lanes } } ∧ ∀ k < 17, t.laneCal l k = f (s.laneCal l k) :=
  foldl_range_each (fun (a : State) => a.laneCal l) (fun a => a = { s with opt := { s.opt with lanes := a.opt.lanes } })
    (fun k x => x = f (s.laneCal l k)) rfl (fun a ha k _ hsame => by
      refine ⟨?_, by rw [laneCal_setLaneCal_same, hsame], fun j hj => laneCal_setLaneCal_other _ _ _ hj⟩
      rw [setLaneCal, ha])

end State

end Sys2Proof.Machine
end

section
/-! Lane bring-up: DETECT, ALIGN and BITLOCK (10 R421-R432; 09 R396, R404). -/

namespace Sys2Proof.Machine.State

/-! ### DETECT (R421, R423, R426-R428) -/

theorem doAlignEntry_of_found {s : State} {l : Nat} (hst : (s.lnk l).st = .detect) (hfound : (s.lnk l).found = true)
    (hpartner : (s.lnk l).partnerFound = true) :
    s.doAlignEntry l = ((s.mapLanes l fun x => { x with retired := false, overloadRetired := false }).setLnk l { s.lnk l with
      st := .align, retired := 0#17, spareCh := s.lnSpareCtl l, down := false, phase2 := false }).setShutter l .opened :=
  if_pos ⟨hst, hfound, hpartner⟩

theorem doDetectTimeout_of_probing {s : State} {l : Nat} (hst : (s.lnk l).st = .detect) (hduty : (s.lnk l).duty = false)
    (hheld : (s.lnk l).held = false) (hfound : (s.lnk l).found = false) :
    s.doDetectTimeout l = ((s.setLnk l { s.lnk l with duty := true }).setShutter l .closed).record 0x0A01 (linkLoc l) :=
  if_pos ⟨hst, by simp [hduty], by simp [hheld], by simp [hfound]⟩

theorem shutter_record (s : State) (code : Nat) (loc : Loc) (detail : Nat) : (s.record code loc detail).shutter = s.shutter := by
  funext l
  rw [shutter, shutter, record_opt]

/-! ### ALIGN (R429, R430) -/

section
variable {s : State} {l : Nat} (hst : (s.lnk l).st = .align)
include hst

theorem doSecondPhase_eq (hphase : (s.lnk l).phase2 = false) (sweeps : List (Fin 17 × Option (Int × Fin 3))) :
    s.doSecondPhase l sweeps =
      (List.range 17).foldl (fun a k => a.sweptDrop l k (sweepOf sweeps k)) (s.setLnk l { s.lnk l with phase2 := true }) :=
  if_pos ⟨hst, by simp [hphase]⟩

/-- R429, R430: the drop-filter sweeps settle every wavelength, and the modulators follow. -/
theorem doSecondPhase_spec (hphase : (s.lnk l).phase2 = false) (sweeps : List (Fin 17 × Option (Int × Fin 3))) :
    let t := s.doSecondPhase l sweeps
    LanesOnly s t ∧ (t.lnk l).st = .align ∧ (t.lnk l).phase2 = true ∧
      ∀ k < 17, DropSwept (sweepOf sweeps k) (s.settled l true k) (t.settled l true k) := by
  set b := s.setLnk l { s.lnk l with phase2 := true } with hb
  have hlnk : b.lnk l = { s.lnk l with phase2 := true } := lnk_setLnk_same _ _ _
  have hsettled : b.settled l true = s.settled l true := settled_setLnk s (x := { s.lnk l with phase2 := true }) rfl true
  obtain ⟨⟨hlive, honly⟩, heach⟩ := settleEach b l true (fun a k => a.sweptDrop l k (sweepOf sweeps k)) (fun k => DropSwept (sweepOf sweeps k))
    (fun a _ k hk => sweptDrop_settles a l hk _)
  rw [doSecondPhase_eq hst hphase, ← hb, ← hsettled]
  refine ⟨LanesOnly.trans (t := b) rfl hlive, ?_, ?_, heach⟩ <;> rw [honly, hlnk]
  exact hst

theorem doAlignDone_eq (hphase : (s.lnk l).phase2 = true) (sweeps : List (Fin 17 × Option Int)) :
    s.doAlignDone l sweeps =
      let s1 := (List.range 17).foldl (fun a k => a.sweptModulator l k (sweepOf sweeps k)) s
      s1.setLnk l { s1.lnk l with st := .bitlock } :=
  if_pos ⟨hst, hphase⟩

/-- R429, R430: the modulator sweeps settle every wavelength, and BITLOCK begins. -/
theorem doAlignDone_spec (hphase : (s.lnk l).phase2 = true) (sweeps : List (Fin 17 × Option Int)) :
    let t := s.doAlignDone l sweeps
    LanesOnly s t ∧ (t.lnk l).st = .bitlock ∧
      ∀ k < 17, ModulatorSwept (sweepOf sweeps k) (s.settled l false k) (t.settled l false k) := by
  obtain ⟨⟨hlive, -⟩, heach⟩ := settleEach s l false (fun a k => a.sweptModulator l k (sweepOf sweeps k))
    (fun k => ModulatorSwept (sweepOf sweeps k)) (fun a _ k hk => sweptModulator_settles a l hk _)
  rw [doAlignDone_eq hst hphase]
  dsimp only
  generalize (List.range 17).foldl _ s = b at hlive heach ⊢
  refine ⟨hlive.trans rfl, by rw [lnk_setLnk_same], ?_⟩
  rw [settled_setLnk]
  · exact heach
  · rfl

end

/-! ### BITLOCK (R431, R432) -/

/-- One wavelength of the check at 1.5 ms: without bit lock it is retired (R432). -/
def checkLock (mask : BitVec 17) (l : Nat) (s : State) (k : Nat) : State := if mask.getLsbD k then s else s.retireRx l k 0x0A02

/-- One wavelength of the check at the end: locked, and with errors, it is retired (R432). -/
def checkErrors (mask : BitVec 17) (l : Nat) (s : State) (k : Nat) : State :=
  if mask.getLsbD k && (s.lnk l).locked.getLsbD k then s.retireRx l k 0x0906 else s

theorem checkLock_settles (mask : BitVec 17) (l : Nat) (s : State) {k : Nat} (hk : k < 17) :
    Settles s (checkLock mask l s k) l true k (RetiredIf !mask.getLsbD k) := by
  have hcheck : checkLock mask l s k = s.retireIf l k 0x0A02 !mask.getLsbD k := by
    unfold checkLock
    cases mask.getLsbD k <;> rfl
  rw [hcheck]
  exact retireIf_settles s l true hk (by decide) _

theorem checkErrors_settles (mask : BitVec 17) (l : Nat) (s : State) {k : Nat} (hk : k < 17) :
    Settles s (checkErrors mask l s k) l true k (RetiredIf (mask.getLsbD k && (s.lnk l).locked.getLsbD k)) :=
  retireIf_settles s l true hk (by decide) _

section
variable {s : State} {l : Nat} (hst : (s.lnk l).st = .bitlock) (mask : BitVec 17)
include hst

theorem doBitWindow_eq : s.doBitWindow l mask = (List.range 17).foldl (checkLock mask l) (s.setLnk l { s.lnk l with locked := mask }) :=
  if_pos hst

/-- R432: a wavelength without bit lock is retired. -/
theorem doBitWindow_spec :
    let t := s.doBitWindow l mask
    LanesOnly s t ∧ (t.lnk l).st = .bitlock ∧ (t.lnk l).locked = mask ∧
      ∀ k < 17, (t.lnk l).retired.getLsbD k = ((s.lnk l).retired.getLsbD k || !mask.getLsbD k) := by
  set b := s.setLnk l { s.lnk l with locked := mask } with hb
  have hlnk : b.lnk l = { s.lnk l with locked := mask } := lnk_setLnk_same _ _ _
  obtain ⟨⟨hlive, honly⟩, hret⟩ := settleEach b l true (checkLock mask l) (fun k => RetiredIf !mask.getLsbD k)
    (fun a _ k hk => checkLock_settles mask l a hk)
  rw [doBitWindow_eq hst, ← hb]
  refine ⟨LanesOnly.trans (t := b) rfl hlive, ?_, ?_, fun k hk => (hret k hk).trans (by rw [settled, hlnk])⟩ <;> rw [honly, hlnk]
  exact hst

theorem doBitDone_eq : s.doBitDone l mask =
    let s1 := (List.range 17).foldl (checkErrors mask l) s
    s1.setLnk l { s1.lnk l with st := .frame, hunt := [], rxLock := 0#17, frameTries := 0 } :=
  if_pos hst

/-- R432: of the locked wavelengths those with errors are retired, and FRAME begins. -/
theorem doBitDone_spec :
    let t := s.doBitDone l mask
    LanesOnly s t ∧ (t.lnk l).st = .frame ∧ (t.lnk l).rxLock = 0#17 ∧
      ∀ k < 17, (t.lnk l).retired.getLsbD k = ((s.lnk l).retired.getLsbD k || (mask.getLsbD k && (s.lnk l).locked.getLsbD k)) := by
  obtain ⟨⟨hlive, -⟩, hret⟩ := settleEach s l true (checkErrors mask l) (fun k => RetiredIf (mask.getLsbD k && (s.lnk l).locked.getLsbD k))
    (fun a ha k hk => by
      obtain ⟨-, honly⟩ := ha
      have hlocked : (a.lnk l).locked = (s.lnk l).locked := by rw [honly]
      rw [← hlocked]
      exact checkErrors_settles mask l a hk)
  rw [doBitDone_eq hst]
  dsimp only
  generalize (List.range 17).foldl _ s = b at hlive hret ⊢
  refine ⟨hlive.trans rfl, ?_⟩
  rw [lnk_setLnk_same]
  exact ⟨rfl, rfl, hret⟩

end

end Sys2Proof.Machine.State

namespace Sys2Proof.Claims

open Sys2Proof.Machine Sys2Proof.Machine.State

/-- Settles O47: each command takes the branch of its link's state; the sweeps and the checks settle the wavelengths one by one. -/
theorem laneBringUp : Obligations.LaneBringUp := by
  intro s l found mask r live
  refine ⟨fun hst hheld hprobe hdry => ?tone, fun hst => congrArg Host.Outcome.next (if_pos hst), fun hst hfound hpartner => ?entry,
    fun hst hduty hheld hfound => ?timeout, fun hst hheld => congrArg Host.Outcome.next (if_pos ⟨hst, hheld⟩), fun hst hphase sweeps => ?drops,
    fun hst hphase sweeps => ?modulators, fun hst => ⟨⟨_, rfl, doBitWindow_spec hst mask⟩, ⟨_, rfl, doBitDone_spec hst mask⟩⟩⟩
  case tone => exact congrArg Host.Outcome.next (if_pos ⟨hst, by simp [r, hheld], hprobe, by simp [hdry]⟩)
  case entry =>
    refine answers_of_eq rfl (doAlignEntry_of_found hst hfound hpartner) ?_
    obtain ⟨hframe, hlanes⟩ := mapLanes_spec s l fun x => { x with retired := false, overloadRetired := false }
    generalize s.mapLanes l _ = u at hframe hlanes ⊢
    refine ⟨?_, shutter_setShutter_same _ _ _, ?_, hlanes⟩
    · rw [hframe]
      rfl
    · rw [lnk_setShutter, lnk_setLnk_same]
  case timeout =>
    refine answers_of_eq rfl (doDetectTimeout_of_probing hst hduty hheld hfound) ⟨?_, ?_, ?_⟩
    · exact LanesOnly.trans (t := (s.setLnk l { r with duty := true }).setShutter l .closed) rfl (record_lanesOnly _ (by decide) _ _)
    · rw [lnk_of_ln (record_ln _ _ _ _), lnk_setShutter, lnk_setLnk_same]
    · rw [shutter_record, shutter_setShutter_same]
  case drops =>
    obtain ⟨hlive, hst', hphase', heach⟩ := doSecondPhase_spec hst hphase sweeps
    refine ⟨_, rfl, hlive, hst', hphase', fun i hi => ?_⟩
    have hswept := heach i hi
    split
    · next hsw =>
      rw [hsw] at hswept
      exact Settled.mk.inj hswept
    · next hsw =>
      rw [hsw] at hswept
      exact hswept
  case modulators =>
    obtain ⟨hlive, hst', heach⟩ := doAlignDone_spec hst hphase sweeps
    refine ⟨_, rfl, hlive, hst', fun i hi => ?_⟩
    have hswept := heach i hi
    split
    · next hsw =>
      rw [hsw] at hswept
      obtain ⟨hcorr, -, hret⟩ := Settled.mk.inj hswept
      exact ⟨hcorr, hret⟩
    · next hsw =>
      rw [hsw] at hswept
      exact hswept

end Sys2Proof.Claims
end

section
/-! Frame lock, the capability exchange, going ACTIVE and loss of lock (10 R417-R420, R435-R459; 11 R467, R484, R492). -/

namespace Sys2Proof.Machine.State

/-! ### The search for markers (R435) -/

/-- What one marker makes of the search on a wavelength (R435). -/
def searched (h : Hunt) (m : BitVec 132) (now : Nat) : Hunt :=
  if markerGood m then { run := if h.run ≠ 0 ∧ kField m 68 11 = (h.fcnt + 1) % 2048 then h.run + 1 else 1, fcnt := kField m 68 11, time := now }
  else { h with run := 0 }

/-- R435: before the 32nd marker in a row, only the search on the wavelength goes on. -/
theorem huntMarker_of_unlocked {s : State} {l k : Nat} {m : BitVec 132} (hk : k < 17) (hlock : (s.lnk l).rxLock.getLsbD k = false)
    (hrun : ((s.lnk l).hunt.get {} k).run < 31) :
    ∃ lock : BitVec 17, lock.getLsbD k = false ∧ s.huntMarker l k m = s.setLnk l { s.lnk l with
      hunt := (s.lnk l).hunt.set {} k (searched ((s.lnk l).hunt.get {} k) m s.clk.now), rxLock := lock } := by
  cases hgood : markerGood m with
  | false => exact ⟨_, hlock, by simp [huntMarker, searched, hgood]⟩
  | true =>
    have hshort : ¬ 32 ≤ (searched ((s.lnk l).hunt.get {} k) m s.clk.now).run := by
      rw [searched, if_pos hgood]
      dsimp only
      split <;> omega
    refine ⟨setBit17 (s.lnk l).rxLock k false, getLsbD_setBit17_false _ hk, ?_⟩
    rw [searched, if_pos hgood] at hshort ⊢
    unfold huntMarker
    dsimp only at hshort ⊢
    rw [hgood, if_neg (by decide), hlock, decide_eq_false hshort]
    rfl

theorem doMarker_of_searching {s : State} {l k : Nat} {m : BitVec 132} (hst : (s.lnk l).st = .frame)
    (hlock : ((s.huntMarker l k m).lnk l).rxLock.getLsbD k = false) : s.doMarker l k m = s.huntMarker l k m := by
  simp [doMarker, hst, hlock]

/-- R435: in FRAME, a marker short of frame lock concerns the search alone. -/
theorem doMarker_of_frame {s : State} {l k : Nat} {m : BitVec 132} (hk : k < 17) (hst : (s.lnk l).st = .frame)
    (hlock : (s.lnk l).rxLock.getLsbD k = false) (hrun : ((s.lnk l).hunt.get {} k).run < 31) :
    let t := s.doMarker l k m
    t = { s with ln := t.ln } ∧ (t.lnk l).st = .frame ∧
      (t.lnk l).hunt.get {} k = searched ((s.lnk l).hunt.get {} k) m s.clk.now := by
  obtain ⟨lock, hlock', hdo⟩ := huntMarker_of_unlocked (m := m) hk hlock hrun
  rw [doMarker_of_searching hst (by rw [hdo, lnk_setLnk_same]; exact hlock'), hdo]
  dsimp only
  rw [lnk_setLnk_same]
  exact ⟨rfl, hst, Tbl.get_set_same _ _ _ _⟩

/-! ### Markers in service (R443, R447-R458) -/

/-- The link keeps its state, the partner's locks and its search. -/
def StaysLocked (s t : State) (l : Nat) : Prop :=
  (t.lnk l).st = (s.lnk l).st ∧ (t.lnk l).partnerLock = (s.lnk l).partnerLock ∧ (t.lnk l).hunt = (s.lnk l).hunt

theorem StaysLocked.refl (s : State) (l : Nat) : StaysLocked s s l := ⟨rfl, rfl, rfl⟩

section
variable {s t : State} {l : Nat} (h : StaysLocked s t l)
include h

theorem StaysLocked.setLnk {x : LinkLn} (hst : x.st = (t.lnk l).st) (hlock : x.partnerLock = (t.lnk l).partnerLock)
    (hhunt : x.hunt = (t.lnk l).hunt) : StaysLocked s (t.setLnk l x) l := by
  obtain ⟨hst', hlock', hhunt'⟩ := h
  rw [StaysLocked, lnk_setLnk_same]
  exact ⟨hst.trans hst', hlock.trans hlock', hhunt.trans hhunt'⟩

theorem StaysLocked.bump (off : Nat) : StaysLocked s (t.bump off) l := by
  rw [StaysLocked, lnk_of_ln (bump_ln _ _)]
  exact h

/-- R449, R457: the receiver follows the lane on the spare. -/
theorem StaysLocked.takeTxMap (j : Nat) : StaysLocked s (t.takeTxMap l j) l := by
  unfold State.takeTxMap
  extract_lets r moved s1 s2
  split
  · exact h
  · have h1 : StaysLocked s s1 l := h.setLnk rfl rfl rfl
    have h2 : StaysLocked s s2 l := by
      simp only [s2]
      split
      · exact h1.bump _
      · exact h1
    split
    · exact h2.bump _
    · exact h2

/-- R448: with no move of its own pending, the transmitter puts the lane on the spare at once. -/
theorem StaysLocked.takeRxReq (j : Nat) (hmove : (t.lnk l).txMove = none) : StaysLocked s (t.takeRxReq l j) l := by
  unfold State.takeRxReq
  dsimp only
  rw [hmove]
  split
  · exact h
  · exact h.setLnk rfl rfl rfl

theorem StaysLocked.takePlanReq (j : Nat) (back : Bool) (low : Nat) : StaysLocked s (t.takePlanReq l j back low) l := by
  unfold State.takePlanReq
  extract_lets r e can
  split
  · exact h.setLnk rfl rfl rfl
  · exact h

theorem StaysLocked.takePlanAck (j : Nat) (back : Bool) (low : Nat) : StaysLocked s (t.takePlanAck l j back low) l := by
  unfold State.takePlanAck
  dsimp only
  split
  · split
    · exact h.setLnk rfl rfl rfl
    · exact h
  · exact h

theorem StaysLocked.serviceMarker (k : Nat) (m : BitVec 132) (hmove : (t.lnk l).txMove = none) : StaysLocked s (t.serviceMarker l k m) l := by
  unfold State.serviceMarker
  extract_lets j back s1 s2 s3
  have h1 : StaysLocked s s1 l := h.takeRxReq _ hmove
  have h2 : StaysLocked s s2 l := by
    simp only [s2]
    split
    · exact h1.takeTxMap _
    · exact h1
  have h3 : StaysLocked s s3 l := by
    simp only [s3]
    split
    · exact h2.takePlanReq _ _ _
    · exact h2
  split
  · exact h3.takePlanAck _ _ _
  · exact h3

end

/-- R443: a good marker ends the row of bad ones. -/
theorem lnk_goodMarker (s : State) (l k : Nat) : ∃ hunt : Tbl Hunt, (hunt.get {} k).bad = 0 ∧
    (s.goodMarker l k).lnk l = { s.lnk l with hunt := hunt } := by
  unfold goodMarker
  dsimp only
  split
  · next hbad => exact ⟨_, hbad, rfl⟩
  · exact ⟨_, by rw [Tbl.get_set_same], lnk_setLnk_same _ _ _⟩

theorem takeRxLock_of_no_move {s : State} {l : Nat} (h : (s.lnk l).txMove = none) (m : BitVec 17) :
    s.takeRxLock l m = s.setLnk l { s.lnk l with partnerLock := m } := by
  simp [takeRxLock, h]

section
variable {s : State} {l k : Nat} {m : BitVec 132} (hst : (s.lnk l).st = .active) (hlock : (s.lnk l).rxLock.getLsbD k = true)
include hst hlock

theorem doMarker_of_good (hgood : markerGood m = true) (hup : kField m 89 1 = 0) :
    s.doMarker l k m = ((s.goodMarker l k).takeRxLock l (BitVec.ofNat 17 (kField m 90 17))).serviceMarker l k m := by
  simp [doMarker, hst, hlock, hgood, hup]

theorem doMarker_of_bad (hbad : markerGood m = false) : s.doMarker l k m = s.badMarker l k := by
  simp [doMarker, hst, hlock, hbad]

/-- R417, R443: a good marker in service shows the partner's locks. -/
theorem doMarker_good_spec (hgood : markerGood m = true) (hup : kField m 89 1 = 0) (hmove : (s.lnk l).txMove = none) :
    let t := s.doMarker l k m
    (t.lnk l).st = .active ∧ (t.lnk l).partnerLock = BitVec.ofNat 17 (kField m 90 17) ∧ ((t.lnk l).hunt.get {} k).bad = 0 := by
  obtain ⟨hunt, hzero, hlnk⟩ := lnk_goodMarker s l k
  rw [doMarker_of_good hst hlock hgood hup, takeRxLock_of_no_move (by rw [hlnk]; exact hmove), hlnk]
  obtain ⟨hst', hlock', hhunt⟩ := (StaysLocked.refl ((s.goodMarker l k).setLnk l
    { s.lnk l with hunt := hunt, partnerLock := BitVec.ofNat 17 (kField m 90 17) }) l).serviceMarker k m (by rw [lnk_setLnk_same]; exact hmove)
  rw [lnk_setLnk_same] at hst' hlock' hhunt
  exact ⟨hst'.trans hst, hlock', by rw [hhunt]; exact hzero⟩

end

/-- R443: the first three bad markers in a row are counted. -/
theorem badMarker_of_few {s : State} {l k : Nat} (hst : (s.lnk l).st = .active) (hfew : ((s.lnk l).hunt.get {} k).bad < 3) :
    s.badMarker l k = s.setLnk l { s.lnk l with
      hunt := (s.lnk l).hunt.set {} k { (s.lnk l).hunt.get {} k with bad := ((s.lnk l).hunt.get {} k).bad + 1 } } := by
  simp [badMarker, hst, Nat.not_le.mpr hfew]

/-- R443: the fourth loses the wavelength's lock. -/
theorem badMarker_of_fourth {s : State} {l k : Nat} (hst : (s.lnk l).st = .active) (hrow : 3 ≤ ((s.lnk l).hunt.get {} k).bad) :
    s.badMarker l k = s.doLoss l k := by
  simp [badMarker, hst, hrow]

/-! ### Loss of lock (R443-R452) -/

/-- A lane that is not the spare's has a number below 31 (R462). -/
theorem laneOf_ne_spare {w sp : Nat} (hw : w < 17) (h : w ≠ sp) : laneOf w sp ≠ 31 := by
  unfold laneOf
  split
  · contradiction
  · split <;> omega

theorem lnk_markUrgent (s : State) (l w : Nat) : (s.markUrgent l w).lnk l = { s.lnk l with urgent := setBit17 (s.lnk l).urgent w true } := by
  unfold markUrgent
  extract_lets r s1 g x s2
  have hlnk : s2.lnk l = { r with urgent := setBit17 r.urgent w true } := by
    rw [show s2.lnk = s1.lnk from lnk_setLaneCal s1 l w _]
    exact lnk_setLnk_same s l _
  clear_value s2
  split
  · exact hlnk
  · rw [lnk_setCalGroup]
    exact hlnk

theorem lnk_urgentRx (s : State) (l w : Nat) : (s.urgentRx l w).lnk l = { s.lnk l with urgent := setBit17 (s.lnk l).urgent w true } := by
  unfold urgentRx
  split
  · exact lnk_markUrgent s l w
  · rw [lnk_of_ln (askPartner_ln _ _ _ _)]
    exact lnk_markUrgent s l w

/-- A wavelength without lock, and its search anew (R443, R445). -/
def unlocked (s : State) (l w : Nat) : State :=
  s.setLnk l { s.lnk l with rxLock := setBit17 (s.lnk l).rxLock w false, hunt := (s.lnk l).hunt.set {} w {} }

/-- The wavelength of a link in service loses lock, is counted and becomes urgent (R443, R446). -/
def lockLost (s : State) (l w : Nat) : State := ((s.unlocked l w).bump (lnReg l + 0x180 + 4 * w)).urgentRx l w

theorem lnk_lockLost (s : State) (l w : Nat) : (s.lockLost l w).lnk l = { s.lnk l with
    rxLock := setBit17 (s.lnk l).rxLock w false, hunt := (s.lnk l).hunt.set {} w {}, urgent := setBit17 (s.lnk l).urgent w true } := by
  rw [lockLost, lnk_urgentRx, lnk_of_ln (bump_ln _ _), unlocked, lnk_setLnk_same]

/-- The loss of another wavelength leaves the spare lane free, or not. -/
theorem rxFree_lockLost (s : State) {l w : Nat} (h : w ≠ (s.lnk l).spareCh) : (s.lockLost l w).rxFree l = s.rxFree l := by
  rw [rxFree, rxFree, lnk_lockLost]
  dsimp only
  rw [getLsbD_setBit17_other _ _ h.symm]

/-- R447: the free spare takes the lane, and a move that was accepted is dropped. -/
theorem lnk_swapRx_of_free {s : State} {l w : Nat} (hfree : s.rxFree l = true) (code : Nat) :
    (s.swapRx l w code).lnk l = { s.lnk l with rxReq := laneOf w (s.lnk l).spareCh, rxMove := none } := by
  have hlnk : (s.record code (linkLoc l w)).lnk l = s.lnk l := by rw [lnk_of_ln (record_ln _ _ _ _)]
  unfold swapRx
  dsimp only
  rw [if_pos hfree, hlnk]
  split
  · split
    · exact lnk_setLnk_same _ _ _
    · rw [lnk_of_ln (record_ln _ _ _ _)]
      exact lnk_setLnk_same _ _ _
  · next hmove => rw [lnk_setLnk_same, ← hmove]

/-- R452: with the spare lane taken, the link goes down. -/
theorem swapRx_of_taken {s : State} {l w : Nat} (hfree : s.rxFree l = false) (code : Nat) : (s.swapRx l w code).linkUp l = false := by
  unfold swapRx
  dsimp only
  rw [if_neg (by simp [hfree])]
  exact linkDown_down _ _ _ _

section
variable {s : State} {l w : Nat} (hlock : (s.lnk l).rxLock.getLsbD w = true) (hover : (s.laneCal l w).overload = false)
include hlock hover

theorem doLoss_of_training (hst : (s.lnk l).st = .frame ∨ (s.lnk l).st = .capx) : s.doLoss l w = s.unlocked l w := by
  rcases hst with hst | hst <;> simp [doLoss, unlocked, hst, hlock, hover]

variable (hst : (s.lnk l).st = .active) (hother : w ≠ (s.lnk l).spareCh)
include hst hother

theorem doLoss_of_active (hspare : (s.lnk l).rxSpare ≠ laneOf w (s.lnk l).spareCh) : s.doLoss l w = (s.lockLost l w).swapRx l w 0x0A08 := by
  simp [doLoss, lockLost, unlocked, hst, hlock, hover, hother, hspare]

/-- R447: the link stays up, and asks for the lane on its spare. -/
theorem doLoss_of_free (hw : w < 17) (hfree : s.rxFree l = true) :
    let t := s.doLoss l w
    t.linkUp l = true ∧ (t.lnk l).rxReq = laneOf w (s.lnk l).spareCh ∧ (t.lnk l).rxLock.getLsbD w = false ∧ (t.lnk l).urgent.getLsbD w = true := by
  have hspare : (s.lnk l).rxSpare ≠ laneOf w (s.lnk l).spareCh := by
    rw [rxSpare_of_rxFree hfree]
    exact (laneOf_ne_spare hw hother).symm
  rw [doLoss_of_active hlock hover hst hother hspare]
  dsimp only
  rw [linkUp, lnk_swapRx_of_free ((rxFree_lockLost s hother).trans hfree), lnk_lockLost]
  exact ⟨beq_iff_eq.mpr hst, rfl, getLsbD_setBit17_false _ hw, getLsbD_setBit17_true _ hw⟩

/-- R452: another lane rides the spare, and the link goes down. -/
theorem doLoss_of_taken (htaken : (s.lnk l).rxSpare ≠ 31) (hspare : (s.lnk l).rxSpare ≠ laneOf w (s.lnk l).spareCh) :
    (s.doLoss l w).linkUp l = false := by
  rw [doLoss_of_active hlock hover hst hother hspare]
  exact swapRx_of_taken ((rxFree_lockLost s hother).trans (rxFree_of_spare_used htaken)) _

end

/-! ### The capability exchange (R439-R442) -/

/-- R421, R424: a link that goes down is in DETECT, or in OFF. -/
theorem linkDown_st (s : State) (l : Nat) (held duty : Bool) :
    ((s.linkDown l held duty).lnk l).st = .detect ∨ ((s.linkDown l held duty).lnk l).st = .off := by
  have hdetect : ∀ u : State, ((u.lnDetect l held duty).lnk l).st = .detect ∨ ((u.lnDetect l held duty).lnk l).st = .off := fun u => by
    obtain ⟨⟨hst, -⟩, -⟩ := lnDetect_spec u l held duty
    rw [hst]
    split
    · exact .inr rfl
    · exact .inl rfl
  unfold linkDown
  split
  · next hst => exact .inr hst
  · next hst =>
    split
    · exact hdetect s
    · exact .inl hst
  · exact hdetect _

/-- R442: the first returns of an exchange start FRAME anew. -/
theorem capReturn_of_few {s : State} {l : Nat} (h : (s.lnk l).capFails < 2) :
    let t := s.capReturn l
    (t.lnk l).st = .frame ∧ (t.lnk l).capFails = (s.lnk l).capFails + 1 ∧ (t.lnk l).rxLock = 0#17 := by
  unfold capReturn
  dsimp only
  rw [if_neg (Nat.not_le.mpr h), lnk_setLnk_same]
  exact ⟨rfl, rfl, rfl⟩

/-- R442: the third return in a row gives the exchange up. -/
theorem capReturn_of_third {s : State} {l : Nat} (h : 2 ≤ (s.lnk l).capFails) :
    ((s.capReturn l).lnk l).st = .detect ∨ ((s.capReturn l).lnk l).st = .off := by
  unfold capReturn
  dsimp only
  rw [if_pos h]
  exact linkDown_st _ _ _ _

/-- The check of a capability block holds (R439). -/
abbrev BlockGood (b : BitVec 2048) : Prop := crc32 ((bodyBytes b).take 252) = bField b 0xFC 4

section
variable {s : State} {l : Nat} {b : BitVec 2048} (hst : (s.lnk l).st = .capx)
include hst

theorem doCapTimeout_of_capx : s.doCapTimeout l = s.capReturn l := if_pos hst

theorem doCapBlock_of_bad (hbad : ¬ BlockGood b) : s.doCapBlock l b = (s.bump (lnReg l + 0x28)).capReturn l := by
  unfold doCapBlock
  rw [if_neg (by simp [hst]), if_pos hbad]

theorem doCapBlock_of_first (hgood : BlockGood b) (hnew : (s.lnk l).capLast ≠ some b) :
    s.doCapBlock l b = s.setLnk l { s.lnk l with capLast := some b } := by
  unfold doCapBlock
  rw [if_neg (by simp [hst]), if_neg (not_not.mpr hgood), if_pos hnew]

/-- R441: once a good block is taken here, SEEN of the next ones says whether the partner has taken one. -/
theorem doCapBlock_of_seen (hgood : BlockGood b) (hlast : (s.lnk l).capLast = some b) (hseen : (s.lnk l).capSeen = true) :
    s.doCapBlock l b = if bField b 4 1 = 1 then s.setLnk l { s.lnk l with capPartner := true } else s := by
  unfold doCapBlock
  rw [if_neg (by simp [hst]), if_neg (not_not.mpr hgood), if_neg (by simp [hlast])]
  simp [hseen, hst]

/-- R442: a block that fails its check returns the link to FRAME. -/
theorem doCapBlock_bad_spec (hbad : ¬ BlockGood b) (hfew : (s.lnk l).capFails < 2) :
    let t := s.doCapBlock l b
    (t.lnk l).st = .frame ∧ (t.lnk l).capFails = (s.lnk l).capFails + 1 := by
  have hlnk : (s.bump (lnReg l + 0x28)).lnk l = s.lnk l := by rw [lnk_of_ln (bump_ln _ _)]
  obtain ⟨hst', hfails, -⟩ := capReturn_of_few (s := s.bump (lnReg l + 0x28)) (l := l) (by rw [hlnk]; exact hfew)
  rw [doCapBlock_of_bad hst hbad]
  exact ⟨hst', by rw [hfails, hlnk]⟩

end

/-! ### Going ACTIVE (R422, R441; 11 R467, R484, R492, R513) -/

/-- R513: a proposal is the only change. -/
theorem propose_spec (s : State) (l : Nat) : s.propose l = { s with lk := (s.propose l).lk } ∧
    (s.propose l).lkk l = { s.lkk l with proposed := ((s.propose l).lkk l).proposed, newPkt := ((s.propose l).lkk l).newPkt } := by
  unfold propose
  dsimp only
  split
  · rw [lkk_setLkk_same]
    exact ⟨rfl, rfl⟩
  · exact ⟨rfl, rfl⟩

/-- R467, R484, R492: the counts and credits of a link that enters ACTIVE are fresh. -/
theorem lkStart_spec (s : State) (l flight : Nat) :
    let t := s.lkStart l flight
    t = { s with lk := t.lk } ∧ (t.lkk l).ml = flight ∧ (t.lkk l).txSeq = 0 ∧ (t.lkk l).rxSeq = 0 ∧ (t.lkk l).credits = s.advertised l := by
  unfold lkStart
  extract_lets r keep st s1
  obtain ⟨hframe, hlkk⟩ := propose_spec s1 l
  have hs1 : s1.lkk l = _ := lkk_setLkk_same s l _
  rw [hlkk, hs1]
  exact ⟨hframe, rfl, rfl, rfl, rfl⟩

theorem advertised_of_cap {s t : State} {l : Nat} (h : (t.lnk l).cap = (s.lnk l).cap) : t.advertised l = s.advertised l := by
  have hfield : ∀ o n, t.capField l o n = s.capField l o n := fun o n => by rw [capField, capField, h]
  rw [advertised, advertised]
  simp only [hfield]

theorem dword_of_regs {s t : State} (h : t.regs = s.regs) : t.dword = s.dword := by
  funext off
  rw [dword, dword, word, word, word, word, h]

theorem dword_setDword (s : State) (off v : Nat) : (s.setDword off v).dword off = v % 2 ^ 64 := by
  rw [dword, setDword, word_setWord_other _ _ (by omega), word_setWord_same, word_setWord_same, BitVec.toNat_ofNat, BitVec.toNat_ofNat]
  omega

section
variable {s : State} {l : Nat} (hst : (s.lnk l).st = .capx) (hseen : (s.lnk l).capSeen = true) (hpartner : (s.lnk l).capPartner = true)
  (hsent : 16 ≤ (s.lnk l).capSent) (hchan : s.chanDown (l / 32) (l % 32) = false)
include hst hseen hpartner hsent hchan

/-- R422, R441: the lanes enter ACTIVE, whatever rides the spare, and then the link layer starts. -/
theorem doLinkActive_eq (flight : Nat) : ∃ x : LinkLn, x.st = .active ∧ x.attempts = 0 ∧ x.cap = (s.lnk l).cap ∧
    s.doLinkActive l flight =
      (((s.setLnk l x).mapLanes l fun y => { y with guardOut := false, prbs := false }).setDword (lnReg l + 0x30) s.clk.now).lkStart l flight := by
  refine ⟨_, ?_, ?_, ?_, if_pos ⟨hst, hseen, hpartner, hsent, by simp [hchan]⟩⟩ <;> rfl

/-- R422, R441: the link is ACTIVE with fresh counts, and LN_ACTIVE_NS is the moment. -/
theorem doLinkActive_spec (flight : Nat) :
    let t := s.doLinkActive l flight
    t.linkUp l = true ∧ (t.lnk l).attempts = 0 ∧ (t.lkk l).ml = flight ∧ (t.lkk l).txSeq = 0 ∧ (t.lkk l).rxSeq = 0 ∧
      (t.lkk l).credits = s.advertised l ∧ t.dword (lnReg l + 0x30) = s.clk.now % 2 ^ 64 := by
  obtain ⟨x, hactive, hzero, hcap, hdo⟩ := doLinkActive_eq hst hseen hpartner hsent hchan flight
  rw [hdo]
  obtain ⟨hframe, -⟩ := mapLanes_spec (s.setLnk l x) l fun y => { y with guardOut := false, prbs := false }
  generalize (s.setLnk l x).mapLanes l _ = u at hframe ⊢
  have hlnk : (u.setDword (lnReg l + 0x30) s.clk.now).lnk l = x := by
    rw [lnk_of_ln (t := u.setDword _ _) (s := s.setLnk l x) (by rw [hframe]; rfl), lnk_setLnk_same]
  have hsince := dword_setDword u (lnReg l + 0x30) s.clk.now
  generalize u.setDword _ _ = v at hlnk hsince ⊢
  obtain ⟨hlk, hml, htx, hrx, hcredits⟩ := lkStart_spec v l flight
  generalize v.lkStart l flight = t at hlk hml htx hrx hcredits ⊢
  have hlnk' : t.lnk l = x := by rw [lnk_of_ln (s := v) (by rw [hlk]), hlnk]
  refine ⟨?_, by rw [hlnk', hzero], hml, htx, hrx, hcredits.trans (advertised_of_cap (by rw [hlnk, hcap])), ?_⟩
  · rw [linkUp, hlnk', hactive]
    rfl
  · rw [dword_of_regs (s := v) (by rw [hlk]), hsince]

end

end Sys2Proof.Machine.State

namespace Sys2Proof.Claims

open Sys2Proof.Machine Sys2Proof.Machine.State

/-- Settles O48: each command takes the branch of its link's state, and of what the marker, the block or the spare lane shows. -/
theorem laneService : Obligations.LaneService := by
  intro s l k m blk flight cause r h
  refine ⟨fun hst hlock hrun => ⟨_, rfl, doMarker_of_frame k.isLt hst hlock hrun⟩, fun hst hlock => ⟨fun hgood hup hmove => ?good,
    fun hbad hfew => ?few, fun hbad hrow hover hother hfree _ => ?fourth⟩, fun hst htries => ?attempt, fun hst hnew hfew => ?first,
    fun hst hlast hseen hfew => ?second, fun hst hfew => answers_of_eq rfl (doCapTimeout_of_capx hst) (capReturn_of_few hfew),
    fun hst hthird => answers_of_eq rfl (doCapTimeout_of_capx hst) (capReturn_of_third hthird),
    fun hst hseen hpartner hsent hchan => ⟨_, rfl, doLinkActive_spec hst hseen hpartner hsent hchan flight⟩, fun hlock hover =>
    ⟨fun hst => congrArg Host.Outcome.next (doLoss_of_training hlock hover hst),
      fun hst hother hfree => ⟨_, rfl, doLoss_of_free hlock hover hst hother k.isLt hfree⟩,
      fun hst hother htaken hspare => ⟨_, rfl, doLoss_of_taken hlock hover hst hother htaken hspare⟩⟩⟩
  case good => exact ⟨_, rfl, doMarker_good_spec hst hlock hgood hup hmove⟩
  case few => exact congrArg Host.Outcome.next ((doMarker_of_bad hst hlock hbad).trans (badMarker_of_few hst hfew))
  case fourth =>
    obtain ⟨hup, hreq, hlost, -⟩ := doLoss_of_free hlock hover hst hother k.isLt hfree
    exact answers_of_eq rfl ((doMarker_of_bad hst hlock hbad).trans (badMarker_of_fourth hst hrow)) ⟨hup, hreq, hlost⟩
  case attempt => exact congrArg Host.Outcome.next ((if_pos hst).trans (if_pos htries))
  case first =>
    refine ⟨_, rfl, ?_⟩
    split
    · next hgood => exact doCapBlock_of_first hst hgood hnew
    · next hbad => exact doCapBlock_bad_spec hst hbad hfew
  case second =>
    refine ⟨_, rfl, ?_⟩
    split
    · next hgood =>
      rw [doCapBlock_of_seen hst hgood hlast hseen]
      split
      · next hfar => exact ⟨by rw [lnk_setLnk_same, hfar, beq_self_eq_true, Bool.or_true], rfl⟩
      · next hfar => exact ⟨by rw [beq_false_of_ne hfar, Bool.or_false], rfl⟩
    · next hbad => exact doCapBlock_bad_spec hst hbad hfew

end Sys2Proof.Claims
end

section
/-! Rows on their lanes: the words of a row, the frame that begins, and idle frames in FRAME (10 R413-R421, R448). -/

namespace Sys2Proof.Machine.State

/-- The wavelengths of a link that carry frames. -/
def frameWaves (s : State) (l : Nat) : List Nat := (List.range 17).filter (fun k => s.lightOf l k == .frame)

theorem mem_frameWaves {s : State} {l k : Nat} (hk : k < 17) (h : s.lightOf l k = .frame) : k ∈ s.frameWaves l :=
  List.mem_filter.mpr ⟨List.mem_range.mpr hk, beq_iff_eq.mpr h⟩

theorem waveWords_eq (s : State) (l : Nat) (w : Nat → BitVec 132) : s.waveWords l w = (s.frameWaves l).map (fun k => (k, w k)) := rfl

/-! ### A frame begins (R414, R448) -/

/-- The lanes of a link whose next frame has begun. -/
def newFrame (s : State) (l : Nat) : State := s.setLnk l { s.lnk l with word := 1, frameMap := nextMap (s.lnk l) }

theorem lnk_newFrame (s : State) (l : Nat) : (s.newFrame l).lnk l = { s.lnk l with word := 1, frameMap := nextMap (s.lnk l) } :=
  lnk_setLnk_same s l _

/-- The new frame's markers go out. -/
theorem frameStart_of_new {s : State} {l : Nat} (h : (s.lnk l).word = 0) :
    s.frameStart l = (s.newFrame l).emit (.words l ((s.newFrame l).waveWords l (sentMarker ((s.newFrame l).lnk l)))) := by
  rw [lnk_newFrame]
  exact if_pos h

theorem frameStart_of_begun {s : State} {l : Nat} (h : (s.lnk l).word ≠ 0) : s.frameStart l = s := if_neg h

theorem frameStart_frame (s : State) (l : Nat) : s.frameStart l = { s with ln := (s.frameStart l).ln, out := (s.frameStart l).out } := by
  by_cases h : (s.lnk l).word = 0
  · rw [frameStart_of_new h]
    rfl
  · rw [frameStart_of_begun h]

theorem frameStart_withLk (s : State) (lk : Tbl LinkLk) (l : Nat) :
    ({ s with lk := lk } : State).frameStart l = { s.frameStart l with lk := lk } := by
  by_cases h : (s.lnk l).word = 0
  · rw [frameStart_of_new h, frameStart_of_new (by exact h)]
    rfl
  · rw [frameStart_of_begun h, frameStart_of_begun (by exact h)]

/-! ### A row's words (R415, R416) -/

/-- One payload word on every wavelength, inside a frame. -/
def sendPayload (s : State) (l : Nat) (row : BitVec 2048 × Word) : State :=
  (s.emit (.words l (s.waveWords l (rowWord (s.lnk l) row)))).setLnk l { s.lnk l with
    word := ((s.lnk l).word + 1) % 32, fcnt := if (s.lnk l).word = 31 then ((s.lnk l).fcnt + 1) % 2048 else (s.lnk l).fcnt }

theorem lnk_sendPayload (s : State) (l : Nat) (row : BitVec 2048 × Word) : (s.sendPayload l row).lnk l = { s.lnk l with
    word := ((s.lnk l).word + 1) % 32, fcnt := if (s.lnk l).word = 31 then ((s.lnk l).fcnt + 1) % 2048 else (s.lnk l).fcnt } :=
  lnk_setLnk_same _ l _

theorem out_sendPayload (s : State) (l : Nat) (row : BitVec 2048 × Word) :
    (s.sendPayload l row).out = s.out ++ [.words l (s.waveWords l (rowWord (s.lnk l) row))] := rfl

theorem sendWords_eq (s : State) (l : Nat) (row : BitVec 2048 × Word) : s.sendWords l row = (s.frameStart l).sendPayload l row := rfl

/-- The words of a row reach the lanes and the outputs alone. -/
theorem sendWords_frame (s : State) (l : Nat) (row : BitVec 2048 × Word) :
    s.sendWords l row = { s with ln := (s.sendWords l row).ln, out := (s.sendWords l row).out } := by
  rw [sendWords_eq, frameStart_frame]
  rfl

theorem sendLine_of_begun {s : State} {l : Nat} (h : (s.lnk l).word ≠ 0) (body : BitVec 2048) (side : Word) :
    s.sendLine l body side = (s.emit (.row l body side)).sendPayload l (body, side) := by
  rw [sendLine, sendWords_eq, frameStart_of_begun (s := s.emit _) h]

/-- Inside a frame, a row is one payload word on each wavelength. -/
theorem out_sendLine_of_begun {s : State} {l : Nat} (h : (s.lnk l).word ≠ 0) (body : BitVec 2048) (side : Word) :
    (s.sendLine l body side).out = s.out ++ [.row l body side, .words l (s.waveWords l (rowWord (s.lnk l) (body, side)))] := by
  rw [sendLine_of_begun h, out_sendPayload]
  exact List.append_assoc s.out _ _

theorem sendLine_frame (s : State) (l : Nat) (body : BitVec 2048) (side : Word) :
    s.sendLine l body side = { s with ln := (s.sendLine l body side).ln, out := (s.sendLine l body side).out } :=
  sendWords_frame (s.emit (.row l body side)) l (body, side)

/-- What goes out on the lanes does not depend on the records of the link layer. -/
theorem sendLine_withLk (s : State) (lk : Tbl LinkLk) (l : Nat) (body : BitVec 2048) (side : Word) :
    ({ s with lk := lk } : State).sendLine l body side = { s.sendLine l body side with lk := lk } :=
  congrArg (fun u : State => u.sendPayload l (body, side)) (frameStart_withLk (s.emit (.row l body side)) lk l)

/-! ### Idle frames in FRAME (R420, R421) -/

/-- Outside a calibration of its group, a wavelength's light follows the state of its link alone. -/
theorem lightOf_setLnk {s : State} {l : Nat} {x : LinkLn} (hst : x.st = (s.lnk l).st) (hfound : x.found = (s.lnk l).found)
    (hrun : (s.calGroup (linkGroup l)).run = none) (k : Nat) : (s.setLnk l x).lightOf l k = s.lightOf l k := by
  have hsweep : ∀ u : State, (u.calGroup (linkGroup l)).run = none → u.sweeping l k = false := fun u hu => by rw [sweeping, hu]
  unfold lightOf
  dsimp only
  rw [hsweep s hrun, hsweep (s.setLnk l x) hrun, lnk_setLnk_same, hst, hfound]
  rfl

theorem frameWaves_newFrame {s : State} {l : Nat} (hrun : (s.calGroup (linkGroup l)).run = none) :
    (s.newFrame l).frameWaves l = s.frameWaves l := by
  unfold frameWaves
  exact congrArg (List.filter · _) (funext fun k => congrArg (· == Light.frame) (lightOf_setLnk (by rfl) (by rfl) hrun k))

/-- R420: without a lane on the spare, every wavelength carries zeros. -/
theorem rowWord_of_idle {r : LinkLn} (h : r.frameMap = none) (row : BitVec 2048 × Word) :
    rowWord r row = fun k => payloadWord k r.fcnt r.word 0 0 := by
  funext k
  rw [rowWord, h]
  rfl

section
variable {s : State} {l : Nat} (hst : (s.lnk l).st = .frame) (hfails : (s.lnk l).capFails = 0)
include hst hfails

theorem doRow_of_frame : s.doRow l = s.sendWords l (0#2048, 0#32) := by
  rw [doRow]
  dsimp only
  rw [hst]
  exact if_pos hfails

/-- The frame begins with its markers, and its first word is idle. -/
theorem doRow_frame_spec (hword : (s.lnk l).word = 0) (hrun : (s.calGroup (linkGroup l)).run = none) :
    let n := s.lnk l
    let t := s.doRow l
    t = { s with ln := t.ln, out := t.out } ∧ t.lnk l = { n with word := 2, frameMap := none } ∧
      t.out = s.out ++ [.words l ((s.frameWaves l).map fun k => (k, sentMarker { n with word := 1, frameMap := none } k)),
        .words l ((s.frameWaves l).map fun k => (k, payloadWord k n.fcnt 1 0 0))] := by
  have hmap : nextMap (s.lnk l) = none := if_pos ⟨hst, hfails⟩
  have hlnk := lnk_newFrame s l
  have hwaves := frameWaves_newFrame hrun
  have hout : (s.newFrame l).out = s.out := rfl
  rw [hmap] at hlnk
  rw [doRow_of_frame hst hfails]
  refine ⟨sendWords_frame s l _, ?_⟩
  rw [sendWords_eq, frameStart_of_new hword, lnk_sendPayload, out_sendPayload]
  generalize s.newFrame l = u at hlnk hwaves hout ⊢
  have hlnk' : ∀ o, (u.emit o).lnk l = u.lnk l := fun _ => rfl
  have hwaves' : ∀ o, (u.emit o).frameWaves l = u.frameWaves l := fun _ => rfl
  rw [waveWords_eq, waveWords_eq, hwaves', hwaves, hlnk', hlnk, rowWord_of_idle rfl, emit, hout]
  exact ⟨rfl, List.append_assoc s.out _ _⟩

end

end Sys2Proof.Machine.State
end

section
/-! Rows that the link layer sends on an ACTIVE link: scheduled slots, control rows and idle rows (11 R463, R467, R477, R482, R501). -/

namespace Sys2Proof.Machine.State

/-- R502: with an entry of the replay buffer free, nothing is logged. -/
theorem logFull_of_room {s : State} {l : Nat} (h : keptRows (s.lkk l) < 4096) : s.logFull l = s := by
  simp [logFull, h]

/-! ### The queues (R482, R508, R496) -/

/-- R467: the stitch that waits takes the next index, in the link's record alone. -/
theorem takeSlot_of_ready {s : State} {l : Nat} {b : BitVec 2048} {rest : List (BitVec 2048)} (h : (s.lkk l).ready = b :: rest) :
    s.takeSlot l = { s with lk := (s.takeSlot l).lk } ∧ (s.takeSlot l).lkk l = { s.lkk l with
      ready := rest, queue := (s.lkk l).queue ++ [⟨(s.lkk l).tx, b⟩], tx := (s.lkk l).tx + 1, slotNo := (s.lkk l).slotNo + 1 } := by
  simp only [takeSlot, h, lkk_setLkk_same, and_true]
  rfl

/-- R501: a stitch whose body is there, sent for the first time, enters the replay buffer. -/
theorem sendQueued_of_new {s : State} {l : Nat} {x : Stitch} {rest : List Stitch} (hqueue : (s.lkk l).queue = x :: rest)
    (hpoison : (s.lkk l).poison = []) (hkept : (s.lkk l).kept = []) (hroom : keptRows (s.lkk l) < 4096) :
    s.sendQueued l =
      some ((s.setLkk l { s.lkk l with queue := rest, kept := [x], fullLogged := false }).sendRow l (ownTag x.index) x.body) := by
  simp [sendQueued, hqueue, hpoison, hkept, hroom]

theorem sendQueued_of_empty {s : State} {l : Nat} (h : (s.lkk l).queue = []) : s.sendQueued l = none := by
  simp only [sendQueued, h]

theorem sendRerouted_of_empty {s : State} {l : Nat} (h : (s.lkk l).rrQueue = []) : s.sendRerouted l = none := by
  simp only [sendRerouted, h]

theorem sendReplayPkt_of_empty {s : State} {l : Nat} (h : (s.lkk l).pktReplay = []) : s.sendReplayPkt l = none := by
  simp only [sendReplayPkt, h]

theorem sendNewPkt_of_empty {s : State} {l : Nat} (h : (s.lkk l).newPkt = []) : s.sendNewPkt l = none := by
  simp [sendNewPkt, nextPkt, h]

/-! ### Free rows (R477, R482) -/

theorem freeRow_of_due {s : State} {l : Nat} (h : (s.lkk l).ctlDue = true) : s.freeRow l = s.sendControl l := by
  simp [freeRow, h]

theorem freeRow_of_quiet {s : State} {l : Nat} (hctl : (s.lkk l).ctlDue = false) (hnak : (s.lkk l).nakDue = false) (hqueue : (s.lkk l).queue = [])
    (hrr : (s.lkk l).rrQueue = []) (hreplay : (s.lkk l).pktReplay = []) (hnew : (s.lkk l).newPkt = []) :
    s.freeRow l = s.sendRow l plainTag 0#2048 := by
  simp [freeRow, hctl, hnak, sendQueued_of_empty hqueue, sendRerouted_of_empty hrr, sendReplayPkt_of_empty hreplay, sendNewPkt_of_empty hnew]

/-- R477: a control row without NAK and marker. -/
theorem sendControl_of_plain {s : State} {l : Nat} (hnak : (s.lkk l).nakDue = false) (hfence : (s.lkk l).fencing = false)
    (hmarkers : (s.lkk l).markers = []) :
    s.sendControl l = (s.setLkk l { s.lkk l with ctlDue := false, accepted := 0, ctlNo := (s.lkk l).ctlNo + 1 }).sendRow l plainTag
      (controlBody (s.lkk l) false none) := by
  have hr : { s.lkk l with markers := [], ctlDue := false, nakDue := false, accepted := 0, ctlNo := (s.lkk l).ctlNo + 1 } =
      { s.lkk l with ctlDue := false, accepted := 0, ctlNo := (s.lkk l).ctlNo + 1 } := by
    rw [← hnak, ← hmarkers]
  rw [← hr]
  simp [sendControl, hnak, hfence, hmarkers]

/-! ### Row opportunities (R482) -/

section
variable {s : State} {l : Nat} (hup : s.linkUp l = true)
include hup

theorem doRow_of_slot (hdue : s.slotDue l = true) {t : State} (hsent : ((s.takeSlot l).logFull l).sendQueued l = some t) : s.doRow l = t := by
  simp [doRow, beq_iff_eq.mp hup, hdue, hsent]

theorem doRow_of_free (hdue : s.slotDue l = false) (hroom : keptRows (s.lkk l) < 4096) : s.doRow l = s.freeRow l := by
  simp [doRow, beq_iff_eq.mp hup, hdue, logFull_of_room hroom]

end

/-- A row goes out, and the link's record becomes `x`. -/
def RowSent (s t : State) (l tag : Nat) (body : BitVec 2048) (x : LinkLk) : Prop :=
  let sent := s.sendLine l body (BitVec.ofNat 32 (rowCheck tag body))
  t = { s with lk := t.lk, ln := sent.ln, out := sent.out } ∧ t.lkk l = x

/-- The row that goes out does not depend on the link's record. -/
theorem rowSent_of_lk {s u : State} {l : Nat} {x : LinkLk} (hu : u = { s with lk := u.lk }) (hx : u.lkk l = x) (tag : Nat) (body : BitVec 2048) :
    RowSent s (u.sendRow l tag body) l tag body x := by
  have hsent : u.sendRow l tag body = { s.sendLine l body (BitVec.ofNat 32 (rowCheck tag body)) with lk := u.lk } := by
    rw [sendRow, ← sendLine_withLk, ← hu]
  rw [RowSent, hsent, ← hx]
  refine ⟨?_, rfl⟩
  conv_lhs => rw [sendLine_frame]

section
variable {s : State} {l : Nat} (hup : s.linkUp l = true)
include hup

/-- R467, R482: the stitch that waits takes the slot and the next index. -/
theorem doRow_slot_spec {b : BitVec 2048} {rest : List (BitVec 2048)} (hdue : s.slotDue l = true) (hready : (s.lkk l).ready = b :: rest)
    (hqueue : (s.lkk l).queue = []) (hpoison : (s.lkk l).poison = []) (hkept : (s.lkk l).kept = []) (hroom : keptRows (s.lkk l) < 4096) :
    RowSent s (s.doRow l) l (ownTag (s.lkk l).tx) b { s.lkk l with
      ready := rest, kept := [⟨(s.lkk l).tx, b⟩], tx := (s.lkk l).tx + 1, slotNo := (s.lkk l).slotNo + 1, fullLogged := false } := by
  obtain ⟨hframe, hlkk⟩ := takeSlot_of_ready hready
  have hsent := doRow_of_slot hup hdue (t := ((s.takeSlot l).setLkk l { (s.takeSlot l).lkk l with
    queue := [], kept := [⟨(s.lkk l).tx, b⟩], fullLogged := false }).sendRow l (ownTag (s.lkk l).tx) b)
  generalize s.takeSlot l = u at hframe hlkk hsent
  have hroom' : keptRows (u.lkk l) < 4096 := by
    rw [hlkk]
    exact hroom
  rw [logFull_of_room hroom'] at hsent
  rw [hsent (sendQueued_of_new (x := ⟨(s.lkk l).tx, b⟩) (by simp only [hlkk, hqueue, List.nil_append]) (by rw [hlkk]; exact hpoison)
    (by rw [hlkk]; exact hkept) hroom')]
  refine rowSent_of_lk (by rw [hframe]; rfl) ?_ _ b
  simp only [lkk_setLkk_same, hlkk, hqueue]

/-- R482: nothing waits, and the row is idle. -/
theorem doRow_idle (hdue : s.slotDue l = false) (hctl : (s.lkk l).ctlDue = false) (hnak : (s.lkk l).nakDue = false) (hqueue : (s.lkk l).queue = [])
    (hrr : (s.lkk l).rrQueue = []) (hreplay : (s.lkk l).pktReplay = []) (hnew : (s.lkk l).newPkt = []) (hroom : keptRows (s.lkk l) < 4096) :
    s.doRow l = s.sendRow l plainTag 0#2048 :=
  (doRow_of_free hup hdue hroom).trans (freeRow_of_quiet hctl hnak hqueue hrr hreplay hnew)

/-- R477, R482: a control row that is due goes before the queues. -/
theorem doRow_control_spec (hdue : s.slotDue l = false) (hctl : (s.lkk l).ctlDue = true) (hnak : (s.lkk l).nakDue = false)
    (hfence : (s.lkk l).fencing = false) (hmarkers : (s.lkk l).markers = []) (hroom : keptRows (s.lkk l) < 4096) :
    RowSent s (s.doRow l) l plainTag (controlBody (s.lkk l) false none)
      { s.lkk l with ctlDue := false, accepted := 0, ctlNo := (s.lkk l).ctlNo + 1 } := by
  rw [doRow_of_free hup hdue hroom, freeRow_of_due hctl, sendControl_of_plain hnak hfence hmarkers]
  exact rowSent_of_lk (by rfl) (lkk_setLkk_same _ _ _) _ _

end

end Sys2Proof.Machine.State
end

section
/-! Rows that arrive, landings, and the results of the reduce engines (11 R464-R468, R478, R493; 06 R250; 02 R99, R104; 09 R409-R411; 08 R344). -/

namespace Sys2Proof.Machine

/-- R493: an index is no step away from itself. -/
theorem wrapDiff_self (w : Nat) {a : Nat} (h : a < 2 ^ w) : wrapDiff w a a = 0 := by
  have hzero : (a + 2 ^ w - a % 2 ^ w) % 2 ^ w = 0 := by
    rw [Nat.mod_eq_of_lt h, Nat.add_sub_cancel_left, Nat.mod_self]
  unfold wrapDiff
  dsimp only
  rw [hzero, if_neg (Nat.not_le.mpr (Nat.two_pow_pos _))]
  rfl

namespace State

/-! ### Rows that arrive (R464, R465, R493) -/

section
variable {s : State} {l : Nat} {body : BitVec 2048} {side : Word} (hup : s.linkUp l = true)
include hup

theorem doRowReceive_of_expected (htag : rowTag side.toNat body = (s.lkk l).rx) (hrx : (s.lkk l).rx < 2 ^ 30) :
    s.doRowReceive l body side = s.acceptOwn l body := by
  simp [doRowReceive, byIndex, hup, htag, Nat.div_eq_of_lt hrx, wrapDiff_self 30 hrx, -Nat.reducePow]

theorem doRowReceive_of_idle (htag : rowTag side.toNat body = plainTag) (hidle : bField body 0 1 = 0) : s.doRowReceive l body side = s := by
  have hown : plainTag / 2 ^ 30 ≠ 0 := by decide
  have hrr : plainTag / 2 ^ 30 ≠ 1 := by decide
  simp [doRowReceive, hup, htag, hown, hrr, hidle, -Nat.reducePow]

end

/-- The flit that takes a stitch over Wn to its die (08 R339). -/
def landingFlit (s : State) (line : Nat) (body : BitVec 2048) : Flit :=
  { idleFlit with kind := 1, par := s.clk.epoch % 2 == 1, addr := line, payload := body }

/-- R468: a stitch of no group goes on over Wn. -/
theorem landStitch_of_plain (s : State) (l pos : Nat) {x : StitchSlot} (h : x.group = 0) (body : BitVec 2048) :
    s.landStitch l pos true x body =
      some (s.setDir (chanKey l false) { s.dir (chanKey l false) with
        stitches := (s.dir (chanKey l false)).stitches ++ [s.landingFlit x.line body] }) := by
  simp only [landStitch, h, if_true]
  rfl

/-- R478, R493: the stitch counts as accepted, and the next index is expected. -/
theorem acceptOwn_spec {s : State} {l : Nat} {x : StitchSlot} (hx : (s.stitchList l false)[(s.lkk l).rx - (s.lkk l).rx0]? = some x)
    (hgroup : x.group = 0) (body : BitVec 2048) :
    let r := s.lkk l
    let k := chanKey l false
    let t := s.acceptOwn l body
    t = { s with lk := t.lk, br := t.br } ∧
      t.lkk l = { r with rx := r.rx + 1, accepted := r.accepted + 1, ctlDue := r.ctlDue || decide (63 ≤ r.accepted) } ∧
      (t.dir k).stitches = (s.dir k).stitches ++ [s.landingFlit x.line body] := by
  have hland := landStitch_of_plain s l ((s.lkk l).rx - (s.lkk l).rx0) hgroup body
  generalize hu : s.setDir _ _ = u at hland
  have hframe : u = { s with br := u.br } := by rw [← hu]; rfl
  have hdir : (u.dir (chanKey l false)).stitches = (s.dir (chanKey l false)).stitches ++ [s.landingFlit x.line body] := by
    rw [← hu, dir_setDir_same]
  have hlkk : u.lkk l = s.lkk l := by rw [← hu]; rfl
  have haccept : s.acceptOwn l body = (u.setLkk l { u.lkk l with rx := (s.lkk l).rx + 1 }).countAccepted l := by
    simp only [acceptOwn, hx, hland]
  rw [haccept, countAccepted, lkk_setLkk_same, hlkk]
  dsimp only
  refine ⟨?_, lkk_setLkk_same _ _ _, hdir⟩
  rw [hframe]
  rfl

/-! ### Landings (06 R250; 02 R99) -/

/-- A landing that is not the epoch's last stores its line. -/
theorem doLanding_of_more {s : State} {l a : Nat} {b : BitVec 2048} {rest : List (Nat × BitVec 2048)} (hlanding : (s.lkk l).landing = (a, b) :: rest)
    (hmore : (s.lkk l).landed + 1 ≠ s.owed l) (hcheck : s.clk.checked = false) :
    s.doLanding l = (s.poke a (bodyBytes b)).setLkk l
      { s.lkk l with landing := rest, landed := (s.lkk l).landed + 1, lastLand := s.clk.cycle } := by
  simp [doLanding, hlanding, hmore, hcheck]

/-! ### Reduce results (09 R410, R411; 08 R344) -/

/-- The flits of a sum, to lines one after another. -/
def resultFlits (s : State) (line : Nat) (bodies : List (BitVec 2048)) : List Flit :=
  ((List.range bodies.length).zip bodies).map (fun p => s.landingFlit (line + p.1) p.2)

theorem payload_resultFlits (s : State) (line : Nat) (bodies : List (BitVec 2048)) :
    (s.resultFlits line bodies).map (fun f => f.payload) = bodies := by
  rw [resultFlits, List.map_map]
  exact List.map_snd_zip (by simp)

/-- The sum of a complete set, as flits' bodies. -/
def setSum (x : GroupSpec) (z : OperandSet) : List (BitVec 2048) :=
  sumFlits (sumOperands ((groupMembers x).map (fun m => widen x.fmt.val (z.ops.get 0#2048 m)))) (groupFlits x)

/-- A complete set leaves its engine. -/
def dropSet (s : State) (key : Nat) (z : OperandSet) : State :=
  { s with opt := { s.opt with reduce := s.opt.reduce.set [] key ((s.opt.reduce.get [] key).filter (fun w => w.set != z.set)) } }

/-- R411: the first line to which a set's sum goes: that of the lowest member's stitch of the set. -/
def resultLine (s : State) (x : GroupSpec) (g set : Nat) : Nat :=
  ((((s.stitchList (groupLow x) false).filter (fun t => t.group == g))[set]?).map (fun t => t.line)).getD 0

/-- R410, R411: the oldest complete set is summed, and its flits wait for the channel of the lowest member. -/
theorem doReduce_of_complete {s : State} {block engine : Nat} {x : GroupSpec} {z : OperandSet} (hx : s.groupSpec block (engine + 1) = some x)
    (hz : (s.opt.reduce.get [] (2 * block + engine)).find? (fun z => (groupMembers x).all (fun m => (z.ops.find m).isSome)) = some z) :
    let k := chanKey (groupLow x) false
    s.doReduce (block / 4) block engine = (s.dropSet (2 * block + engine) z).setDir k
      { s.dir k with stitches := (s.dir k).stitches ++ s.resultFlits (s.resultLine x (engine + 1) z.set) (setSum x z) } := by
  have hkey : engineKey block (engine + 1) = 2 * block + engine := rfl
  simp only [doReduce, hx, hkey, hz, ne_eq, not_true, if_false]
  rfl

/-- The engine's other sets stand, and the sum crosses Wn. -/
theorem doReduce_spec {s : State} {block engine : Nat} {x : GroupSpec} {z : OperandSet} (hx : s.groupSpec block (engine + 1) = some x)
    (hz : (s.opt.reduce.get [] (2 * block + engine)).find? (fun z => (groupMembers x).all (fun m => (z.ops.find m).isSome)) = some z) :
    let k := chanKey (groupLow x) false
    let t := s.doReduce (block / 4) block engine
    t = { s with opt := { s.opt with reduce := t.opt.reduce }, br := t.br } ∧
      t.opt.reduce.get [] (2 * block + engine) = (s.opt.reduce.get [] (2 * block + engine)).filter (fun w => w.set != z.set) ∧
      ∃ fs, (t.dir k).stitches = (s.dir k).stitches ++ fs ∧ fs.map (fun f => f.payload) = setSum x z := by
  rw [doReduce_of_complete hx hz]
  dsimp only
  rw [dir_setDir_same]
  exact ⟨rfl, Tbl.get_set_same _ _ _ _, _, rfl, payload_resultFlits _ _ _⟩

end State

end Sys2Proof.Machine

namespace Sys2Proof.Claims

open Sys2Proof.Machine Sys2Proof.Machine.State

/-- Settles O49: each row takes the branch of its link's queues or of its tag, and changes what the lemma of that branch says. -/
theorem rowsAndLandings : Obligations.RowsAndLandings := by
  intro s l body side y block engine r
  refine ⟨fun hup => ⟨fun b rest hdue hready hqueue hpoison hkept hroom => ⟨_, rfl, doRow_slot_spec hup hdue hready hqueue hpoison hkept hroom⟩,
      fun hdue hctl hnak hqueue hrr hreplay hnew hroom =>
        congrArg Host.Outcome.next (doRow_idle hup hdue hctl hnak hqueue hrr hreplay hnew hroom),
      fun hdue hctl hnak _ hfence hmarkers hroom => ⟨_, rfl, doRow_control_spec hup hdue hctl hnak hfence hmarkers hroom⟩,
      fun x hx hgroup hrx => ?receive⟩,
    fun n hn hword => ?words, fun n hn hst hfails hword hrun => ?frame,
    fun a b rest hlanding hmore hcheck => congrArg Host.Outcome.next (doLanding_of_more hlanding hmore hcheck),
    fun x z hx hy hz => ?reduce⟩
  case receive =>
    refine ⟨_, rfl, fun htag => ?_, doRowReceive_of_idle hup⟩
    rw [doRowReceive_of_expected hup htag hrx]
    exact acceptOwn_spec hx hgroup body
  case words =>
    subst hn
    exact out_sendLine_of_begun hword body side
  case frame =>
    subst hn
    obtain ⟨hframe, hlnk, hout⟩ := doRow_frame_spec hst hfails hword hrun
    exact ⟨_, rfl, hframe, hlnk, _, hout, fun k hk hlt => mem_frameWaves hlt hk⟩
  case reduce =>
    refine answers_of_eq rfl ?_ (doReduce_spec hx hz)
    rw [hy]

end Sys2Proof.Claims
end

section
/-! What keeps a link: control rows that fall due, keep-alive, replay timers, rerouted streams, rejoining, and LK_SLACK_MIN
(11 R478, R479, R500, R504, R509, R513; 02 R104; 19 R837). -/

namespace Sys2Proof.Machine.State

/-! ### Control rows and keep-alive (R478, R479, R504) -/

theorem wantControl_of_up {s : State} {l : Nat} (hup : s.linkUp l = true) : s.wantControl l = s.setLkk l { s.lkk l with ctlDue := true } :=
  if_pos hup

theorem doKeepalive_of_up {s : State} {l : Nat} (hup : s.linkUp l = true) : s.doKeepalive l = (s.record 0x0B01 (linkLoc l)).linkDown l :=
  if_pos hup

/-! ### Replay timers (R500) -/

/-- One more expiry of the own stream's timer for the point `i` is noted and counted. -/
def ownExpiry (s : State) (l i : Nat) : State :=
  (s.setLkk l { s.lkk l with expiries := (s.lkk l).expiries.set (0, 0) 0 (i, expiredFor (s.lkk l) 0 i + 1) }).bump (lkReg l + 0x38)

theorem lkk_of_lk {s t : State} (h : t.lk = s.lk) : t.lkk = s.lkk := by funext l; rw [lkk, lkk, h]

theorem lkk_ownExpiry (s : State) (l i : Nat) : (s.ownExpiry l i).lkk l =
    { s.lkk l with expiries := (s.lkk l).expiries.set (0, 0) 0 (i, expiredFor (s.lkk l) 0 i + 1) } := by
  rw [ownExpiry, lkk_of_lk (bump_lk _ _), lkk_setLkk_same]

theorem linkUp_of_ln {s t : State} (h : t.ln = s.ln) (l : Nat) : t.linkUp l = s.linkUp l := by rw [linkUp, linkUp, lnk_of_ln h]

theorem expiredFor_set (r : LinkLk) (stream i n : Nat) :
    expiredFor { r with expiries := r.expiries.set (0, 0) stream (i, n + 1) } stream i = n + 1 := by
  have hfind : (r.expiries.set (0, 0) stream (i, n + 1)).find stream = some (i, n + 1) := by
    rw [Tbl.set, if_neg (by simp), Tbl.find_put_same]
  simp [expiredFor, hfind]

section
variable {s : State} {l : Nat} {x : Stitch} {rest : List Stitch} (hup : s.linkUp l = true) (hkept : (s.lkk l).kept = x :: rest)
include hup hkept

/-- The stream is replayed from its oldest row. -/
theorem doReplayTimer_of_few (hqueue : (s.lkk l).queue = []) (hfew : expiredFor (s.lkk l) 0 x.index < 3) :
    s.doReplayTimer l 0 = (s.ownExpiry l x.index).setLkk l { (s.ownExpiry l x.index).lkk l with queue := (s.lkk l).kept } := by
  have holdest : (s.lkk l).kept.head?.map (fun y => y.index) = some x.index := by rw [hkept]; rfl
  have hfresh : ∀ f, (s.lkk l).queue.filter f = [] := fun f => by rw [hqueue]; rfl
  have hlt : ¬ 4 ≤ expiredFor (s.lkk l) 0 x.index + 1 := by omega
  simp only [doReplayTimer, holdest, hup, Bool.not_true, Bool.false_eq_true, if_false, hlt, hfresh, List.append_nil]
  rfl

/-- The fourth expiry in a row takes the link down. -/
theorem doReplayTimer_of_fourth (hfourth : 3 ≤ expiredFor (s.lkk l) 0 x.index) :
    s.doReplayTimer l 0 = ((s.ownExpiry l x.index).record 0x0B02 (linkLoc l)).linkDown l := by
  have holdest : (s.lkk l).kept.head?.map (fun y => y.index) = some x.index := by rw [hkept]; rfl
  simp only [doReplayTimer, holdest, hup, Bool.not_true, Bool.false_eq_true, if_false, Nat.succ_le_succ hfourth, if_true]
  rfl

theorem doReplayTimer_few_spec (hqueue : (s.lkk l).queue = []) (hfew : expiredFor (s.lkk l) 0 x.index < 3) :
    let t := s.doReplayTimer l 0
    (t.lkk l).queue = (s.lkk l).kept ∧ expiredFor (t.lkk l) 0 x.index = expiredFor (s.lkk l) 0 x.index + 1 ∧ t.linkUp l = true := by
  have hln : (s.ownExpiry l x.index).ln = s.ln := bump_ln _ _
  rw [doReplayTimer_of_few hup hkept hqueue hfew, lkk_ownExpiry]
  dsimp only
  rw [lkk_setLkk_same, linkUp_of_ln (s := s) (by exact hln)]
  exact ⟨rfl, expiredFor_set (s.lkk l) 0 x.index _, hup⟩

end

/-! ### Rerouted streams (R509) -/

theorem doRrIndex_of_none_held {s : State} {n : Nat} (hst : (s.lkk n).st = .rerouted) (hexpect : (s.lkk (twin n)).rrExpect = none)
    (hheld : (s.lkk (twin n)).rrHeld = []) :
    s.doRrIndex n = s.setLkk (twin n) { s.lkk (twin n) with rrExpect := some (s.lkk n).rx, rrHeld := [] } := by
  rw [doRrIndex, if_pos ⟨hst, hexpect⟩, hheld]
  rfl

/-! ### Rejoining (R513) -/

theorem doRejoin_of_open {s : State} {l e : Nat} (hmay : s.mayRejoin l = true) (hlatch : s.latchedEpoch < e) :
    s.doRejoin l e = s.setLkk l { s.lkk l with rejoinAt := some e, newPkt := (s.lkk l).newPkt ++ [⟨0, 0, rejoinBody 2 e, none⟩] } :=
  if_pos (by simp [hmay, hlatch])

theorem doRejoinAck_of_open {s : State} {l e : Nat} (hproposed : (s.lkk l).proposed = some e) (hlatch : s.latchedEpoch < e) :
    s.doRejoinAck l e = s.setLkk l { s.lkk l with proposed := none, rejoinAt := some e } :=
  (if_pos hproposed).trans (if_pos hlatch)

theorem doRejoinAck_of_late {s : State} {l e : Nat} (hproposed : (s.lkk l).proposed = some e) (hlatch : e ≤ s.latchedEpoch) :
    s.doRejoinAck l e = (s.setLkk l { s.lkk l with proposed := none }).record 0x0B09 (linkLoc l) :=
  (if_pos hproposed).trans (if_neg (Nat.not_lt.mpr hlatch))

/-! ### LK_SLACK_MIN (02 R104, 19 R837) -/

/-- LK_SLACK_MIN of each of the 128 links is reset by a read. -/
theorem slackReset_of_link (s : State) {l : Nat} (h : l < 128) : s.slackReset (lkReg l + 0x44) = s.setWord (lkReg l + 0x44) 0xFFFFFFFF#32 := by
  refine if_pos ?_
  unfold lkReg yzBase fabBase
  omega

theorem blockAnswers_of_started {s : State} (h : s.started = true) (off : Nat) : s.blockAnswers off = true := by
  rw [blockAnswers, beq_iff_eq.mp h]

/-- The value goes out, and the register is reset. -/
theorem doSlackRead_of_started {s : State} {src : Src} {l : Nat} (hl : l < 128) (hreach : s.regReach src 0 = true) (hstarted : s.started = true)
    (hsrc : src ≠ .mctp) :
    s.doSlackRead src l = (s.emit (.read src (s.readReg src (lkReg l + 0x44) 4))).setWord (lkReg l + 0x44) 0xFFFFFFFF#32 := by
  simp [doSlackRead, hreach, hsrc, blockAnswers_of_started hstarted, slackReset_of_link _ hl]

end Sys2Proof.Machine.State

namespace Sys2Proof.Claims

open Sys2Proof.Machine Sys2Proof.Machine.State

/-- Settles O50: each timer, packet and read takes the branch of its link's state. -/
theorem linkUpkeep : Obligations.LinkUpkeep := by
  intro s l e src r
  refine ⟨fun hup => ⟨congrArg Host.Outcome.next (wantControl_of_up hup), congrArg Host.Outcome.next (wantControl_of_up hup),
      answers_of_eq rfl (doKeepalive_of_up hup) (linkDown_down _ _ _ _),
      fun x rest hkept hqueue hfew => ⟨_, rfl, doReplayTimer_few_spec hup hkept hqueue hfew⟩,
      fun x rest hkept hfourth => answers_of_eq rfl (doReplayTimer_of_fourth hup hkept hfourth) (linkDown_down _ _ _ _)⟩,
    fun hst hexpect hheld => congrArg Host.Outcome.next (doRrIndex_of_none_held hst hexpect hheld),
    fun hmay hlatch => congrArg Host.Outcome.next (doRejoin_of_open hmay hlatch),
    fun hproposed => ⟨fun hlatch => congrArg Host.Outcome.next (doRejoinAck_of_open hproposed hlatch),
      fun hlatch => congrArg Host.Outcome.next (doRejoinAck_of_late hproposed hlatch)⟩,
    fun hreach hstarted hsrc => answers_of_eq rfl (doSlackRead_of_started l.isLt hreach hstarted hsrc) ⟨?reset, ?out, fun o ho => ?other⟩⟩
  case reset => exact word_setWord_same _ _ _
  case out => rfl
  case other => exact word_setWord_other _ _ ho

end Sys2Proof.Claims
end

section
/-! Every step and every command: what a command keeps, it keeps from the state whose queue has given up its front (notes/assumptions/1). -/

namespace Sys2Proof.Machine

theorem step_of_front {c : Instr} {r : List Instr} {s : State} (h : s.pending = c :: r) : step s = exec c { s with pending := r } := by
  rw [step, h]

/-- A step comes by operations of the machine from its state, or from that state without the front of its queue. -/
theorem keeps_of_step {s t : State} (h : step s = .next t) : ∃ r, Keeps { s with pending := r } t := by
  rcases step_cases h with ⟨-, rfl⟩ | ⟨c, r, -, hexec⟩
  · exact ⟨s.pending, State.idle_keeps (.refl s)⟩
  · exact ⟨r, Claims.keeps_of_exec hexec⟩

end Sys2Proof.Machine

namespace Sys2Proof.Claims

open Sys2Proof.Machine

/-- Settles O5: a step's operations keep the fused values, and the queue holds none of them. -/
theorem stepsKeepTheFuses : Obligations.StepsKeepTheFuses := by
  intro s t h
  obtain ⟨r, hk⟩ := keeps_of_step h
  exact hk.fixed

/-- Settles O3: the queue is one of the parts that every command keeps. -/
theorem commandsLeaveTheQueue : Obligations.CommandsLeaveTheQueue := fun _ _ _ h => (keeps_of_exec h).pending

/-- Settles O6: a step's operations add to the outputs and take free values in order. -/
theorem stepsOnlyAddToOutputs : Obligations.StepsOnlyAddToOutputs := by
  intro s t h
  obtain ⟨r, hk⟩ := keeps_of_step h
  exact ⟨hk.out, hk.free⟩

/-- Settles O7: the law of each command names the state that it answers. -/
theorem everyCommandAnswers : Obligations.EveryCommandAnswers := by
  intro c s
  obtain ⟨t, ht, -⟩ := exec_keeps c s
  exact ⟨t, ht⟩

/-- Settles O1: a step looks at the front of the queue alone. -/
theorem stepRunsTheFront : Obligations.StepRunsTheFront := fun _ _ _ h => step_of_front h

end Sys2Proof.Claims
end

section
/-! The state after reset (17 R741). -/

namespace Sys2Proof.Machine.State

/-- A stored word of the state after reset is its cold value. -/
theorem word_reset (off : Nat) : State.reset.word off = coldWord off := rfl

/-- Bit 16, ACTIVE in the words of ring set-up (13), is clear. -/
def BitClear16 (w : Word) : Prop := w.toNat / 65536 % 2 = 0

theorem bitClear16_ite {c : Prop} [Decidable c] {a b : Word} (ha : c → BitClear16 a) (hb : ¬ c → BitClear16 b) : BitClear16 (if c then a else b) := by
  split
  · exact ha ‹_›
  · exact hb ‹_›

/-- Ring set-up words stand at offsets that are 16 above a multiple of 64: no word there has ACTIVE set at its cold value. -/
theorem coldWord_bitClear16 {off : Nat} (h : off % 64 = 16) : BitClear16 (coldWord off) := by
  unfold coldWord
  refine bitClear16_ite (fun _ => rfl) fun _ => bitClear16_ite (fun _ => rfl) fun _ => bitClear16_ite (fun _ => rfl) fun _ =>
    bitClear16_ite (fun hctx => ?ctxBase) fun _ => bitClear16_ite (fun _ => rfl) fun _ =>
    bitClear16_ite (fun _ => bitClear16_ite (fun _ => rfl) fun _ => bitClear16_ite (fun _ => rfl) fun _ => bitClear16_ite (fun _ => rfl) fun _ =>
      bitClear16_ite (fun hslack => ?slack) fun _ => rfl) fun _ =>
    bitClear16_ite (fun _ => rfl) fun _ => bitClear16_ite (fun _ => rfl) fun _ => bitClear16_ite (fun _ => rfl) fun _ =>
    bitClear16_ite (fun _ => bitClear16_ite (fun _ => rfl) fun _ => bitClear16_ite (fun heps => ?eps) fun _ => rfl) fun _ => rfl
  case ctxBase =>
    simp only [ctxBase] at hctx
    simp only [BitClear16, coldCtxBase, BitVec.toNat_ofNat]
    split <;> omega
  case slack => omega
  case eps => omega

theorem ringActive_reset (q : Nat) : State.reset.ringActive q = false := by
  have hoff : (ringReg q + 0x10) % 64 = 16 := by
    simp only [ringReg, hifBase]
    omega
  simp [ringActive, bits, word_reset, show _ = _ from coldWord_bitClear16 hoff]

/-- TIL_ROW_MODE is 0 at its cold value. -/
theorem coldWord_rowMode (n : Nat) : coldWord (tilBase n + 0x10) = 0#32 := by
  unfold coldWord tilBase hifBase ctxBase fabBase
  dsimp only
  rw [if_neg, if_neg, if_neg, if_neg, if_neg, if_neg, if_neg, if_neg, if_neg]
  · split
    · rw [if_neg, if_neg] <;> omega
    · rfl
  all_goals omega

theorem serving_reset (r : Nat) : State.reset.serving r = false := by
  simp [serving, bits, word_reset, coldWord_rowMode]

end Sys2Proof.Machine.State

namespace Sys2Proof.Claims

open Sys2Proof.Machine

/-- Settles O60: every part is as `State.reset` writes it; registers are at their cold values. -/
theorem resetIsCanonical : Obligations.ResetIsCanonical :=
  ⟨rfl, rfl, rfl, rfl, rfl, rfl, rfl, rfl, rfl, State.ringActive_reset, fun _ => ⟨rfl, rfl⟩, fun r => ⟨State.serving_reset r, rfl⟩⟩

end Sys2Proof.Claims
end

section
/-! Cold resets, thermal shutdown and a low rail (17 R741, R772; 21 R885, R892). -/

namespace Sys2Proof.Machine.State

/-- R673: TRIAL going back changes the record and the note of it alone. -/
theorem revertTrial_frame (b : Boot) : revertTrial b = { b with record := (revertTrial b).record, trialFailed := (revertTrial b).trialFailed } := by
  unfold revertTrial
  split <;> rfl

theorem revertTrial_of_trial {b : Boot} (h : b.record.trial = true) :
    revertTrial b = { b with record := { b.record with sel := b.record.prev, trial := false }, trialFailed := true } := if_pos h

/-- What a cold reset carries over of bring-up (15 R671-R673). -/
def carriedBoot (s : State) : Boot := { record := s.boot.record, trialFailed := s.boot.trialFailed, carried := s.boot.carried }

theorem doColdReset_boot_cases (s : State) : s.doColdReset.boot = revertTrial s.carriedBoot ∨ s.doColdReset.boot = s.carriedBoot :=
  ite_eq_or_eq _ _ _

theorem doColdReset_phase_reports (s : State) : s.doColdReset.boot.phase = .heldReset ∧ s.doColdReset.boot.reports = [] := by
  rcases doColdReset_boot_cases s with h | h <;> rw [h]
  · rw [revertTrial_frame]
    exact ⟨rfl, rfl⟩
  · exact ⟨rfl, rfl⟩

theorem doColdReset_nor (s : State) : s.doColdReset.nor.health = s.nor.health ∧ s.doColdReset.nor.marks = s.nor.marks := by
  unfold doColdReset
  dsimp only
  split <;> split <;> exact ⟨rfl, rfl⟩

/-- A reset that interrupts no start leaves the boot record as it is. -/
theorem doColdReset_of_no_stage {s : State} (h : ∀ n, s.boot.phase ≠ .stage n) :
    s.doColdReset.boot.record = s.boot.record ∧ s.doColdReset.nor.boot = s.nor.boot := by
  unfold doColdReset
  cases hp : s.boot.phase with
  | stage n => exact absurd hp (h n)
  | _ => exact ⟨rfl, rfl⟩

/-- A start that a cold reset interrupts has failed (15 R698). -/
theorem doColdReset_of_stage {s : State} {n : Fin 5} (h : s.boot.phase = .stage n) (hwarm : s.mgt.warmDue = false) :
    s.doColdReset.boot = revertTrial s.carriedBoot := by
  simp [doColdReset, h, hwarm, carriedBoot]

end Sys2Proof.Machine.State

namespace Sys2Proof.Claims

open Sys2Proof.Machine Sys2Proof.Machine.State

/-- Settles O33: the three commands leave the state of a cold reset, but for bring-up, the flash records and the management state, which the lemmas above speak of. -/
theorem coldResets : Obligations.ColdResets := by
  intro s cold
  have hcold : ∀ b n m, b.phase = .heldReset → b.reports = [] → n.health = s.nor.health → n.marks = s.nor.marks → m.evtLog = [] →
      cold { s.doColdReset with boot := b, nor := n, mgt := m } := fun b n m hphase hreports hhealth hmarks hlog =>
    ⟨rfl, rfl, rfl, rfl, rfl, rfl, rfl, rfl, rfl, rfl, rfl, rfl, rfl, rfl, rfl, rfl, hphase, hreports, rfl, rfl, rfl, hlog, rfl, rfl, rfl, hhealth, hmarks,
      rfl, rfl, rfl⟩
  obtain ⟨hphase, hreports⟩ := doColdReset_phase_reports s
  obtain ⟨hhealth, hmarks⟩ := doColdReset_nor s
  have hreset : cold s.doColdReset := hcold _ _ _ hphase hreports hhealth hmarks rfl
  refine ⟨⟨s.doColdReset, rfl, hreset, rfl, rfl, doColdReset_of_no_stage, fun n hstage hwarm htrial => ?_⟩, ⟨s.doColdReset, rfl, hreset, rfl, rfl⟩,
    ⟨s.doRailLow, rfl, hcold _ _ _ hphase hreports hhealth hmarks rfl, rfl, rfl, rfl⟩⟩
  rw [doColdReset_of_stage hstage hwarm, revertTrial_of_trial (b := s.carriedBoot) htrial]
  exact ⟨rfl, rfl⟩

end Sys2Proof.Claims
end

section
/-! Dark-idle: entry, and the two steps of its exit (17 R766-R769). -/

namespace Sys2Proof.Machine

/-- A range that is cleared reads as unwritten memory; every other byte stands. -/
theorem Mem.byte_clear (m : Mem) (a n c : Nat) : (m.clear a n).byte c = if a ≤ c ∧ c < a + n then 0#8 else m.byte c := by
  rw [Mem.clear, Mem.byte, Tbl.get, Tbl.find_filter_keys (fun k => decide (k < a ∨ a + n ≤ k))]
  by_cases h : a ≤ c ∧ c < a + n
  · rw [if_pos h, if_neg (by rw [decide_eq_true_eq]; omega)]
    rfl
  · rw [if_neg h, if_pos (by rw [decide_eq_true_eq]; omega)]
    rfl

namespace State

/-- R769: where every region holds its microcode and no fetch is garbled, no row fails its digest. -/
theorem microcodeFails_of_good {s : State} (h : ∀ d < 4, s.digestChecks d = true) : s.microcodeFails [] = [] := by
  refine List.filter_eq_nil_iff.mpr fun r hr => ?_
  rw [h (r / 8) (by have := List.mem_range.mp hr; omega)]
  simp

/-- The sequencers of a package whose rows all fetch their microcode (03 R137). -/
def freshSeqs (s : State) : Tbl RowSeq :=
  (List.range 32).foldl (fun (t : Tbl RowSeq) r => t.put r { microcode := s.fetchMicrocode (r / 8) }) []

theorem freshSeqs_get (s : State) {r : Nat} (h : r < 32) : s.freshSeqs.get {} r = { microcode := s.fetchMicrocode (r / 8) } := by
  rw [freshSeqs, Tbl.get, Tbl.find_foldl_put (fun r => ({ microcode := s.fetchMicrocode (r / 8) } : RowSeq)), if_pos (List.mem_range.mpr h)]
  rfl

/-- The islands that start again at the exit from dark-idle (17 R769). -/
def wokenIslands (s : State) : List Nat := (dieIslands ++ chipIslands).filter (fun i => darkIsland i && s.mayRun i)

theorem mem_wokenIslands {s : State} {i : Nat} (hi : i < 224) (hd : darkIsland i = true) (hr : s.mayRun i = true) : i ∈ s.wokenIslands := by
  refine List.mem_filter.mpr ⟨?_, by rw [hd, hr]; rfl⟩
  simp only [dieIslands, chipIslands, List.mem_append, List.mem_map, List.mem_range]
  by_cases h : i < 176
  · exact .inl h
  · exact .inr ⟨i - 176, by omega, by omega⟩

/-- The package with its tiles started again, the `n` bytes of scratch from `a` at 0, and these islands and sequencers (17 R769). -/
def darkStarted (s : State) (a n : Nat) (islands : List Nat) (seqs : Tbl RowSeq) : State :=
  { s.zeroRange a n with
    mgt := { s.mgt with dark := .tiles }
    boot := { s.boot with islands := islands }
    tiles := [], seqs := seqs }

theorem darkStarted_frame (s : State) (a n : Nat) (islands : List Nat) (seqs : Tbl RowSeq) :
    let t := s.darkStarted a n islands seqs
    t = { s with
      mgt := { s.mgt with dark := .tiles }, boot := { s.boot with islands := t.boot.islands }, tiles := [], mem := t.mem, memErr := t.memErr, seqs := t.seqs } :=
  rfl

theorem doDarkTiles_of_good {s : State} (hd : s.mgt.dark = .leaving) (h : ∀ d < 4, s.digestChecks d = true) :
    s.doDarkTiles [] = s.darkStarted (scratchAddr 0) (scratchAddr 128 - scratchAddr 0) (s.boot.islands ++ s.wokenIslands).eraseDups s.freshSeqs := by
  unfold doDarkTiles
  rw [if_neg (by simp [hd]), microcodeFails_of_good h]
  dsimp only
  simp only [List.flatMap_nil, List.contains_nil, Bool.not_false, List.filter_true, List.foldl_nil, Bool.false_eq_true, if_false]
  rfl

/-- The lists of islands and sequencers are named here by what the statement says of them. -/
theorem doDarkTiles_spec {s : State} (hd : s.mgt.dark = .leaving) (h : ∀ d < 4, s.digestChecks d = true) :
    ∃ islands seqs, s.doDarkTiles [] = s.darkStarted (scratchAddr 0) (scratchAddr 128 - scratchAddr 0) islands seqs ∧
      (∀ r < 32, seqs.get {} r = { microcode := s.fetchMicrocode (r / 8) }) ∧
      ∀ i < 224, darkIsland i = true → s.mayRun i = true → i ∈ islands :=
  ⟨_, _, doDarkTiles_of_good hd h, fun _ hr => s.freshSeqs_get hr, fun _ hi hdark hruns =>
    List.mem_eraseDups.mpr (List.mem_append_right _ (mem_wokenIslands hi hdark hruns))⟩

theorem darkStarted_byte (s : State) {a n b : Nat} (h : a + n = b) (islands : List Nat) (seqs : Tbl RowSeq) (c : Nat) :
    (s.darkStarted a n islands seqs).mem.byte c = if a ≤ c ∧ c < b then 0#8 else s.mem.byte c := by
  subst h
  exact Mem.byte_clear _ _ _ _

end State

end Sys2Proof.Machine

namespace Sys2Proof.Claims

open Sys2Proof.Machine Sys2Proof.Machine.State

theorem answers_darkExitTileStart {s : State} (hd : s.mgt.dark = .leaving) (hgood : ∀ d < 4, s.digestChecks d = true) :
    Answers (.darkExitTileStart []) s fun t =>
      t = { s with mgt := { s.mgt with dark := .tiles }, boot := { s.boot with islands := t.boot.islands }, tiles := [], mem := t.mem, memErr := t.memErr, seqs := t.seqs } ∧
      (∀ r < 32, t.seq r = { microcode := s.fetchMicrocode (r / 8) }) ∧
      (∀ a, t.mem.byte a = if scratchAddr 0 ≤ a ∧ a < scratchAddr 128 then 0#8 else s.mem.byte a) ∧
      ∀ i < 224, darkIsland i = true → s.mayRun i = true → i ∈ t.boot.islands := by
  obtain ⟨islands, seqs, heq, hseqs, hislands⟩ := doDarkTiles_spec hd hgood
  exact answers_of_eq rfl heq ⟨darkStarted_frame _ _ _ _ _, hseqs, darkStarted_byte s (by decide) islands seqs, hislands⟩

/-- Settles O37: each of the three events finds the state that it follows. -/
theorem darkIdle : Obligations.DarkIdle := fun _ =>
  ⟨fun hd => congrArg Host.Outcome.next (if_pos hd), answers_darkExitTileStart, fun hd => congrArg Host.Outcome.next (if_pos hd)⟩

end Sys2Proof.Claims
end

section
/-! The Lace line: polls, answers, ready words and releases (12 R529-R545, R558-R560). -/

namespace Sys2Proof.Machine.State

/-! ### Polls (R530-R535) -/

section
variable {s : State} (hj : s.joined = true) (hs : s.started = true) (hh : s.shk.headless = false)
include hj hs hh

/-- R531: a package that does not lead drives its answer, and takes nothing from it. -/
theorem doPoll_of_answer {hi : Bool} {slot word d : Nat} (hl : s.isLeader = false) (hslot : slot = s.laceSlot) (hd : s.laceAnswer hi word = some d)
    (data : Nat) : s.doPoll hi slot word data = s.emit (.lace (if hi then 3 else 1) word d) := by
  simp [doPoll, hj, hs, hh, hl, hslot, hd]

theorem doPoll_of_other {hi : Bool} {slot : Nat} (hl : s.isLeader = false) (hslot : slot ≠ s.laceSlot) (word data : Nat) :
    s.doPoll hi slot word data = s := by
  simp [doPoll, hj, hs, hh, hl, hslot]

/-- R535: the leader reads the ready word of another slot, and forms a release if that was the last it waited for. -/
theorem doPoll_of_leader {slot : Nat} (hl : s.isLeader = true) (hslot : slot ≠ s.laceSlot) (data : Nat) :
    s.doPoll false slot 0 data = (s.readReady slot data).agree := by
  simp [doPoll, hj, hs, hh, hl, hslot]

end

theorem agree_of_not_ready {s : State} (h : s.clk.ready = false) : s.agree = s := by
  simp [agree, h]

/-- R535: a ready word of a registered package without ABORT is noted, and its chunks are to be read anew. -/
theorem readReady_of_registered {s : State} {slot data : Nat} (hreg : data.testBit 0 = true) (habort : data.testBit 3 = false) :
    let x := s.fab.lace.get {} slot
    s.readReady slot data =
      { s with fab := { s.fab with lace := s.fab.lace.set {} slot { x with regRuns := x.regRuns + 1, word := data, arr := [] } } } := by
  simp [readReady, hreg, habort]

/-! ### Releases (R538, R545, R560) -/

theorem doLaceRelease_of_whole {s : State} {words : List (Fin 16 × BitVec 16)} {r : Release} (hj : s.joined = true) (hl : s.isLeader = false)
    (hs : s.started = true) (hr : gatherRelease words = some r) (hc : s.chunks.any (fun w => decide (11 ≤ w)) = false) :
    s.doLaceRelease words = s.takeRelease r := by
  simp only [doLaceRelease, hj, hl, hs, hr, hc]
  rfl

section
variable {s : State} {r : Release} (habort : r.abort = false) (ha : s.aborting = false) (hnone : s.clk.release = none)
include habort ha hnone

theorem takeRelease_of_next (hdue : s.fab.stopped = true → r.stop = false → r.epoch ≠ s.clk.epoch) (hr : r.epoch = s.nextEpoch) :
    s.takeRelease r = { s with clk := { s.clk with release := some r, settle := 64 } } := by
  have hstopped : ¬ (s.fab.stopped = true ∧ (!r.stop) = true ∧ r.epoch = s.clk.epoch) := fun ⟨hst, hstop, he⟩ => hdue hst (by simpa using hstop) he
  rw [takeRelease, if_neg (by simp [habort]), if_neg (by simp [ha]), if_neg (by simp [hnone]), if_neg hstopped, if_pos (.inr hr)]

/-- R560: after the package's own watchdog expiry, a release without STOP for the epoch that it is in is dropped. -/
theorem takeRelease_of_stopped (hst : s.fab.stopped = true) (hstop : r.stop = false) (hr : r.epoch = s.clk.epoch) :
    s.takeRelease r = s.record 0x0C0A := by
  rw [takeRelease, if_neg (by simp [habort]), if_neg (by simp [ha]), if_neg (by simp [hnone]), if_pos ⟨hst, by simp [hstop], hr⟩]

end

/-- R538: the high chunks complete the release whose words have arrived. -/
theorem doReleaseHi_of_part {s : State} {r : Release} (hp : s.fab.part = some r) (words : List (Fin 16 × BitVec 16)) :
    ∃ more, s.doReleaseHi words = State.takeRelease { s with fab := { s.fab with part := none } } { r with complete := r.complete ++ more } := by
  unfold doReleaseHi
  rw [hp]
  exact ⟨_, rfl⟩

end Sys2Proof.Machine.State

namespace Sys2Proof.Claims

open Sys2Proof.Machine Sys2Proof.Machine.State

/-- Settles O51: an answer is the package's own word, a ready word changes the leader's entry of its slot, and a release takes the branch of its epoch. -/
theorem laceLine : Obligations.LaceLine := by
  intro s slot word data words
  refine ⟨rfl, fun hj hs hh => ⟨fun hl hslot => ?poll, fun hl hslot => ?pollHi, fun hl hslot => ⟨?other, ?otherHi⟩,
      fun hl hslot hready hreg habort => ?leader⟩,
    fun r hj hl hs ha hnone hst hr habort he hc => ?taken, fun r hj hl hs ha hnone hst hr habort hstop he hc hroom => ?dropped,
    fun r ha hnone hst hp habort he => ?high⟩
  case poll =>
    have hans : s.laceAnswer false word = some (if word.val = 0 then s.readyWord else s.arrivalChunk (word.val - 1)) := (apply_ite some _ _ _).symm
    exact congrArg Host.Outcome.next (doPoll_of_answer hj hs hh hl hslot hans _)
  case pollHi => exact congrArg Host.Outcome.next (doPoll_of_answer hj hs hh hl hslot rfl _)
  case other => exact congrArg Host.Outcome.next (doPoll_of_other hj hs hh hl hslot _ _)
  case otherHi => exact congrArg Host.Outcome.next (doPoll_of_other hj hs hh hl hslot _ _)
  case leader =>
    have heq := doPoll_of_leader hj hs hh hl hslot data.toNat
    rw [readReady_of_registered hreg habort, agree_of_not_ready (by exact hready)] at heq
    refine answers_of_eq rfl heq ⟨rfl, ?_⟩
    dsimp only
    exact Tbl.get_set_same _ _ _ _
  case taken =>
    exact congrArg Host.Outcome.next ((doLaceRelease_of_whole hj hl hs hr hc).trans
      (takeRelease_of_next habort ha hnone (fun h => absurd h (by simp [hst])) he))
  case dropped =>
    exact congrArg Host.Outcome.next ((doLaceRelease_of_whole hj hl hs hr hc).trans
      ((takeRelease_of_stopped habort ha hnone hst hstop he).trans (record_of_started _ _ hs hroom (by decide))))
  case high =>
    obtain ⟨more, hmore⟩ := doReleaseHi_of_part hp words
    refine answers_of_eq rfl (hmore.trans (takeRelease_of_next habort ha hnone (fun h => absurd h (by simp [hst])) he)) ⟨rfl, more, rfl⟩

end Sys2Proof.Claims
end

section
/-! Epoch markers: SYNC, READY, RELEASE and FENCE, and the repeats of those that wait for an answer (12 R538-R554). -/

namespace Sys2Proof.Machine

theorem twin_ne (l : Nat) : twin l ≠ l := by
  intro h
  have hbit : (twin l).testBit 6 = l.testBit 6 := by rw [h]
  have hset : Nat.testBit 64 6 = true := rfl
  simp [twin, Nat.testBit_xor, hset] at hbit

namespace State

/-! ### SYNC (R540, R543) -/

/-- The SYNC marker of the epoch goes out on a link. -/
def queueSync (s : State) (l : Nat) : State := s.queueMarker l { kind := 1, flags := 0, epoch := s.clk.epoch, count := 0, arr := 0 }

/-- A link end with a marker waiting for its next control row. -/
def withMarker (r : LinkLk) (m : Marker) : LinkLk := { r with markers := r.markers ++ [m], ctlDue := true }

theorem queueSyncs_spec : ∀ (ls : List Nat) (s : State), ls.Nodup →
    ls.foldl queueSync s = { s with lk := (ls.foldl queueSync s).lk } ∧
    ∀ k, (ls.foldl queueSync s).lkk k =
      if k ∈ ls then withMarker (s.lkk k) { kind := 1, flags := 0, epoch := s.clk.epoch, count := 0, arr := 0 } else s.lkk k
  | [], s, _ => ⟨rfl, fun k => by simp⟩
  | l :: ls, s, hnodup => by
    obtain ⟨hl, hls⟩ := List.nodup_cons.mp hnodup
    obtain ⟨hframe, hlkk⟩ := queueSyncs_spec ls (s.queueSync l) hls
    refine ⟨hframe, fun k => ?_⟩
    rw [List.foldl_cons, hlkk k]
    by_cases hk : k = l
    · subst hk
      simp only [hl, if_false, List.mem_cons_self, if_true]
      exact lkk_setLkk_same _ _ _
    · have hother : (s.queueSync l).lkk k = s.lkk k := lkk_setLkk_other _ _ hk
      rw [hother]
      simp only [List.mem_cons, hk, false_or]
      rfl

/-- R540: once an epoch, from cycle 16 on. -/
theorem doSyncSend_of_due {s : State} (hs : s.started = true) (hc : 16 ≤ s.clk.cycle) (hsync : s.clk.synced = false) :
    s.doSyncSend = ((List.range 128).filter s.linkUp).foldl queueSync { s with clk := { s.clk with synced := true } } := by
  unfold doSyncSend
  rw [if_pos (by simp [hs, hc, hsync])]
  rfl

/-- A link end without the repeats that a marker answers. -/
def answeredOn (r : LinkLk) (answered : Repeat → Bool) : LinkLk := { r with repeats := r.repeats.filter (fun x => !answered x) }

theorem dropRepeats_eq (s : State) (l : Nat) (answered : Repeat → Bool) :
    s.dropRepeats l answered = (s.setLkk l (answeredOn (s.lkk l) answered)).setLkk (twin l) (answeredOn (s.lkk (twin l)) answered) := by
  unfold dropRepeats answeredOn
  dsimp only
  rw [lkk_setLkk_other _ _ (twin_ne l)]

theorem dropRepeats_frame (s : State) (l : Nat) (answered : Repeat → Bool) : ∃ lk, s.dropRepeats l answered = { s with lk := lk } := ⟨_, rfl⟩

/-! ### Markers of a link that is up, in this package's fabric (R541-R545, R554) -/

section
variable {s : State} {l : Nat} {m : BitVec 512} (hup : s.linkUp l = true) (hfab : s.ownFabric m = true)
include hup hfab

theorem doSync_of_up : s.doSync l m = s.dropRepeats l (fun x => x.m.kind == 3 && x.m.epoch == mField m 8 8) := by
  simp [doSync, hup, hfab]

theorem doReady_of_child {c : Nat} (hj : s.joined = true) (hl : s.isLeader = true) (hc : s.treeLink l (fun i => s.childLinks.contains i) = some c)
    (habort : (decodeMarker m).flags.testBit 1 = false) (he : (decodeMarker m).epoch = s.doneEpoch) :
    s.doReady l m = agree { s with fab := { s.fab with children := s.fab.children.put c (decodeMarker m) } } := by
  unfold doReady
  dsimp only
  rw [if_neg (by simp [hup, hfab, hj, hl]), hc]
  dsimp only
  rw [if_neg (by simp [habort]), if_pos (.inl he)]

/-- The release that a marker carries (R542). -/
def markedRelease (m : Marker) : Release :=
  { epoch := m.epoch, late := m.flags.testBit 0, abort := m.flags.testBit 1, stop := m.flags.testBit 2, complete := bitsSet m.arr }

theorem doReleaseMarker_of_parent {c : Nat} (hj : s.joined = true) (hl : s.isLeader = false) (hc : s.treeLink l (fun i => s.parentLink == some i) = some c)
    (habort : (decodeMarker m).flags.testBit 1 = false) (he : (decodeMarker m).epoch ≠ s.clk.epoch) (hnone : s.clk.release = none) :
    s.doReleaseMarker l m = (s.dropRepeats l (fun x => x.m.kind == 2)).takeRelease (markedRelease (decodeMarker m)) := by
  unfold doReleaseMarker
  dsimp only
  rw [if_neg (by simp [hup, hfab, hj]), hc]
  dsimp only
  rw [if_neg (by simp [releaseSeen, habort, he, hl, hnone]), if_neg (by simp [hl])]
  rfl

theorem doFence_of_abort (ha : s.abort.isSome = true) (he : mField m 8 8 = s.clk.epoch) (hrr : (s.lkk l).rrExpect = none) :
    s.doFence l m = s.setLkk l { s.lkk l with rx := (s.lkk l).rx0 + (s.stitchList l false).length, fenced := true, ctlDue := true } := by
  have hnone : s.abort.isNone = false := by simpa using ha
  unfold doFence
  rw [if_neg (by simp [hup, hfab, hnone, he])]
  dsimp only
  rw [hrr]
  rfl

end

/-! ### Repeats (R543) -/

/-- A link end whose one repeat goes out once more. -/
def repeated (r : LinkLk) (x : Repeat) : LinkLk := { r with repeats := [{ x with sent := x.sent + 1 }] }

theorem doRepeat_of_one {s : State} {l : Nat} {x : Repeat} (hup : s.linkUp l = true) (hr : (s.lkk l).repeats = [x]) (hsent : x.sent < 7) :
    s.doRepeat l = ((s.setLkk l (repeated (s.lkk l) x)).setLkk l (withMarker (repeated (s.lkk l) x) x.m)).bump (fabBase + 0x120) := by
  have hcarrier : s.treeCarrier l = some l := if_pos hup
  have hlast : (x.sent == 7) = false := by simp; omega
  simp [doRepeat, hr, hcarrier, hlast, queueMarker, bump, withMarker, repeated]

end State

end Sys2Proof.Machine

namespace Sys2Proof.Claims

open Sys2Proof.Machine Sys2Proof.Machine.State

/-- Settles O52: each marker and each repeat changes the ends of the links that it names; a release is taken as over the Lace line. -/
theorem epochMarkers : Obligations.EpochMarkers := by
  intro s l m r
  refine ⟨fun hs hc hsync => ?sync, fun hup hfab => ⟨?answered, fun c hj hl hc habort he hready => ?ready,
      fun c hj hl hc habort he hnext ha hnone => ?release, fun ha he hrr => ?fence⟩, fun x hup hr hsent => ?repeats⟩
  case sync =>
    obtain ⟨hframe, hlkk⟩ := queueSyncs_spec ((List.range 128).filter s.linkUp) { s with clk := { s.clk with synced := true } }
      (List.nodup_range.filter _)
    refine answers_of_eq rfl (doSyncSend_of_due hs hc hsync) ⟨hframe, fun k hk => ?_⟩
    rw [hlkk k]
    simp only [List.mem_filter, List.mem_range, hk, true_and]
    rfl
  case answered =>
    exact congrArg Host.Outcome.next ((doSync_of_up hup hfab).trans (dropRepeats_eq _ _ _))
  case ready =>
    exact congrArg Host.Outcome.next ((doReady_of_child hup hfab hj hl hc habort he).trans (agree_of_not_ready hready))
  case release =>
    have he' : (decodeMarker m).epoch ≠ s.clk.epoch := by omega
    obtain ⟨lk, hlk⟩ := s.dropRepeats_frame l (fun x => x.m.kind == 2)
    have heq := doReleaseMarker_of_parent hup hfab hj hl hc habort he' hnone
    rw [hlk, takeRelease_of_next (s := { s with lk := lk }) habort ha hnone (fun _ _ => he') (he.trans hnext.symm)] at heq
    refine answers_of_eq rfl heq ⟨rfl, ?_⟩
    rw [← he, markedRelease, habort]
  case fence =>
    exact congrArg Host.Outcome.next (doFence_of_abort hup hfab ha he hrr)
  case repeats =>
    refine answers_of_eq rfl (doRepeat_of_one hup hr hsent) ⟨?_, ?_⟩
    · rw [lkk_of_lk (bump_lk _ _), lkk_setLkk_same]
      rfl
    · exact word_bump_same _ (by decide)

end Sys2Proof.Claims
end

section
/-! Descriptors of the rings: what one that passes its checks does, and how one that fails is refused (13 R585-R595). -/

namespace Sys2Proof.Machine

namespace State

/-! ### Reading a descriptor (R585, R593) -/

section
variable {s : State} {q : Nat} {d : BitVec 512} {opc : Nat} {work : State → State}

theorem descriptor_of_read (hread : s.readsFrom q = true) (hfence : s.fenceOpen q d = true) (hrow : dOpc d = opc ∨ knownOpc (dOpc d) = false) :
    s.descriptor q d opc work = if s.firstChecks q d = 0 then work (s.takeDescriptor q) else (s.takeDescriptor q).refuse q d (s.firstChecks q d) := by
  unfold descriptor
  exact if_pos (by rcases hrow with h | h <;> simp [hread, hfence, h])

theorem descriptor_of_pass (hread : s.readsFrom q = true) (hfence : s.fenceOpen q d = true) (hpass : s.firstChecks q d = 0) (hopc : dOpc d = opc) :
    s.descriptor q d opc work = work (s.takeDescriptor q) := by
  rw [descriptor_of_read hread hfence (.inl hopc), if_pos hpass]

/-- Such a descriptor is completed with the code of its first failing check, and has no other effect. -/
theorem descriptor_of_fail (hread : s.readsFrom q = true) (hfence : s.fenceOpen q d = true) (hfail : s.firstChecks q d ≠ 0)
    (hrow : dOpc d = opc ∨ knownOpc (dOpc d) = false) :
    s.descriptor q d opc work =
      (s.takeDescriptor q).complete q (dCid d) ((s.takeDescriptor q).cqFor q d) (dOpc d) (s.firstChecks q d) := by
  rw [descriptor_of_read hread hfence hrow, if_neg hfail]
  rfl
end

theorem gateFull_of_open {s : State} (h : s.gateHolds = false) : s.gateFull = false := by simp [gateFull, h]

theorem obj_takeDescriptor (s : State) (q k : Nat) : (s.takeDescriptor q).obj k = s.obj k := rfl

theorem obj_succeed (s : State) (q : Nat) (d : BitVec 512) (quietOp : Bool) (info k : Nat) : (s.succeed q d quietOp info).obj k = s.obj k := by
  unfold succeed
  split <;> rfl

/-! ### What reading package memory leaves of the host interface -/

@[simp] theorem record_host (s : State) (code : Nat) (loc : Loc) (detail : Nat) : (s.record code loc detail).host = s.host := by rw [record_frame]
@[simp] theorem bump_host (s : State) (off : Nat) : (s.bump off).host = s.host := by rw [bump_frame]

theorem trigger_host (s : State) (code : Nat) : (s.trigger code).host = s.host := by
  unfold trigger
  dsimp only
  split
  · rfl
  · split
    · split
      · split <;> rfl
      · rfl
    · split
      · split <;> rfl
      · rfl

@[simp] theorem abortWith_host (s : State) (code : Nat) (loc : Loc) (detail : Nat) : (s.abortWith code loc detail).host = s.host := by
  rw [abortWith, trigger_host, record_host]

@[simp] theorem addRepair_host (s : State) (a : Nat) : (s.addRepair a).host = s.host := by
  unfold addRepair
  split <;> rfl

theorem correctHbm_host (s : State) (a : Nat) : (s.correctHbm a).host = s.host := by
  unfold correctHbm
  dsimp only
  split
  · rw [addRepair_host, record_host]
    exact bump_host s _
  · exact bump_host s _

theorem wordError_host (s : State) (e : Nat × WordErr) : (s.wordError e).host = s.host := by
  unfold wordError
  dsimp only
  split <;> simp [correctHbm_host]

theorem touch_host (s : State) (a n : Nat) : (s.touch a n).host = s.host := by
  unfold touch
  generalize s.memErr.filter _ = l
  induction l generalizing s with
  | nil => rfl
  | cons e l ih => exact (ih (s.wordError e)).trans (wordError_host s e)

/-! ### A COPY among the jobs -/

/-- Two jobs that name the same COPY; how much of it has moved may differ. -/
def CopyJob.sameAs (j k : CopyJob) : Prop := k = { j with moved := k.moved }

/-- The COPY to the host that a descriptor asks for. -/
def jobToHost (s : State) (q : Nat) (d : BitVec 512) (data : Option (List Byte)) : CopyJob :=
  { job := s.host.copyNext, sq := q, cid := dCid d, cq := s.cqFor q d, quiet := dQuiet d, toHost := true,
    src := dField d 8 8, dst := dField d 0x10 8, len := dField d 0x18 4, moved := 0, data := data.getD [] }

/-- A COPY becomes the newest job. -/
def addJob (s : State) (j : CopyJob) : State := { s with host := { s.host with copyNext := s.host.copyNext + 1, copies := s.host.copies ++ [j] } }

/-- A job of the name stands among the jobs. -/
def hasJob (s : State) (j : CopyJob) : Prop := ∃ k ∈ s.host.copies, CopyJob.sameAs j k

theorem hasJob_addJob (s : State) (j : CopyJob) : (s.addJob j).hasJob j := ⟨j, List.mem_append_right _ (List.mem_singleton_self _), rfl⟩

/-- Moving a piece of a COPY to the host keeps every job. -/
theorem movePiece_keeps_job {s : State} {i j : CopyJob} (hto : i.toHost = true) (o n : Nat) (h : s.hasJob j) : (s.movePiece i o n).hasJob j := by
  obtain ⟨k, hk, hsame⟩ := h
  have hcopies : (s.movePiece i o n).host.copies =
      s.host.copies.map (fun k => if k.job == i.job then { k with moved := k.moved + n } else k) := by
    unfold movePiece
    dsimp only
    rw [if_pos hto]
    exact congrArg (fun h : HostIf => h.copies.map _) (touch_host s _ _)
  refine ⟨if k.job == i.job then { k with moved := k.moved + n } else k, hcopies ▸ List.mem_map_of_mem hk, ?_⟩
  unfold CopyJob.sameAs at hsame ⊢
  split
  · rw [hsame]
  · exact hsame

theorem sendCopy_keeps_job {s : State} {i j : CopyJob} (hto : i.toHost = true) (h : s.hasJob j) : (s.sendCopy i).hasJob j := by
  unfold sendCopy
  generalize pieces (CopyJob.pkg i) i.len = l
  induction l generalizing s with
  | nil => exact h
  | cons p l ih =>
    refine ih ?_
    dsimp only
    split
    · exact h
    · exact movePiece_keeps_job hto _ _ h

end State

end Sys2Proof.Machine

namespace Sys2Proof.Claims
open Sys2Proof.Machine Sys2Proof.Machine.State

/-- Settles O23: a descriptor that passes is read once (`descriptor_of_pass`) and its row's work follows; a COPY stays among the jobs while its pieces are sent. -/
theorem ringCommands : Obligations.RingCommands := by
  intro s q d hread hfence hpass
  have hwork {opc : Nat} {work : State → State} (hopc : dOpc d = opc) : s.descriptor q d opc work = work (s.takeDescriptor q) :=
    descriptor_of_pass hread hfence hpass hopc
  refine ⟨fun hopc hcheck => congrArg Host.Outcome.next ?_, fun hopc hcheck hgate => congrArg Host.Outcome.next ?_,
    fun hopc hobj hway hfits => ?_, fun hopc hobj hclaim hway hgate => congrArg Host.Outcome.next ?_,
    fun hopc hobj hway => ?_, fun hopc hlater => congrArg Host.Outcome.next ?_,
    fun hopc hbegun => congrArg Host.Outcome.next ?_, fun data hopc hto hvf haccess => ?_⟩
  · exact (hwork hopc).trans (if_pos hcheck)
  · unfold doMsLoad
    rw [if_neg (by simp [gateFull_of_open (s := s) hgate]), hwork hopc]
    dsimp only
    rw [if_neg (not_not_intro hcheck), if_neg (by simp [hgate])]
  · refine answers_of_eq rfl (hwork hopc) ?_
    dsimp only
    rw [if_neg (by simp [hobj]), if_neg (by simp [hway]), synAdd_of_fits hfits]
    refine ⟨?_, fun j hj => ?_⟩
    · rw [obj_succeed, obj_setObj_same, obj_setObj_same, obj_takeDescriptor]
    · rw [obj_succeed, obj_setObj_other _ _ hj, obj_setObj_other _ _ hj, obj_takeDescriptor]
  · unfold doSynSet
    rw [if_neg (by simp [gateFull_of_open (s := s) hgate]), hwork hopc]
    dsimp only
    rw [if_neg (by simp [hobj]), if_neg (by simp [hclaim]), if_neg (by simp [hway]), if_neg (by simp [hgate])]
  · refine answers_of_eq rfl (hwork hopc) ?_
    dsimp only
    rw [if_neg (by simp [hobj]), if_neg (by simp [hway])]
    exact ⟨rfl, rfl⟩
  · exact (hwork hopc).trans (if_neg (Nat.not_le.mpr hlater))
  · refine (hwork hopc).trans ((if_pos hbegun).trans ?_)
    simp only [succeed, Bool.false_and, Bool.false_eq_true, if_false, hopc]
  · refine answers_of_eq rfl (hwork hopc) ?_
    have htoHost : (dField d 0x1C 1 == 1) = true := beq_iff_eq.mpr hto
    simp only [htoHost, if_true, Bool.not_true, hvf, haccess, Bool.false_and, Bool.false_eq_true, if_false, ne_eq, not_true_eq_false]
    obtain ⟨j, hj, hsame⟩ := sendCopy_keeps_job (i := (s.takeDescriptor q).jobToHost q d data) rfl (hasJob_addJob (s.takeDescriptor q) _)
    exact ⟨j, hj, by rw [hsame]; exact ⟨rfl, rfl, rfl, rfl, rfl, rfl, rfl⟩⟩

/-- Settles O24: each row reads the descriptor and refuses it (`descriptor_of_fail`); MS_LOAD and SYN_SET look at the input gate before. -/
theorem refusedDescriptors : Obligations.RefusedDescriptors := by
  intro s q d hread hfence hfail
  have hrefused {opc : Nat} {work : State → State} := descriptor_of_fail (opc := opc) (work := work) hread hfence hfail
  refine ⟨fun h => congrArg Host.Outcome.next (hrefused h), fun hopen h => congrArg Host.Outcome.next ?_,
    fun hfull => ⟨congrArg Host.Outcome.next (if_pos hfull), congrArg Host.Outcome.next (if_pos hfull)⟩,
    fun _ h => congrArg Host.Outcome.next (hrefused h), fun h => congrArg Host.Outcome.next (hrefused h),
    fun hopen h => congrArg Host.Outcome.next ?_, fun h => congrArg Host.Outcome.next (hrefused h), fun h => congrArg Host.Outcome.next (hrefused h)⟩
  all_goals exact (if_neg (by simp [hopen])).trans (hrefused h)

end Sys2Proof.Claims
end

section
/-! Doorbells, completions and interrupts; functions and ports (13 R567-R570, R597-R617; 17 R746-R751, R763-R771). -/

namespace Sys2Proof.Machine.State

/-! ### Doorbells (R599-R604) -/

section
variable {s : State} {p : Port} {fn q : Nat} {w : Word}

theorem doSqTail_of_dropped (hreach : s.doorbellReaches p fn q = true) (hdrop : s.doorbellDrops fn q = true) (fault : Bool) :
    s.doSqTail p fn q w fault = s.hifDrop := by
  unfold doSqTail
  rw [if_neg (by simp [hreach]), if_pos hdrop]

theorem doCqHead_of_dropped (hreach : s.doorbellReaches p fn q = true) (hdrop : s.doorbellDrops fn q = true) :
    s.doCqHead p fn q w = s.hifDrop := by
  unfold doCqHead
  rw [if_neg (by simp [hreach]), if_pos hdrop]

/-- A write that port B overtook in its cycle came through port A. -/
theorem port_of_overtaken {atB : Option (Nat × Nat)} (h : s.overtaken p atB = true) : p ≠ .b := by
  rintro rfl
  simp [overtaken] at h

variable (hreach : s.doorbellReaches p fn q = true) (hdrop : s.doorbellDrops fn q = false)
include hreach hdrop

theorem doSqTail_of_inRange (hv : w.toNat % 65536 < s.sqSize q) :
    ∃ r, s.doSqTail p fn q w false = (s.setRing q r).setRing q
        { r with sqTail := if s.overtaken p (s.ring q).sqB then (s.ring q).sqTail else w.toNat % 65536 } ∧
      r = { s.ring q with
        sqReg := if s.overtaken p (s.ring q).sqB then (s.ring q).sqReg else w
        sqB := if p == .b then some s.cycleMark else (s.ring q).sqB } := by
  refine ⟨_, ?_, rfl⟩
  unfold doSqTail
  rw [if_neg (by simp [hreach]), if_neg (by simp [hdrop])]
  dsimp only
  rw [if_neg (Nat.not_le.mpr hv), ring_setRing_same]
  rfl

theorem doCqHead_of_inRange (hv : w.toNat % 65536 < s.cqSize q)
    (hspan : (w.toNat % 65536 + s.cqSize q - (s.ring q).cqHead) % s.cqSize q ≤ s.cqUsed q) (harm : w.toNat / 2 ^ 31 = 0) :
    ∃ r, s.doCqHead p fn q w = (s.setRing q r).setRing q
        { r with cqHead := if s.overtaken p (s.ring q).cqB then (s.ring q).cqHead else w.toNat % 65536, armed := (s.ring q).armed } ∧
      r = { s.ring q with
        cqReg := if s.overtaken p (s.ring q).cqB then (s.ring q).cqReg else w
        cqB := if p == .b then some s.cycleMark else (s.ring q).cqB } := by
  refine ⟨_, ?_, rfl⟩
  unfold doCqHead
  rw [if_neg (by simp [hreach]), if_neg (by simp [hdrop])]
  dsimp only
  rw [ring_setRing_same, if_neg, if_neg (by omega)]
  · simp only [harm, Nat.reduceBEq, Bool.or_false]
  · rintro (hover | ⟨-, hover⟩)
    · omega
    · exact absurd hover (Nat.not_lt.mpr hspan)

end

/-! ### Completions and interrupts (R594-R614) -/

theorem wakePort_of_awake {s : State} {p : Nat} (h : (s.port p).st ≠ .l1) : s.wakePort p = s := by
  unfold wakePort
  exact if_neg (by simp [h])

/-- A due completion without a result write and without a context is written when its CQ has space. -/
theorem doCompletionPost_of_plain {s : State} {q : Nat} {d : Due} {rest : List Due} (hdue : (s.ring q).due = d :: rest) (hwrite : s.mayWrite q = true)
    (hspace : s.cqUsed q + 1 < s.cqSize q) (hport : (s.port (s.ringPort q)).st ≠ .l1) (hres : d.result = none) (hctx : d.frees = none)
    (fault : Bool) : s.doCompletionPost q fault = (s.setRing q { s.ring q with due := rest }).writeCompletion q d.comp := by
  have hwaits : s.resultWaits d = false := by simp [resultWaits, hres]
  unfold doCompletionPost
  rw [hdue]
  dsimp only
  rw [if_neg (by simp [hwrite, hspace]), wakePort_of_awake hport, hres, hctx]
  simp [hwaits]

/-! ### What resets of rings leave (17 R746-R751) -/

/-- What stands beside rings, commands and contexts: the ports, the fuses, the records in flash and the keys. -/
structure RingFree where
  portA : PortRec
  portB : PortRec
  fuse : Fuses
  nor : Nor
  keys : Tbl KeySlot

def ringFree (s : State) : RingFree := ⟨s.host.portA, s.host.portB, s.fuse, s.nor, s.cmd.keys⟩

/-- A change of rings, commands and contexts only. -/
def BesideRings (s t : State) : Prop := t.ringFree = s.ringFree

namespace BesideRings

theorem refl (s : State) : BesideRings s s := rfl

theorem trans {s t u : State} (h : BesideRings s t) (h' : BesideRings t u) : BesideRings s u := Eq.trans h' h

theorem foldl {α : Type} {f : State → α → State} (hf : ∀ s a, BesideRings s (f s a)) : ∀ (l : List α) (s : State), BesideRings s (l.foldl f s)
  | [], s => refl s
  | a :: l, s => (hf s a).trans (foldl hf l (f s a))

theorem port {s t : State} (h : BesideRings s t) (p : Nat) : t.port p = s.port p := by
  have ha : t.host.portA = s.host.portA := congrArg RingFree.portA h
  have hb : t.host.portB = s.host.portB := congrArg RingFree.portB h
  simp only [State.port, ha, hb]

theorem record (s : State) (code : Nat) (loc : Loc) (detail : Nat) : BesideRings s (s.record code loc detail) := by
  rw [record_frame]
  rfl

end BesideRings

theorem setCtxField_beside (s : State) (idx o n v : Nat) : BesideRings s (s.setCtxField idx o n v) := by
  unfold setCtxField pokeOwn
  split
  · exact .refl s
  · split
    · rw [queueOwn_frame]
      exact .refl s
    · exact .refl s

theorem setPhase_beside (s : State) (idx : Nat) (p : CtxPhase) : BesideRings s (s.setPhase idx p) := setCtxField_beside (s.modCtx idx _) _ _ _ _

theorem freeCtx_beside (s : State) (idx : Nat) : BesideRings s (s.freeCtx idx) := setCtxField_beside s idx 0 1 0

theorem resetCtx_beside (s : State) (c : CtxInfo) : BesideRings s (s.resetCtx c) := by
  unfold resetCtx
  split
  · exact .refl s
  · exact .refl s
  · exact freeCtx_beside (s.unqueue c.idx) c.idx

theorem enqueueCtx_beside (s : State) (idx : Nat) : BesideRings s (s.enqueueCtx idx) := by
  unfold enqueueCtx
  exact (setCtxField_beside s _ _ _ _).trans (setPhase_beside (State.modQueue _ _ _) _ _)

theorem promote_beside (s : State) (q : Nat) : BesideRings s (s.promote q) := .foldl enqueueCtx_beside _ s

theorem setRing_beside (s : State) (q : Nat) (r : RingQ) : BesideRings s (s.setRing q r) := rfl

theorem setChan_beside (s : State) (c : Nat) (x : Chan) : BesideRings s (s.setChan c x) := rfl

theorem dropUnits_beside (s : State) (job : Nat) : BesideRings s (s.dropUnits job) := by
  unfold dropUnits
  exact .foldl (fun s (p : Nat × Chan) => setChan_beside s p.1 _) _ s

theorem dropCommands_beside (s : State) (f : Nat → Bool) : BesideRings s (s.dropCommands f) := by
  unfold dropCommands
  extract_lets both ctxs s1 jobs s2 ended crit _ _ _ _ _ s3 s4
  have hctxs : BesideRings s s1 := .foldl resetCtx_beside _ _
  have hjobs : BesideRings s1 s2 := .foldl (fun s (j : CopyJob) => dropUnits_beside s j.job) _ _
  have hfilter : BesideRings s2 s3 := rfl
  have hended : BesideRings s3 s4 := .foldl (fun s q => setRing_beside s q _) _ _
  exact (((hctxs.trans hjobs).trans hfilter).trans hended).trans (.foldl promote_beside _ _)

theorem coldRings_beside (s : State) (f : Nat → Bool) : BesideRings s (s.coldRings f) := rfl

theorem resetRings_beside (s : State) (f : Nat → Bool) : BesideRings s (s.resetRings f) := by
  have hcold : BesideRings s ((s.dropCommands f).coldRings f) := (dropCommands_beside s f).trans (coldRings_beside _ f)
  unfold resetRings
  generalize (s.dropCommands f).coldRings f = t at hcold ⊢
  exact hcold

theorem resetFn_beside (s : State) (f : Nat) : BesideRings s (s.resetFn f) := by
  have hrings := resetRings_beside s (fun q => s.owner q == f)
  unfold resetFn
  generalize s.resetRings (fun q => s.owner q == f) = t at hrings ⊢
  exact hrings

theorem clearVfs_beside (s : State) : BesideRings s s.clearVfs := by
  unfold clearVfs
  generalize hl : (List.range 64).filter (fun f => decide (1 ≤ f ∧ f ≤ s.host.vfs)) = l
  have hfns : BesideRings s (l.foldl resetFn s) := .foldl resetFn_beside l s
  generalize l.foldl resetFn s = t at hfns ⊢
  exact hfns

theorem freeHostLocks_beside (s : State) (f : Lock → Bool) : BesideRings s (s.freeHostLocks f) := rfl

@[simp] theorem port_setPort_same (s : State) (p : Nat) (r : PortRec) : (s.setPort p r).port p = r := by
  unfold setPort port
  split
  · rfl
  · rfl

/-- R751: the port is held in reset, whatever its rings and functions were doing. -/
theorem port_doPerstAssert (s : State) (p : Port) : (s.doPerstAssert p).port (portNo p) = { st := .down, reset := true } := by
  have hset := port_setPort_same s (portNo p) { st := .down, reset := true }
  refine (BesideRings.port ?_ _).trans hset
  unfold doPerstAssert
  extract_lets n sel hadActive s1 s2 s3
  have hlocks : BesideRings s1 s2 := (resetRings_beside s1 sel).trans (freeHostLocks_beside _ _)
  have hvfs : BesideRings s1 s3 := by
    unfold s3
    split
    · exact hlocks.trans (clearVfs_beside s2)
    · exact hlocks
  split
  · split
    · exact hvfs.trans (.record _ _ _ _)
    · exact hvfs
  · exact .refl s1

/-! ### Functions (R569, 17 R746, R764) -/

theorem fnExists_of_started {s : State} (hs : s.started = true) {f : Nat} (hf : f ≤ s.host.vfs) : s.fnExists f = true := by
  have hphase : s.boot.phase = .started := by simpa [started] using hs
  simp [fnExists, hphase, hf]

theorem tryInterrupt_d3 (s : State) (q : Nat) : (s.tryInterrupt q).host.d3 = s.host.d3 := by
  unfold tryInterrupt interrupt msix
  dsimp only
  split
  · split <;> rfl
  · rfl

theorem foldl_tryInterrupt_d3 : ∀ (l : List Nat) (s : State), (l.foldl tryInterrupt s).host.d3 = s.host.d3
  | [], _ => rfl
  | q :: l, s => (foldl_tryInterrupt_d3 l (s.tryInterrupt q)).trans (tryInterrupt_d3 s q)

end Sys2Proof.Machine.State

namespace Sys2Proof.Claims
open Sys2Proof.Machine Sys2Proof.Machine.State

/-- Settles O26: each doorbell is two writes of its ring, of which the second moves the position; the rest is one case each. -/
theorem doorbellsAndCompletions : Obligations.DoorbellsAndCompletions := by
  intro s p fn q w
  refine ⟨fun hreach hdrop hv => ?_, fun hreach hdrop => ⟨congrArg Host.Outcome.next (doSqTail_of_dropped hreach hdrop false),
      congrArg Host.Outcome.next (doCqHead_of_dropped hreach hdrop)⟩, fun hreach hdrop hv hspan harm => ?_,
    fun d rest hdue hwrite hspace hport hres hctx => congrArg Host.Outcome.next (doCompletionPost_of_plain hdue hwrite hspace hport hres hctx false),
    fun hdue hfull hwaited => congrArg Host.Outcome.next ?_, fun hwaited => congrArg Host.Outcome.next ?_,
    fun hmod hp => congrArg Host.Outcome.next ?_, fun hq hpend => ?_⟩
  · obtain ⟨r, heq, hr⟩ := doSqTail_of_inRange hreach hdrop hv
    refine answers_of_eq rfl heq ⟨rfl, fun j hj => ?_, ?_⟩
    · rw [ring_setRing_other _ _ hj, ring_setRing_other _ _ hj]
    · rw [ring_setRing_same, hr]
      cases hlate : s.overtaken p (s.ring q).sqB
      · simp
      · simp [port_of_overtaken hlate]
  · obtain ⟨r, heq, hr⟩ := doCqHead_of_inRange hreach hdrop hv hspan harm
    refine answers_of_eq rfl heq ⟨rfl, fun j hj => ?_, ?_⟩
    · rw [ring_setRing_other _ _ hj, ring_setRing_other _ _ hj]
    · rw [ring_setRing_same, hr]
      cases hlate : s.overtaken p (s.ring q).cqB
      · simp
      · simp [port_of_overtaken hlate]
  · exact if_pos (by simp [hdue, hfull, hwaited])
  · exact if_neg (by simp [hwaited])
  · exact if_pos ⟨hmod, hp⟩
  · refine answers_of_eq (u := { s with host := { s.host with msix := s.host.msix.put q { masked := false, pend := false } }, out := s.out ++ [.msix 0 q] })
      rfl ?_ ⟨Tbl.find_put_same _ _ _, rfl, rfl⟩
    unfold doMsixUnmask
    rw [if_pos (.inl ⟨rfl, hq⟩)]
    simp only [Fin.val_zero, Nat.mul_zero, Nat.zero_add, hpend, if_true]
    rfl

/-- Settles O27: each command by its cases; what a port reset does to rings and functions leaves the ports (`BesideRings`). -/
theorem functionsAndPorts : Obligations.FunctionsAndPorts := by
  intro s p n v hs
  refine ⟨fun hctl hn hvfs => congrArg Host.Outcome.next ?_, fun hn hle => congrArg Host.Outcome.next ?_,
    fun hle hd3 hidle => congrArg Host.Outcome.next ?_, fun hd3 => ?_,
    fun hl0 => congrArg Host.Outcome.next (if_pos (by simp [hl0])), fun hl1 => congrArg Host.Outcome.next (if_pos (by simp [hl1])),
    ⟨_, rfl, port_doPerstAssert s p⟩, fun hreset hallowed => congrArg Host.Outcome.next ?_,
    fun hen hl0 => congrArg Host.Outcome.next (if_pos ⟨hen, hl0, hs⟩)⟩
  · have hphase : s.boot.phase = .started := by simpa [started] using hs
    unfold doVfEnable
    rw [if_neg (by simp [hctl, fnExists_of_started hs, hphase]), if_neg hn, if_pos hvfs]
  · unfold doFlr
    rw [if_neg (by simp [fnExists_of_started hs hle])]
    simp only [hn, if_false]
  · unfold doD3Entry
    rw [if_neg (by simp [fnExists_of_started hs hle, hd3])]
    refine if_neg ?_
    rw [List.any_eq_true]
    rintro ⟨q, hq, hany⟩
    simp only [Bool.and_eq_true, beq_iff_eq] at hany
    exact absurd (hidle q (List.mem_range.mp hq) hany.1) (by simp [hany.2])
  · refine answers_of_eq rfl (if_pos (by simpa using hd3)) ?_
    rw [foldl_tryInterrupt_d3]
    simp
  · unfold doPerstRelease
    dsimp only
    rw [if_pos hreset, if_pos hallowed]

end Sys2Proof.Claims
end

section
/-! Critical commands: the keyed check, the start of accepted work, and its ends (14 R625-R643; 02 R55-R62; 09 R380; 15 R670-R673). -/

namespace Sys2Proof.Machine

/-- What the end of a command's work leaves but for the command in progress. -/
structure WorkView where
  queue : List Crit
  marking : Option Crit
  work : List Crit
  current : Option Crit
  keys : Tbl KeySlot
  lasts : Tbl Last
  overridePend : Option (Bool × Nat)
  rolePend : Option Nat
  fuse : Fuses
  flash : Flash
  base : Tbl Baseline
  record : BootRec

namespace State

def workView (s : State) : WorkView :=
  ⟨s.cmd.queue, s.cmd.marking, s.cmd.work, s.cmd.current, s.cmd.keys, s.cmd.lasts, s.cmd.overridePend, s.cmd.rolePend, s.fuse, s.flash, s.opt.base,
    s.boot.record⟩

/-! ### The journal and the completion (R643, R647) -/

theorem workView_bump (s : State) (off : Nat) : (s.bump off).workView = s.workView := by
  rw [bump_frame]
  rfl

theorem workView_record (s : State) (code : Nat) (loc : Loc) (detail : Nat) : (s.record code loc detail).workView = s.workView := by
  rw [record_frame]
  rfl

theorem workView_pokeOwn (s : State) (a : Nat) (bs : List Byte) : (s.pokeOwn a bs).workView = s.workView := by
  unfold pokeOwn
  split
  · rfl
  · split
    · rw [queueOwn_frame]
      rfl
    · rfl

theorem workView_pokeEntry (s : State) (a : Nat) (bs : List Byte) : (s.pokeEntry a bs).workView = s.workView := by
  rw [pokeEntry, workView_pokeOwn, workView_pokeOwn]

theorem workView_commitEntry (s : State) (e : JEnt) : (s.commitEntry e).workView = s.workView := by
  unfold commitEntry
  split
  · rfl
  · extract_lets n bs o _ s1 s2 s4
    have hcount : s2.workView = s.workView := by
      unfold s2
      split
      · exact workView_bump s1 _
      · rfl
    have hactive : s4.workView = s.workView := (workView_pokeEntry s2 _ _).trans hcount
    split
    · exact (workView_pokeEntry s4 _ _).trans hactive
    · exact hactive

theorem workView_journal (s : State) (e : JEnt) : (s.journal e).workView = s.workView := by
  unfold journal
  split
  · rfl
  · exact workView_commitEntry s e

theorem workView_replyCrit (s : State) (c : Crit) (status : Nat) : (s.replyCrit c status).workView = s.workView := by
  unfold replyCrit
  split
  · split <;> rfl
  · rfl

theorem workView_refuseCrit (s : State) (c : Crit) (code : Nat) : (s.refuseCrit c code).workView = s.workView := by
  rw [refuseCrit, workView_replyCrit]
  exact workView_journal s _

theorem workView_endWork {s : State} {c : Crit} (h : s.cmd.current = some c) (status arg0 : Nat) :
    (s.endWork status arg0).workView = { s.workView with current := none } := by
  unfold endWork
  rw [h]
  dsimp only
  rw [workView_replyCrit]
  exact congrArg (fun v : WorkView => { v with current := none }) (workView_journal s _)

/-! ### Stores and the update engine leave the commands (18 R822-R825) -/

/-- What the stores of records leave. -/
structure StoreView where
  cmd : Cmd
  fuse : Fuses
  clk : Clock
  phase : Phase
  base : Tbl Baseline

def storeView (s : State) : StoreView := ⟨s.cmd, s.fuse, s.clk, s.boot.phase, s.opt.base⟩

theorem storeView_record (s : State) (code : Nat) (loc : Loc) (detail : Nat) : (s.record code loc detail).storeView = s.storeView := by
  rw [record_frame]
  rfl

theorem writeRec_cases (s : State) (w : RecWrite) :
    ∃ nor, s.writeRec w = { s with nor := nor } ∨ s.writeRec w = ({ s with nor := nor }).record 0x1209 := by
  unfold writeRec
  split
  · unfold tellWait
    split
    · exact ⟨_, .inl rfl⟩
    · exact ⟨_, .inr rfl⟩
  · cases w
    · exact ⟨_, .inl rfl⟩
    · exact ⟨_, .inl rfl⟩

theorem storeView_writeRec (s : State) (w : RecWrite) : (s.writeRec w).storeView = s.storeView := by
  obtain ⟨nor, h | h⟩ := writeRec_cases s w <;> rw [h]
  · rfl
  · exact storeView_record _ _ _ _

theorem flash_writeRec (s : State) (w : RecWrite) : (s.writeRec w).flash = s.flash := by
  obtain ⟨nor, h | h⟩ := writeRec_cases s w <;> rw [h]
  rw [record_frame]

theorem storeView_storeBoot (s : State) (r : BootRec) : (s.storeBoot r).storeView = s.storeView := by
  unfold storeBoot
  dsimp only
  split
  · exact storeView_record _ _ _ _
  · exact storeView_writeRec _ _

theorem flash_storeBoot (s : State) (r : BootRec) : (s.storeBoot r).flash = s.flash := by
  unfold storeBoot
  dsimp only
  split
  · rw [record_frame]
  · exact flash_writeRec _ _

theorem storeView_freeFlash (s : State) : s.freeFlash.storeView = s.storeView := by
  unfold freeFlash
  split <;> rfl

theorem storeView_nextSector (s : State) : s.nextSector.storeView = s.storeView := by
  unfold nextSector
  split
  · rfl
  · split
    · dsimp only
      split
      · rw [storeView_freeFlash]
        exact storeView_storeBoot _ _
      · exact storeView_storeBoot _ _
    · rfl

theorem storeView_endStore (s : State) : s.endStore.storeView = s.storeView := by
  unfold endStore
  split
  · rfl
  · dsimp only
    split
    · exact storeView_nextSector _
    · rfl

/-- A mark in the log leaves the commands. -/
theorem programMark_frame (s : State) (k m : Nat) : ∃ nor, s.programMark k m = { s with nor := nor } := by
  unfold programMark
  dsimp only
  split
  · exact ⟨_, rfl⟩
  · exact ⟨_, rfl⟩

/-! ### The queue and the start of work (R640-R642) -/

theorem runChecks_of_empty {s : State} (h : s.cmd.queue = []) : s.runChecks = s := by
  unfold runChecks
  rw [h]
  split <;> rfl

/-- The only command of the queue is checked at once. -/
theorem runChecks_of_one {s : State} {c : Crit} (hhalt : s.activeHalted = false) (hmark : s.cmd.marking = none) (hq : s.cmd.queue = []) :
    ({ s with cmd := { s.cmd with queue := [c] } }).runChecks = s.checkCrit c := by
  have hback : ({ s with cmd := { s.cmd with queue := [], marking := none } } : State) = s := by rw [← hq, ← hmark]
  unfold runChecks
  rw [if_neg (by exact ne_true_of_eq_false hhalt)]
  simp only [List.length_singleton, runQueue, hmark]
  exact congrArg (fun t => checkCrit t c) hback

theorem startWork_of_busy {s : State} {c : Crit} (h : s.cmd.current = some c) : s.startWork = s := by
  unfold startWork
  rw [h]
  split
  · contradiction
  · rfl

theorem startWork_of_idle {s : State} (h : s.cmd.work = []) : s.startWork = s := by
  unfold startWork
  rw [h]
  split
  · contradiction
  · rfl

theorem startWork_of_first {s : State} {c : Crit} {rest : List Crit} (hhalt : s.activeHalted = false) (hcur : s.cmd.current = none)
    (hwork : s.cmd.work = c :: rest) : s.startWork = ({ s with cmd := { s.cmd with current := some c, work := rest } }).beginWork c := by
  unfold startWork
  rw [hhalt, hcur, hwork]

theorem working_of_current {s : State} {c : Crit} {opc : Nat} (hhalt : s.activeHalted = false) (hcur : s.cmd.current = some c)
    (hopc : dOpc c.d = opc) : s.working opc = some c := by
  unfold working
  rw [hhalt, hcur]
  exact if_pos hopc

theorem activeHalted_of_open {s : State} (h : s.gateHolds = false) : s.activeHalted = false := by
  simp only [gateHolds, Bool.or_eq_false_iff] at h
  exact h.2

/-- R619, R641: with nothing before it, a descriptor's command is checked at once. -/
theorem doCritical_of_first {s : State} {q opc : Nat} {d : BitVec 512} {p : Option (BitVec 1024)} (hread : s.readsFrom q = true)
    (hfence : s.fenceOpen q d = true) (hgate : s.gateHolds = false) (hq : s.cmd.queue = []) (hmark : s.cmd.marking = none) (hopc : dOpc d = opc) :
    s.doCritical q d opc p = (s.takeDescriptor q).checkCrit
      { src := .ring q (s.ringPort q == 1), d := d, param := p, time := (s.clk.now, s.clk.sub) } := by
  have hgate' : (s.takeDescriptor q).gateHolds = false := hgate
  have hq' : (s.takeDescriptor q).cmd.queue = [] := hq
  unfold doCritical
  rw [if_pos (by simp [hread, hfence, hgate, hq, hopc])]
  unfold enterCrit
  rw [if_neg (by simp [hgate']), hq']
  exact runChecks_of_one (s := s.takeDescriptor q) (activeHalted_of_open hgate') hmark hq

end State

end Sys2Proof.Machine

namespace Sys2Proof.Claims
open Sys2Proof.Machine Sys2Proof.Machine.State

/-- Settles O38: the six rows enter one queue, whose only command is checked at once (`doCritical_of_first`). -/
theorem criticalCommands : Obligations.CriticalCommands := by
  intro s q d p hread hfence hgate hq hmark
  have hrow {opc : Nat} (hopc : dOpc d = opc) := doCritical_of_first (p := p) hread hfence hgate hq hmark hopc
  intro c k s1 s2 x hx hopc
  simp only [List.mem_cons, List.not_mem_nil, or_false] at hx
  obtain rfl | rfl | rfl | rfl | rfl | rfl := hx <;> exact congrArg Host.Outcome.next (hrow hopc)

end Sys2Proof.Claims
end

section
/-! The start of accepted critical work, and how each opcode's work begins (14 R629-R633, R642; 02 R57-R61; 09 R407; 16 R727). -/

namespace Sys2Proof.Machine.State

/-! ### A stored counter mark (R631, R632) -/

theorem workView_journalCheck (s : State) (c : Crit) (status : Nat) : (s.journalCheck c status).workView = s.workView := workView_journal s _

/-- A command joins the work that waits. -/
def queueWork (s : State) (c : Crit) : State := { s with cmd := { s.cmd with work := s.cmd.work ++ [c] } }

/-- The counter of a command's slot is consumed. -/
def consumed (s : State) (c : Crit) : State := s.setKey (dKslot c.d) { s.key (dKslot c.d) with counter := dCounter c.d }

theorem acceptCrit_of_plain {s : State} {c : Crit} (hopc : dOpc c.d ≠ 0x40) :
    s.acceptCrit c = (((s.consumed c).journalCheck c 0).queueWork { c with jseq := s.nextJseq, accepted := s.clk.epoch }).startWork := by
  unfold acceptCrit
  dsimp only
  rw [if_neg (fun h => hopc h.1)]
  rfl

/-- Behind work in progress an accepted command waits: its counter is consumed, and it stands last. -/
theorem workView_acceptCrit_of_busy {s : State} {c x : Crit} (hcur : s.cmd.current = some x) (hopc : dOpc c.d ≠ 0x40) :
    (s.acceptCrit c).workView = { s.workView with
      keys := s.cmd.keys.set {} (dKslot c.d) { s.key (dKslot c.d) with counter := dCounter c.d }
      work := s.cmd.work ++ [{ c with jseq := s.nextJseq, accepted := s.clk.epoch }] } := by
  have hview := workView_journalCheck (s.consumed c) c 0
  have hbusy : (((s.consumed c).journalCheck c 0).queueWork { c with jseq := s.nextJseq, accepted := s.clk.epoch }).cmd.current = some x :=
    (congrArg WorkView.current hview).trans hcur
  rw [acceptCrit_of_plain hopc, startWork_of_busy hbusy]
  exact congrArg (fun v : WorkView => { v with work := v.work ++ [{ c with jseq := s.nextJseq, accepted := s.clk.epoch }] }) hview

/-- The state in which a stored mark lets the check of `c` end. -/
def markStored (s : State) (c : Crit) : State :=
  let s1 : State := { s with cmd := { s.cmd with marking := none } }
  ((s1.setKey (dKslot c.d) { s1.key (dKslot c.d) with mark := markFor c }).programMark (dKslot c.d) (markFor c)).endStore

theorem storeView_markStored (s : State) (c : Crit) : (s.markStored c).storeView =
    { s.storeView with cmd := { s.cmd with marking := none, keys := s.cmd.keys.set {} (dKslot c.d) { s.key (dKslot c.d) with mark := markFor c } } } := by
  unfold markStored
  dsimp only
  rw [storeView_endStore]
  obtain ⟨nor, h⟩ := programMark_frame
    (setKey { s with cmd := { s.cmd with marking := none } } (dKslot c.d) { key { s with cmd := { s.cmd with marking := none } } (dKslot c.d) with mark := markFor c })
    (dKslot c.d) (markFor c)
  rw [h]
  rfl

/-- Behind work in progress: what a stored mark leaves once its command is accepted. -/
theorem workView_accept_markStored {s : State} {c x : Crit} (hcur : s.cmd.current = some x) (hopc : dOpc c.d ≠ 0x40) :
    ((s.markStored c).acceptCrit c).workView = { (s.markStored c).workView with
      keys := (s.cmd.keys.set {} (dKslot c.d) { s.key (dKslot c.d) with mark := markFor c }).set {} (dKslot c.d)
        { s.key (dKslot c.d) with mark := markFor c, counter := dCounter c.d }
      work := s.cmd.work ++ [{ c with jseq := s.nextJseq, accepted := s.clk.epoch }] } := by
  have hstored := storeView_markStored s c
  have hcmd : (s.markStored c).cmd =
      { s.cmd with marking := none, keys := s.cmd.keys.set {} (dKslot c.d) { s.key (dKslot c.d) with mark := markFor c } } :=
    congrArg StoreView.cmd hstored
  have hclk : (s.markStored c).clk = s.clk := congrArg StoreView.clk hstored
  have hphase : (s.markStored c).boot.phase = s.boot.phase := congrArg StoreView.phase hstored
  have hjseq : (s.markStored c).nextJseq = s.nextJseq := by simp only [nextJseq, hcmd, hphase]
  have hkey : (s.markStored c).key (dKslot c.d) = { s.key (dKslot c.d) with mark := markFor c } := by
    unfold key
    rw [hcmd]
    exact Tbl.get_set_same _ _ _ _
  rw [workView_acceptCrit_of_busy (x := x) (by rw [hcmd]; exact hcur) hopc, hkey, hjseq, hclk, hcmd]

section
variable {s : State} {c : Crit} (hhalt : s.activeHalted = false)
include hhalt

theorem doMarkStored_of_waiting (hwaits : s.nor.storeWaits = true) (ok : Bool) : s.doMarkStored ok = s := by
  unfold doMarkStored
  rw [hhalt, hwaits]
  rfl

variable (hwaits : s.nor.storeWaits = false) (hmark : s.cmd.marking = some c)
include hwaits hmark

theorem doMarkStored_of_stored : s.doMarkStored true = ((s.markStored c).acceptCrit c).runChecks := by
  unfold doMarkStored
  rw [hhalt, hwaits, hmark]
  rfl

theorem doMarkStored_of_failed :
    s.doMarkStored false = (refuseCrit (endStore { s with cmd := { s.cmd with marking := none } }) c 0x0E07).runChecks := by
  unfold doMarkStored
  rw [hhalt, hwaits, hmark]
  rfl

end

/-! ### How work begins (R618) -/

/-- A field of the commands after the end of a work that `g` leaves alone. -/
theorem current_endWork {s : State} {c : Crit} (h : s.cmd.current = some c) (status arg0 : Nat) : (s.endWork status arg0).cmd.current = none :=
  congrArg WorkView.current (workView_endWork h status arg0)

theorem work_endWork {s : State} {c : Crit} (h : s.cmd.current = some c) (status arg0 : Nat) : (s.endWork status arg0).cmd.work = s.cmd.work :=
  congrArg WorkView.work (workView_endWork h status arg0)

theorem lasts_endWork {s : State} {c : Crit} (h : s.cmd.current = some c) (status arg0 : Nat) : (s.endWork status arg0).cmd.lasts = s.cmd.lasts :=
  congrArg WorkView.lasts (workView_endWork h status arg0)

theorem fuse_endWork {s : State} {c : Crit} (h : s.cmd.current = some c) (status arg0 : Nat) : (s.endWork status arg0).fuse = s.fuse :=
  congrArg WorkView.fuse (workView_endWork h status arg0)

theorem base_endWork {s : State} {c : Crit} (h : s.cmd.current = some c) (status arg0 : Nat) : (s.endWork status arg0).opt.base = s.opt.base :=
  congrArg WorkView.base (workView_endWork h status arg0)

section
variable {s : State} {c : Crit}

theorem beginWork_of_fuse (hopc : dOpc c.d = 0x42) (hlock : (s.lock 1).refuse = none) (htarget : pField c.p 0 1 = 2) :
    s.beginWork c = if pField c.p 1 1 < 4 ∧ pField c.p 2 1 ≤ 8 ∧ s.fuse.rowSpare.find (pField c.p 1 1) = none then s
      else s.endWork 0x0E0A (pField c.p 2 1) := by
  simp only [beginWork, hopc, workFuse, hlock, htarget, reduceCtorEq, if_false, OfNat.ofNat_ne_one, if_true]

theorem beginWork_of_override (hopc : dOpc c.d = 0x44) (hlater : s.latchedEpoch < pField c.p 8 8) :
    s.beginWork c = endWork { s with cmd := { s.cmd with overridePend := some (pField c.p 0 1 == 1, pField c.p 8 8) } } 0 0 := by
  simp only [beginWork, hopc]
  exact if_neg (Nat.not_le.mpr hlater)

theorem beginWork_of_transfer (hopc : dOpc c.d = 0x45) (hstep : s.shk.standby = .inStep) (hlater : s.latchedEpoch < pField c.p 0 8) :
    s.beginWork c = endWork { s with cmd := { s.cmd with rolePend := some (pField c.p 0 8) } } 0 0 := by
  simp only [beginWork, hopc, hstep]
  exact if_neg (Nat.not_le.mpr hlater)

/-- R61: an UNLOAD in time names the last of its ID to leave. -/
theorem beginWork_of_unload (hopc : dOpc c.d = 0x40) (hname : namesImage c = false) (hsoon : c.accepted + 2 ≤ pField c.p 0x10 8)
    (hlater : s.latchedEpoch < pField c.p 0x10 8) (hflags : pField c.p 0x20 1 = 4) :
    s.beginWork c = (s.nameLeaving false (some (pField c.p 0x18 8)) (pField c.p 0x10 8) 16).endWork 0 (pField c.p 0x18 8) := by
  simp only [beginWork, hopc, hname, Bool.false_eq_true, if_false, workUnload, hflags]
  exact if_neg (by omega)

theorem lasts_nameLeaving (id x : Nat) : (s.nameLeaving false (some id) x 16).cmd.lasts = s.cmd.lasts.map (fun e =>
    if e.1 ≠ 16 ∧ e.2.st ≠ .validating ∧ e.2.id = id then (e.1, e.2.nameLeave x) else e) := by
  refine List.map_congr_left fun e _ => ?_
  simp only [Bool.false_or, Bool.and_eq_true, bne_iff_ne, beq_iff_eq, Option.some.injEq, and_assoc, eq_comm (a := id), ne_eq]

end

end Sys2Proof.Machine.State

namespace Sys2Proof.Claims
open Sys2Proof.Machine Sys2Proof.Machine.State

/-- Settles O39: what a stored mark leaves to the acceptance (`storeView_markStored`), and how each opcode's work begins. -/
theorem criticalWork : Obligations.CriticalWork := by
  intro s c rest slot hhalt k t0
  refine ⟨fun hwaits hmark hq => ⟨fun hcur hopc => ?_, congrArg Host.Outcome.next ?_⟩,
    fun hwaits ok => congrArg Host.Outcome.next (doMarkStored_of_waiting hhalt hwaits ok), fun hcur hwork => ?_,
    fun hlocked => congrArg Host.Outcome.next (if_pos hlocked)⟩
  · obtain ⟨x, hx⟩ := Option.ne_none_iff_exists'.mp hcur
    have hview := workView_accept_markStored hx hopc
    have hcmd : (s.markStored c).cmd = { s.cmd with marking := none, keys := s.cmd.keys.set {} k { s.key k with mark := markFor c } } :=
      congrArg StoreView.cmd (storeView_markStored s c)
    have hkeys := congrArg WorkView.keys hview
    refine answers_of_eq rfl ((doMarkStored_of_stored hhalt hwaits hmark).trans (runChecks_of_empty ?_))
      ⟨?_, congrArg WorkView.work hview, ?_, fun j hj => ?_⟩
    · exact (congrArg WorkView.queue hview).trans (by rw [workView, hcmd]; exact hq)
    · exact (congrArg WorkView.marking hview).trans (by rw [workView, hcmd])
    · exact (congrArg (fun t : Tbl KeySlot => t.get {} k) hkeys).trans (Tbl.get_set_same _ _ _ _)
    · refine (congrArg (fun t : Tbl KeySlot => t.get {} j) hkeys).trans ?_
      exact (Tbl.get_set_other _ _ _ hj _).trans (Tbl.get_set_other _ _ _ hj _)
  · refine (doMarkStored_of_failed hhalt hwaits hmark).trans (runChecks_of_empty ?_)
    refine (congrArg WorkView.queue (workView_refuseCrit _ c _)).trans ?_
    exact (congrArg (fun v : StoreView => v.cmd.queue) (storeView_endStore _)).trans hq
  · have hstart : s.startWork = t0.beginWork c := startWork_of_first hhalt hcur hwork
    have hcurrent : t0.cmd.current = some c := rfl
    refine ⟨fun h => congrArg Host.Outcome.next (hstart.trans ?_), fun hopc hgood => congrArg Host.Outcome.next (hstart.trans ?_),
      fun hopc hbad => congrArg Host.Outcome.next (hstart.trans ?_),
      fun hopc hlock htarget => congrArg Host.Outcome.next (hstart.trans (beginWork_of_fuse hopc hlock htarget)),
      fun hopc hlater => answers_of_eq rfl (hstart.trans (beginWork_of_override hopc hlater)) ?_,
      fun hopc hstep hlater => answers_of_eq rfl (hstart.trans (beginWork_of_transfer hopc hstep hlater)) ?_,
      fun hopc hname hsoon hlater hflags => answers_of_eq rfl (hstart.trans (beginWork_of_unload hopc hname hsoon hlater hflags)) ?_⟩
    · obtain hopc | ⟨hopc, hname⟩ := h
      · simp only [beginWork, hopc]
      · simp only [beginWork, hopc, hname, if_true]
    · simp only [beginWork, hopc]
      exact if_neg (by rw [show t0.keyChangeBad c = s.keyChangeBad c from rfl, hgood]; decide)
    · simp only [beginWork, hopc]
      exact if_pos hbad
    · exact ⟨congrArg WorkView.overridePend (workView_endWork (c := c) rfl 0 0), current_endWork (c := c) rfl 0 0, work_endWork (c := c) rfl 0 0⟩
    · exact ⟨congrArg WorkView.rolePend (workView_endWork (c := c) rfl 0 0), current_endWork (c := c) rfl 0 0, work_endWork (c := c) rfl 0 0⟩
    · exact ⟨current_endWork (c := c) rfl _ _, (lasts_endWork (c := c) rfl _ _).trans (lasts_nameLeaving _ _)⟩

end Sys2Proof.Claims
end

section
/-! The ends of critical work: the verdict on an image, the key record, the firmware slot, the fuses (14 R634-R643; 02 R55-R62; 09 R380; 15 R670-R673). -/

namespace Sys2Proof.Machine

/-! ### Tables by key -/

theorem Tbl.find_map_values {α : Type} (f : Nat → α → α) (k : Nat) : ∀ t : Tbl α, Tbl.find (t.map (fun p => (p.1, f p.1 p.2))) k = (t.find k).map (f k)
  | [] => rfl
  | (a, v) :: t => by
    simp only [List.map_cons, Tbl.find]
    split
    · next h => rw [h, Option.map_some]
    · exact Tbl.find_map_values f k t

theorem Tbl.find_isSome_of_mem {α : Type} {p : Nat × α} : ∀ {t : Tbl α}, p ∈ t → (t.find p.1).isSome = true
  | (a, v) :: t, h => by
    unfold Tbl.find
    split
    · rfl
    · next hne =>
      rcases List.mem_cons.mp h with rfl | h
      · exact absurd rfl hne
      · exact Tbl.find_isSome_of_mem h

namespace State

/-! ### The verdict on an image (02 R58-R62) -/

theorem find_modLast (s : State) (r : Nat) (f : Last → Last) : (s.modLast r f).cmd.lasts.find r = (s.cmd.lasts.find r).map f := by
  have hmap : (s.modLast r f).cmd.lasts = s.cmd.lasts.map (fun p => (p.1, if p.1 = r then f p.2 else p.2)) := by
    refine List.map_congr_left fun p _ => ?_
    by_cases h : p.1 = r <;> simp [h]
  rw [hmap, Tbl.find_map_values (fun k l => if k = r then f l else l)]
  simp only [if_true]

/-- The lasts that a load names to leave are others than its own. -/
theorem find_nameLeaving (s : State) (all : Bool) (target : Option Nat) (x r : Nat) : (s.nameLeaving all target x r).cmd.lasts.find r = s.cmd.lasts.find r := by
  have hmap : (s.nameLeaving all target x r).cmd.lasts = s.cmd.lasts.map (fun p =>
      (p.1, if p.1 != r && p.2.st != .validating && (all || target == some p.2.id) then p.2.nameLeave x else p.2)) := by
    refine List.map_congr_left fun p _ => ?_
    split <;> rfl
  rw [hmap, Tbl.find_map_values (fun k (l : Last) => if k != r && l.st != .validating && (all || target == some l.id) then l.nameLeave x else l)]
  simp

theorem armField_cmd (p : Nat × Last) (s : State) (f : Nat × Word) : (armField p s f).cmd = s.cmd := by
  unfold armField
  split
  · rfl
  · split <;> rfl

theorem armSets_cmd (s : State) (p : Nat × Last) : (s.armSets p).cmd = s.cmd := by
  unfold armSets
  generalize ownedFields p.2 = l
  induction l generalizing s with
  | nil => rfl
  | cons f l ih => exact (ih _).trans (armField_cmd p s f)

theorem foldl_preloadRow_cmd : ∀ (l : List SeqEnt) (s : State), (l.foldl (fun s e => s.preloadRow e) s).cmd = s.cmd
  | [], _ => rfl
  | e :: l, s => (foldl_preloadRow_cmd l (s.preloadRow e)).trans rfl

theorem stageLast_cmd (s : State) (r : Nat) (l : Last) : ∃ lasts, (s.stageLast r l).cmd = { s.cmd with lasts := lasts } ∧
    (lasts.find r).map (fun l => l.st) = (s.cmd.lasts.find r).map (fun _ => LastState.staged) := by
  unfold stageLast
  extract_lets later l1 s1 s2 s3
  have hcmd : s3.cmd = s1.cmd := (armSets_cmd s2 (r, l1)).trans (foldl_preloadRow_cmd _ s1)
  have hfind : (s3.cmd.lasts.find r).map (fun l => l.st) = (s.cmd.lasts.find r).map (fun _ => LastState.staged) := by
    rw [hcmd]
    unfold s1
    rw [find_modLast, Option.map_map]
    rfl
  have hothers : s3.cmd = { s.cmd with lasts := s3.cmd.lasts } := by
    rw [hcmd]
    rfl
  split
  · refine ⟨(s3.nameLeaving l1.replaceAll l1.replaces l1.start r).cmd.lasts,
      congrArg (fun k : Cmd => { k with lasts := (s3.nameLeaving l1.replaceAll l1.replaces l1.start r).cmd.lasts }) hothers, ?_⟩
    exact (congrArg (Option.map _) (find_nameLeaving s3 _ _ _ r)).trans hfind
  · exact ⟨s3.cmd.lasts, hothers, hfind⟩

theorem settleLoad_cmd {s : State} {e : Nat × Last} (he : e ∈ s.cmd.lasts) (v : Load) (code : Nat) :
    ∃ lasts, (s.settleLoad (some e) v code).cmd = { s.cmd with lasts := lasts } ∧
      (lasts.find e.1).map (fun l => l.st) = if code = 0 then some .staged else none := by
  unfold settleLoad
  dsimp only
  by_cases h : code = 0
  · rw [if_pos h, if_pos h]
    obtain ⟨lasts, hcmd, hfind⟩ := stageLast_cmd s e.1 { v.l with routes := v.routes }
    obtain ⟨l, hl⟩ := Option.isSome_iff_exists.mp (Tbl.find_isSome_of_mem he)
    exact ⟨lasts, hcmd, hfind.trans (by rw [hl]; rfl)⟩
  · rw [if_neg h, if_neg h]
    exact ⟨_, rfl, by rw [Tbl.find_del_same]; rfl⟩

theorem endLoad_of_entry {s : State} {c : Crit} {e : Nat × Last} (hcur : s.cmd.current = some c) (hwork : s.cmd.work = [])
    (hentry : s.loadEntry c = some e) (sections : Sections) : (s.endLoad c sections).cmd.current = none ∧
      ((s.endLoad c sections).cmd.lasts.find e.1).map (fun l => l.st) = if (s.loadOf c sections).verdict true = 0 then some .staged else none := by
  obtain ⟨lasts, hcmd, hfind⟩ := settleLoad_cmd (List.mem_of_find?_eq_some hentry) (s.loadOf c sections) ((s.loadOf c sections).verdict true)
  have hcurrent : (s.settleLoad (some e) (s.loadOf c sections) ((s.loadOf c sections).verdict true)).cmd.current = some c := by
    rw [hcmd]
    exact hcur
  unfold endLoad
  dsimp only
  rw [hentry, Option.isSome_some]
  rw [startWork_of_idle (by rw [work_endWork hcurrent, hcmd]; exact hwork)]
  refine ⟨current_endWork hcurrent _ _, ?_⟩
  rw [lasts_endWork hcurrent, hcmd]
  exact hfind

/-! ### The key record (R635-R638) -/

theorem programKeys_frame (s : State) (t : Option Nat) : ∃ nor, s.programKeys t = { s with nor := nor } := ⟨_, rfl⟩

/-- The end of a key change: the commands and the fuses as they stood before it, but for the command in progress. -/
theorem endKeyWork {s : State} {c : Crit} (hcur : s.cmd.current = some c) (t : Option Nat) (arg0 : Nat) :
    ((s.programKeys t).endWork 0 arg0).endStore.cmd.current = none ∧ ((s.programKeys t).endWork 0 arg0).endStore.cmd.keys = s.cmd.keys ∧
      ((s.programKeys t).endWork 0 arg0).endStore.fuse = s.fuse := by
  obtain ⟨nor, hnor⟩ := programKeys_frame s t
  rw [hnor]
  have hstore := storeView_endStore (({ s with nor := nor } : State).endWork 0 arg0)
  have hview := workView_endWork (s := { s with nor := nor }) hcur 0 arg0
  have hcmd := congrArg StoreView.cmd hstore
  exact ⟨(congrArg Cmd.current hcmd).trans (congrArg WorkView.current hview), (congrArg Cmd.keys hcmd).trans (congrArg WorkView.keys hview),
    (congrArg StoreView.fuse hstore).trans (congrArg WorkView.fuse hview)⟩

/-! ### The fuses (09 R380) -/

theorem storeView_setDword (s : State) (off v : Nat) : (s.setDword off v).storeView = s.storeView := rfl

theorem storeView_mgt (s : State) (m : Mgt) : ({ s with mgt := m }).storeView = s.storeView := rfl

/-- A burnt table is the chiplet's highest, whether or not it took. -/
theorem doBurnDone_of_table {s : State} {c : Crit} (hwork : s.working 0x42 = some c) (htarget : pField c.p 0 1 = 1) (ok stored : Bool) :
    ∃ (b : Baseline) (t : State) (status : Nat), s.doBurnDone ok stored = (t.refreshCal (pField c.p 1 1)).endWork status (pField c.p 8 1) ∧
      t.storeView = { s.storeView with base := s.opt.base.set {} (pField c.p 1 1) b } ∧ b.high = pField c.p 8 1 ∧
      b.use = (s.opt.base.get {} (pField c.p 1 1)).use := by
  obtain ⟨b, t, hburn, ht, hhigh, huse⟩ : ∃ (b : Baseline) (t : State), s.doBurnDone ok stored =
      ((if pField c.p 8 1 = 7 then t.record 0x090B { kind := 2, unit := pField c.p 1 1 } else t).refreshCal (pField c.p 1 1)).endWork
        (if ok then 0 else 0x090D) (pField c.p 8 1) ∧
      t.storeView = { s.storeView with base := s.opt.base.set {} (pField c.p 1 1) b } ∧ b.high = pField c.p 8 1 ∧
      b.use = (s.opt.base.get {} (pField c.p 1 1)).use := by
    unfold doBurnDone
    rw [hwork]
    dsimp only
    rw [if_pos htarget]
    cases ok
    · simp only [Bool.false_eq_true, if_false]
      exact ⟨{ s.opt.base.get {} (pField c.p 1 1) with
          high := pField c.p 8 1, bad := (s.opt.base.get {} (pField c.p 1 1)).bad ++ [pField c.p 8 1] },
        _, rfl, storeView_record _ _ _ _, rfl, rfl⟩
    · cases hkept : stored && !s.flash.readOnly <;> simp only [if_true, Bool.false_eq_true, if_false]
      · exact ⟨{ s.opt.base.get {} (pField c.p 1 1) with high := pField c.p 8 1, lastSeq := 2 ^ 64 - 1, lastNs := s.clk.now },
          _, rfl, (storeView_record _ _ _ _).trans (storeView_setDword _ _ _), rfl, rfl⟩
      · exact ⟨{ s.opt.base.get {} (pField c.p 1 1) with high := pField c.p 8 1, lastSeq := s.boot.record.seq, lastNs := s.clk.now },
          _, rfl, (storeView_writeRec _ _).trans ((storeView_mgt _ _).trans (storeView_setDword _ _ _)), rfl, rfl⟩
  refine ⟨b, _, _, hburn, ?_, hhigh, huse⟩
  split
  · exact (storeView_record _ _ _ _).trans ht
  · exact ht

end State

end Sys2Proof.Machine

namespace Sys2Proof.Claims
open Sys2Proof.Machine Sys2Proof.Machine.State

/-- Settles O40: each end names what it changes and ends the work (`workView_endWork`). -/
theorem criticalEnds : Obligations.CriticalEnds := by
  intro s c sections ok stored hhalt hcur hwork
  have hworking {opc : Nat} (hopc : dOpc c.d = opc) : s.working opc = some c := working_of_current hhalt hcur hopc
  refine ⟨fun hopc hname e hentry => ?_, fun hwaits hopc hinstall => ?_, fun hwaits hopc hempty => ?_, fun hopc => ?_, fun hopc htarget => ?_,
    fun hopc htarget => ?_⟩
  · refine answers_of_eq (u := s.endLoad c sections) rfl ?_ (endLoad_of_entry hcur hwork hentry sections)
    unfold doValidationDone
    rw [hworking hopc]
    exact if_pos hname
  · let x := pField c.p 0 1
    have hspend : ∃ s2 : State, s2.cmd.current = some c ∧ s2.cmd.keys = s.cmd.keys.set {} x
          { s.key x with
            key := (toBytes 32 (pField c.p 0x20 32)).zipWith (fun a b => a ^^^ b) (wrapH (s.key (dKslot c.d)).key (dCounter c.d) s.fuse.serial),
            st := .active, rights := pField c.p 2 1, counter := 0, mark := 0 } ∧
        s2.fuse = { s.fuse with spent := s.fuse.spent || x == 0 } ∧ s.doKeyStored = ((s2.programKeys (some x)).endWork 0 x).endStore := by
      unfold doKeyStored
      rw [if_neg (by simp [hwaits]), hworking hopc]
      dsimp only
      rw [if_pos hinstall]
      by_cases hx : x = 0
      · refine ⟨_, ?_, ?_, ?_, rfl⟩ <;> rw [if_pos hx]
        · exact hcur
        · rfl
        · simp [hx]
      · refine ⟨_, ?_, ?_, ?_, rfl⟩ <;> rw [if_neg hx]
        · exact hcur
        · rfl
        · rw [beq_false_of_ne hx, Bool.or_false]
          rfl
    obtain ⟨s2, hcur2, hkeys, hfuse, hstored⟩ := hspend
    obtain ⟨hend, hkept, hfused⟩ := endKeyWork hcur2 (some x) x
    refine answers_of_eq rfl hstored ⟨hend, ?_, fun j hj => ?_, hfused.trans hfuse⟩
    · exact (congrArg (fun t : Tbl KeySlot => t.get {} x) (hkept.trans hkeys)).trans (Tbl.get_set_same _ _ _ _)
    · exact (congrArg (fun t : Tbl KeySlot => t.get {} j) (hkept.trans hkeys)).trans (Tbl.get_set_other _ _ _ hj _)
  · obtain ⟨hend, hkept, hfused⟩ := endKeyWork (s := s.setKey (pField c.p 0 1) { s.key (pField c.p 0 1) with key := [], st := .empty }) hcur none
      (pField c.p 0 1)
    refine answers_of_eq rfl ?_ ⟨hend, ?_, fun j hj => ?_, hfused⟩
    · unfold doKeyStored
      rw [if_neg (by simp [hwaits]), hworking hopc]
      exact if_neg (by omega)
    · exact (congrArg (fun t : Tbl KeySlot => t.get {} (pField c.p 0 1)) hkept).trans (Tbl.get_set_same _ _ _ _)
    · exact (congrArg (fun t : Tbl KeySlot => t.get {} j) hkept).trans (Tbl.get_set_other _ _ _ hj _)
  · let f := pField c.p 0 1
    have hdone : s.doFwDone = if decide (f ≤ 1) && s.slotValid (f == 1) && slotField (s.fslot (f == 1)) 0x10 8 == pField c.p 8 8 &&
          sha256 (manifest (s.fslot (f == 1))) == toBytes 32 (pField c.p 0x10 32) then
        (s.storeBoot { s.boot.record with
          prev := s.boot.slotB, sel := f == 1, trial := true, fails := if s.boot.phase = .sole then 0 else s.boot.record.fails }).endWork 0 f
        else s.endWork 0x0E0B f := by
      unfold doFwDone
      rw [hworking hopc]
    refine answers_of_eq rfl hdone ?_
    split
    · have hcur' (r : BootRec) : (s.storeBoot r).cmd.current = some c := (congrArg (fun v : StoreView => v.cmd.current) (storeView_storeBoot s r)).trans hcur
      have hview (r : BootRec) := workView_endWork (hcur' r) 0 f
      exact ⟨current_endWork (hcur' _) _ _, (congrArg WorkView.flash (hview _)).trans (flash_storeBoot s _),
        (congrArg WorkView.record (hview _)).trans (storeBoot_record s _)⟩
    · have hview := workView_endWork hcur 0x0E0B f
      exact ⟨current_endWork hcur _ _, congrArg WorkView.flash hview, congrArg WorkView.record hview⟩
  · refine answers_of_eq (u := (if ok then endWork { s with fuse := { s.fuse with rowSpare := s.fuse.rowSpare.put (pField c.p 1 1) (pField c.p 2 1) } } 0 (pField c.p 2 1)
      else s.endWork 0x0E0A (pField c.p 2 1))) rfl ?_ ?_
    · unfold doBurnDone
      rw [hworking hopc]
      dsimp only
      rw [if_neg (by omega)]
    · cases ok <;> simp only [if_true, Bool.false_eq_true, if_false]
      · exact ⟨current_endWork hcur _ _, fuse_endWork hcur _ _⟩
      · refine ⟨current_endWork (c := c) ?_ _ _, fuse_endWork (c := c) ?_ _ _⟩ <;> exact hcur
  · obtain ⟨b, t, status, hburn, hview, hhigh, huse⟩ := doBurnDone_of_table (hworking hopc) htarget ok stored
    have hcur' : (t.refreshCal (pField c.p 1 1)).cmd.current = some c := (congrArg (fun v : StoreView => v.cmd.current) hview).trans hcur
    have hbase : ((t.refreshCal (pField c.p 1 1)).endWork status (pField c.p 8 1)).opt.base = s.opt.base.set {} (pField c.p 1 1) b :=
      (base_endWork hcur' _ _).trans (congrArg StoreView.base hview)
    refine answers_of_eq rfl hburn ⟨current_endWork hcur' _ _, (fuse_endWork hcur' _ _).trans (congrArg StoreView.fuse hview), ?_, ?_, fun y hy => ?_⟩
    · rw [hbase, Tbl.get_set_same, hhigh]
    · rw [hbase, Tbl.get_set_same, huse]
    · rw [hbase, Tbl.get_set_other _ _ _ hy]

end Sys2Proof.Claims
end

section
/-! Where a start begins, and where its stage 0 ends (15 R655, R666-R673, R698-R703; 17 R744; 18 R817). -/

namespace Sys2Proof.Machine

/-! ### A record is read back as it was written (18 R817) -/

section
variable {α : Type} (f : α → List Byte)

theorem goodCopy_made (v : α) (n : Nat) : goodCopy f (some ⟨v, n, recCrc (f v) n⟩) = some ⟨v, n, recCrc (f v) n⟩ := by
  simp [goodCopy]

theorem RecPair.read_write (p : RecPair α) (v : α) : (p.write f v).read f = some v := by
  unfold RecPair.write
  dsimp only
  split
  · next a b ha hb =>
    split
    · simp [RecPair.read, goodCopy_made, hb]
    · simp [RecPair.read, goodCopy_made, ha]
  · next a ha hb => simp [RecPair.read, goodCopy_made, ha]
  · next b ha hb => simp [RecPair.read, goodCopy_made, hb]
  · next ha hb => simp [RecPair.read, goodCopy_made, hb]

end

/-- What the end of stage 0 depends on, and WARM_RESET's mark. -/
structure StartView where
  fuse : Fuses
  slotA : FSlot
  slotB : FSlot
  norBoot : RecPair BootRec
  carried : Option (Nat × Nat)
  warmDue : Bool
  record : BootRec

/-- The boot record as a start finds it. -/
def StartView.bootRead (v : StartView) : BootRec :=
  match v.carried with
  | some c => { (v.norBoot.read bootBytes).getD {} with fails := c.1, seq := c.2 }
  | none => (v.norBoot.read bootBytes).getD {}

namespace State

def startView (s : State) : StartView :=
  ⟨s.fuse, s.flash.slotA, s.flash.slotB, s.nor.boot, s.boot.carried, s.mgt.warmDue, s.boot.record⟩

/-! ### What records and the opening of stage 0 leave -/

theorem stageEvent_warmDue (s : State) (e : Event) : (s.stageEvent e).mgt.warmDue = s.mgt.warmDue := by
  unfold stageEvent
  split
  · rfl
  · dsimp only
    split <;> rfl

theorem startView_recordFatal (s : State) (code : Nat) (loc : Loc) (detail : Nat) : (s.recordFatal code loc detail).startView = s.startView := by
  unfold recordFatal
  have hview (u : State) (e : Event) : (u.stageEvent e).startView = u.startView := by
    have hwarm := stageEvent_warmDue u e
    have hframe := stageEvent_frame u e
    unfold startView
    rw [hwarm, hframe]
  dsimp only
  rw [hview]
  split <;> rfl

theorem startView_record (s : State) (code : Nat) (loc : Loc) (detail : Nat) : (s.record code loc detail).startView = s.startView := by
  rw [record, addNote_frame]
  exact startView_recordFatal s code loc detail

theorem startView_beginStage (s : State) (n : Fin 5) : (s.beginStage n).startView = s.startView := by
  unfold beginStage
  dsimp only
  split
  · exact startView_record _ _ _ _
  · rfl

theorem startView_flashStart (s : State) (i : Stage0In) : (s.flashStart i).startView = s.startView := by
  unfold flashStart
  extract_lets _ _ s1 s2
  have hsuspend : s2.startView = s.startView := by
    unfold s2
    split
    · exact startView_record s1 _ _ _
    · rfl
  split
  · exact hsuspend
  · exact (startView_record s2 _ _ _).trans hsuspend

theorem readBoot_eq (s : State) : s.readBoot = s.startView.bootRead := by
  unfold readBoot StartView.bootRead startView
  cases s.boot.carried <;> rfl

/-- Stage 0 opens with the boot record as the flash, or retention SRAM, has it. -/
theorem startView_openStage0 (s : State) (i : Stage0In) (warm : Bool) :
    (s.openStage0 i warm).startView = { s.startView with record := s.startView.bootRead } := by
  unfold openStage0
  extract_lets b _ _ s1 _ s2
  have hflash : s1.startView = s.startView := (startView_flashStart _ i).trans (startView_beginStage _ 0)
  have hread : s2.startView = { s.startView with record := s.startView.bootRead } := by
    rw [← hflash, ← readBoot_eq]
    rfl
  split <;> exact hread

theorem startView_storeBoot (s : State) (r : BootRec) :
    ∃ nor carried, (s.storeBoot r).startView = { s.startView with record := r, norBoot := nor, carried := carried } := by
  unfold storeBoot
  dsimp only
  split
  · rw [startView_record]
    exact ⟨_, _, rfl⟩
  · obtain ⟨nor, h | h⟩ := writeRec_cases ({ s with boot := { s.boot with record := r, carried := none } }) (.boot r)
    · rw [h]
      exact ⟨_, _, rfl⟩
    · rw [h, startView_record]
      exact ⟨_, _, rfl⟩

/-- The record of a start that is counted (R671, R672). -/
def counted (r : BootRec) : BootRec := { r with fails := r.fails + 1, seq := r.seq + 1 }

theorem startView_countStart (s : State) (i : Stage0In) :
    ∃ nor carried, (s.countStart i).startView = { s.startView with record := counted s.boot.record, norBoot := nor, carried := carried } := by
  unfold countStart
  dsimp only
  split
  · rw [startView_record]
    exact ⟨_, _, rfl⟩
  · exact startView_storeBoot s _

theorem startView_noteTrial (s : State) : s.noteTrial.startView = s.startView := by
  unfold noteTrial
  split
  · exact startView_record _ _ _ _
  · rfl

theorem startView_notePkgFail (s : State) (fails : Bool) : (s.notePkgFail fails).startView = { s.startView with fuse := { s.fuse with usedP2 := fails } } := by
  unfold notePkgFail
  dsimp only
  split
  · exact startView_record _ _ _ _
  · rfl

/-! ### The firmware slot (R670, R671) -/

/-- A slot's state is read from its bytes and the root key. -/
theorem slotCode_congr {s t : State} (ha : s.flash.slotA = t.flash.slotA) (hb : s.flash.slotB = t.flash.slotB) (hpk : s.fuse.rootPk = t.fuse.rootPk)
    (b : Bool) : s.slotCode b = t.slotCode b := by
  unfold slotCode fslot
  rw [ha, hb, hpk]

theorem chooseSlot_of_valid {s : State} (h : s.slotCode false = 0 ∨ s.slotCode true = 0) : ∃ t, s.chooseSlot = some t ∧ t.startView = s.startView := by
  unfold chooseSlot
  dsimp only
  split
  · exact ⟨_, rfl, rfl⟩
  · next hsel =>
    have hother : s.slotCode (!s.boot.record.sel) = 0 := by cases hs : s.boot.record.sel <;> simp_all
    rw [if_pos hother]
    exact ⟨_, rfl, startView_record _ _ _ _⟩

theorem chooseSlot_of_invalid {s : State} (h : ¬(s.slotCode false = 0 ∨ s.slotCode true = 0)) : s.chooseSlot = none := by
  obtain ⟨ha, hb⟩ := not_or.mp h
  have hnone : ∀ b, s.slotCode b ≠ 0 := fun b => by cases b <;> assumption
  unfold chooseSlot
  rw [if_neg (hnone _), if_neg (hnone _)]

/-! ### The end of stage 0 (R657, R665, R674) -/

theorem startView_passStage (s : State) (n detail : Nat) : (s.passStage n detail).startView = s.startView := startView_recordFatal _ _ _ _

theorem phase_beginStage (s : State) (n : Fin 5) : (s.beginStage n).boot.phase = .stage n := by
  unfold beginStage
  dsimp only
  split
  · exact record_phase _ _ _ _
  · rfl

/-- The bridges that begin to train are all that stage 1 changes as it begins. -/
theorem enterStage1_frame (s : State) : ∃ br, s.enterStage1 = { s.beginStage 1 with br := br } := by
  unfold enterStage1
  generalize s.beginStage 1 = u
  generalize List.range 4 = l
  induction l generalizing u with
  | nil => exact ⟨u.br, rfl⟩
  | cons b l ih =>
    obtain ⟨br, h⟩ := ih (if u.bridge b == BridgeState.down then u else u.setBridge b .training)
    rw [List.foldl_cons, h]
    refine ⟨br, ?_⟩
    split <;> rfl

theorem revertTrial_counts (b : Boot) : (revertTrial b).record.fails = b.record.fails ∧ (revertTrial b).record.seq = b.record.seq := by
  unfold revertTrial
  split <;> exact ⟨rfl, rfl⟩

theorem enterSole_warmDue (s : State) : s.enterSole.mgt.warmDue = false := by
  unfold enterSole
  refine (congrArg StartView.warmDue (startView_recordFatal _ _ _ _)).trans ?_
  split <;> rfl

/-- A failed start keeps its counts, and ends a warm reset. -/
theorem failStage_counts (s : State) (n : Nat) (f : Fail) (detail : Nat) :
    (s.failStage n f detail).boot.record.fails = s.boot.record.fails ∧ (s.failStage n f detail).boot.record.seq = s.boot.record.seq ∧
      (s.failStage n f detail).mgt.warmDue = false := by
  unfold failStage failStart
  dsimp only
  rw [recordFatal_boot]
  split
  · rw [(enterSole_boot _).2, storeBoot_record]
    exact ⟨(revertTrial_counts _).1, (revertTrial_counts _).2, enterSole_warmDue _⟩
  · have hrecord (u : State) (p : Phase) : (u.softReset p).boot.record = u.boot.record := rfl
    rw [hrecord, storeBoot_record]
    exact ⟨(revertTrial_counts _).1, (revertTrial_counts _).2, rfl⟩

section
variable {s : State} {i : Stage0In} (hrom : i.romFail = []) (hfuse : s.fuseFail i = none)
include hrom hfuse

/-- With ROMs and fuses in order stage 0 ends in stage 1 where a slot verifies, else the start fails. -/
theorem closeStage0_of_good : (s.closeStage0 i).boot.record.fails = s.boot.record.fails ∧ (s.closeStage0 i).boot.record.seq = s.boot.record.seq ∧
    (s.closeStage0 i).boot.phase = if s.slotCode false = 0 ∨ s.slotCode true = 0 then .stage 1 else if 3 ≤ s.boot.record.fails then .sole else .waitRetry := by
  have hview := startView_notePkgFail s i.pkgFail0
  have hrecord : (s.notePkgFail i.pkgFail0).boot.record = s.boot.record := congrArg StartView.record hview
  have hcode (b : Bool) : (s.notePkgFail i.pkgFail0).slotCode b = s.slotCode b :=
    slotCode_congr (congrArg StartView.slotA hview) (congrArg StartView.slotB hview) (congrArg (fun v : StartView => v.fuse.rootPk) hview) b
  unfold closeStage0
  rw [hrom, hfuse]
  dsimp only
  by_cases hvalid : s.slotCode false = 0 ∨ s.slotCode true = 0
  · obtain ⟨t, hchosen, ht⟩ := chooseSlot_of_valid (s := s.notePkgFail i.pkgFail0) (by rw [hcode, hcode]; exact hvalid)
    rw [hchosen, if_pos hvalid]
    dsimp only
    obtain ⟨br, hbr⟩ := enterStage1_frame (t.passStage 0 t.detail0)
    have hend : ((t.passStage 0 t.detail0).beginStage 1).boot.record = s.boot.record :=
      (congrArg StartView.record (((startView_beginStage _ 1).trans (startView_passStage t 0 _)).trans ht)).trans hrecord
    rw [hbr]
    exact ⟨congrArg BootRec.fails hend, congrArg BootRec.seq hend, phase_beginStage _ 1⟩
  · rw [chooseSlot_of_invalid (by rw [hcode, hcode]; exact hvalid), if_neg hvalid]
    dsimp only
    obtain ⟨hfails, hseq, -⟩ := failStage_counts (s.notePkgFail i.pkgFail0) 0 { code := 0x0F02, loc := slotLoc (s.notePkgFail i.pkgFail0).boot.record.sel }
      (s.notePkgFail i.pkgFail0).detail0
    rw [hfails, hseq, (failStage_boot _ _ _ _).1, hrecord]
    exact ⟨rfl, rfl, rfl⟩

end

theorem closeStage0_warmDue {s : State} (h : s.mgt.warmDue = false) (i : Stage0In) : (s.closeStage0 i).mgt.warmDue = false := by
  have hview := startView_notePkgFail s i.pkgFail0
  unfold closeStage0
  split
  · exact (failStage_counts _ _ _ _).2.2
  · split
    · exact (failStage_counts _ _ _ _).2.2
    · dsimp only
      by_cases hvalid : (s.notePkgFail i.pkgFail0).slotCode false = 0 ∨ (s.notePkgFail i.pkgFail0).slotCode true = 0
      · obtain ⟨t, hchosen, ht⟩ := chooseSlot_of_valid hvalid
        rw [hchosen]
        dsimp only
        obtain ⟨br, hbr⟩ := enterStage1_frame (t.passStage 0 t.detail0)
        rw [hbr]
        exact (congrArg StartView.warmDue ((((startView_beginStage _ 1).trans (startView_passStage t 0 _)).trans ht).trans hview)).trans h
      · rw [chooseSlot_of_invalid hvalid]
        exact (failStage_counts _ _ _ _).2.2

/-! ### A whole stage 0 -/

/-- How a start ends its stage 0, by the boot record's counts as it finds them and by `s` as it began. -/
def StartEnds (s : State) (i : Stage0In) (fails seq : Nat) (t : State) : Prop :=
  (0 ∈ i.romFail → t.boot.phase = .shankFailed) ∧
  (0 ∉ i.romFail → 3 ≤ fails → t.boot.phase = .sole) ∧
  (i.romFail = [] → s.fuseFail i = none → fails < 3 →
    t.boot.record.fails = fails + 1 ∧ t.boot.record.seq = seq + 1 ∧
    t.boot.phase = if s.slotCode false = 0 ∨ s.slotCode true = 0 then .stage 1 else if fails = 2 then .sole else .waitRetry)

/-- The state in which stage 0 meets its checks. -/
def countedStart (s : State) (i : Stage0In) (warm : Bool) : State := ((s.openStage0 i warm).countStart i).noteTrial

theorem startView_countedStart (s : State) (i : Stage0In) (warm : Bool) :
    ∃ nor carried, (s.countedStart i warm).startView = { s.startView with record := counted s.startView.bootRead, norBoot := nor, carried := carried } := by
  obtain ⟨nor, carried, h⟩ := startView_countStart (s.openStage0 i warm) i
  have hopen := startView_openStage0 s i warm
  have hrecord : (s.openStage0 i warm).boot.record = s.startView.bootRead := congrArg StartView.record hopen
  refine ⟨nor, carried, ?_⟩
  rw [countedStart, startView_noteTrial, h, hopen, hrecord]

theorem stage0_ends (s : State) (i : Stage0In) (warm : Bool) : StartEnds s i s.startView.bootRead.fails s.startView.bootRead.seq (s.stage0 i warm) := by
  have hopen : (s.openStage0 i warm).boot.record = s.startView.bootRead := congrArg StartView.record (startView_openStage0 s i warm)
  have hruns (h : 0 ∉ i.romFail) : s.stage0 i warm = s.runStage0 i warm := if_neg (by simpa using h)
  refine ⟨fun h => ?_, fun h hfails => ?_, fun hrom hfuse hfails => ?_⟩
  · unfold stage0
    rw [if_pos (by simpa using h), recordFatal_boot]
  · rw [hruns h]
    unfold runStage0
    dsimp only
    rw [if_pos (by rw [hopen]; exact hfails)]
    exact (enterSole_boot _).1
  · rw [hruns (by simp [hrom])]
    unfold runStage0
    dsimp only
    rw [if_neg (by rw [hopen]; omega)]
    obtain ⟨nor, carried, hview⟩ := startView_countedStart s i warm
    have hfuse' : (s.countedStart i warm).fuse = s.fuse := congrArg StartView.fuse hview
    have hrecord : (s.countedStart i warm).boot.record = counted s.startView.bootRead := congrArg StartView.record hview
    have hcode (b : Bool) : (s.countedStart i warm).slotCode b = s.slotCode b :=
      slotCode_congr (congrArg StartView.slotA hview) (congrArg StartView.slotB hview) (congrArg Fuses.rootPk hfuse') b
    have hgood : (s.countedStart i warm).fuseFail i = none := by
      unfold fuseFail at hfuse ⊢
      rw [hfuse']
      exact hfuse
    have hend := closeStage0_of_good hrom hgood
    rw [hrecord, hcode, hcode] at hend
    obtain ⟨hf, hs, hp⟩ := hend
    refine ⟨hf, hs, hp.trans ?_⟩
    have hthird : (3 ≤ (counted s.startView.bootRead).fails) = (s.startView.bootRead.fails = 2) := propext (by unfold counted; dsimp only; omega)
    simp only [hthird]

theorem stage0_warmDue {s : State} (h : s.mgt.warmDue = false) (i : Stage0In) (warm : Bool) : (s.stage0 i warm).mgt.warmDue = false := by
  unfold stage0
  split
  · exact (congrArg StartView.warmDue (startView_recordFatal _ _ _ _)).trans h
  · unfold runStage0
    dsimp only
    split
    · exact enterSole_warmDue _
    · obtain ⟨nor, carried, hview⟩ := startView_countedStart s i warm
      exact closeStage0_warmDue ((congrArg StartView.warmDue hview).trans h) i

/-! ### Where a start begins (R699, R703; 17 R739, R744) -/

/-- Two states between which only what a start does not look at differs. -/
theorem StartEnds.of_view {s u : State} {i : Stage0In} {fails seq : Nat} {t : State} (hfuse : u.fuse = s.fuse) (ha : u.flash.slotA = s.flash.slotA)
    (hb : u.flash.slotB = s.flash.slotB) (h : StartEnds u i fails seq t) : StartEnds s i fails seq t := by
  obtain ⟨hshank, hsole, hgood⟩ := h
  refine ⟨hshank, hsole, fun hrom hf => ?_⟩
  have hcode (b : Bool) : u.slotCode b = s.slotCode b := slotCode_congr ha hb (congrArg Fuses.rootPk hfuse) b
  rw [← hcode, ← hcode]
  refine hgood hrom ?_
  unfold fuseFail at hf ⊢
  rw [hfuse]
  exact hf

theorem coldStart_ends (s : State) (i : Stage0In) : StartEnds s i s.startView.bootRead.fails s.startView.bootRead.seq (s.coldStart i) :=
  StartEnds.of_view rfl rfl rfl (stage0_ends _ i false)

theorem startView_sampleStraps (s : State) (i : Stage0In) : (s.sampleStraps i).startView = s.startView := by
  unfold sampleStraps
  dsimp only
  generalize List.filter _ (List.range 4) = l
  have hfold : ∀ (l : List Nat) (u : State), (l.foldl (fun (s : State) p => s.recordFatal 0x0101 (dieLoc p)) u).startView = u.startView := by
    intro l
    induction l with
    | nil => exact fun _ => rfl
    | cons p l ih => exact fun u => (ih _).trans (startView_recordFatal u _ _ _)
  exact hfold l _

theorem releaseStart_ends {s : State} (hphase : s.boot.phase = .heldReset) (hreset : s.mgt.resetLow = false) (hrail : s.mgt.railLow = false)
    (i : Stage0In) : StartEnds s i s.startView.bootRead.fails s.startView.bootRead.seq (s.releaseStart i) := by
  unfold releaseStart
  rw [if_pos (by simp [hphase, hreset, hrail])]
  dsimp only
  have hview := startView_sampleStraps ({ s with mgt := { s.mgt with smbAddr := 0x58 + Config.smbStrap.toNat } }) i
  have hends := coldStart_ends (({ s with mgt := { s.mgt with smbAddr := 0x58 + Config.smbStrap.toNat } } : State).sampleStraps i) i
  have hread : (({ s with mgt := { s.mgt with smbAddr := 0x58 + Config.smbStrap.toNat } } : State).sampleStraps i).startView.bootRead = s.startView.bootRead :=
    congrArg StartView.bootRead hview
  rw [hread] at hends
  exact StartEnds.of_view (congrArg StartView.fuse hview) (congrArg StartView.slotA hview) (congrArg StartView.slotB hview) hends

/-- R703: BOOT_FAILS is 0 for the start that ends sole mode. -/
theorem bootRead_clearFails (s : State) : s.clearFails.startView.bootRead.fails = 0 ∧ s.clearFails.startView.bootRead.seq = s.boot.record.seq := by
  unfold clearFails
  dsimp only
  split
  · exact ⟨rfl, rfl⟩
  · next hwaits =>
    unfold storeBoot
    dsimp only
    split
    · rw [startView_record]
      exact ⟨rfl, rfl⟩
    · unfold writeRec
      rw [if_neg (by exact hwaits)]
      unfold programRec StartView.bootRead startView
      dsimp only
      rw [RecPair.read_write]
      exact ⟨rfl, rfl⟩

theorem doRetry_ends {s : State} (hsole : s.boot.phase = .sole) (i : Stage0In) : StartEnds s i 0 s.boot.record.seq (s.doRetry i) := by
  obtain ⟨hfails, hseq⟩ := bootRead_clearFails s
  have hends := coldStart_ends s.clearFails i
  rw [hfails, hseq] at hends
  have hview : ∃ r nor carried, s.clearFails.startView = { s.startView with record := r, norBoot := nor, carried := carried } := by
    unfold clearFails
    dsimp only
    split
    · exact ⟨_, _, _, rfl⟩
    · exact ⟨_, startView_storeBoot s _⟩
  obtain ⟨r, nor, carried, hview⟩ := hview
  unfold doRetry
  rw [if_pos hsole]
  exact StartEnds.of_view (congrArg StartView.fuse hview) (congrArg StartView.slotA hview) (congrArg StartView.slotB hview) hends

end State

end Sys2Proof.Machine

namespace Sys2Proof.Claims
open Sys2Proof.Machine Sys2Proof.Machine.State

/-- Settles O34: every start runs stage 0 from the boot record as it finds it (`stage0_ends`). -/
theorem startsBegin : Obligations.StartsBegin := by
  intro s inp body runs now
  have hread : s.readBoot = s.startView.bootRead := readBoot_eq s
  refine ⟨fun hphase hreset hrail => ⟨_, rfl, ?_⟩, fun hphase hreset hrail => ⟨_, rfl, ?_⟩, fun hphase => ⟨_, rfl, ?_⟩,
    fun hsole => ⟨⟨_, rfl, doRetry_ends hsole inp⟩, fun hserves => ⟨_, rfl, ?_⟩⟩, fun hwarm hphase => ⟨_, rfl, ?_, ?_⟩⟩
  · unfold now doResetRelease
    rw [if_pos hreset, hread]
    exact StartEnds.of_view (u := { s with mgt := { s.mgt with resetLow := false } }) rfl rfl rfl (releaseStart_ends (s := { s with mgt := { s.mgt with resetLow := false } }) hphase rfl hrail inp)
  · unfold now doRailRecovery
    rw [if_pos hrail, hread]
    exact StartEnds.of_view (u := { s with mgt := { s.mgt with railLow := false } }) rfl rfl rfl (releaseStart_ends (s := { s with mgt := { s.mgt with railLow := false } }) hphase hreset rfl inp)
  · unfold now doRetryStart
    rw [if_pos hphase, hread]
    exact coldStart_ends s inp
  · unfold message
    rw [if_neg (by simp [hsole]), if_pos hserves]
    unfold serve doSoleRetry
    dsimp only
    rw [if_pos hsole]
    exact StartEnds.of_view (u := s.emit (.mctp 0 [])) rfl rfl rfl (doRetry_ends (s := s.emit (.mctp 0 [])) hsole inp)
  · unfold now doWarmStage0
    rw [if_pos (by simp [hwarm, hphase]), hread]
    exact StartEnds.of_view (u := { s with mgt := { s.mgt with warmDue := false }, boot := { s.boot with islands := firstIslands ++ [131] } }) rfl rfl rfl
      (stage0_ends _ inp true)
  · unfold doWarmStage0
    rw [if_pos (by simp [hwarm, hphase])]
    exact stage0_warmDue rfl inp true

end Sys2Proof.Claims
end

section
/-! The stages of a start: what passes, what fails, and with which code (15 R655-R666, R674-R691; 08 R352; 09 R403). -/

namespace Sys2Proof.Machine.State

/-! ### What a stage leaves as it passes or begins (R655, R657, R662) -/

/-- The report of a stage that passes. -/
def passReport (s : State) (n detail : Nat) : Report :=
  s.stageReport n (if !s.boot.warm then 0 else if s.boot.coldForm.contains n then 3 else 2) 0 {} detail

theorem passReport_result (s : State) (n detail : Nat) : (s.passReport n detail).result ≠ 1 := by
  unfold passReport stageReport
  dsimp only
  split
  · decide
  · split <;> decide

/-- Passing, a stage puts down its report and records its code. -/
theorem passStage_frame (s : State) (n detail : Nat) : ∃ regs mgt code, s.passStage n detail = { s with
    regs := regs, mgt := mgt, shk := { s.shk with lastCode := code }
    boot := { s.boot with reports := s.boot.reports.put n (s.passReport n detail) } } := by
  unfold passStage
  dsimp only
  rw [recordFatal, stageEvent_frame]
  split
  · exact ⟨_, _, _, rfl⟩
  · exact ⟨_, _, s.shk.lastCode, rfl⟩

theorem beginStage_frame (s : State) (n : Fin 5) : ∃ regs mgt code cur, s.beginStage n = { s with
    regs := regs, mgt := mgt, shk := { s.shk with lastCode := code }, boot := { s.boot with phase := .stage n, cur := cur } } := by
  unfold beginStage
  dsimp only
  split
  · rw [record_frame]
    exact ⟨_, _, _, _, rfl⟩
  · exact ⟨_, _, _, _, rfl⟩

/-! ### Stage 1 (R674-R678) -/

theorem copyJournal_frame (s : State) : ∃ mem memErr hbm, s.copyJournal = { s with mem := mem, memErr := memErr, hbm := hbm } := by
  unfold copyJournal
  extract_lets src dst moved m s1
  split
  · exact ⟨_, _, _, rfl⟩
  · have hfold : ∀ (l : List (Nat × List Byte)) (u : State), ∃ hbm, l.foldl (fun s p => s.queueOwn (p.1 - src + dst) p.2) u = { u with hbm := hbm } := by
      intro l
      induction l with
      | nil => exact fun u => ⟨u.hbm, rfl⟩
      | cons p l ih =>
        intro u
        obtain ⟨hbm, h⟩ := ih (u.queueOwn (p.1 - src + dst) p.2)
        rw [List.foldl_cons, h, queueOwn_frame]
        exact ⟨hbm, rfl⟩
    obtain ⟨hbm, h⟩ := hfold (s.ownUnits.filter (fun p => decide (src ≤ p.1 ∧ p.1 < src + jnlBytes))) s1
    rw [h]
    exact ⟨_, _, _, rfl⟩

theorem standbyJoins_boot (s : State) :
    s.standbyJoins.boot.phase = s.boot.phase ∧ s.standbyJoins.boot.portB = s.boot.portB ∧ s.standbyJoins.shk.standby = .inStep := by
  obtain ⟨mem, memErr, hbm, h⟩ := copyJournal_frame s
  unfold standbyJoins
  rw [h, bump_frame]
  exact ⟨rfl, rfl, rfl⟩

/-- With its firmware in order, stage 1 opens port B and brings the standby in. -/
theorem finishStage1_of_good {s : State} {i : Stage1In} (hdigest : i.digestBad = []) :
    (s.finishStage1 i).boot.phase = s.boot.phase ∧ (s.finishStage1 i).boot.portB = true ∧
      (s.finishStage1 i).shk.standby = (if i.standbyJoined then .inStep else .resync) ∧
      (i.standbyJoined = false → (s.finishStage1 i).boot.ident = s.boot.ident) := by
  unfold finishStage1
  rw [hdigest]
  extract_lets _ _ _ _ s1 s2
  obtain ⟨regs, mgt, code, h⟩ := passStage_frame s2 1 (s2.detail1 [] i.standbyJoined)
  rw [h]
  cases hjoined : i.standbyJoined
  · have hs2 : s2 = s1 := if_neg (by simp [hjoined])
    rw [hs2]
    exact ⟨rfl, rfl, rfl, fun _ => rfl⟩
  · have hs2 : s2 = s1.standbyJoins := if_pos hjoined
    rw [hs2]
    obtain ⟨hphase, hport, hstandby⟩ := standbyJoins_boot s1
    exact ⟨hphase, hport, hstandby, fun h => absurd h (by decide)⟩

/-- The state after the identity exchange (R676). -/
def exchanged (s : State) : State := { s with boot := { s.boot with ident := s.exchangedIdent } }

section
variable {s : State} {i : Stage1In} (hphase : s.boot.phase = .stage 1) (hfree : s.testHolds = false)
include hphase hfree

theorem doStage1_of_clockless (hclk : i.refclkBad = true) :
    s.doStage1 i = s.failStage 1 { code := 0x0F08 } (s.detail1 (i.unlocked.map (fun k => k.val)) false) := by
  have hfail : stage1Fail i = some { code := 0x0F08 } := if_pos hclk
  unfold doStage1
  rw [if_neg (by simp [hphase, hfree]), hfail]

theorem doStage1_of_good (hfail : stage1Fail i = none) (hstraps : none ∉ s.boot.straps) (hident : s.identityFails = []) (hmesh : s.meshReady = true)
    (hdigest : i.digestBad = []) :
    s.doStage1 i = (s.exchanged.finishStage1 i).beginStage 2 := by
  have hready : s.exchanged.meshReady = true := hmesh
  unfold doStage1
  rw [if_neg (by simp [hphase, hfree]), hfail]
  dsimp only
  rw [if_neg (by simpa using hstraps), hident]
  dsimp only
  exact (if_pos hready).trans (if_pos ((finishStage1_of_good (s := s.exchanged) hdigest).1.trans hphase))

end

/-! ### Stage 2 (R679-R682) -/

/-- HBM3E as stage 2 leaves it, beside the optics `o`. -/
structure MemFresh (o : Optics) (t : State) : Prop where
  known : t.hbm.known = true
  inService : t.hbm.groupOut = []
  repaired : t.hbm.repairs = []
  idle : ∀ c, (t.chan c).reqs = [] ∧ (t.chan c).training = false
  optics : t.opt = o

namespace MemFresh

theorem of_hbm {o : Optics} {s t : State} (h : MemFresh o s) (hhbm : t.hbm = s.hbm) : MemFresh t.opt t := by
  obtain ⟨hknown, hout, hrep, hidle, -⟩ := h
  have hchan (c : Nat) : t.chan c = s.chan c := by simp only [chan, hhbm]
  exact ⟨hhbm ▸ hknown, hhbm ▸ hout, hhbm ▸ hrep, fun c => by rw [hchan]; exact hidle c, rfl⟩

theorem of_parts {o : Optics} {s t : State} (h : MemFresh o s) (hhbm : t.hbm = s.hbm) (hopt : t.opt = s.opt) : MemFresh o t := by
  have ht := h.of_hbm hhbm
  rwa [hopt.trans h.optics] at ht

theorem setQueue {o : Optics} {s : State} (h : MemFresh o s) (c : Nat) (q : List OpenReq) : MemFresh o (s.setChan c { s.chan c with queue := q }) := by
  obtain ⟨hknown, hout, hrep, hidle, hl⟩ := h
  refine ⟨hknown, hout, hrep, fun k => ?_, hl⟩
  by_cases hk : k = c
  · rw [hk, chan_setChan_same]
    exact hidle c
  · rw [chan_setChan_other _ _ hk]
    exact hidle k

theorem foldl {α : Type} {o : Optics} {f : State → α → State} (hf : ∀ u a, MemFresh o u → MemFresh o (f u a)) :
    ∀ (l : List α) {s : State}, MemFresh o s → MemFresh o (l.foldl f s)
  | [], _, h => h
  | a :: l, s, h => foldl hf l (hf s a h)

theorem queueOwn {o : Optics} {s : State} (h : MemFresh o s) (a : Nat) (bs : List Byte) : MemFresh o (s.queueOwn a bs) :=
  foldl (fun _ _ hu => hu.setQueue _ _) _ h

theorem pokeOwn {o : Optics} {s : State} (h : MemFresh o s) (a : Nat) (bs : List Byte) : MemFresh o (s.pokeOwn a bs) := by
  unfold State.pokeOwn
  split
  · exact h
  · split
    · exact h.queueOwn a bs
    · exact h.of_parts rfl rfl

theorem pokeEntry {o : Optics} {s : State} (h : MemFresh o s) (a : Nat) (bs : List Byte) : MemFresh o (s.pokeEntry a bs) :=
  (h.pokeOwn a _).pokeOwn _ _

theorem record {o : Optics} {s : State} (h : MemFresh o s) (code : Nat) (loc : Loc) (detail : Nat) : MemFresh o (s.record code loc detail) :=
  h.of_parts (by rw [record_frame]) (by rw [record_opt])

theorem commitEntry {o : Optics} {s : State} (h : MemFresh o s) (e : JEnt) : MemFresh o (s.commitEntry e) := by
  unfold State.commitEntry
  split
  · exact h.of_parts rfl rfl
  · extract_lets n bs off _ s1 s2 s4
    have hcount : MemFresh o s2 := by
      unfold s2
      split
      · exact h.of_parts (by rw [bump_frame]) (by rw [bump_opt])
      · exact h.of_parts rfl rfl
    split
    · exact (hcount.pokeEntry _ _).pokeEntry _ _
    · exact hcount.pokeEntry _ _

theorem journal {o : Optics} {s : State} (h : MemFresh o s) (e : JEnt) : MemFresh o (s.journal e) := by
  unfold State.journal
  split
  · exact h.of_parts rfl rfl
  · exact h.commitEntry e

theorem journalReset {o : Optics} {s : State} (h : MemFresh o s) (kind code src : Nat) : MemFresh o (s.journalReset kind code src) :=
  (h.of_parts rfl rfl : MemFresh o (s.setWord 0x220 (s.word 0x220 - (s.word 0x220 &&& 7#32) + BitVec.ofNat 32 kind))).journal _

theorem passStage {o : Optics} {s : State} (h : MemFresh o s) (n detail : Nat) : MemFresh o (s.passStage n detail) := by
  obtain ⟨regs, mgt, code, heq⟩ := passStage_frame s n detail
  rw [heq]
  exact h.of_parts rfl rfl

theorem beginStage {o : Optics} {s : State} (h : MemFresh o s) (n : Fin 5) : MemFresh o (s.beginStage n) := by
  obtain ⟨regs, mgt, code, cur, heq⟩ := beginStage_frame s n
  rw [heq]
  exact h.of_parts rfl rfl

end MemFresh

theorem finishStage2_fresh (s : State) : MemFresh s.opt (s.finishStage2 true) := by
  unfold finishStage2
  extract_lets _ s1 _ s2 s3
  have hfresh : MemFresh s.opt s2 := ⟨rfl, rfl, rfl, fun _ => ⟨rfl, rfl⟩, rfl⟩
  have hreset : MemFresh s.opt s3 := by
    unfold s3
    split
    · exact hfresh.journalReset _ _ _
    · exact hfresh.journalReset _ _ _
  exact MemFresh.foldl (f := fillResident) (fun _ _ hu => hu.of_parts rfl rfl) _ hreset

theorem repairRows_opt : ∀ (l : List Nat) {s u : State}, s.repairRows l = .inr u → u.opt = s.opt
  | [], s, u, h => by
    obtain rfl : s = u := by simpa [repairRows] using h
    rfl
  | r :: l, s, u, h => by
    unfold repairRows at h
    split at h
    · contradiction
    · next t ht =>
      have hopt : t.opt = s.opt := by
        unfold repairRow at ht
        dsimp only at ht
        split at ht
        · contradiction
        · obtain rfl := Option.some.inj ht
          rfl
      exact (repairRows_opt l h).trans hopt

/-! ### Stage 3 (R683, R684) -/

/-- Stage 3 as it begins: its phase, and HBM3E as stage 2 left it. -/
def InStage3 (lit : Bool) (t : State) : Prop := t.boot.phase = .stage 3 ∧ ∃ o, o.lit = lit ∧ MemFresh o t

theorem InStage3.foldl {α : Type} {lit : Bool} {f : State → α → State} (hf : ∀ u a, InStage3 lit u → InStage3 lit (f u a)) :
    ∀ (l : List α) {s : State}, InStage3 lit s → InStage3 lit (l.foldl f s)
  | [], _, h => h
  | a :: l, s, h => foldl hf l (hf s a h)

theorem InStage3.record {lit : Bool} {s : State} (h : InStage3 lit s) (code : Nat) (loc : Loc) (detail : Nat) : InStage3 lit (s.record code loc detail) :=
  ⟨(record_phase _ _ _ _).trans h.1, h.2.imp fun _ ho => ⟨ho.1, ho.2.record _ _ _⟩⟩

theorem InStage3.loadBaseline {lit : Bool} {s : State} (h : InStage3 lit s) (y : Nat) : InStage3 lit (s.loadBaseline y) := by
  unfold State.loadBaseline
  extract_lets b v bad s1 clear _
  have hbad : InStage3 lit s1 := InStage3.foldl (fun _ _ hu => hu.record _ _ _) bad h
  obtain ⟨hphase, o, hlit, ho⟩ := hbad
  refine ⟨hphase, _, ?_, ho.of_hbm rfl⟩
  exact (congrArg Optics.lit ho.optics).trans hlit

theorem InStage3.beginEnable {lit : Bool} {s : State} (h : InStage3 lit s) : InStage3 lit s.beginEnable := by
  obtain ⟨hphase, o, hlit, ho⟩ := h
  have hsame : s.opt.lit = lit := (congrArg Optics.lit ho.optics).trans hlit
  unfold State.beginEnable
  split <;> exact ⟨hphase, _, by exact hsame, ho.of_hbm rfl⟩

theorem enterStage3_of_tables {o : Optics} {s : State} (h : MemFresh o s) (hbase : ∀ y < 4, (baseVersion (s.opt.base.get {} y)).isSome = true) :
    InStage3 o.lit s.enterStage3 := by
  unfold enterStage3
  extract_lets s1 _ s2 s3 s4
  have hbegin : InStage3 o.lit s2 := ⟨phase_beginStage s 3, o, rfl, (h.beginStage 3).of_parts rfl rfl⟩
  have hbridges : InStage3 o.lit s3 :=
    InStage3.foldl (f := fun (s : State) y => s.setBridge (4 + y) .training) (fun _ _ hu => ⟨hu.1, hu.2.imp fun _ ho => ⟨ho.1, ho.2.of_parts rfl rfl⟩⟩) _ hbegin
  have hloaded : InStage3 o.lit s4 := InStage3.foldl (fun _ y hu => hu.loadBaseline y) _ hbridges
  have hnone : (List.range 4).find? (fun y => (baseVersion (s.opt.base.get {} y)).isNone) = none := by
    refine List.find?_eq_none.mpr fun y hy => ?_
    rw [← Option.not_isSome, hbase y (List.mem_range.mp hy)]
    decide
  rw [hnone]
  exact hloaded.beginEnable

theorem doStage2_of_good {s : State} {i : Stage2In} (hphase : s.boot.phase = .stage 2) (hself : i.selfTestBad = false) (hsram : i.sramBad = false)
    (hphy : i.phyFail = none) (hcold : s.boot.warm = false) {u : State}
    (hrows : (s.repairLanes (s.stage2Lanes i true)).repairRows (s.stage2Rows i true) = .inr u)
    (hbase : ∀ y < 4, (baseVersion (s.opt.base.get {} y)).isSome = true) : InStage3 s.opt.lit (s.doStage2 i) := by
  have hform : (!s.fastStage 2) = true := by simp [fastStage, hcold]
  have hopt : u.opt = s.opt := (repairRows_opt _ hrows).trans rfl
  unfold doStage2
  rw [if_neg (not_not_intro hphase)]
  dsimp only
  rw [hself, hsram, hphy, if_neg (by decide), Option.filter_none, hform, hrows]
  dsimp only
  have hfresh := (finishStage2_fresh u).passStage 2 (detail2 (s.stage2Rows i true) (s.stage2Lanes i true) i true)
  rw [← hopt]
  exact enterStage3_of_tables hfresh (by rw [hfresh.optics, hopt]; exact hbase)

/-! ### Stage 4 (R685-R690) -/

/-- The map of a package without failing tiles: the eighth row of each die is spare. -/
def wholeMap (t : Tbl RowMap) (l : List Nat) : Tbl RowMap := l.foldl (fun (t : Tbl RowMap) n => t.put n { row := 8, src := 2 }) t

theorem mapRows_of_whole {s : State} {i : Stage4In} (hwhole : i.failing = []) (hspare : s.fuse.rowSpare = []) : ∀ (l : List Nat) (t : State),
    s.mapRows i l t = some { t with boot := { t.boot with rowmap := wholeMap t.boot.rowmap l } }
  | [], _ => rfl
  | n :: l, t => by
    have hchoice : s.chooseRow i n = some ({ row := 8, src := 2 }, false) := by
      simp [chooseRow, failedRows, hwhole, hspare, Tbl.find]
    unfold mapRows
    rw [hchoice]
    exact mapRows_of_whole hwhole hspare l _

/-- The state in which stage 4 has set such a map. -/
def mapped4 (s : State) : State := { s with boot := { s.boot with rowmap := wholeMap s.boot.rowmap (List.range 4) } }

theorem doStage4_of_whole {s : State} {i : Stage4In} (hphase : s.boot.phase = .stage 4) (hopen : s.boot.reports.find 4 = none) (hcold : s.boot.warm = false)
    (hwhole : i.failing = []) (hmicro : i.microcodeBad = []) (hspare : s.fuse.rowSpare = []) (hdigest : ∀ d < 4, s.digestChecks d = true) :
    s.doStage4 i = s.mapped4.finishStage4.passStage 4 (s.mapped4.finishStage4.detail4 i true []) := by
  have hform : (!s.fastStage 4) = true := by simp [fastStage, hcold]
  have hrows : s.stage4Rows i true = some s.mapped4 := mapRows_of_whole hwhole hspare (List.range 4) s
  have hgood : s.mapped4.microcodeFails [] = [] := microcodeFails_of_good (s := s.mapped4) hdigest
  unfold doStage4
  rw [if_neg (by simp [hphase, hopen])]
  dsimp only
  rw [hform, hrows, hmicro]
  dsimp only
  rw [hgood]
  rfl

/-- What stage 4 leaves before its report. -/
theorem finishStage4_mapped4 (s : State) :
    s.mapped4.finishStage4.boot.phase = s.boot.phase ∧ s.mapped4.finishStage4.boot.warm = s.boot.warm ∧
      (∀ d < 4, s.mapped4.finishStage4.boot.rowmap.find d = some { row := 8, src := 2 }) ∧
      (∀ r < 32, s.mapped4.finishStage4.seq r = { microcode := s.fetchMicrocode (r / 8) }) ∧ s.mapped4.finishStage4.sync = {} := by
  have hseqs : s.mapped4.finishStage4.seqs = s.mapped4.freshSeqs := by unfold finishStage4 freshSeqs; dsimp only
  have hfetch (n : Nat) : s.mapped4.fetchMicrocode n = s.fetchMicrocode n := rfl
  refine ⟨rfl, rfl, fun d hd => ?_, fun r hr => ?_, rfl⟩
  rotate_left
  · unfold seq
    rw [hseqs, freshSeqs_get s.mapped4 hr, hfetch]
  exact (Tbl.find_foldl_put (fun _ => ({ row := 8, src := 2 } : RowMap)) d (List.range 4) s.boot.rowmap).trans (if_pos (List.mem_range.mpr hd))

/-! ### The end of a start (R658, R690, R691) -/

theorem setTiming_frame (s : State) : ∃ ek afab, s.setTiming = { s with clk := { s.clk with ek := ek, afab := afab } } := by
  unfold setTiming
  split
  · exact ⟨_, _, rfl⟩
  · exact ⟨_, _, rfl⟩

/-- What an erase that runs again leaves of the start: its phase and its clock, and the counts of the boot record. -/
theorem resumeErase_start (s : State) : s.resumeErase.boot.phase = s.boot.phase ∧ s.resumeErase.clk = s.clk ∧
    s.resumeErase.boot.record.fails = s.boot.record.fails ∧ s.resumeErase.boot.record.trial = s.boot.record.trial := by
  have hstore (u : State) (r : BootRec) : (u.storeBoot r).boot.phase = u.boot.phase ∧ (u.storeBoot r).clk = u.clk ∧
      (u.storeBoot r).boot.record = r :=
    ⟨congrArg StoreView.phase (storeView_storeBoot u r), congrArg StoreView.clk (storeView_storeBoot u r), storeBoot_record u r⟩
  have htake (u : State) : u.takeFlash.boot = u.boot ∧ u.takeFlash.clk = u.clk := by
    unfold takeFlash
    split <;> exact ⟨rfl, rfl⟩
  unfold resumeErase
  extract_lets r other marked slot s1 _ s2
  split
  · have hs1 := hstore s { s.boot.record with updSlot := slot, updState := .erasing }
    have hs2 := htake s2
    rw [record_phase, record_bootRecord, hs2.1]
    refine ⟨hs1.1, ?_, (congrArg BootRec.fails hs1.2.2 :), (congrArg BootRec.trial hs1.2.2 :)⟩
    rw [record_frame]
    exact hs2.2.trans hs1.2.1
  · split
    · obtain ⟨hphase, hclk, hrec⟩ := hstore s { r with updState := .idle }
      exact ⟨hphase, hclk, (congrArg BootRec.fails hrec :), (congrArg BootRec.trial hrec :)⟩
    · exact ⟨rfl, rfl, rfl, rfl⟩

/-- The started package, its boot record not yet written. -/
def startedAt (s : State) : State :=
  { s with boot := { s.boot with phase := .started, coldForm := [] }, clk := { now := s.clk.now, sub := s.clk.sub } }

theorem doStartPassed_of_report {s : State} {r : Report} (hphase : s.boot.phase = .stage 4) (hreport : s.boot.reports.find 4 = some r) (hpass : r.result ≠ 1) :
    s.doStartPassed = (s.startedAt.storeBoot { s.boot.record with fails := 0, trial := false }).setTiming.resumeErase := by
  unfold doStartPassed
  exact if_pos ⟨hphase, by simp [hreport, hpass]⟩

end Sys2Proof.Machine.State

namespace Sys2Proof.Claims
open Sys2Proof.Machine Sys2Proof.Machine.State

/-- Settles O35: each stage by what its step leaves; a failed one by `failStage_boot`. -/
theorem stages : Obligations.Stages := by
  intro s i1 i2 i4 n failed
  have hfailed (m : Nat) (f : Fail) (detail : Nat) : failed f.code (s.failStage m f detail) := failStage_boot s m f detail
  refine ⟨fun hphase htest => congrArg Host.Outcome.next (if_pos (.inr htest)), fun hphase hfree => ⟨fun hclk => ?_, fun hnone hstraps hident hmesh hdigest => ?_⟩,
    fun hphase => ⟨fun hself => ?_, fun hself hsram hphy hcold ⟨u, hu⟩ hbase => ?_⟩, fun hphase hbridges hlit hlinks => ?_,
    fun hphase hopen hcold hwhole hmicro hspare hdigest => ?_, fun r hphase hreport hpass => ?_, fun hphase hopen => ?_, fun hphase hwait => ?_,
    fun hs hhead hjoin hroom => congrArg Host.Outcome.next ?_⟩
  · exact answers_of_eq rfl (doStage1_of_clockless hphase hfree hclk) (hfailed 1 { code := 0x0F08 } _)
  · obtain ⟨hphase1, hport, hstandby, hident1⟩ := finishStage1_of_good (s := s.exchanged) (i := i1) hdigest
    obtain ⟨regs, mgt, code, cur, hbegin⟩ := beginStage_frame (s.exchanged.finishStage1 i1) 2
    refine answers_of_eq rfl ((doStage1_of_good hphase hfree hnone hstraps hident hmesh hdigest).trans hbegin) ?_
    exact ⟨rfl, hport, hstandby, hident1⟩
  · refine answers_of_eq (u := s.failStage 2 { code := 0x0F0B } (detail2 (s.stage2Rows i2 (!s.fastStage 2)) (s.stage2Lanes i2 (!s.fastStage 2)) i2 (!s.fastStage 2)))
      rfl ?_ (hfailed 2 { code := 0x0F0B } _)
    unfold doStage2
    rw [if_neg (not_not_intro hphase)]
    exact if_pos (by simp [hself])
  · obtain ⟨hin, o, hlit, hfresh⟩ := doStage2_of_good hphase hself hsram hphy hcold hu hbase
    exact ⟨_, rfl, hin, hfresh.known, hfresh.inService, hfresh.repaired, hfresh.idle, (congrArg Optics.lit hfresh.optics).trans hlit⟩
  · have hdone : s.doStage3 = (s.passStage 3 s.detail3).beginStage 4 := by
      unfold doStage3
      refine if_pos ⟨hphase, ?_, hlit, ?_⟩
      · exact List.all_eq_true.mpr fun y hy => by simp [hbridges y (List.mem_range.mp hy)]
      · exact List.all_eq_true.mpr fun l hl => hlinks l (List.mem_range.mp hl)
    obtain ⟨regs, mgt, code, cur, hbegin⟩ := beginStage_frame (s.passStage 3 s.detail3) 4
    obtain ⟨regs', mgt', code', hpass⟩ := passStage_frame s 3 s.detail3
    refine answers_of_eq rfl (hdone.trans hbegin) ⟨rfl, s.passReport 3 s.detail3, ?_, passReport_result s 3 _⟩
    rw [hpass]
    exact Tbl.find_put_same _ _ _
  · have hdone := doStage4_of_whole hphase hopen hcold hwhole hmicro hspare hdigest
    obtain ⟨hph, hwarm, hmap, hseqs, hsync⟩ := finishStage4_mapped4 s
    generalize s.mapped4.finishStage4 = u at hdone hph hwarm hmap hseqs hsync
    obtain ⟨regs, mgt, code, hpass⟩ := passStage_frame u 4 (u.detail4 i4 true [])
    refine answers_of_eq rfl (hdone.trans hpass) ⟨hph.trans hphase, ⟨_, Tbl.find_put_same _ _ _, ?_⟩, hmap, hseqs, hsync⟩
    unfold passReport stageReport
    simp only [hwarm, hcold, Bool.not_false, if_true]
  · have hrecord : (s.startedAt.storeBoot { s.boot.record with fails := 0, trial := false }).boot.record = { s.boot.record with fails := 0, trial := false } :=
      storeBoot_record _ _
    have hview := storeView_storeBoot s.startedAt { s.boot.record with fails := 0, trial := false }
    have hclk : (s.startedAt.storeBoot { s.boot.record with fails := 0, trial := false }).clk = { now := s.clk.now, sub := s.clk.sub } := congrArg StoreView.clk hview
    have hphase' : (s.startedAt.storeBoot { s.boot.record with fails := 0, trial := false }).boot.phase = .started := congrArg StoreView.phase hview
    obtain ⟨ek, afab, htiming⟩ := setTiming_frame (s.startedAt.storeBoot { s.boot.record with fails := 0, trial := false })
    obtain ⟨hph, hck, hf, ht⟩ := resumeErase_start (s.startedAt.storeBoot { s.boot.record with fails := 0, trial := false }).setTiming
    rw [htiming] at hph hck hf ht
    refine answers_of_eq rfl ((doStartPassed_of_report hphase hreport hpass).trans (by rw [htiming])) ⟨?_, ?_, ?_, ?_, ?_⟩
    · rw [hph]
      exact hphase'
    · rw [hck, hclk]
    · rw [hck, hclk]
    · rw [hf]
      exact congrArg BootRec.fails hrecord
    · rw [ht]
      exact congrArg BootRec.trial hrecord
  · refine answers_of_eq (u := s.failStage n { code := 0x0F10 + n.val }) rfl ?_ (hfailed n { code := 0x0F10 + n.val } 0)
    unfold doStageWatchdog
    rw [hphase]
    exact if_neg (by simp [hopen])
  · exact answers_of_eq (u := s.failStage 3 { code := 0x0903 }) rfl (if_pos ⟨hphase, hwait⟩) (hfailed 3 { code := 0x0903 } 0)
  · have hphase : s.boot.phase = .started := by simpa [started] using hs
    unfold doJoinTimeout
    rw [hphase]
    exact (if_pos (by simp [hhead, hjoin])).trans (record_of_started _ _ hs hroom (by decide))

end Sys2Proof.Claims
end

section
/-! An abort at the root of a fabric: the ABORT that goes up is answered at once, and the answer reaches the root itself (12 R550-R552). -/

namespace Sys2Proof.Machine.State

/-- A started package that leads its board and is the root of its fabric, without children, in an epoch that a trigger of its own aborts. -/
def rootAborting : State :=
  { State.reset with boot := { phase := .started }, regs := [(fabBase + 0x10, 7#32)], abort := some { epoch := 0, code := 0x603, start := 0 } }

/-- R551, R552: the root's answer makes its abort one of the fabric. -/
theorem fabric_rootAborting : rootAborting.doEpochAbort.abort.map (fun a => a.fabric) = some true := by decide +kernel

end Sys2Proof.Machine.State

namespace Sys2Proof.Claims
open Sys2Proof.Machine Sys2Proof.Machine.State

/-- Refutes O32: at the root of a fabric the step that takes an abort also answers it (`fabric_rootAborting`), so the abort does not stand as it was but for `taken`. -/
theorem not_abortRecovery : ¬ Obligations.AbortRecovery := by
  intro h
  obtain ⟨htaken, -⟩ := h rootAborting { epoch := 0, code := 0x603, start := 0 } rfl rfl
  obtain ⟨t, hexec, habort, -⟩ := htaken rfl
  have ht : rootAborting.doEpochAbort = t := Host.Outcome.next.inj hexec
  have hfabric := fabric_rootAborting
  rw [ht, habort] at hfabric
  exact absurd hfabric (by decide)

end Sys2Proof.Claims
end

section
/-! Warm resets: the request, its refusal, and the sequence (15 R659; 17 R743-R745, R772; 18 R782). -/

namespace Sys2Proof.Machine.State

/-! ### The request and its refusal (15 R659, 17 R743) -/

theorem warmAllowed_of_started {s : State} (hs : s.started = true) (hhead : s.shk.headless = false) : s.warmAllowed = true := by
  simp [warmAllowed, hs, hhead]

theorem requestWarm_of_started {s : State} (hs : s.started = true) (hdue : s.mgt.warmDue = false) (hroom : s.mgt.staging.length < 64) :
    s.requestWarm = { s with mgt := { Claims.noted s 0x1104 {} 0 with warmDue := true } } := by
  unfold requestWarm
  rw [if_neg (by simp [hdue])]
  exact record_of_started (s := { s with mgt := { s.mgt with warmDue := true } }) {} 0 hs hroom (by decide)

theorem doPkgReset_of_host {s : State} {src : Src} {fn : Nat} (hfn : fn = 0) (hsrc : src ≠ .mctp) :
    s.doPkgReset src fn 0x5752#32 = if s.warmAllowed then s.requestWarm else if s.bringUp then (s.record 0x0F0F).hifDrop else s := by
  unfold doPkgReset
  exact if_neg (by simp [hfn, hsrc])

theorem insertEvent_mem (e : Event) : ∀ l : List Event, e ∈ insertEvent e l
  | [] => List.mem_singleton_self e
  | x :: l => by
    unfold insertEvent
    split
    · exact List.mem_cons_self
    · exact List.mem_cons_of_mem x (insertEvent_mem e l)

theorem mem_insertEvent_of_mem {e x : Event} : ∀ {l : List Event}, x ∈ l → x ∈ insertEvent e l
  | y :: l, h => by
    unfold insertEvent
    split
    · exact List.mem_cons_of_mem e h
    · rcases List.mem_cons.mp h with rfl | h
      · exact List.mem_cons_self
      · exact List.mem_cons_of_mem y (mem_insertEvent_of_mem h)

theorem mem_staging_stageEvent {s : State} {x : Event} (e : Event) (h : x ∈ s.mgt.staging) : x ∈ (s.stageEvent e).mgt.staging := by
  unfold stageEvent
  split
  · exact mem_insertEvent_of_mem h
  · dsimp only
    split <;> exact h

/-- Outside the stages of a start a record of another block than the shanks' reaches the event log only. -/
theorem record_of_outside {s : State} {code : Nat} (loc : Loc) (detail : Nat) (hphase : ∀ n, s.boot.phase ≠ .stage n) (hcode : code / 256 ≠ 0x10) :
    s.record code loc detail = s.stageEvent ⟨s.clk.now, s.clk.sub, s.clk.epoch, code, loc, detail⟩ := by
  unfold record recordFatal
  rw [if_neg hcode]
  unfold addNote
  split
  · next n hn =>
    rw [stageEvent_frame] at hn
    exact absurd hn (hphase n)
  · rfl

theorem hifDrop_of_outside {s : State} (hphase : ∀ n, s.boot.phase ≠ .stage n) :
    s.hifDrop = { s with regs := s.hifDrop.regs, mgt := s.hifDrop.mgt } ∧ ∀ x ∈ s.mgt.staging, x ∈ s.hifDrop.mgt.staging := by
  unfold hifDrop bump
  rcases bumpBy_cases s (hifBase + 0x20) 1 with h | h
  · rw [h]
    exact ⟨rfl, fun x hx => hx⟩
  · rw [h, record_of_outside _ _ (by exact hphase) (by decide), stageEvent_frame]
    exact ⟨rfl, fun x hx => mem_staging_stageEvent (s := s.setWord _ _) _ hx⟩

/-- A refused request is recorded with 0x0F0F, and counts as a dropped write. -/
theorem refused_warm {s : State} (hphase : ∀ n, s.boot.phase ≠ .stage n) :
    (s.record 0x0F0F).hifDrop = { s with regs := (s.record 0x0F0F).hifDrop.regs, mgt := (s.record 0x0F0F).hifDrop.mgt } ∧
      (s.mgt.staging.length < 64 → (s.record 0x0F0F).hifDrop.mgt.staging.any (fun e => e.code == 0x0F0F) = true) := by
  have hrecord := record_of_outside (code := 0x0F0F) {} 0 hphase (by decide)
  obtain ⟨hframe, hkept⟩ := hifDrop_of_outside (s := s.record 0x0F0F) (by rw [record_phase]; exact hphase)
  refine ⟨?_, fun hroom => ?_⟩
  · rw [hframe, hrecord, stageEvent_frame]
  · refine List.any_eq_true.mpr ⟨⟨s.clk.now, s.clk.sub, s.clk.epoch, 0x0F0F, {}, 0⟩, hkept _ ?_, rfl⟩
    rw [hrecord, stageEvent, if_pos hroom]
    exact insertEvent_mem _ _

/-! ### The sequence (17 R744, R772) -/

theorem bump_beside (s : State) (off : Nat) : BesideRings s (s.bump off) := by
  rw [bump_frame]
  rfl

theorem coldMsix_beside (s : State) (f : Nat → Bool) : BesideRings s (s.coldMsix f) := rfl

theorem flushOwn_beside (s : State) : BesideRings s s.flushOwn := .foldl (f := fun s (p : Nat × List Byte) => s.poke p.1 p.2) (fun s _ => .refl s) _ s

/-- Dropping the rings, the MSI-X tables and the contexts leaves what the mark's store leaves. -/
theorem warmDropped_beside (s : State) : BesideRings s.storeMark s.warmDropped.flushOwn := by
  have hrings := resetRings_beside s.storeMark (fun _ => true)
  have hmsix := hrings.trans (coldMsix_beside _ (fun _ => true))
  have hcount := hmsix.trans (bump_beside _ 0x228)
  exact (hcount.trans (.foldl freeCtx_beside _ _)).trans (flushOwn_beside _)

/-- Storing a mark leaves the fuses, the boot record, and of each key all but its mark. -/
theorem storeMark_holds (s : State) : s.storeMark.fuse = s.fuse ∧ s.storeMark.nor.boot = s.nor.boot ∧
    ∀ k, (s.storeMark.key k).key = (s.key k).key ∧ (s.storeMark.key k).st = (s.key k).st ∧ (s.storeMark.key k).rights = (s.key k).rights := by
  unfold storeMark
  split
  · exact ⟨rfl, rfl, fun k => ⟨rfl, rfl, rfl⟩⟩
  · next c _ =>
    have hkey (k : Nat) : ((s.setKey (dKslot c.d) { s.key (dKslot c.d) with mark := markFor c }).key k).key = (s.key k).key ∧
        ((s.setKey (dKslot c.d) { s.key (dKslot c.d) with mark := markFor c }).key k).st = (s.key k).st ∧
        ((s.setKey (dKslot c.d) { s.key (dKslot c.d) with mark := markFor c }).key k).rights = (s.key k).rights := by
      by_cases h : k = dKslot c.d
      · rw [h, key_setKey_same]
        exact ⟨rfl, rfl, rfl⟩
      · rw [key_setKey_other _ _ h]
        exact ⟨rfl, rfl, rfl⟩
    unfold programMark
    dsimp only
    split <;> exact ⟨rfl, rfl, hkey⟩

theorem doWarmSequence_of_due {s : State} (hdue : s.mgt.warmDue = true) (hs : s.started = true) :
    s.doWarmSequence = s.warmDropped.flushOwn.warmKept s := by
  unfold doWarmSequence
  exact if_neg (by simp [hdue, hs])

/-- What of the flash records and the keys a warm reset keeps. -/
theorem warmDropped_holds (s : State) : s.warmDropped.flushOwn.fuse = s.fuse ∧ s.warmDropped.flushOwn.nor.boot = s.nor.boot ∧
    ∀ k, (s.warmDropped.flushOwn.key k).key = (s.key k).key ∧ (s.warmDropped.flushOwn.key k).st = (s.key k).st ∧
      (s.warmDropped.flushOwn.key k).rights = (s.key k).rights := by
  have hbeside := warmDropped_beside s
  obtain ⟨hfuse, hnor, hkeys⟩ := storeMark_holds s
  generalize s.warmDropped.flushOwn = u at hbeside ⊢
  generalize s.storeMark = v at hbeside hfuse hnor hkeys
  have hkey (k : Nat) : u.key k = v.key k := congrArg (fun r : RingFree => r.keys.get {} k) hbeside
  exact ⟨(congrArg RingFree.fuse hbeside).trans hfuse, (congrArg (fun r : RingFree => r.nor.boot) hbeside).trans hnor, fun k => by rw [hkey]; exact hkeys k⟩

/-- Behind HBM3E nothing survives. -/
theorem byte_warmKept (s b : State) {a : Nat} (h : 8 * 0x900000000 ≤ a) : (s.warmKept b).mem.byte a = 0#8 := by
  have hmem : (s.warmKept b).mem = s.mem.filter (fun p => decide (p.1 < 8 * 0x900000000)) := rfl
  rw [hmem, Mem.byte, Tbl.get, Tbl.find_filter_keys (fun k => decide (k < 8 * 0x900000000)), if_neg (by rw [decide_eq_true_eq]; omega)]
  rfl

end Sys2Proof.Machine.State

namespace Sys2Proof.Claims
open Sys2Proof.Machine Sys2Proof.Machine.State

/-- Settles O36: the request and its refusal by their records; the sequence by what the dropped rings leave (`warmDropped_holds`) and the survival table keeps. -/
theorem warmResets : Obligations.WarmResets := by
  intro s src body
  refine ⟨fun hs hhead hdue hroom => ⟨fun hsrc => congrArg Host.Outcome.next ?_, fun hlen hbody hserves => congrArg Host.Outcome.next ?_⟩,
    fun hsole hsrc => ?_, fun fn v hother => congrArg Host.Outcome.next (if_pos ?_), fun hdue hs => ?_, fun hdue hphase => congrArg Host.Outcome.next ?_⟩
  · rw [doPkgReset_of_host (fn := (0 : Fin 64)) rfl hsrc, if_pos (warmAllowed_of_started hs hhead), requestWarm_of_started hs hdue hroom]
  · have hphase : s.boot.phase = .started := by simpa [started] using hs
    unfold message
    rw [if_neg (by simp [hphase]), if_pos hserves]
    unfold serve doWarmMsg
    dsimp only
    rw [if_neg (by simp [hlen, hbody]), if_pos (warmAllowed_of_started hs hhead)]
    exact requestWarm_of_started (s := s.emit (.mctp 0 [])) hs hdue hroom
  · have hrefused : s.doPkgReset src 0 0x5752#32 = (s.record 0x0F0F).hifDrop := by
      rw [doPkgReset_of_host rfl hsrc, if_neg (by simp [warmAllowed, started, hsole]), if_pos (by simp [bringUp, hsole])]
    exact answers_of_eq rfl hrefused (refused_warm (fun n => by simp [hsole]))
  · rcases hother with h | h
    · exact .inl fun heq => h (Fin.ext heq)
    · exact .inr (.inr h)
  · obtain ⟨hfuse, hboot, hkeys⟩ := warmDropped_holds s
    refine answers_of_eq rfl (doWarmSequence_of_due hdue hs) ?_
    generalize s.warmDropped.flushOwn = u at hfuse hboot hkeys
    exact ⟨rfl, rfl, rfl, rfl, rfl, rfl, rfl, rfl, rfl, rfl, hfuse, rfl, rfl, hboot, rfl, fun a ha => byte_warmKept u s ha, hkeys⟩
  · unfold doWarmSelfRefresh
    rw [if_pos (by simp [hdue, hphase])]
    rfl

end Sys2Proof.Claims
end

section
/-! Shank faults and recovery: takeover, resynchronisation, the replace request and the calibration records (14 R647; 16 R705-R735). -/

namespace Sys2Proof.Machine

/-- What of the shanks, of the replace request and of the critical queue a record leaves. -/
structure ShankView where
  pairs : Tbl Pair
  activeP2 : Bool
  standby : Standby
  standbyP0 : Bool
  feedToP0 : Bool
  fails : Nat
  fault : Option Nat
  promoted : Option Nat
  headless : Bool
  gate : List GateIn
  queue : List Crit
  replace : BitVec 7
  replaceForced : Bool
  replaceLow : Bool
  lanesLow : Option Nat

namespace State

def shankView (s : State) : ShankView :=
  ⟨s.shk.pairs, s.shk.activeP2, s.shk.standby, s.shk.standbyP0, s.shk.feedToP0, s.shk.fails, s.shk.fault, s.shk.promoted, s.shk.headless, s.shk.gate,
    s.cmd.queue, s.mgt.replace, s.mgt.replaceForced, s.mgt.replaceLow, s.mgt.lanesLow⟩

/-! ### Records, counters and journal entries -/

theorem shankView_stageEvent (s : State) (e : Event) : (s.stageEvent e).shankView = s.shankView := by
  unfold stageEvent
  split
  · rfl
  · dsimp only
    split <;> rfl

theorem shankView_record (s : State) (code : Nat) (loc : Loc) (detail : Nat) : (s.record code loc detail).shankView = s.shankView := by
  rw [record, addNote_frame]
  exact (shankView_stageEvent _ _).trans (by split <;> rfl)

theorem shankView_bump (s : State) (off : Nat) : (s.bump off).shankView = s.shankView := by
  unfold bump
  rcases bumpBy_cases s off 1 with h | h <;> rw [h]
  · rfl
  · exact shankView_record _ _ _ _

theorem shankView_pokeEntry (s : State) (a : Nat) (bs : List Byte) : (s.pokeEntry a bs).shankView = s.shankView ∧ (s.pokeEntry a bs).regs = s.regs := by
  have hown (u : State) (a : Nat) (bs : List Byte) : (u.pokeOwn a bs).shankView = u.shankView ∧ (u.pokeOwn a bs).regs = u.regs := by
    unfold pokeOwn
    split
    · exact ⟨rfl, rfl⟩
    · split
      · rw [queueOwn_frame]
        exact ⟨rfl, rfl⟩
      · exact ⟨rfl, rfl⟩
  obtain ⟨hview, hregs⟩ := hown s a (bs.take 60)
  obtain ⟨hview', hregs'⟩ := hown (s.pokeOwn a (bs.take 60)) (a + 60) (bs.drop 60)
  exact ⟨hview'.trans hview, hregs'.trans hregs⟩

/-- A journal entry leaves the shanks and every register but the counters of overwritten entries and of lost events. -/
theorem shankView_journal (s : State) (e : JEnt) : (s.journal e).shankView = s.shankView ∧
    ∀ off, off ≠ cmdBase + 0x80018 → off ≠ mgtBase + 0x3014 → (s.journal e).word off = s.word off := by
  unfold journal
  split
  · exact ⟨rfl, fun _ _ _ => rfl⟩
  · unfold commitEntry
    split
    · exact ⟨rfl, fun _ _ _ => rfl⟩
    · extract_lets n bs o _ s1 s2 s4
      have hcount : s2.shankView = s.shankView ∧ ∀ off, off ≠ cmdBase + 0x80018 → off ≠ mgtBase + 0x3014 → s2.word off = s.word off := by
        unfold s2
        split
        · exact ⟨shankView_bump s1 _, fun off hoff hlost => word_bump_other (s := s1) hoff hlost⟩
        · exact ⟨rfl, fun _ _ _ => rfl⟩
      have hword {u v : State} (h : u.regs = v.regs) (off : Nat) : u.word off = v.word off := congrArg (fun r : Tbl Word => r.get (coldWord off) off) h
      obtain ⟨hview, hregs⟩ := shankView_pokeEntry s2 ((if s.shk.activeP2 then jnlP2 else jnlP0) + o) bs
      split
      · obtain ⟨hview', hregs'⟩ := shankView_pokeEntry s4 ((if s.shk.activeP2 then jnlP0 else jnlP2) + o) bs
        exact ⟨hview'.trans (hview.trans hcount.1), fun off hoff hlost => (hword (hregs'.trans hregs) off).trans (hcount.2 off hoff hlost)⟩
      · exact ⟨hview.trans hcount.1, fun off hoff hlost => (hword hregs off).trans (hcount.2 off hoff hlost)⟩

/-! ### The pairs and the replace request -/

theorem pair_setPair_same (s : State) (n : Nat) (x : Pair) : (s.setPair n x).pair n = x := Tbl.get_set_same _ _ _ _

theorem pair_of_view {s t : State} (h : t.shankView = s.shankView) (n : Nat) : t.pair n = s.pair n :=
  congrArg (fun v : ShankView => v.pairs.get .running n) h

/-- REPLACE_N, as the forced request and the triggers that the mask lets through want it (R733). -/
def replaceWanted (s : State) : Bool := s.mgt.replaceForced || s.mgt.replace.toNat &&& (127 - s.bits (mgtBase + 0x10108) 0 7) != 0

/-- Driving the pin notes since when; nothing else changes. -/
theorem driveReplace_frame (s : State) : ∃ regs, s.driveReplace = { s with regs := regs, mgt := { s.mgt with replaceLow := s.replaceWanted } } ∧
    ∀ off, off ≠ mgtBase + 0x10110 → off ≠ mgtBase + 0x10114 → s.driveReplace.word off = s.word off := by
  unfold driveReplace
  dsimp only
  split
  · refine ⟨_, rfl, fun off hlo hhi => ?_⟩
    exact (word_setWord_other _ _ (by exact hhi)).trans (word_setWord_other _ _ hlo)
  · exact ⟨_, rfl, fun _ _ _ => rfl⟩

theorem forceReplace_frame (s : State) : ∃ regs, s.forceReplace =
    { s with regs := regs, mgt := { s.mgt with replaceForced := true, replaceLow := true } } := by
  obtain ⟨regs, h, -⟩ := driveReplace_frame { s with mgt := { s.mgt with replaceForced := true } }
  exact ⟨regs, h⟩

/-! ### Faults (R707-R709, R714-R716, R722) -/

section
variable {s : State} {n : Nat} (hrun : s.shanksRun = true) (hpair : s.pair n = .running) (hfree : s.awlHalted n = false)
include hrun hpair hfree

theorem pairFault_of_inStep (code : Nat) (hn : n = s.activePos) (hstandby : s.shk.standby = .inStep) :
    (s.pairFault n code).shk.fault = some code ∧ (s.pairFault n code).pair n = .halted ∧ (s.pairFault n code).shk.standby = .inStep := by
  unfold pairFault
  rw [if_neg (by simp [hrun, hpair, hfree]), if_pos hn]
  dsimp only
  rw [if_pos hstandby]
  have hview := shankView_record (s.setPair n .halted) code (dieLoc n) 0
  exact ⟨rfl, (pair_of_view (s := s.setPair n .halted) hview n).trans (pair_setPair_same s n _), (congrArg ShankView.standby hview).trans hstandby⟩

theorem pairFault_of_alone (code : Nat) (hn : n = s.activePos) (hstandby : s.shk.standby ≠ .inStep) :
    (s.pairFault n code).shk.headless = true ∧ (s.pairFault n code).mgt.replaceForced = true ∧ (s.pairFault n code).mgt.replaceLow = true := by
  unfold pairFault
  rw [if_neg (by simp [hrun, hpair, hfree]), if_pos hn]
  dsimp only
  rw [if_neg hstandby]
  unfold goHeadless
  obtain ⟨regs, h⟩ := forceReplace_frame (((s.setPair n .halted).record code (dieLoc n)).record 0x1006 (dieLoc 1))
  rw [h]
  dsimp only
  split <;> exact ⟨rfl, rfl, rfl⟩

theorem pairFault_of_standby (code : Nat) (hn : n = s.standbyPos) (hactive : n ≠ s.activePos) (hstandby : s.shk.standby = .inStep) :
    (s.pairFault n code).shk.standby = .resync ∧ (s.pairFault n code).shk.activeP2 = s.shk.activeP2 := by
  unfold pairFault
  rw [if_neg (by simp [hrun, hpair, hfree]), if_neg hactive, if_pos hn, if_pos hstandby]
  have hview := shankView_record s 0x1003 (dieLoc n) 0
  unfold loseStandby
  rw [show (s.record 0x1003 (dieLoc n)).shk.standby = .inStep from (congrArg ShankView.standby hview).trans hstandby]
  exact ⟨rfl, congrArg ShankView.activeP2 hview⟩

end

/-! ### Takeover (R717-R723) -/

theorem doTakeover_of_inStep {s : State} {c : Nat} (hfault : s.shk.fault = some c) (hhead : s.shk.headless = false) (hstandby : s.shk.standby = .inStep) :
    s.doTakeover.shk.activeP2 = (!s.shk.activeP2) ∧ s.doTakeover.shk.fault = none ∧ s.doTakeover.shk.promoted = some c ∧
      s.doTakeover.shk.standby = .resync ∧ s.doTakeover.shk.feedToP0 = (!s.shk.activeP2) ∧ s.doTakeover.pair s.activePos = .reset ∧
      s.doTakeover.shk.gate = s.shk.gate ∧ s.doTakeover.cmd.queue = s.cmd.queue := by
  have hview := shankView_bump (((s.setRole s.activePos 0).setRole s.standbyPos 1).setPair s.activePos .reset) (bootBase + 0x8008)
  have hreset := (pair_of_view hview s.activePos).trans (pair_setPair_same _ _ _)
  have hgate : _ = s.shk.gate := congrArg ShankView.gate hview
  have hqueue : _ = s.cmd.queue := congrArg ShankView.queue hview
  unfold doTakeover
  rw [hfault]
  dsimp only
  rw [if_neg (by simp [hhead]), if_pos hstandby]
  unfold promote2
  dsimp only
  generalize (((s.setRole s.activePos 0).setRole s.standbyPos 1).setPair s.activePos .reset).bump (bootBase + 0x8008) = u at hreset hgate hqueue ⊢
  exact ⟨rfl, rfl, rfl, rfl, rfl, hreset, hgate, hqueue⟩

theorem message_of_held {s : State} (k : MsgKind) (body : List Byte) (hrun : s.shanksRun = true) (hholds : s.gateHolds = true) (hroom : s.shk.gate.length < 256) :
    s.message k body = { s with shk := { s.shk with gate := s.shk.gate ++ [.message k body] } } := by
  have hphase : s.boot.phase ≠ .shankFailed := fun h => by simp [shanksRun, h] at hrun
  unfold message
  rw [if_neg hphase, if_neg (by simp [mctpServes, hholds]), if_pos (by simp [hrun, gateFull, hroom])]
  rfl

/-- A RESET entry sets LAST_KIND and leaves the shanks. -/
theorem shankView_journalReset (s : State) (kind code src : Nat) : (s.journalReset kind code src).shankView = s.shankView ∧
    (s.journalReset kind code src).word 0x220 = s.word 0x220 - (s.word 0x220 &&& 7#32) + BitVec.ofNat 32 kind := by
  obtain ⟨hview, hword⟩ := shankView_journal (s.setWord 0x220 (s.word 0x220 - (s.word 0x220 &&& 7#32) + BitVec.ofNat 32 kind))
    { kind := 6, status := code, arg0 := kind, src := src }
  exact ⟨hview, (hword 0x220 (by decide) (by decide)).trans (word_setWord_same _ _ _)⟩

theorem doFirstOutput_of_empty {s : State} {c : Nat} (hpromoted : s.shk.promoted = some c) (hgate : s.shk.gate = []) :
    s.doFirstOutput.shk.promoted = none ∧ s.doFirstOutput.word 0x220 = s.word 0x220 - (s.word 0x220 &&& 7#32) + 4#32 := by
  unfold doFirstOutput
  rw [hpromoted]
  dsimp only
  rw [hgate, List.foldl_nil]
  obtain ⟨hview, hword⟩ := shankView_journalReset { s with shk := { s.shk with promoted := none, gate := [] } } 4 c 0
  exact ⟨congrArg ShankView.promoted hview, hword⟩

/-! ### Resynchronisation (R723, R725) -/

theorem standbyJoins_inStep (s : State) :
    s.standbyJoins.shk.standby = .inStep ∧ s.standbyJoins.shk.fails = 0 ∧ s.standbyJoins.pair s.standbyPos = .running := by
  have hview := shankView_bump ((s.copyJournal.setPair s.standbyPos .running).setRole s.standbyPos 2) (bootBase + 0x8018)
  exact ⟨rfl, rfl, (pair_of_view hview _).trans (pair_setPair_same _ _ _)⟩

theorem resyncFails_counts (s : State) :
    s.resyncFails.shk.fails = s.shk.fails + 1 ∧ s.resyncFails.shk.standby = if 2 ≤ s.shk.fails then .failed else .none := by
  unfold resyncFails
  dsimp only
  by_cases h : 2 ≤ s.shk.fails
  · rw [if_pos (by omega), if_pos h]
    exact ⟨rfl, rfl⟩
  · rw [if_neg (by omega), if_neg h]
    exact ⟨rfl, rfl⟩

section
variable {s : State} (hrun : s.shanksRun = true) (hactive : s.activeHalted = false) (hfree : s.awlHalted s.standbyPos = false)
include hrun hactive hfree

theorem doResync_of_resync (ok : Bool) (h : s.shk.standby = .resync) : s.doResync ok = if ok then s.standbyJoins else s.resyncFails :=
  if_pos (by simp [hrun, hactive, hfree, h])

theorem doResyncRetry_of_failed (ok : Bool) (h : s.shk.standby = .none) (hlow : 0 < s.shk.fails) (hhigh : s.shk.fails < 3) :
    s.doResyncRetry ok = if ok then s.standbyJoins else s.resyncFails :=
  if_pos (by simp [hrun, hactive, hfree, h, hlow, hhigh])

end

/-! ### Calibration records and the replace request (R729-R735) -/

theorem doCalRefresh_of_run {s : State} (hrun : s.shanksRun = true) (hactive : s.activeHalted = false) (hsole : s.boot.phase ≠ .sole) :
    s.doCalRefresh = { s with mgt := { s.mgt with calRecs := s.doCalRefresh.mgt.calRecs } } ∧
      ∀ y < 4, (s.doCalRefresh.mgt.calRecs.get {} y).seq = ((s.mgt.calRecs.get {} y).seq + 1) % 2 ^ 32 := by
  have hfold : s.doCalRefresh = (List.range 4).foldl refreshCal s := if_pos (by simp [hrun, hactive, hsole])
  rw [hfold]
  refine foldl_range_each (f := refreshCal) (fun t i => (t.mgt.calRecs.get {} i).seq) (fun t => t = { s with mgt := { s.mgt with calRecs := t.mgt.calRecs } })
    (fun i n => n = ((s.mgt.calRecs.get {} i).seq + 1) % 2 ^ 32) rfl fun a ha i _ hi => ⟨?_, ?_, fun j hj => ?_⟩
  · rw [ha]
    rfl
  · rw [← hi]
    exact congrArg CalRec.seq (congrArg (Option.getD · {}) (Tbl.find_put_same i _ _))
  · exact congrArg CalRec.seq (congrArg (fun o : Option CalRec => o.getD {}) (Tbl.find_put_other _ hj _))

theorem foldl_record_frame (l : List Nat) (s : State) : (l.foldl (fun (s : State) b => s.record 0x1007 {} b) s).shankView = s.shankView ∧
    ∀ off, off ≠ mgtBase + 0x3014 → (l.foldl (fun (s : State) b => s.record 0x1007 {} b) s).word off = s.word off := by
  induction l generalizing s with
  | nil => exact ⟨rfl, fun _ _ => rfl⟩
  | cons b l ih =>
    obtain ⟨hview, hword⟩ := ih (s.record 0x1007 {} b)
    exact ⟨hview.trans (shankView_record _ _ _ _), fun off h => (hword off h).trans (word_record_other _ _ _ _ h)⟩

theorem or_and_self_left (a b : Word) : (a ||| b) &&& a = a := by
  ext i hi
  rw [BitVec.getElem_and, BitVec.getElem_or]
  exact Bool.and_eq_right_iff_imp.mpr fun h => by rw [h, Bool.true_or]

/-- R732: LANES holds on for 60 s once 4 or fewer links meet it, and the pin follows the triggers and the mask. -/
theorem doReplace_of_run {s : State} (lanes : List (Fin 128)) (hrun : s.shanksRun = true) (hactive : s.activeHalted = false) (hsole : s.boot.phase ≠ .sole) :
    let n := ((List.range 128).filter (fun l => lanes.any (fun x => x.val == l) && s.spareSpent l)).length
    let since := s.mgt.lanesLow.getD s.clk.now
    let holds := decide (n ≤ 4) && s.mgt.replace.getLsbD 0 && decide (s.clk.now < since + 60000000000)
    let t := s.doReplace lanes
    t.mgt.replace = BitVec.ofNat 7 (s.triggers (if holds then 5 else n)) ∧ t.mgt.lanesLow = (if holds then some since else none) ∧
      t.word (mgtBase + 0x10104) &&& s.word (mgtBase + 0x10104) = s.word (mgtBase + 0x10104) ∧
      t.mgt.replaceLow = (s.mgt.replaceForced || decide (t.mgt.replace.toNat &&& (127 - s.bits (mgtBase + 0x10108) 0 7) ≠ 0)) := by
  intro n since holds
  unfold doReplace
  rw [if_neg (by simp [hrun, hactive, hsole])]
  extract_lets old few holds' now fresh _ s1 s2 t
  have ht : t = (fresh.foldl (fun (s : State) b => s.record 0x1007 {} b) s2).driveReplace := rfl
  clear_value t
  subst ht
  obtain ⟨hview, hword⟩ := foldl_record_frame fresh s2
  generalize fresh.foldl (fun (s : State) b => s.record 0x1007 {} b) s2 = u at hview hword ⊢
  obtain ⟨regs, hpin, hkept⟩ := driveReplace_frame u
  have hreplace : u.mgt.replace = BitVec.ofNat 7 now := congrArg ShankView.replace hview
  have hforced : u.mgt.replaceForced = s.mgt.replaceForced := congrArg ShankView.replaceForced hview
  have hmask : u.bits (mgtBase + 0x10108) 0 7 = s.bits (mgtBase + 0x10108) 0 7 :=
    congrArg (fun w : Word => w.toNat / 2 ^ 0 % 2 ^ 7) ((hword _ (by decide)).trans (word_setWord_other s1 _ (by decide)))
  refine ⟨?_, ?_, ?_, ?_⟩
  · rw [hpin]
    exact hreplace
  · rw [hpin]
    exact congrArg ShankView.lanesLow hview
  · rw [hkept _ (by decide) (by decide), hword _ (by decide)]
    refine (congrArg (· &&& s.word (mgtBase + 0x10104)) (word_setWord_same s1 _ _)).trans ?_
    exact or_and_self_left _ _
  · rw [hpin]
    dsimp only
    rw [replaceWanted, hreplace, hforced, hmask, bne, beq_eq_decide, decide_not]

end State
end Sys2Proof.Machine

namespace Sys2Proof.Claims
open Sys2Proof.Machine Sys2Proof.Machine.State

/-- Settles O53: each fault, takeover, resynchronisation and request by the lemma of its operation. -/
theorem shankFaults : Obligations.ShankFaults := by
  intro s die lanes
  refine ⟨fun hrun hpair hfree hn hstandby => ⟨?_, ?_⟩, fun hrun hpair hfree hn hstandby => ?_, fun hrun hpair hfree hn hactive hstandby => ?_,
    fun c hfault hhead hstandby => ?_, fun body hrun hholds hroom => ?_, fun c hpromoted hgate => ?_, fun hrun hactive hfree => ⟨fun hresync => ⟨?_, ?_⟩,
    fun hnone hlow hhigh => ⟨?_, ?_⟩⟩, fun hrun hactive hsole => ⟨?_, ?_⟩, fun hphase => ?_⟩
  · exact answers_of_eq rfl rfl (pairFault_of_inStep hrun hpair hfree 0x1001 hn hstandby)
  · have hcode : s.doWatchdog die = s.pairFault die 0x1002 := by rw [doWatchdog, if_pos hn]
    obtain ⟨hfault, hhalted, -⟩ := pairFault_of_inStep hrun hpair hfree 0x1002 hn hstandby
    exact answers_of_eq rfl hcode ⟨hfault, hhalted⟩
  · exact answers_of_eq rfl rfl (pairFault_of_alone hrun hpair hfree 0x1001 hn hstandby)
  · exact answers_of_eq rfl rfl (pairFault_of_standby hrun hpair hfree 0x1001 hn hactive hstandby)
  · exact answers_of_eq rfl rfl (doTakeover_of_inStep hfault hhead hstandby)
  · exact ⟨congrArg Host.Outcome.next (message_of_held .getStatus body hrun hholds hroom), congrArg Host.Outcome.next (message_of_held .setEid body hrun hholds hroom)⟩
  · exact answers_of_eq rfl rfl (doFirstOutput_of_empty hpromoted hgate)
  · exact answers_of_eq rfl (doResync_of_resync hrun hactive hfree true hresync) (standbyJoins_inStep s)
  · exact answers_of_eq rfl (doResync_of_resync hrun hactive hfree false hresync) (resyncFails_counts s)
  · obtain ⟨hstandby, hfails, -⟩ := standbyJoins_inStep s
    exact answers_of_eq rfl (doResyncRetry_of_failed hrun hactive hfree true hnone hlow hhigh) ⟨hstandby, hfails⟩
  · refine answers_of_eq rfl (doResyncRetry_of_failed hrun hactive hfree false hnone hlow hhigh) ?_
    have hthird : s.shk.fails = 2 ↔ 2 ≤ s.shk.fails := by omega
    rw [if_congr hthird rfl rfl]
    exact resyncFails_counts s
  · exact answers_of_eq rfl rfl (doCalRefresh_of_run hrun hactive hsole)
  · exact answers_of_eq rfl rfl (doReplace_of_run lanes hrun hactive hsole)
  · obtain ⟨regs, h⟩ := forceReplace_frame s
    refine answers_of_eq rfl (if_pos hphase) ?_
    rw [h]
    exact ⟨rfl, rfl, rfl⟩

end Sys2Proof.Claims
end

section
/-! A store that waits for an erase: the sector whose erase has ended is erased in the slot, before the next instruction waits (18 R823, R825). -/

namespace Sys2Proof.Machine.State

/-- A started package whose update engine erases the last sector of slot A, which holds a byte, while a store waits for the erase's end. -/
def storeAfterErase : State :=
  { State.reset with
    boot := { phase := .started }
    flash := { st := .erasing, sector := 383, session := some true, slotA := { bytes := [(383 * 65536, 0#8)] } }
    nor := { storeWaits := true } }

/-- R823: the byte is gone with its sector. -/
theorem slotA_storeAfterErase : storeAfterErase.doSectorDone.flash.slotA = {} := by decide +kernel

end Sys2Proof.Machine.State

namespace Sys2Proof.Claims
open Sys2Proof.Machine Sys2Proof.Machine.State

/-- Refutes O57: where a store waits, the engine stalls with the sector erased in its slot (`slotA_storeAfterErase`), so the flash does not stand as it was but for `stalled`. -/
theorem not_flashUpdates : ¬ Obligations.FlashUpdates := by
  intro h
  obtain ⟨-, -, -, hwaits, -⟩ := h storeAfterErase false [] .awl (by decide) rfl
  obtain ⟨t, hexec, hflash, -⟩ := hwaits rfl rfl rfl rfl
  have ht : storeAfterErase.doSectorDone = t := Host.Outcome.next.inj hexec
  have herased := slotA_storeAfterErase
  rw [ht, hflash] at herased
  exact absurd herased (by decide)

end Sys2Proof.Claims
end

section
/-! MCTP messages while a shank serves them: one answer for each request (18 R776-R794). -/

namespace Sys2Proof.Machine.State

/-! ### Transport (R779-R782, R788) -/

theorem running_of_serves {s : State} (h : s.mctpServes = true) : s.boot.phase ≠ .shankFailed ∧ s.shanksRun = true ∧ s.gateHolds = false := by
  obtain ⟨hrun, hopen⟩ := Bool.and_eq_true_iff.mp h
  exact ⟨fun hphase => by simp [shanksRun, hphase] at hrun, hrun, by simpa using hopen⟩

/-- With the input gate open a message is served. -/
theorem message_of_serves {s : State} (h : s.mctpServes = true) (k : MsgKind) (body : List Byte) : s.message k body = s.serve k body := by
  unfold message
  rw [if_neg (running_of_serves h).1, if_pos h]

theorem answers_stageEvent (s : State) (e : Event) : (s.stageEvent e).mgt.answers = s.mgt.answers := by
  unfold stageEvent
  split
  · rfl
  · dsimp only
    split <;> rfl

theorem answers_record (s : State) (code : Nat) (loc : Loc) (detail : Nat) : (s.record code loc detail).mgt.answers = s.mgt.answers := by
  rw [record, addNote_frame]
  exact (answers_stageEvent _ _).trans (by split <;> rfl)

theorem doSclTimeout_of_started {s : State} (hs : s.started = true) (hroom : s.mgt.staging.length < 64) :
    s.doSclTimeout = { s with mgt := { Claims.noted s 0x1201 {} 0 with assembling := false } } := by
  have hphase : s.boot.phase = .started := by simpa [started] using hs
  unfold doSclTimeout
  rw [hphase]
  exact record_of_started (s := { s with mgt := { s.mgt with assembling := false } }) {} 0 hs hroom (by decide)

section
variable {s : State} {a : Answer} {rest : List Answer} (h : s.mgt.answers = a :: rest)
include h

theorem doAnswer_of_sent : s.doAnswer false = { s with mgt := { s.mgt with answers := rest }, out := s.out ++ [.mctp a.status a.bytes] } := by
  unfold doAnswer
  rw [h]
  rfl

theorem doAnswer_of_lost (hlosses : a.losses < 7) (htime : s.clk.now < a.start + 100000000) :
    s.doAnswer true = { s with mgt := { s.mgt with answers := { a with losses := a.losses + 1 } :: rest } } := by
  unfold doAnswer
  rw [h]
  dsimp only
  rw [if_neg (by decide), if_neg (by omega)]

theorem doAnswer_of_eighth (hlosses : 7 ≤ a.losses) : (s.doAnswer true).mgt.answers = rest := by
  unfold doAnswer
  rw [h]
  dsimp only
  rw [if_neg (by decide), if_pos (.inl (by omega)), answers_record]

end

/-! ### Requests (R780-R791) -/

theorem doSetEid_of_set {s : State} {body : List Byte} (hop : msgField body 0 1 % 4 < 2) (hlow : 8 ≤ msgField body 1 1) (hhigh : msgField body 1 1 < 255) :
    s.doSetEid body = ({ s with mgt := { s.mgt with eid := msgField body 1 1 } }).answer 0 [0#8, BitVec.ofNat 8 (msgField body 1 1), 0#8] := by
  unfold doSetEid
  dsimp only
  rw [if_neg (by omega), if_neg (by omega)]

theorem doVersions_of_known {s : State} {body : List Byte} (h : msgField body 0 1 ∈ [0xFF, 0, 1, 0x7F]) :
    s.doVersions body = s.answer 0 (Config.mctpVersions (msgField body 0 1)) :=
  if_pos (by simpa using h)

theorem doPldmVersion_eq (s : State) (body : List Byte) :
    let v := msgField body 5 1
    s.doPldmVersion body = s.answer (if v = 0 ∨ v = 2 then 0 else 0x83) (if v = 0 ∨ v = 2 then toBytes 4 0 ++ [5#8] ++ Config.pldmVersions v else []) := by
  intro v
  by_cases h : v = 0 ∨ v = 2
  · rw [if_pos h, if_pos h]
    exact if_pos h
  · rw [if_neg h, if_neg h]
    exact if_neg h

theorem doPldmCommands_eq (s : State) (body : List Byte) :
    let v := msgField body 0 1
    s.doPldmCommands body = s.answer (if v = 0 ∨ v = 2 then 0 else 0x83)
      (if v = 0 then commandBits [2, 3, 4, 5] else if v = 2 then commandBits [0x11, 0x21, 0x50, 0x51] else []) := by
  unfold doPldmCommands
  dsimp only
  split
  · next h => rw [h]; rfl
  · next h => rw [h]; rfl
  · next h0 h2 => rw [if_neg (not_or.mpr ⟨h0, h2⟩), if_neg h0, if_neg h2]

/-- R785: with nothing before it, a CRITICAL message's command is checked at once. -/
theorem criticalMsg_of_first {s : State} {body : List Byte} (h : s.mctpServes = true) (hbusy : s.criticalBusy = false) (hlen : body.length = 192)
    (hq : s.cmd.queue = []) (hmark : s.cmd.marking = none) :
    s.criticalMsg body = s.checkCrit
      { src := .mctp, d := BitVec.ofNat 512 (msgField body 0 64), param := some (BitVec.ofNat 1024 (msgField body 64 128)), time := (s.clk.now, s.clk.sub) } := by
  obtain ⟨hphase, hrun, hgate⟩ := running_of_serves h
  unfold criticalMsg doCriticalMsg enterCrit
  rw [if_neg hphase, if_pos hrun, if_neg (by simp [hbusy]), if_neg (by simp [hlen]), if_neg (by simp [hgate]), hq]
  exact runChecks_of_one (activeHalted_of_open hgate) hmark hq

end Sys2Proof.Machine.State

namespace Sys2Proof.Claims
open Sys2Proof.Machine Sys2Proof.Machine.State

/-- Settles O54: an open gate serves each request (`message_of_serves`), and its rule answers it. -/
theorem mctpMessages : Obligations.MctpMessages := by
  intro s body hserves answers n
  obtain ⟨hphase, hrun, hgate⟩ := running_of_serves hserves
  have hserve {k : MsgKind} {t : State} (h : s.serve k body = t) : (Host.Outcome.next (s.message k body) : Res) = .next t :=
    congrArg Host.Outcome.next ((message_of_serves hserves k body).trans h)
  refine ⟨fun hs hroom => congrArg Host.Outcome.next (doSclTimeout_of_started hs hroom), rfl,
    fun a rest h => ⟨congrArg Host.Outcome.next (doAnswer_of_sent h), fun hlosses htime => congrArg Host.Outcome.next (doAnswer_of_lost h hlosses htime),
      fun hlosses => answers_of_eq rfl rfl (doAnswer_of_eighth h hlosses)⟩,
    fun hop hlow hhigh => answers_of_eq rfl ((message_of_serves hserves .setEid body).trans (doSetEid_of_set hop hlow hhigh)) ⟨rfl, rfl⟩,
    hserve (k := .getEid) rfl, hserve (k := .getUuid) rfl, fun h => hserve (k := .getVersions) (doVersions_of_known h), hserve (k := .getTypes) rfl,
    fun h => hserve (k := .getVendor) (if_pos h), hserve (k := .getStatus) rfl, fun hlen hlow hhigh => hserve (k := .regRead) (if_pos ⟨hlen, hlow, hhigh⟩),
    fun hlen hreg => hserve (k := .regWrite) ?_, fun hlen hreg => hserve (k := .regWrite) ?_,
    fun hlen hlow hhigh => hserve (k := .evtRead) (if_pos ⟨hlen, hlow, hhigh⟩), fun hbusy => congrArg Host.Outcome.next ?_,
    fun hbusy hlen _ hq hmark => congrArg Host.Outcome.next (criticalMsg_of_first hserves hbusy hlen hq hmark),
    hserve (k := .getTid) rfl, hserve (k := .pldmVersion) (doPldmVersion_eq s body), hserve (k := .pldmTypes) rfl,
    hserve (k := .pldmCommands) (doPldmCommands_eq s body), hserve (k := .pdrInfo) rfl, hserve (k := .pdr) rfl⟩
  · unfold serve doRegWrite
    dsimp only
    rw [if_neg (by simp [hlen]), if_neg (by simp [hreg])]
  · unfold serve doRegWrite
    dsimp only
    rw [if_neg (by simp [hlen]), if_pos hreg]
  · unfold criticalMsg doCriticalMsg
    rw [if_neg hphase, if_pos hrun, if_pos hbusy]
    rfl

end Sys2Proof.Claims
end

section
/-! Sensors and temperatures: what a sensor answers, what a refresh reads and what a trip does (18 R789-R794; 21 R890, R891). -/

namespace Sys2Proof.Machine.State

/-! ### Readings of a sensor (R790, R791) -/

theorem doSensorReading_eq (s : State) (body : List Byte) :
    let k := msgField body 0 2
    s.doSensorReading body = s.answer (if k = 0 ∨ 37 < k ∨ stateSensor k = true then 0x80 else 0)
      (if k = 0 ∨ 37 < k ∨ stateSensor k = true then []
        else if s.sensorUp k = true then [0#8] ++ toBytes 4 (BitVec.ofInt 32 (s.mgt.sensors.get 0 k)).toNat else [2#8]) := by
  intro k
  by_cases hk : k = 0 ∨ 37 < k ∨ stateSensor k = true
  · rw [if_pos hk, if_pos hk]
    exact if_pos hk
  · rw [if_neg hk, if_neg hk]
    refine (if_neg hk).trans ?_
    by_cases hup : s.sensorUp k = true
    · exact (if_pos hup).trans (congrArg (s.answer 0) (if_pos hup).symm)
    · exact (if_neg hup).trans (congrArg (s.answer 0) (if_neg hup).symm)

theorem doStateReading_eq (s : State) (body : List Byte) :
    let k := msgField body 0 2
    s.doStateReading body = s.answer (if stateSensor k = true then 0 else 0x80)
      (if stateSensor k = true then [0#8, BitVec.ofInt 8 (s.mgt.sensors.get 0 k)] else []) := by
  intro k
  by_cases hk : stateSensor k = true
  · rw [if_pos hk, if_pos hk]
    exact if_pos hk
  · rw [if_neg hk, if_neg hk]
    exact if_neg hk

/-- A refresh gives every sensor its reading of the moment, and changes nothing else. -/
theorem doSensors_of_run {s : State} (watts : Nat) (hrun : s.shanksRun = true) :
    s.doSensors watts = { s with mgt := { s.mgt with sensors := (s.doSensors watts).mgt.sensors } } ∧
      ∀ i < 37, (s.doSensors watts).mgt.sensors.get 0 (i + 1) = s.sensorNow watts (i + 1) := by
  have hread := (foldl_range_each (f := fun (t : Tbl Int) i => t.set 0 (i + 1) (s.sensorNow watts (i + 1))) (fun t i => t.get 0 (i + 1)) (fun _ => True)
    (fun i x => x = s.sensorNow watts (i + 1)) (b := s.mgt.sensors) (n := 37) trivial fun a _ i _ _ =>
      ⟨trivial, Tbl.get_set_same _ _ _ _, fun j hj => Tbl.get_set_other _ _ _ (fun h => hj (Nat.succ.inj h)) _⟩).2
  unfold doSensors
  rw [if_pos hrun]
  exact ⟨rfl, hread⟩

/-! ### Trips (21 R891) -/

/-- The abort of an epoch that runs too hot. -/
def thermalAbort (s : State) : Abort := { epoch := s.clk.epoch, code := 0x1101, start := s.clk.now, thermal := true }

/-- The temperatures as last read. -/
def temps (s : State) : Tbl Int × Tbl Int × Tbl Int := (s.mgt.dieTemps, s.mgt.yzTemps, s.mgt.stackTemps)

/-- `t` is `s` with its epoch aborted by a trip and events added. -/
def Tripped (s t : State) : Prop :=
  t = { s with abort := some s.thermalAbort, mgt := t.mgt, regs := t.regs } ∧ t.temps = s.temps

theorem temps_stageEvent (s : State) (e : Event) : (s.stageEvent e).temps = s.temps := by
  unfold stageEvent
  split
  · rfl
  · dsimp only
    split <;> rfl

theorem record_trip {s : State} (hs : s.started = true) (loc : Loc) :
    s.record 0x1101 loc = s.stageEvent ⟨s.clk.now, s.clk.sub, s.clk.epoch, 0x1101, loc, 0⟩ := by
  have hphase : s.boot.phase = .started := by simpa [started] using hs
  exact record_of_outside loc 0 (fun n => by simp [hphase]) (by decide)

/-- The first trip aborts the epoch. -/
theorem tripped_abortWith {s : State} (hs : s.started = true) (habort : s.abort = none) (hpause : s.clk.pauseFrom = none) (loc : Loc) :
    Tripped s (s.abortWith 0x1101 loc) := by
  rw [abortWith, record_trip hs]
  have htemps := temps_stageEvent s ⟨s.clk.now, s.clk.sub, s.clk.epoch, 0x1101, loc, 0⟩
  rw [stageEvent_frame] at htemps ⊢
  rw [trigger_of_running _ (by exact hs) (by exact habort) (by exact hpause)]
  exact ⟨rfl, htemps⟩

/-- A later trip of the same reading adds its event. -/
theorem Tripped.abortWith {s t : State} (h : Tripped s t) (hs : s.started = true) (loc : Loc) : Tripped s (t.abortWith 0x1101 loc) := by
  obtain ⟨hframe, htemps⟩ := h
  have ht : t.started = true := by rw [hframe]; exact hs
  have habort : t.abort = some s.thermalAbort := by rw [hframe]
  rw [State.abortWith, record_trip ht]
  have htemps' := (temps_stageEvent t ⟨t.clk.now, t.clk.sub, t.clk.epoch, 0x1101, loc, 0⟩).trans htemps
  have hevent := stageEvent_frame t ⟨t.clk.now, t.clk.sub, t.clk.epoch, 0x1101, loc, 0⟩
  generalize t.stageEvent ⟨t.clk.now, t.clk.sub, t.clk.epoch, 0x1101, loc, 0⟩ = u at htemps' hevent ⊢
  have htrigger : u.trigger 0x1101 = { u with abort := some s.thermalAbort } := by
    have hu : u.started = true := by rw [hevent]; exact ht
    have huabort : u.abort = some s.thermalAbort := by rw [hevent]; exact habort
    unfold trigger
    rw [if_neg (by simp [hu]), huabort]
    rfl
  rw [htrigger]
  refine ⟨?_, htemps'⟩
  rw [hevent, hframe]

theorem tripped_foldl {s : State} (hs : s.started = true) (habort : s.abort = none) (hpause : s.clk.pauseFrom = none) {l : List Nat} (hl : l ≠ []) :
    Tripped s (l.foldl (fun (s : State) n => s.abortWith 0x1101 (dieLoc n)) s) := by
  obtain ⟨n, rest, rfl⟩ := List.exists_cons_of_ne_nil hl
  have hrest : ∀ (rest : List Nat) (t : State), Tripped s t → Tripped s (rest.foldl (fun (s : State) n => s.abortWith 0x1101 (dieLoc n)) t) := by
    intro rest
    induction rest with
    | nil => exact fun t h => h
    | cons n rest ih => exact fun t h => ih _ (h.abortWith hs _)
  exact hrest rest _ (tripped_abortWith hs habort hpause _)

/-- The state with the readings taken. -/
def withTemps (s : State) (dies chips hbms : List Int) : State :=
  { s with mgt := { s.mgt with
    dieTemps := readings s.mgt.dieTemps dies 4, yzTemps := readings s.mgt.yzTemps chips 4, stackTemps := readings s.mgt.stackTemps hbms 8 } }

/-- The dies whose trips a reading records. -/
def trips (s : State) (dies chips hbms : List Int) : List Nat :=
  tripped dieTrip s.mgt.dieTemps (dies.take 4) ++ tripped dieTrip s.mgt.yzTemps (chips.take 4) ++
    (tripped stackTrip s.mgt.stackTemps (hbms.take 8)).map (fun k => k / 2)

theorem doTemperature_eq (s : State) (dies chips hbms : List Int) : s.doTemperature dies chips hbms =
    if s.boot.phase = .heldReset then s.withTemps dies chips hbms
    else (s.trips dies chips hbms).foldl (fun (s : State) n => s.abortWith 0x1101 (dieLoc n)) (s.withTemps dies chips hbms) := rfl

end Sys2Proof.Machine.State

namespace Sys2Proof.Claims
open Sys2Proof.Machine Sys2Proof.Machine.State

/-- Settles O55: sensors by what they answer, a refresh by its 37 readings, and a trip by the first abort of its fold (`tripped_foldl`). -/
theorem pldmAndSensors : Obligations.PldmAndSensors := by
  intro s body watts dies chips hbms answers k m past
  have hpast : past = [] ↔ s.trips dies chips hbms = [] := by simp [past, trips]
  refine ⟨fun hserves => ⟨?_, ?_⟩, fun hrun => ?_, fun hcool => congrArg Host.Outcome.next ?_, fun htrip hs habort hpause => ?_,
    fun n hdie hchips hhbms hs habort hpause hroom => congrArg Host.Outcome.next ?_⟩
  · exact congrArg Host.Outcome.next ((message_of_serves hserves .sensorReading body).trans (doSensorReading_eq s body))
  · exact congrArg Host.Outcome.next ((message_of_serves hserves .stateReading body).trans (doStateReading_eq s body))
  · obtain ⟨hframe, hread⟩ := doSensors_of_run watts hrun
    refine answers_of_eq rfl rfl ⟨hframe, fun n hn => ?_, fun h hh => ?_, hread 8 (by decide), hread 9 (by decide), hread 10 (by decide),
      hread 11 (by decide), hread 36 (by decide)⟩
    · refine ⟨(hread n (by omega)).trans ?_, (hread (n + 4) (by omega)).trans ?_, (hread (n + 12) (by omega)).trans ?_, (hread (n + 16) (by omega)).trans ?_,
        (hread (n + 20) (by omega)).trans ?_, (hread (n + 24) (by omega)).trans ?_⟩ <;>
      interval_cases n <;> rfl
    · refine (hread (h + 28) (by omega)).trans ?_
      interval_cases h <;> rfl
  · rw [doTemperature_eq]
    rcases hcool with hcool | hheld
    · rw [hpast.mp hcool]
      exact ite_self _
    · exact if_pos hheld
  · have hphase : s.boot.phase = .started := by simpa [started] using hs
    have hfold := (doTemperature_eq s dies chips hbms).trans (if_neg (by simp [hphase]))
    obtain ⟨hframe, htemps⟩ := tripped_foldl (s := s.withTemps dies chips hbms) hs habort hpause (fun h => htrip (hpast.mpr h))
    refine answers_of_eq rfl hfold ⟨hframe, congrArg Prod.fst htemps, congrArg (fun t => t.2.1) htemps, congrArg (fun t => t.2.2) htemps⟩
  · have hphase : s.boot.phase = .started := by simpa [started] using hs
    have hone : s.trips dies chips hbms = [n] := by
      rw [trips, hdie, hchips, hhbms]
      rfl
    rw [doTemperature_eq, if_neg (by simp [hphase]), hone]
    exact abortWith_of_running (s := s.withTemps dies chips hbms) (dieLoc n) 0 hs hroom (by decide) habort hpause

end Sys2Proof.Claims
end

section
/-! Register writes of the PF through port A, field by field (20 R844-R853, R908). -/

namespace Sys2Proof.Machine.State

/-! ### A write that reaches a register -/

/-- A write leaves the words that it changed marked, unless part of it was dropped (R848). -/
def ended (w : Wr) (src : Src) (off size : Nat) : State :=
  (endWrite (if w.drop then w else { w with s := w.s.markWrite src off size }) off).1

theorem doWrite_of_pf {s : State} (hreach : s.regReach .portA 0 = true) (off size v : Nat) :
    s.doWrite .portA 0 off size v = (s.writeReg .portA 0 none off size v).1 := by
  unfold doWrite
  rw [if_neg (by simp [hreach]), if_pos rfl]

section
variable {s : State} (hs : s.started = true) (hreach : s.regReach .portA 0 = true)
include hreach

/-- A write of an access size that R844 does not allow is dropped and counted. -/
theorem doWrite_of_misfit {off size : Nat} (v : Nat) (hnamed : named off size = true) (hfits : fits off size = false) :
    s.doWrite .portA 0 off size v = s.hifDrop := by
  rw [doWrite_of_pf hreach]
  unfold writeReg
  dsimp only
  rw [if_neg (by simp [hnamed]), if_pos (by simp [hfits])]

include hs in
/-- A write outside the rings and the chiplets reaches its register, unless a later source has overtaken it. -/
theorem doWrite_of_reg {off start width : Nat} (v : Nat) (hnamed : named off 4 = true) (hfits : fits off 4 = true) (hreg : regAt off = some (start, width))
    (hwidth : width ≠ 0) (hring : ¬ (hifBase + 0x10000 ≤ off ∧ off < hifBase + 0x50000)) (hlocal : ¬ (0x800000 ≤ off ∧ off < fabBase)) :
    s.doWrite .portA 0 off 4 v =
      if s.overtakenWrite .portA off then s else ended (putReg { s := s } .portA none start off 4 v) .portA off 4 := by
  have hplain : s.localWrite off 4 v = s := by
    unfold localWrite
    dsimp only
    refine if_neg ?_
    rintro ⟨hlow, hhigh, -⟩
    exact hlocal ⟨hlow, hhigh⟩
  have hforeign : s.ringForeign 0 off = false := Bool.and_eq_false_imp.mpr fun h => absurd (of_decide_eq_true h) hring
  rw [doWrite_of_pf hreach]
  unfold writeReg
  dsimp only
  rw [if_neg (by simp [hnamed]), if_neg (by simp [hfits, hforeign, blockAnswers_of_started hs off]), hreg]
  dsimp only
  rw [hplain, if_neg hwidth]
  split
  · rfl
  · rfl

end

/-! ### The words of these writes -/

theorem putRwe_of_early {w : Wr} {off : Nat} {mask v : Word} {e : Nat} (harm : w.s.wouldArm off mask v = true) (hearly : w.s.latchedEpoch < e) :
    putRwe w off mask v e = { w with s := w.s.arm off mask v e } := by
  rw [putRwe, if_neg (by simp [harm]), if_neg (Nat.not_le.mpr hearly)]

theorem putRwe_of_late {w : Wr} {off : Nat} {mask v : Word} {e : Nat} (harm : w.s.wouldArm off mask v = true) (hlate : e ≤ w.s.latchedEpoch) :
    putRwe w off mask v e = refuseW w 0x0220 := by
  rw [putRwe, if_neg (by simp [harm]), if_pos hlate]

theorem putReg_ctl (w : Wr) (v : Nat) : putReg w .portA none hifBase hifBase 4 v = putRw w hifBase 0xFF01#32 (BitVec.ofNat 32 v) := rfl

theorem putReg_readOnly (w : Wr) (v : Nat) : putReg w .portA none 0x8 0x8 4 v = w := rfl

theorem putReg_latch (w : Wr) (v : Nat) :
    putReg w .portA none (mgtBase + 0x10104) (mgtBase + 0x10104) 4 v = putW1c w (mgtBase + 0x10104) 0x7F#32 (BitVec.ofNat 32 v) := rfl

theorem putReg_mask (w : Wr) (v : Nat) : putReg w .portA none (mgtBase + 0x10108) (mgtBase + 0x10108) 4 v =
    putRwe w (mgtBase + 0x10108) 0x7F#32 (BitVec.ofNat 32 v) (w.s.banks.get {} (bankOf .portA)).pendEpoch := rfl

end Sys2Proof.Machine.State

namespace Sys2Proof.Claims
open Sys2Proof.Machine Sys2Proof.Machine.State

/-- Settles O59: each write reaches its register (`doWrite_of_reg`), whose word says what its access code does. -/
theorem registerWrites : Obligations.RegisterWrites := by
  intro s v hs hreach w o done
  have hctl := doWrite_of_reg hs hreach (off := hifBase) v.toNat (by decide) (by decide) (rfl : _ = some (hifBase, 4)) (by decide) (by decide) (by decide)
  have hlatch := doWrite_of_reg hs hreach (off := mgtBase + 0x10104) v.toNat (by decide) (by decide) (rfl : _ = some (mgtBase + 0x10104, 4)) (by decide)
    (by decide) (by decide)
  have hmask := doWrite_of_reg hs hreach (off := mgtBase + 0x10108) v.toNat (by decide) (by decide) (rfl : _ = some (mgtBase + 0x10108, 4)) (by decide)
    (by decide) (by decide)
  have hread := doWrite_of_reg hs hreach (off := 0x8) v.toNat (by decide) (by decide) (rfl : _ = some (0x8, 8)) (by decide) (by decide) (by decide)
  refine ⟨fun hover => congrArg Host.Outcome.next ?_, fun hover => congrArg Host.Outcome.next ?_, congrArg Host.Outcome.next ?_,
    fun hover harm => ⟨fun hlate => congrArg Host.Outcome.next ?_, fun hlate => congrArg Host.Outcome.next ?_⟩,
    fun hover => congrArg Host.Outcome.next ?_, congrArg Host.Outcome.next (doWrite_of_misfit hreach v.toNat (by decide) (by decide))⟩
  · refine hctl.trans ((if_neg (ne_true_of_eq_false hover)).trans ?_)
    rw [putReg_ctl]
    rfl
  · exact hctl.trans (if_pos hover)
  · refine hlatch.trans ((if_neg Bool.false_ne_true).trans ?_)
    rw [putReg_latch]
    rfl
  · refine hmask.trans ((if_neg (ne_true_of_eq_false hover)).trans ?_)
    rw [putReg_mask, putRwe_of_early harm hlate]
    rfl
  · refine hmask.trans ((if_neg (ne_true_of_eq_false hover)).trans ?_)
    rw [putReg_mask, putRwe_of_late harm hlate]
    rfl
  · refine hread.trans ((if_neg (ne_true_of_eq_false hover)).trans ?_)
    rw [putReg_readOnly]
    rfl

end Sys2Proof.Claims
end

section
/-! Resuming a halted pair: what waited for it goes on, and nothing of that touches the table of halted pairs (18 R807-R813). Each function that a resume can reach is stated once, in the order of the model. -/

namespace Sys2Proof.Machine.State

@[simp] theorem awlHalt_ite {c : Prop} [Decidable c] (s t : State) : (if c then s else t).shk.awlHalt = if c then s.shk.awlHalt else t.shk.awlHalt :=
  apply_ite (fun s : State => s.shk.awlHalt) c s t

@[simp] theorem awlHalt_iteWr {c : Prop} [Decidable c] (w x : Wr) :
    (if c then w else x).s.shk.awlHalt = if c then w.s.shk.awlHalt else x.s.shk.awlHalt :=
  apply_ite (fun w : Wr => w.s.shk.awlHalt) c w x

theorem awlHalt_foldl {α : Type} {f : State → α → State} (h : ∀ s a, (f s a).shk.awlHalt = s.shk.awlHalt) (l : List α) (s : State) :
    (l.foldl f s).shk.awlHalt = s.shk.awlHalt := by
  induction l generalizing s with
  | nil => rfl
  | cons a l ih => rw [List.foldl_cons, ih, h]

theorem awlHalt_foldlWr {α : Type} {f : Wr → α → Wr} (h : ∀ w a, (f w a).s.shk.awlHalt = w.s.shk.awlHalt) (l : List α) (w : Wr) :
    (l.foldl f w).s.shk.awlHalt = w.s.shk.awlHalt := by
  induction l generalizing w with
  | nil => rfl
  | cons a l ih => rw [List.foldl_cons, ih, h]

/-! ### Records, registers and memory -/

@[simp] theorem awlHalt_lockHalts (s : State) (n d : Nat) : (s.lockHalts n d).shk.awlHalt = s.shk.awlHalt := rfl

@[simp] theorem awlHalt_addNote (s : State) : s.addNote.shk.awlHalt = s.shk.awlHalt := by
  unfold addNote
  split <;> rfl

@[simp] theorem awlHalt_stageEvent (s : State) (e : Event) : (s.stageEvent e).shk.awlHalt = s.shk.awlHalt := by
  rw [stageEvent_frame]

@[simp] theorem awlHalt_recordFatal (s : State) (code : Nat) (loc : Loc) (detail : Nat) :
    (s.recordFatal code loc detail).shk.awlHalt = s.shk.awlHalt := by
  unfold recordFatal
  split <;> simp

@[simp] theorem awlHalt_record (s : State) (code : Nat) (loc : Loc) (detail : Nat) : (s.record code loc detail).shk.awlHalt = s.shk.awlHalt := by
  rw [record_frame]

@[simp] theorem awlHalt_bumpBy (s : State) (off k : Nat) : (s.bumpBy off k).shk.awlHalt = s.shk.awlHalt := by
  unfold bumpBy
  dsimp only
  split <;> simp

@[simp] theorem awlHalt_bump (s : State) (off : Nat) : (s.bump off).shk.awlHalt = s.shk.awlHalt := by
  rw [bump_frame]

@[simp] theorem awlHalt_queueOwn (s : State) (a : Nat) (bs : List Byte) : (s.queueOwn a bs).shk.awlHalt = s.shk.awlHalt := by
  rw [queueOwn_frame]

@[simp] theorem awlHalt_pokeOwn (s : State) (a : Nat) (bs : List Byte) : (s.pokeOwn a bs).shk.awlHalt = s.shk.awlHalt := by
  unfold pokeOwn
  (repeat' split) <;> simp

@[simp] theorem awlHalt_pokeEntry (s : State) (a : Nat) (bs : List Byte) : (s.pokeEntry a bs).shk.awlHalt = s.shk.awlHalt := by
  simp [pokeEntry]

/-! ### The journal -/

@[simp] theorem awlHalt_commitEntry (s : State) (e : JEnt) : (s.commitEntry e).shk.awlHalt = s.shk.awlHalt := by
  unfold commitEntry
  dsimp only
  (repeat' split) <;> simp

@[simp] theorem awlHalt_flushJournal (s : State) : s.flushJournal.shk.awlHalt = s.shk.awlHalt :=
  awlHalt_foldl awlHalt_commitEntry _ _

/-! ### Rings, answers and critical commands (14 R640-R643) -/

@[simp] theorem awlHalt_holdInput (s : State) (g : GateIn) : (s.holdInput g).shk.awlHalt = s.shk.awlHalt := rfl
@[simp] theorem awlHalt_addDue (s : State) (cq : Nat) (d : Due) : (s.addDue cq d).shk.awlHalt = s.shk.awlHalt := rfl

@[simp] theorem awlHalt_complete (s : State) (sq cid cq opc status tag info : Nat) :
    (s.complete sq cid cq opc status tag info).shk.awlHalt = s.shk.awlHalt := rfl
@[simp] theorem awlHalt_answer (s : State) (status : Nat) (bytes : List Byte) : (s.answer status bytes).shk.awlHalt = s.shk.awlHalt := rfl

@[simp] theorem awlHalt_replyCrit (s : State) (c : Crit) (status : Nat) : (s.replyCrit c status).shk.awlHalt = s.shk.awlHalt := by
  unfold replyCrit
  (repeat' split) <;> simp

@[simp] theorem awlHalt_journal (s : State) (e : JEnt) : (s.journal e).shk.awlHalt = s.shk.awlHalt := by
  unfold journal
  split <;> simp

@[simp] theorem awlHalt_journalCheck (s : State) (c : Crit) (status : Nat) : (s.journalCheck c status).shk.awlHalt = s.shk.awlHalt := by
  unfold journalCheck
  split <;> simp

@[simp] theorem awlHalt_refuseCrit (s : State) (c : Crit) (code : Nat) : (s.refuseCrit c code).shk.awlHalt = s.shk.awlHalt := by
  simp [refuseCrit]

@[simp] theorem awlHalt_macFailed (s : State) (k : Nat) : (s.macFailed k).shk.awlHalt = s.shk.awlHalt := by
  simp [macFailed]

@[simp] theorem awlHalt_tellWait (s : State) : s.tellWait.shk.awlHalt = s.shk.awlHalt := by
  unfold tellWait
  split <;> simp

@[simp] theorem awlHalt_beginStore (s : State) : s.beginStore.shk.awlHalt = s.shk.awlHalt := by
  simp [beginStore]

@[simp] theorem awlHalt_endWork (s : State) (status arg0 : Nat) : (s.endWork status arg0).shk.awlHalt = s.shk.awlHalt := by
  unfold endWork
  split <;> simp

@[simp] theorem awlHalt_nameLeaving (s : State) (all : Bool) (target : Option Nat) (x except : Nat) :
    (s.nameLeaving all target x except).shk.awlHalt = s.shk.awlHalt := rfl

@[simp] theorem awlHalt_workUnload (s : State) (c : Crit) : (s.workUnload c).shk.awlHalt = s.shk.awlHalt := by
  unfold workUnload
  dsimp only
  split <;> simp

@[simp] theorem awlHalt_burnTables (s : State) (y v : Nat) : (s.burnTables y v).shk.awlHalt = s.shk.awlHalt := rfl

@[simp] theorem awlHalt_workFuse (s : State) (c : Crit) : (s.workFuse c).shk.awlHalt = s.shk.awlHalt := by
  simp [workFuse]

@[simp] theorem awlHalt_beginWork (s : State) (c : Crit) : (s.beginWork c).shk.awlHalt = s.shk.awlHalt := by
  unfold beginWork
  dsimp only
  (repeat' split) <;> simp

@[simp] theorem awlHalt_startWork (s : State) : s.startWork.shk.awlHalt = s.shk.awlHalt := by
  unfold startWork
  split <;> simp

@[simp] theorem awlHalt_acceptCrit (s : State) (c : Crit) : (s.acceptCrit c).shk.awlHalt = s.shk.awlHalt := by
  unfold acceptCrit
  dsimp only
  (repeat' split) <;> simp

@[simp] theorem awlHalt_checkCrit (s : State) (c : Crit) : (s.checkCrit c).shk.awlHalt = s.shk.awlHalt := by
  simp [checkCrit]

theorem awlHalt_runQueue (n : Nat) (s : State) : (runQueue n s).shk.awlHalt = s.shk.awlHalt := by
  induction n generalizing s with
  | zero => rfl
  | succ n ih =>
    unfold runQueue
    split
    · exact (ih _).trans (awlHalt_checkCrit _ _)
    · rfl

@[simp] theorem awlHalt_runChecks (s : State) : s.runChecks.shk.awlHalt = s.shk.awlHalt := by
  unfold runChecks
  split
  · rfl
  · exact awlHalt_runQueue _ _

@[simp] theorem awlHalt_enterCrit (s : State) (c : Crit) : (s.enterCrit c).shk.awlHalt = s.shk.awlHalt := by
  unfold enterCrit
  split <;> simp

@[simp] theorem awlHalt_acceptMsLoad (s : State) (m : MsPend) : (s.acceptMsLoad m).shk.awlHalt = s.shk.awlHalt := by
  simp [acceptMsLoad]

@[simp] theorem awlHalt_endCommand (s : State) (q : Nat) : (s.endCommand q).shk.awlHalt = s.shk.awlHalt := rfl

@[simp] theorem awlHalt_acceptSynSet (s : State) (sq cid cq k v : Nat) (quiet : Bool) :
    (s.acceptSynSet sq cid cq k v quiet).shk.awlHalt = s.shk.awlHalt := by
  unfold acceptSynSet
  split <;> simp

/-! ### Messages (18 R780-R785) -/

@[simp] theorem awlHalt_doSetEid (s : State) (b : List Byte) : (s.doSetEid b).shk.awlHalt = s.shk.awlHalt := by
  simp [doSetEid]

@[simp] theorem awlHalt_doVersions (s : State) (b : List Byte) : (s.doVersions b).shk.awlHalt = s.shk.awlHalt := by
  unfold doVersions
  dsimp only
  split <;> rfl

@[simp] theorem awlHalt_doVendorSupport (s : State) (b : List Byte) : (s.doVendorSupport b).shk.awlHalt = s.shk.awlHalt := by
  unfold doVendorSupport
  split <;> rfl

@[simp] theorem awlHalt_doGetStatus (s : State) : s.doGetStatus.shk.awlHalt = s.shk.awlHalt := rfl

@[simp] theorem awlHalt_doRegRead (s : State) (b : List Byte) : (s.doRegRead b).shk.awlHalt = s.shk.awlHalt := by
  unfold doRegRead
  dsimp only
  split <;> rfl

@[simp] theorem awlHalt_hifDrop (s : State) : s.hifDrop.shk.awlHalt = s.shk.awlHalt := by
  simp [hifDrop]

/-! ### Register writes (20 R844-R857) -/

@[simp] theorem awlHalt_addLocal (s : State) (y : Nat) (toYz : Bool) (off data : Nat) :
    (s.addLocal y toYz off data).shk.awlHalt = s.shk.awlHalt := rfl

@[simp] theorem awlHalt_localWrite (s : State) (off size v : Nat) : (s.localWrite off size v).shk.awlHalt = s.shk.awlHalt := by
  simp [localWrite]

@[simp] theorem awlHalt_setBank (s : State) (src : Src) (f : Bank → Bank) : (s.setBank src f).shk.awlHalt = s.shk.awlHalt := rfl
@[simp] theorem awlHalt_dropW (w : Wr) : (dropW w).s.shk.awlHalt = w.s.shk.awlHalt := rfl

@[simp] theorem awlHalt_putJnlAck (w : Wr) (v : Nat) : (putJnlAck w v).s.shk.awlHalt = w.s.shk.awlHalt := by
  simp [putJnlAck]

@[simp] theorem awlHalt_putEvtAck (w : Wr) (v : Nat) : (putEvtAck w v).s.shk.awlHalt = w.s.shk.awlHalt := by
  simp [putEvtAck]

@[simp] theorem awlHalt_refuseW (w : Wr) (code : Nat) : (refuseW w code).s.shk.awlHalt = w.s.shk.awlHalt := rfl

@[simp] theorem awlHalt_putBase (w : Wr) (n full e : Nat) : (putBase w n full e).s.shk.awlHalt = w.s.shk.awlHalt := by
  unfold putBase
  dsimp only
  split_ifs <;> simp

@[simp] theorem awlHalt_arm (s : State) (off : Nat) (mask v : Word) (epoch : Nat) (owner : Option Nat) :
    (s.arm off mask v epoch owner).shk.awlHalt = s.shk.awlHalt := by
  unfold arm
  dsimp only
  (repeat' split) <;> simp

@[simp] theorem awlHalt_putRwe (w : Wr) (off : Nat) (mask v : Word) (e : Nat) : (putRwe w off mask v e).s.shk.awlHalt = w.s.shk.awlHalt := by
  simp [putRwe]

@[simp] theorem awlHalt_putTiming (w : Wr) (full e : Nat) : (putTiming w full e).s.shk.awlHalt = w.s.shk.awlHalt := by
  simp [putTiming]

@[simp] theorem awlHalt_requestWarm (s : State) : s.requestWarm.shk.awlHalt = s.shk.awlHalt := by
  unfold requestWarm
  split <;> simp

@[simp] theorem awlHalt_doPkgReset (s : State) (src : Src) (fn : Nat) (v : Word) : (s.doPkgReset src fn v).shk.awlHalt = s.shk.awlHalt := by
  simp [doPkgReset]

@[simp] theorem awlHalt_putRw (w : Wr) (off : Nat) (mask v : Word) : (putRw w off mask v).s.shk.awlHalt = w.s.shk.awlHalt := rfl

@[simp] theorem awlHalt_putIf (w : Wr) (off : Nat) (mask v : Word) (ok : Bool) : (putIf w off mask v ok).s.shk.awlHalt = w.s.shk.awlHalt := by
  simp [putIf]

@[simp] theorem awlHalt_putWindow (w : Wr) (off : Nat) (v : Word) : (putWindow w off v).s.shk.awlHalt = w.s.shk.awlHalt := by
  simp [putWindow]

@[simp] theorem awlHalt_putLog (w : Wr) (off : Nat) (mask v : Word) (lo : Nat) (ok : Bool) :
    (putLog w off mask v lo ok).s.shk.awlHalt = w.s.shk.awlHalt := by
  simp [putLog]

@[simp] theorem awlHalt_msix (s : State) (fn v : Nat) : (s.msix fn v).shk.awlHalt = s.shk.awlHalt := by
  unfold msix
  dsimp only
  split <;> rfl

@[simp] theorem awlHalt_interrupt (s : State) (q : Nat) : (s.interrupt q).shk.awlHalt = s.shk.awlHalt := by
  simp [interrupt]

@[simp] theorem awlHalt_tryInterrupt (s : State) (q : Nat) : (s.tryInterrupt q).shk.awlHalt = s.shk.awlHalt := by
  unfold tryInterrupt
  split <;> simp

@[simp] theorem awlHalt_putRing (w : Wr) (q o : Nat) (v : Word) (e : Nat) : (putRing w q o v e).s.shk.awlHalt = w.s.shk.awlHalt := by
  unfold putRing
  split <;> simp

@[simp] theorem awlHalt_doMsixUnmask (s : State) (fn v : Nat) : (s.doMsixUnmask fn v).shk.awlHalt = s.shk.awlHalt := by
  simp [doMsixUnmask]

@[simp] theorem awlHalt_putMsix (w : Wr) (off fn vector k : Nat) (v : Word) : (putMsix w off fn vector k v).s.shk.awlHalt = w.s.shk.awlHalt := by
  simp [putMsix]

@[simp] theorem awlHalt_putPool (w : Wr) (n : Nat) (v : Word) (e : Nat) : (putPool w n v e).s.shk.awlHalt = w.s.shk.awlHalt := by
  simp [putPool]

@[simp] theorem awlHalt_putOwned (w : Wr) (off : Nat) (mask v : Word) (claimed : Bool) :
    (putOwned w off mask v claimed).s.shk.awlHalt = w.s.shk.awlHalt := by
  simp [putOwned]

@[simp] theorem awlHalt_clearBits (s : State) (off : Nat) (m : Word) : (s.clearBits off m).shk.awlHalt = s.shk.awlHalt := rfl
@[simp] theorem awlHalt_putW1c (w : Wr) (off : Nat) (mask v : Word) : (putW1c w off mask v).s.shk.awlHalt = w.s.shk.awlHalt := rfl

/-! ### The boot record and the bridge tests -/

@[simp] theorem awlHalt_programRec (s : State) (w : RecWrite) : (s.programRec w).shk.awlHalt = s.shk.awlHalt := by
  unfold programRec
  split <;> rfl

@[simp] theorem awlHalt_writeRec (s : State) (w : RecWrite) : (s.writeRec w).shk.awlHalt = s.shk.awlHalt := by
  unfold writeRec
  split <;> simp

@[simp] theorem awlHalt_storeBoot (s : State) (r : BootRec) : (s.storeBoot r).shk.awlHalt = s.shk.awlHalt := by
  unfold storeBoot
  split <;> simp

@[simp] theorem awlHalt_retryDue (s : State) : s.retryDue.shk.awlHalt = s.shk.awlHalt := by
  unfold retryDue
  split <;> simp

@[simp] theorem awlHalt_testMode (s : State) (b : Nat) (w : Word) : (s.testMode b w).shk.awlHalt = s.shk.awlHalt := by
  unfold testMode
  split <;> rfl

@[simp] theorem awlHalt_testStart (s : State) (b : Nat) : (s.testStart b).shk.awlHalt = s.shk.awlHalt := by
  unfold testStart
  split <;> rfl

@[simp] theorem awlHalt_testHalt (s : State) (b : Nat) : (s.testHalt b).shk.awlHalt = s.shk.awlHalt := rfl

@[simp] theorem awlHalt_putTest (w : Wr) (src : Src) (off : Nat) (v : Word) : (putTest w src off v).s.shk.awlHalt = w.s.shk.awlHalt := by
  unfold putTest
  extract_lets b runs go keep s1 s2
  have htest : s2.shk.awlHalt = w.s.shk.awlHalt := by
    have hmode : s1.shk.awlHalt = w.s.shk.awlHalt := awlHalt_testMode _ _ _
    unfold s2
    split
    · exact (awlHalt_testStart _ _).trans hmode
    · split
      · exact (awlHalt_testHalt _ _).trans hmode
      · exact hmode
  split
  · rfl
  · split
    · exact htest
    · exact awlHalt_putIf _ _ _ _ _

@[simp] theorem awlHalt_putFab (w : Wr) (off : Nat) (v : Word) (e : Nat) : (putFab w off v e).s.shk.awlHalt = w.s.shk.awlHalt := by
  unfold putFab
  extract_lets ms joins
  clear_value ms joins
  split
  · rfl
  · split
    · rfl
    · split
      · rfl
      · exact awlHalt_foldlWr (fun w m => awlHalt_putRwe w off m v e) ms w

@[simp] theorem awlHalt_putTil (w : Wr) (n o : Nat) (v : Word) : (putTil w n o v).s.shk.awlHalt = w.s.shk.awlHalt := by
  unfold putTil
  dsimp only
  split
  · exact awlHalt_foldlWr (fun w r => awlHalt_putOwned w _ _ v _) _ _
  · split <;> simp

/-! ### The update engine (18 R821-R827) -/

@[simp] theorem awlHalt_lockWrite (s : State) (a : LockAgent) (k : Nat) (w : Word) : (s.lockWrite a k w).shk.awlHalt = s.shk.awlHalt := by
  unfold lockWrite
  dsimp only
  split <;> rfl

@[simp] theorem awlHalt_flashCode (s : State) (code : Nat) : (s.flashCode code).shk.awlHalt = s.shk.awlHalt := rfl
@[simp] theorem awlHalt_refuseEngine (s : State) : s.refuseEngine.shk.awlHalt = s.shk.awlHalt := rfl

@[simp] theorem awlHalt_takeFlash (s : State) : s.takeFlash.shk.awlHalt = s.shk.awlHalt := by
  unfold takeFlash
  split <;> rfl

@[simp] theorem awlHalt_setUpd (s : State) (b : Bool) (u : UpdState) : (s.setUpd b u).shk.awlHalt = s.shk.awlHalt := by
  simp [setUpd]

@[simp] theorem awlHalt_setFslot (s : State) (b : Bool) (x : FSlot) : (s.setFslot b x).shk.awlHalt = s.shk.awlHalt := by
  unfold setFslot
  split <;> rfl

@[simp] theorem awlHalt_beginErase (s : State) (b : Bool) (session : Option Bool) : (s.beginErase b session).shk.awlHalt = s.shk.awlHalt := by
  unfold beginErase
  dsimp only
  split <;> simp

@[simp] theorem awlHalt_flashBegin (s : State) (mctp b : Bool) : (s.flashBegin mctp b).1.shk.awlHalt = s.shk.awlHalt := by
  unfold flashBegin
  dsimp only
  split_ifs <;> simp

@[simp] theorem awlHalt_flashWrite (s : State) (mctp : Bool) (o : Nat) (bs : List Byte) : (s.flashWrite mctp o bs).1.shk.awlHalt = s.shk.awlHalt := by
  unfold flashWrite
  dsimp only
  split_ifs <;> simp

@[simp] theorem awlHalt_freeFlash (s : State) : s.freeFlash.shk.awlHalt = s.shk.awlHalt := by
  unfold freeFlash
  split <;> rfl

@[simp] theorem awlHalt_flashEnd (s : State) (mctp b : Bool) : (s.flashEnd mctp b).1.shk.awlHalt = s.shk.awlHalt := by
  unfold flashEnd
  dsimp only
  split_ifs <;> simp

@[simp] theorem awlHalt_flashCommand (s : State) (w : Word) : (s.flashCommand w).shk.awlHalt = s.shk.awlHalt := by
  unfold flashCommand
  dsimp only
  (repeat' split) <;> simp

@[simp] theorem awlHalt_doFlashCmd (s : State) (src : Src) (fn op : Nat) (w : Word) : (s.doFlashCmd src fn op w).shk.awlHalt = s.shk.awlHalt := by
  simp [doFlashCmd]

/-! ### A write, and the messages that make one -/

@[simp] theorem awlHalt_putBuf (s : State) (o : Nat) (v : Word) : (s.putBuf o v).shk.awlHalt = s.shk.awlHalt := rfl

@[simp] theorem awlHalt_putMgt (w : Wr) (src : Src) (o : Nat) (v : Word) (e : Nat) : (putMgt w src o v e).s.shk.awlHalt = w.s.shk.awlHalt := by
  simp [putMgt]

@[simp] theorem awlHalt_putWord (w : Wr) (src : Src) (m : Option Nat) (off : Nat) (v : Word) :
    (putWord w src m off v).s.shk.awlHalt = w.s.shk.awlHalt := by
  simp [putWord]

theorem awlHalt_putWide (w : Wr) (src : Src) (off start size v : Nat) {f : Wr → Nat → Wr} (h : ∀ w x, (f w x).s.shk.awlHalt = w.s.shk.awlHalt) :
    (putWide w src off start size v f).s.shk.awlHalt = w.s.shk.awlHalt := by
  unfold putWide
  split
  · exact h _ _
  · split
    · rfl
    · split
      · split
        · exact h _ _
        · exact h _ _
      · exact h _ _

@[simp] theorem awlHalt_putReg (w : Wr) (src : Src) (m : Option Nat) (start off size v : Nat) :
    (putReg w src m start off size v).s.shk.awlHalt = w.s.shk.awlHalt := by
  unfold putReg
  dsimp only
  split
  · rfl
  · split
    · exact awlHalt_putJnlAck w _
    · split
      · exact awlHalt_putEvtAck w _
      · split
        · exact awlHalt_putWide w _ _ _ _ _ fun w x => awlHalt_putBase w _ x _
        · split
          · exact awlHalt_putWide w _ _ _ _ _ fun w x => awlHalt_putTiming w x _
          · split <;> simp

@[simp] theorem awlHalt_endWrite (w : Wr) (off : Nat) : (endWrite w off).1.shk.awlHalt = w.s.shk.awlHalt := by
  simp [endWrite]

@[simp] theorem awlHalt_markWrite (s : State) (src : Src) (off size : Nat) : (s.markWrite src off size).shk.awlHalt = s.shk.awlHalt := rfl

@[simp] theorem awlHalt_writeReg (s : State) (src : Src) (fn : Nat) (m : Option Nat) (off size v : Nat) :
    (s.writeReg src fn m off size v).1.shk.awlHalt = s.shk.awlHalt := by
  unfold writeReg
  dsimp only
  (repeat' split) <;> simp

@[simp] theorem awlHalt_doRegWrite (s : State) (b : List Byte) : (s.doRegWrite b).shk.awlHalt = s.shk.awlHalt := by
  simp [doRegWrite]

@[simp] theorem awlHalt_doEvtRead (s : State) (b : List Byte) : (s.doEvtRead b).shk.awlHalt = s.shk.awlHalt := by
  unfold doEvtRead
  dsimp only
  split <;> rfl

@[simp] theorem awlHalt_doWarmMsg (s : State) (b : List Byte) : (s.doWarmMsg b).shk.awlHalt = s.shk.awlHalt := by
  simp [doWarmMsg]

@[simp] theorem awlHalt_doFlashBegin (s : State) (b : List Byte) : (s.doFlashBegin b).shk.awlHalt = s.shk.awlHalt := by
  unfold doFlashBegin
  split <;> simp

@[simp] theorem awlHalt_doFlashWrite (s : State) (b : List Byte) : (s.doFlashWrite b).shk.awlHalt = s.shk.awlHalt := by
  unfold doFlashWrite
  split <;> simp

@[simp] theorem awlHalt_doFlashEnd (s : State) (b : List Byte) : (s.doFlashEnd b).shk.awlHalt = s.shk.awlHalt := by
  unfold doFlashEnd
  split <;> simp

@[simp] theorem awlHalt_doFlashStatus (s : State) : s.doFlashStatus.shk.awlHalt = s.shk.awlHalt := by
  unfold doFlashStatus
  split <;> rfl

/-! ### A start (15 R655-R673) -/

@[simp] theorem awlHalt_flashStart (s : State) (i : Stage0In) : (s.flashStart i).shk.awlHalt = s.shk.awlHalt := by
  simp [flashStart]

@[simp] theorem awlHalt_beginStage (s : State) (n : Fin 5) : (s.beginStage n).shk.awlHalt = s.shk.awlHalt := by
  unfold beginStage
  split <;> simp

@[simp] theorem awlHalt_coldKeys (s : State) (opens : Bool) : (s.coldKeys opens).shk.awlHalt = s.shk.awlHalt := rfl

@[simp] theorem awlHalt_openStage0 (s : State) (i : Stage0In) (warm : Bool) : (s.openStage0 i warm).shk.awlHalt = s.shk.awlHalt := by
  unfold openStage0
  split <;> simp

@[simp] theorem awlHalt_softReset (s : State) (p : Phase) : (s.softReset p).shk.awlHalt = s.shk.awlHalt := rfl
@[simp] theorem awlHalt_setRole (s : State) (n role : Nat) : (s.setRole n role).shk.awlHalt = s.shk.awlHalt := rfl

@[simp] theorem awlHalt_enterSole (s : State) : s.enterSole.shk.awlHalt = s.shk.awlHalt := by
  unfold enterSole
  split <;> simp

@[simp] theorem awlHalt_failStart (s : State) (n code : Nat) (loc : Loc) (detail : Nat) :
    (s.failStart n code loc detail).shk.awlHalt = s.shk.awlHalt := by
  unfold failStart
  split <;> simp

@[simp] theorem awlHalt_failStage (s : State) (n : Nat) (f : Fail) (detail : Nat) : (s.failStage n f detail).shk.awlHalt = s.shk.awlHalt := by
  unfold failStage
  split <;> simp

@[simp] theorem awlHalt_notePkgFail (s : State) (fails : Bool) : (s.notePkgFail fails).shk.awlHalt = s.shk.awlHalt := by
  unfold notePkgFail
  split <;> simp

@[simp] theorem awlHalt_setBridge (s : State) (b : Nat) (x : BridgeState) : (s.setBridge b x).shk.awlHalt = s.shk.awlHalt := rfl

@[simp] theorem awlHalt_enterStage1 (s : State) : s.enterStage1.shk.awlHalt = s.shk.awlHalt := by
  unfold enterStage1
  rw [awlHalt_foldl fun s b => by split <;> rfl]
  exact awlHalt_beginStage s 1

@[simp] theorem awlHalt_passStage (s : State) (n detail : Nat) : (s.passStage n detail).shk.awlHalt = s.shk.awlHalt := by
  unfold passStage
  split <;> simp

theorem awlHalt_chooseSlot {s t : State} (h : s.chooseSlot = some t) : t.shk.awlHalt = s.shk.awlHalt := by
  unfold chooseSlot at h
  dsimp only at h
  split at h
  · cases h
    rfl
  · split at h
    · cases h
      exact awlHalt_record _ _ _ _
    · cases h

@[simp] theorem awlHalt_closeStage0 (s : State) (i : Stage0In) : (s.closeStage0 i).shk.awlHalt = s.shk.awlHalt := by
  unfold closeStage0
  split
  · exact awlHalt_failStage _ _ _ _
  · split
    · exact awlHalt_failStage _ _ _ _
    · dsimp only
      split
      · simp
      · next s2 hs2 => simp [awlHalt_chooseSlot hs2]

@[simp] theorem awlHalt_noteTrial (s : State) : s.noteTrial.shk.awlHalt = s.shk.awlHalt := by
  unfold noteTrial
  split <;> simp

@[simp] theorem awlHalt_countStart (s : State) (i : Stage0In) : (s.countStart i).shk.awlHalt = s.shk.awlHalt := by
  unfold countStart
  split <;> simp

@[simp] theorem awlHalt_runStage0 (s : State) (i : Stage0In) (warm : Bool) : (s.runStage0 i warm).shk.awlHalt = s.shk.awlHalt := by
  unfold runStage0
  dsimp only
  split <;> simp

@[simp] theorem awlHalt_stage0 (s : State) (i : Stage0In) (warm : Bool) : (s.stage0 i warm).shk.awlHalt = s.shk.awlHalt := by
  unfold stage0
  split <;> simp

@[simp] theorem awlHalt_coldStart (s : State) (i : Stage0In) : (s.coldStart i).shk.awlHalt = s.shk.awlHalt := by
  simp [coldStart]

@[simp] theorem awlHalt_clearFails (s : State) : s.clearFails.shk.awlHalt = s.shk.awlHalt := by
  unfold clearFails
  split <;> simp

@[simp] theorem awlHalt_doRetry (s : State) (i : Stage0In) : (s.doRetry i).shk.awlHalt = s.shk.awlHalt := by
  unfold doRetry
  split <;> simp

@[simp] theorem awlHalt_doSoleRetry (s : State) (i : Stage0In) : (s.doSoleRetry i).shk.awlHalt = s.shk.awlHalt := by
  unfold doSoleRetry
  split <;> simp

/-! ### PLDM, and the inputs that the gate held -/

@[simp] theorem awlHalt_doPldmVersion (s : State) (b : List Byte) : (s.doPldmVersion b).shk.awlHalt = s.shk.awlHalt := by
  unfold doPldmVersion
  dsimp only
  split <;> rfl

@[simp] theorem awlHalt_doPldmCommands (s : State) (b : List Byte) : (s.doPldmCommands b).shk.awlHalt = s.shk.awlHalt := by
  unfold doPldmCommands
  split <;> rfl

@[simp] theorem awlHalt_doSensorReading (s : State) (b : List Byte) : (s.doSensorReading b).shk.awlHalt = s.shk.awlHalt := by
  simp [doSensorReading]

@[simp] theorem awlHalt_doStateReading (s : State) (b : List Byte) : (s.doStateReading b).shk.awlHalt = s.shk.awlHalt := by
  unfold doStateReading
  dsimp only
  split <;> rfl

@[simp] theorem awlHalt_serve (s : State) (k : MsgKind) (b : List Byte) : (s.serve k b).shk.awlHalt = s.shk.awlHalt := by
  unfold serve
  split <;> simp

@[simp] theorem awlHalt_releaseInput (s : State) (g : GateIn) : (s.releaseInput g).shk.awlHalt = s.shk.awlHalt := by
  unfold releaseInput
  split <;> simp

/-! ### The resume (18 R808, R810, R813) -/

@[simp] theorem awlHalt_nextSector (s : State) : s.nextSector.shk.awlHalt = s.shk.awlHalt := by
  simp [nextSector]

@[simp] theorem awlHalt_resumeActive (s : State) (d : Nat) : (s.resumeActive d).shk.awlHalt = s.shk.awlHalt := by
  unfold resumeActive
  extract_lets s1 _ s2 s3
  have hflushed : s1.shk.awlHalt = s.shk.awlHalt := (awlHalt_flushJournal _).trans (awlHalt_record s _ _ _)
  have hreleased : s2.shk.awlHalt = s.shk.awlHalt := by
    unfold s2
    split
    · exact hflushed
    · exact (awlHalt_foldl awlHalt_releaseInput _ _).trans hflushed
  have hworks : s3.shk.awlHalt = s.shk.awlHalt := (awlHalt_startWork _).trans ((awlHalt_runChecks s2).trans hreleased)
  split
  · exact (awlHalt_nextSector s3).trans hworks
  · exact hworks

@[simp] theorem awlHalt_startTraining (s : State) (f : Nat → Bool) : (s.startTraining f).shk.awlHalt = s.shk.awlHalt :=
  awlHalt_foldl (fun s p => by split <;> rfl) _ _

end Sys2Proof.Machine.State
end

section
/-! The awl's operations and the hardware locks (18 R802-R814). -/

namespace Sys2Proof.Machine.State

/-! ### The TAP (R802, R803) -/

def withTap (s : State) (t : Tap) : State := { s with mgt := { s.mgt with tap := t } }

/-- With power present an operation runs, with AWL_CMD selected. -/
theorem awl_of_power {s : State} (hpower : s.mgt.railLow = false) (work : State → State) : s.awl work = work (s.withTap .awlCmd) :=
  if_neg (ne_true_of_eq_false hpower)

theorem setTap_of_power {s : State} (hpower : s.mgt.railLow = false) (t : Tap) : s.setTap t = s.withTap t :=
  if_neg (ne_true_of_eq_false hpower)

section
variable (s : State) (t : Tap)

/-- No register shows the TAP: each part of the map reads as before. -/
theorem plainWord_withTap : (s.withTap t).plainWord = s.plainWord := by
  funext off
  have hident : (s.withTap t).identWord = s.identWord := rfl
  have hport : (s.withTap t).portWord = s.portWord := rfl
  have hring : (s.withTap t).ringStatus = s.ringStatus := rfl
  have hcmd : (s.withTap t).cmdWord = s.cmdWord := rfl
  have hctx : (s.withTap t).ctxWord = s.ctxWord := rfl
  have hboot : (s.withTap t).bootWord = s.bootWord := rfl
  have hmem : (s.withTap t).memWord = s.memWord := rfl
  have hsbr : (s.withTap t).sbrWord = s.sbrWord := rfl
  have hyz : (s.withTap t).yzWord = s.yzWord := rfl
  have henrolled : (s.withTap t).enrolledWord = s.enrolledWord := rfl
  have hmgt : (s.withTap t).mgtWord = s.mgtWord := rfl
  have hword : (s.withTap t).word = s.word := rfl
  have hbits : (s.withTap t).bits = s.bits := rfl
  have hclk : (s.withTap t).clk = s.clk := rfl
  have hhost : (s.withTap t).host = s.host := rfl
  unfold plainWord
  rw [hident, hport, hring, hcmd, hctx, hboot, hmem, hsbr, hyz, henrolled, hmgt, hword, hbits, hclk, hhost]

theorem viewWord_withTap : (s.withTap t).viewWord = s.viewWord := by
  funext off
  have hpend : (s.withTap t).pendsAt = s.pendsAt := rfl
  unfold viewWord
  rw [plainWord_withTap, hpend]

/-- Access rules do not see the TAP. -/
theorem accessCode_withTap : (s.withTap t).accessCode = s.accessCode := by
  funext p a n write
  have hquarter : (s.withTap t).meetsQuarter = s.meetsQuarter := by
    have hdword : (s.withTap t).dword = s.dword := rfl
    unfold meetsQuarter quarterBases
    rw [viewWord_withTap, hdword]
  have hrow : (s.withTap t).rowClaimed = s.rowClaimed := rfl
  have hout : (s.withTap t).rangeOut = s.rangeOut := rfl
  have himage : (s.withTap t).meetsImage = s.meetsImage := rfl
  have hway : (s.withTap t).wayDown = s.wayDown := rfl
  unfold accessCode
  rw [hquarter, hrow, hout, himage, hway]

theorem readReg_withTap : (s.withTap t).readReg = s.readReg := by
  funext src off size
  have hread : (s.withTap t).readWord = s.readWord := by
    have hselected : (s.withTap t).selectedWord = s.selectedWord := by
      have hepoch : (s.withTap t).viewEpoch = s.viewEpoch := rfl
      unfold selectedWord
      rw [viewWord_withTap, hepoch]
    have hbanks : (s.withTap t).banks = s.banks := rfl
    have hpend : (s.withTap t).pendsAt = s.pendsAt := rfl
    have hepoch : (s.withTap t).viewEpoch = s.viewEpoch := rfl
    unfold readWord
    rw [hselected, plainWord_withTap, hbanks, hpend, hepoch]
  have hanswers : (s.withTap t).blockAnswers = s.blockAnswers := rfl
  unfold readReg
  rw [hread, hanswers]

end

/-! ### PEEK, READ and WRITE (R804, R805) -/

theorem awlSize_of_mem {n : Nat} (h : n ∈ [1, 2, 4, 8]) : awlSize n = true := by
  simp only [List.mem_cons, List.not_mem_nil, or_false] at h
  rcases h with rfl | rfl | rfl | rfl <;> rfl

section
variable {s : State} {a n : Nat} (hn : n ∈ [1, 2, 4, 8])
include hn

theorem doAwlPeek_bar0 : s.doAwlPeek .bar0 a n = s.awlDone (s.peekReg a n) := if_pos (awlSize_of_mem hn)

theorem doAwlPeek_memory (hmapped : mapped a n = true) (hin : s.rangeOut a n = false) : s.doAwlPeek .memory a n = s.awlDone (ofBytes (s.ownBytes a n)) := by
  unfold doAwlPeek
  rw [if_pos (awlSize_of_mem hn)]
  dsimp only
  rw [if_neg (by simp [hmapped]), if_neg (ne_true_of_eq_false hin)]

theorem doAwlRead_memory (hs : s.started = true) (hcode : s.accessCode 0 a n false = 0) (hclean : s.memErr = []) :
    s.doAwlRead .memory a n = s.awlDone (ofBytes (s.ownBytes a n)) := by
  unfold doAwlRead
  rw [if_pos (awlSize_of_mem hn)]
  dsimp only
  rw [if_neg (by simp [hs]), if_neg (not_not_intro hcode), touch_of_clean hclean]

/-- A write of HBM3E waits for an open slot. -/
theorem doAwlWrite_hbm {bs : List Byte} {h : Nat} (hs : s.started = true) (hlen : bs.length = n) (hcode : s.accessCode 0 a n true = 0) (hplace : placeOf a = .hbm h) :
    s.doAwlWrite .memory a bs = (s.queueOwn a bs).awlDone 0 := by
  unfold doAwlWrite
  rw [hlen, if_pos (awlSize_of_mem hn)]
  dsimp only
  rw [if_neg (by simp [hs]), if_neg (not_not_intro hcode), hplace]

/-- A write of a die buffer is stored at once. -/
theorem doAwlWrite_dbuf {bs : List Byte} {d : Nat} (hs : s.started = true) (hlen : bs.length = n) (hcode : s.accessCode 0 a n true = 0)
    (hplace : placeOf a = .dbuf d) (hclean : s.memErr = []) :
    s.doAwlWrite .memory a bs = ({ s with mem := s.mem.setBytes a bs }).awlDone 0 := by
  have hstore : s.store a bs = { s with mem := s.mem.setBytes a bs } := by
    unfold store
    rw [hplace]
    unfold poke
    rw [hclean, List.filter_nil, ← hclean]
  unfold doAwlWrite
  rw [hlen, if_pos (awlSize_of_mem hn)]
  dsimp only
  rw [if_neg (by simp [hs]), if_neg (not_not_intro hcode), hplace]
  exact congrArg (awlDone · 0) hstore

end

/-- A register that has no read of its own is read as it stands. -/
theorem awlReadReg_plain {s : State} {a : Nat} (hfits : fits a 4 = true) (hlock : ¬ (mgtBase + 0x4000 ≤ a ∧ a < mgtBase + 0x4040)) (hchip : ¬ a < fabBase) :
    s.awlReadReg a 4 = s.awlDone (s.readReg .awl a 4) := by
  have hslack : s.slackReset a = s := if_neg fun h => hchip h.2.1
  unfold awlReadReg
  rw [if_neg (by simp [hfits]), if_neg fun h => hlock ⟨h.1, h.2.1⟩]
  dsimp only
  rw [hslack, ite_self]

/-! ### HALT, RESUME and STEP (R807-R810) -/

theorem doAwlHalt_of_free {s : State} {n : Nat} (hrun : s.shanksRun = true) (hpair : s.pair n = .running) (hfree : s.awlHalted n = false)
    (hstandby : n ≠ s.standbyPos) : s.doAwlHalt n = ({ s with shk := { s.shk with awlHalt := s.shk.awlHalt.put n s.clk.now } }).awlDone 0 := by
  unfold doAwlHalt haltPair
  rw [if_pos (by simp [hrun, hpair, hfree]), if_neg fun h => hstandby h.1]

theorem resumePair_frees (s : State) (n d : Nat) : (s.resumePair n d).awlHalted n = false := by
  have hdel : (s.resumePair n d).shk.awlHalt = s.shk.awlHalt.del n := by
    unfold resumePair
    extract_lets _ s1 s2
    have hactive : s2.shk.awlHalt = s.shk.awlHalt.del n := by
      unfold s2
      split
      · exact (awlHalt_resumeActive s1 d).trans (awlHalt_lockHalts _ n d)
      · exact awlHalt_lockHalts _ n d
    exact (awlHalt_startTraining s2 _).trans hactive
  rw [awlHalted, hdel, Tbl.find_del_same]
  rfl

theorem doAwlResume_of_halted {s : State} {n : Nat} (h : s.awlHalted n = true) : ∃ d, s.doAwlResume n = (s.resumePair n d).awlDone 0 := by
  obtain ⟨t, ht⟩ := Option.isSome_iff_exists.mp h
  refine ⟨s.clk.now - t, ?_⟩
  unfold doAwlResume
  rw [ht]

/-! ### Locks (R811, R812) -/

theorem lock_record (s : State) (code : Nat) (loc : Loc) (detail j : Nat) : (s.record code loc detail).lock j = s.lock j := by
  have hstage (u : State) (e : Event) : (u.stageEvent e).lock j = u.lock j := by
    unfold stageEvent
    split
    · rfl
    · dsimp only
      split <;> rfl
  rw [record, addNote_frame]
  exact (hstage _ _).trans (by split <;> rfl)

theorem lockForce_of_held {s : State} {k h : Nat} (hheld : (s.lock k).holder = some h) :
    (s.lockForce k).lock k = { s.lock k with holder := none, told := false, halted := 0, refuse := some h } ∧ ∀ j, j ≠ k → (s.lockForce k).lock j = s.lock j := by
  unfold lockForce
  dsimp only
  rw [hheld]
  dsimp only
  exact ⟨(lock_record _ _ _ _ _).trans (lock_setLock_same s k _), fun j hj => (lock_record _ _ _ _ _).trans (lock_setLock_other s _ hj)⟩

section
variable {s : State} {agent : LockAgent} (hacts : s.agentActs agent = true) (k : Nat)
include hacts

/-- The read that finds a lock free takes it. -/
theorem doLockRead_of_free (hfree : (s.lock k).holder = none) : ((s.doLockRead agent k).lock k).holder = some (agentCode agent) ∧
    (s.doLockRead agent k).out = s.out ++ [.lockRead (agentCode agent) k (s.lockWord k).toNat] ∧ ∀ j, j ≠ k → (s.doLockRead agent k).lock j = s.lock j := by
  unfold doLockRead lockRead
  dsimp only
  rw [if_pos hacts, hfree]
  dsimp only
  exact ⟨congrArg Lock.holder (lock_setLock_same s k _), rfl, fun j hj => lock_setLock_other s _ hj⟩

theorem doLockWrite_of_holder (hholder : (s.lock k).holder = some (agentCode agent)) :
    s.doLockWrite agent k 0#32 = s.setLock k { s.lock k with holder := none, told := false, halted := 0 } := by
  unfold doLockWrite
  rw [if_pos hacts]
  exact if_pos ⟨rfl, hholder⟩

theorem doLockWrite_of_other (hother : (s.lock k).holder ≠ some (agentCode agent)) (v : Word) : s.doLockWrite agent k v = s := by
  unfold doLockWrite
  rw [if_pos hacts]
  exact if_neg fun h => hother h.2

end

end Sys2Proof.Machine.State

namespace Sys2Proof.Claims
open Sys2Proof.Machine Sys2Proof.Machine.State

/-- Settles O58: each operation by its lemma, in the state with AWL_CMD selected (`awl_of_power`); a resume by `resumePair_frees`. -/
theorem debugAndLocks : Obligations.DebugAndLocks := by
  intro s a die k agent bs cmd done
  refine ⟨fun hpower => ?_, fun hacts => ⟨fun hfree => answers_of_eq rfl rfl (doLockRead_of_free hacts k hfree),
    fun hholder => congrArg Host.Outcome.next (doLockWrite_of_holder hacts k hholder),
    fun hother v => congrArg Host.Outcome.next (doLockWrite_of_other hacts k hother v)⟩⟩
  have hcmd : cmd = s.withTap .awlCmd := rfl
  have hawl {i : Instr} {work : State → State} {t : State} (hexec : exec i s = .next (s.awl work)) (h : work cmd = t) : Gives i s t :=
    hexec.trans (congrArg Host.Outcome.next ((awl_of_power hpower work).trans h))
  refine ⟨congrArg Host.Outcome.next (setTap_of_power hpower _), congrArg Host.Outcome.next ((if_neg (ne_true_of_eq_false hpower)).trans ?_),
    congrArg Host.Outcome.next (setTap_of_power hpower _), congrArg Host.Outcome.next (setTap_of_power hpower _), fun n hn => ⟨?_, ?_, ?_, ?_⟩, ?_, ?_, ?_, ?_⟩
  · rw [setTap_of_power hpower]
    rfl
  · exact hawl rfl (doAwlPeek_bar0 (s := cmd) hn)
  · exact fun hmapped hin => hawl rfl (doAwlPeek_memory (s := cmd) hn hmapped hin)
  · exact fun hs hcode hclean => hawl rfl (doAwlRead_memory (s := cmd) hn hs (by rw [hcmd, accessCode_withTap]; exact hcode) hclean)
  · refine fun hs hlen hcode => ?_
    have hcode' : cmd.accessCode 0 a n true = 0 := by rw [hcmd, accessCode_withTap]; exact hcode
    exact ⟨fun h hplace => hawl rfl (doAwlWrite_hbm (s := cmd) hn hs hlen hcode' hplace),
      fun d hplace hclean => hawl rfl (doAwlWrite_dbuf (s := cmd) hn hs hlen hcode' hplace hclean)⟩
  · refine fun _ => hawl rfl ?_
    rw [← readReg_withTap s .awlCmd]
    exact awlReadReg_plain (s := cmd) (by decide) (by decide) (by decide)
  · exact fun hrun hpair hfree hstandby => hawl rfl (doAwlHalt_of_free (s := cmd) hrun hpair hfree hstandby)
  · refine fun hhalted => ⟨hawl rfl (if_pos hhalted), ?_⟩
    obtain ⟨d, hd⟩ := doAwlResume_of_halted (s := cmd) hhalted
    exact answers_of_eq rfl ((awl_of_power hpower _).trans hd) ⟨resumePair_frees cmd die d, _, rfl⟩
  · exact fun h hheld => answers_of_eq rfl (awl_of_power hpower _) (lockForce_of_held (s := cmd) hheld)

end Sys2Proof.Claims
end
